-- ==== Sys2Proof/Word.lean ====
section
/-! DEFINITION. The number types of the part (spec/00, "Conventions" and "Identifiers"). -/

namespace Sys2Proof

/-- One byte of the management link. -/
abbrev Byte := BitVec 8

/-- One 32-bit argument or result word of the management link (R169, R175). -/
abbrev Word := BitVec 32

/-- A 32-bit byte address (spec/00, "Addresses"). -/
abbrev Addr := BitVec 32

/-- One beat of a transaction: 8 bytes. Bits 8i to 8i+7 are the byte at the beat's address plus i. -/
abbrev Beat := BitVec 64

/-- Ring numbers 0..3. -/
abbrev RingId := Fin 4

/-- Slot numbers 0..15. -/
abbrev SlotId := Fin 16

/-- Aperture numbers 0..7. -/
abbrev ApId := Fin 8

/-- Source tags 0..7. -/
abbrev Tag := Fin 8

/-- A subset of 0..7, one bit per member, member 0 in bit 0: the form in which software sees
holders, passed_by, consumers and sources (R179 to R181). -/
abbrev ApSet := BitVec 8

end Sys2Proof
end

