-- ==== Sys2Proof/Machine/Bits.lean ====
section
/-! DEFINITION. Sets of apertures or source tags as bytes, byte and word packing (R169, R179 to R185),
and address ranges. -/

namespace Sys2Proof.Machine

/-- Membership of a set of 0..7. -/
def ApSet.has (m : ApSet) (a : Fin 8) : Bool := m.getLsbD a.val

/-- The set with one more member. -/
def ApSet.insert (m : ApSet) (a : Fin 8) : ApSet := m ||| (1#8 <<< a.val)

/-- The set without a member. -/
def ApSet.erase (m : ApSet) (a : Fin 8) : ApSet := m &&& ~~~(1#8 <<< a.val)

/-- How many members a set has. -/
def ApSet.size (m : ApSet) : Nat :=
  ((List.range 8).filter fun i => m.getLsbD i).length

/-- Every aperture, ascending. -/
def allAps : List ApId := [0, 1, 2, 3, 4, 5, 6, 7]

/-- Every slot, ascending. -/
def allSlots : List SlotId := [0, 1, 2, 3, 4, 5, 6, 7, 8, 9, 10, 11, 12, 13, 14, 15]

/-- Every ring, ascending. -/
def allRings : List RingId := [0, 1, 2, 3]

/-- The apertures of `order` first, then the others in ascending order. -/
def inOrder (order : List ApId) : List ApId :=
  order.eraseDups ++ allAps.filter fun a => !order.contains a

/-- Byte i of a word, byte 0 least significant. -/
def Word.byte (w : Word) (i : Nat) : Nat := w.toNat / 256 ^ i % 256

/-- The low half of a word, bits 0 to 15. -/
def Word.low (w : Word) : Nat := w.toNat % 65536

/-- A word from its four bytes, least significant first. -/
def packWord (b0 b1 b2 b3 : Nat) : Word :=
  BitVec.ofNat 32 (b0 % 256 + 256 * (b1 % 256) + 65536 * (b2 % 256) + 16777216 * (b3 % 256))

/-- A word from its two halves, low half first. -/
def packHalves (lo hi : Nat) : Word := BitVec.ofNat 32 (lo % 65536 + 65536 * (hi % 65536))

/-- The four bytes of a word in the order they are sent, most significant first (R169, R171). -/
def Word.bytes (w : Word) : List Byte :=
  [BitVec.ofNat 8 (Word.byte w 3), BitVec.ofNat 8 (Word.byte w 2), BitVec.ofNat 8 (Word.byte w 1),
    BitVec.ofNat 8 (Word.byte w 0)]

/-- The sum of bytes modulo 256 (R169). -/
def byteSum (bs : List Byte) : Byte := bs.foldl (· + ·) 0

/-- The bits of a byte in the order they are carried, most significant first (R168). -/
def Byte.bits (b : Byte) : List Bool :=
  [b.getLsbD 7, b.getLsbD 6, b.getLsbD 5, b.getLsbD 4, b.getLsbD 3, b.getLsbD 2, b.getLsbD 1,
    b.getLsbD 0]

/-- 1 for yes, 0 for no. -/
def bit (b : Bool) : Nat := if b then 1 else 0

/-- An optional id in a byte field: 0xFF stands for absent (section 11.4). -/
def idByte {n : Nat} (i : Option (Fin n)) : Nat :=
  match i with
  | none   => 0xFF
  | some x => x.val

/-- Whether two ranges of addresses, each a start and a length, share a byte. -/
def overlaps (a la b lb : Nat) : Bool := decide (a < b + lb) && decide (b < a + la)

/-- The number after `n` in a counter that runs from 1 to `top` and then returns to 1. -/
def wrapNext (top n : Nat) : Nat := if n < top then n + 1 else 1

/-- Moves a wrapping counter on from `n` past values in use, `fuel` times at most. -/
def skipUsed (top : Nat) (used : List Nat) : Nat → Nat → Nat
  | 0, n => n
  | fuel + 1, n => if used.contains n then skipUsed top used fuel (wrapNext top n) else n

/-- The value a counter that runs from 1 to `top` and then returns to 1 moves to from `n`: the next
one, and past those in use. DESIGN CHOICE (log 31): the counters of R118 and R145 advance by 1 and
issue no value that is still in use, so a value in use is skipped. -/
def nextUnused (top : Nat) (used : List Nat) (n : Nat) : Nat :=
  skipUsed top used used.length (wrapNext top n)

/-- The list up to and including the first `x`. -/
def takeThrough {α : Type} [DecidableEq α] (x : α) : List α → List α
  | []      => []
  | y :: ys => if y = x then [y] else y :: takeThrough x ys

end Sys2Proof.Machine
end

