-- ==== Sys2Proof/Syntax.lean ====
section
/-! DEFINITION. The commands and events of the part: one constructor of `Instr` for each row of
spec/opcode_table.json, in the table's order. -/

namespace Sys2Proof

/-- The kind of a bus transaction (R26). -/
inductive TxnKind where
  | read
  | write
deriving DecidableEq, Repr

/-- The outcome of a bus transaction (R26). -/
inductive BusOutcome where
  | okay
  | fault
deriving DecidableEq, Repr

/-- A transaction at a bus port (R26). `masks` and `data` have one entry per beat of a WRITE and are
empty for a READ; mask bit i enables the byte at the beat's address plus i. -/
structure Txn where
  source  : Tag
  kind    : TxnKind
  address : Addr
  beats   : Nat
  masks   : List Byte
  data    : List Beat
  lock    : Bool
deriving DecidableEq, Repr

/-- A response on the M-side port: an outcome and, for a READ, one value per beat (R26). -/
structure MResponse where
  outcome : BusOutcome
  data    : List Beat
deriving DecidableEq, Repr

/-- A request on the management link after its command code: the argument words, whose number is the
count byte, and the check byte (R169). -/
structure Request where
  args  : List Word
  check : Byte
deriving DecidableEq, Repr

/-- The two boundary lines (R85). -/
inductive FrameLine where
  | a
  | b
deriving DecidableEq, Repr

/-- The levels of FRAMEA, FRAMEB and SNAP, true for high. -/
structure LineLevels where
  frameA : Bool
  frameB : Bool
  snap   : Bool
deriving DecidableEq, Repr

/-- The commands and events, one constructor per row of spec/opcode_table.json.

* A link command carries its request. The row is the END of that request, at its check byte (R171).
* `order` lists the apertures whose boundary operations run first; the rest follow in ascending
  order. The spec says either order is possible (R91), so it is an operand (log 8).
* `level` and `levels` are the levels of the pins as sampled (R85, R95). -/
inductive Instr where
  /-- SEL_FALL (R168). -/
  | selFall
  /-- SEL_RISE (R172); the operand is the number of SCLK periods since SEL fell that carried a request
  which has not ended. -/
  | selRise (sclkPeriods : Nat)
  /-- RESPONSE_COMPLETE (R173). -/
  | responseComplete
  /-- EXCESS_ARGUMENT_COUNT (R169): the code byte and a count byte above 6. -/
  | excessArgumentCount (code count : Byte)
  /-- BAD_COMMAND (R170): a code that is in no row of R174. -/
  | badCommand (code : Byte) (req : Request)
  /-- SUMMARY (R176). -/
  | summary (req : Request)
  /-- RESET_CORE (R177); `levels` are the levels of the lines when the reset ends (R95). -/
  | resetCore (req : Request) (levels : LineLevels)
  /-- TIMEBASE (R93). -/
  | timebase (req : Request)
  /-- LINE_SETUP (R86). -/
  | lineSetup (req : Request)
  /-- BOUNDARY (R87, R88). -/
  | boundary (req : Request) (order : List ApId)
  /-- SNAP (R92). -/
  | snap (req : Request)
  /-- RING_SETUP (R16). -/
  | ringSetup (req : Request)
  /-- RING_ON (R17). -/
  | ringOn (req : Request)
  /-- RING_OFF (R18). -/
  | ringOff (req : Request)
  /-- RING_FLUSH (R19, R20). -/
  | ringFlush (req : Request)
  /-- SLOT_ASSIGN (R21). -/
  | slotAssign (req : Request)
  /-- SLOT_RETIRE (R22). -/
  | slotRetire (req : Request)
  /-- APERTURE_SETUP (R49). -/
  | apertureSetup (req : Request)
  /-- APERTURE_ON (R178). -/
  | apertureOn (req : Request)
  /-- APERTURE_OFF (R147). -/
  | apertureOff (req : Request)
  /-- APERTURE_MODIFY (R146). -/
  | apertureModify (req : Request)
  /-- SET_OVERFLOW (R148). -/
  | setOverflow (req : Request)
  /-- CANCEL_CHANGE (R157). -/
  | cancelChange (req : Request)
  /-- SCHEDULE_SETUP (R98). -/
  | scheduleSetup (req : Request)
  /-- SCHEDULE_START (R99). -/
  | scheduleStart (req : Request)
  /-- SCHEDULE_STOP (R102). -/
  | scheduleStop (req : Request)
  /-- RELEASE (R110). -/
  | release (req : Request)
  /-- COPY (R119). -/
  | copy (req : Request)
  /-- COPY_CANCEL (R127). -/
  | copyCancel (req : Request)
  /-- COPY_SHARE (R138). -/
  | copyShare (req : Request)
  /-- QUERY_RING (R180). -/
  | queryRing (req : Request)
  /-- QUERY_SLOT (R181). -/
  | querySlot (req : Request)
  /-- QUERY_APERTURE (R182). -/
  | queryAperture (req : Request)
  /-- QUERY_CHANGES (R183). -/
  | queryChanges (req : Request)
  /-- QUERY_JOBS (R184). -/
  | queryJobs (req : Request)
  /-- READ_NOTES (R164). -/
  | readNotes (req : Request)
  /-- NOTE_MASK (R165). -/
  | noteMask (req : Request)
  /-- POWER_ON_RESET (R24); the operands are the levels of the pins when the reset ends. -/
  | powerOnReset (levels : LineLevels) (selLow : Bool)
  /-- BOUNDARY_EVENT (R89): FRAMEA or FRAMEB is sampled at `level`. -/
  | boundaryEvent (line : FrameLine) (level : Bool) (order : List ApId)
  /-- PENDING_BOUNDARY_RUN (R55, R73). -/
  | pendingBoundaryRun (ap : ApId)
  /-- SNAP_EDGE (R92): SNAP is sampled at `level`. -/
  | snapEdge (level : Bool)
  /-- TICK (R93, R94). -/
  | tick
  /-- STALL_TIMEOUT (R41). -/
  | stallTimeout
  /-- LOCK_EXPIRY (R45). -/
  | lockExpiry
  /-- A_SIDE_TRANSACTION (R27): a transaction is presented at the A-side port. -/
  | aSideTransaction (t : Txn)
  /-- STEERING_RESPONSE (R38). -/
  | steeringResponse (resp : MResponse) (order : List ApId)
  /-- COPY_READ_RESPONSE (R122). -/
  | copyReadResponse (resp : MResponse)
  /-- COPY_WRITE_RESPONSE (R123). -/
  | copyWriteResponse (outcome : BusOutcome)
  /-- REFCLK_PERIOD (R93): a REFCLK period ends that completes no tick. -/
  | refclkPeriod
deriving DecidableEq, Repr

end Sys2Proof
end

