-- ==== Sys2Proof/Decode.lean ====
section
/-! DEFINITION. Reading commands: from the bits and bytes of a request on the management link (R168,
R169, R174), and from a word of the opcode table's bits. The table of this part gives no row any bits
(its rows have no "fixed" field and empty "fields"), so no word spells a command. -/

namespace Sys2Proof

open Sys2Proof.Machine

/-! ### Requests -/

/-- The byte of eight bits, the first most significant (R168). -/
def byteOf (b7 b6 b5 b4 b3 b2 b1 b0 : Bool) : Byte :=
  BitVec.ofNat 8 (128 * bit b7 + 64 * bit b6 + 32 * bit b5 + 16 * bit b4 + 8 * bit b3 + 4 * bit b2 +
    2 * bit b1 + bit b0)

/-- The bytes that the bits on SDI make, eight bits to a byte (R168); bits short of a byte make none. -/
def bytesOf : List Bool → List Byte
  | b7 :: b6 :: b5 :: b4 :: b3 :: b2 :: b1 :: b0 :: rest =>
    byteOf b7 b6 b5 b4 b3 b2 b1 b0 :: bytesOf rest
  | _ => []

/-- The words of argument bytes, each "sent most significant byte first" (R169); none for a number of
bytes that is no multiple of 4. -/
def wordsOf : List Byte → Option (List Word)
  | [] => some []
  | b3 :: b2 :: b1 :: b0 :: rest => (wordsOf rest).map fun ws => (b3 ++ b2 ++ b1 ++ b0) :: ws
  | _ => none

/-- The command of a code byte (R174); a code in no row of R174 is BAD_COMMAND (check 2 of R170). The
levels of the lines after a RESET_CORE (R95) and the order of deliveries of a BOUNDARY (R91) are no part
of a request, so they are given (log 6, log 8). -/
def commandOf (levels : LineLevels) (order : List ApId) (code : Byte) (req : Request) : Instr :=
  match code.toNat with
  | 0x01 => .summary req
  | 0x02 => .resetCore req levels
  | 0x03 => .timebase req
  | 0x04 => .lineSetup req
  | 0x05 => .boundary req order
  | 0x06 => .snap req
  | 0x08 => .ringSetup req
  | 0x09 => .ringOn req
  | 0x0A => .ringOff req
  | 0x0B => .ringFlush req
  | 0x0C => .slotAssign req
  | 0x0D => .slotRetire req
  | 0x10 => .apertureSetup req
  | 0x11 => .apertureOn req
  | 0x12 => .apertureOff req
  | 0x13 => .apertureModify req
  | 0x14 => .setOverflow req
  | 0x18 => .cancelChange req
  | 0x20 => .scheduleSetup req
  | 0x21 => .scheduleStart req
  | 0x22 => .scheduleStop req
  | 0x23 => .release req
  | 0x28 => .copy req
  | 0x29 => .copyCancel req
  | 0x2A => .copyShare req
  | 0x30 => .queryRing req
  | 0x31 => .querySlot req
  | 0x32 => .queryAperture req
  | 0x33 => .queryChanges req
  | 0x34 => .queryJobs req
  | 0x38 => .readNotes req
  | 0x39 => .noteMask req
  | _    => .badCommand code req

/-- The row that the bytes of one request end in (R169): a code byte, a count byte, the argument words
and the check byte, or the code byte and a count byte above 6, which "also ends the request, at once".
None while the request has not ended, and for bytes that go on after its end. -/
def readRequest (levels : LineLevels) (order : List ApId) : List Byte → Option Instr
  | code :: count :: rest =>
    if 6 < count.toNat then
      if rest.isEmpty then some (.excessArgumentCount code count) else none
    else if rest.length = 4 * count.toNat + 1 then
      match wordsOf rest.dropLast, rest.getLast? with
      | some args, some check => some (commandOf levels order code { args := args, check := check })
      | _, _ => none
    else none
  | _ => none

/-- The row that the bits of one request end in, one bit for each SCLK period (R168). -/
def readRequestBits (levels : LineLevels) (order : List ApId) (bits : List Bool) : Option Instr :=
  if bits.length % 8 = 0 then readRequest levels order (bytesOf bits) else none

/-! ### Words of the opcode table -/

/-- The command that a word of `nbits` bits spells by the table: none, for every word (log 2). -/
def decodeTableWord (_nbits _w : Nat) : Option Instr := none

end Sys2Proof
end

