-- ==== Sys2Proof/Config.lean ====
section
/-! DEFINITION. What the spec leaves open, and the capacities it fixes. -/

namespace Sys2Proof

/-- FREE VALUE. The data of a READ that the part itself answers FAULT: "the part gives the data no
stated value" (R26). `Config.faultReadData n b` is beat b of the n-th such read (log 15). -/
opaque Config.faultReadData : Nat → Nat → Beat

/-- The Notification Queue holds up to 32 notes (R162). -/
def Config.noteCapacity : Nat := 32

/-- The Change Queue holds at most 12 entries (R145). -/
def Config.changeCapacity : Nat := 12

/-- The copy queue never holds more than 4 jobs (R117). -/
def Config.jobCapacity : Nat := 4

/-- Ticks from a locked transaction's response to the window's expiry (R45). -/
def Config.lockTicks : Nat := 64

end Sys2Proof
end

