-- ==== Sys2Proof/Machine/State.lean ====
section
/-! DEFINITION. The state of the part, as plain data: every record, queue, counter, flag and line the
spec names, in the blocks of spec/00, and the value of each right after a power-on reset. -/

namespace Sys2Proof.Machine

/-! ### Slots (R1) -/

/-- The ring and base an assigned slot keeps until it is retired (R1). -/
structure Home where
  ring : RingId
  base : Addr
deriving DecidableEq, Repr

/-- A slot record (R1, table of 1.1). Its `state` is derived from placement (R2):
see `State.slotState`. -/
structure Slot where
  home             : Option Home
  frame            : Option Nat
  written          : Bool
  faulted          : Bool
  holders          : ApSet
  passedBy         : ApSet
  retained         : Bool
  jobs             : Nat
  releaseRequested : Bool
  retirePending    : Bool
deriving DecidableEq, Repr

/-- The field values of an UNASSIGNED slot (R1). -/
def Slot.unassigned : Slot :=
  { home := none, frame := none, written := false, faulted := false, holders := 0, passedBy := 0,
    retained := false, jobs := 0, releaseRequested := false, retirePending := false }

/-- The five states of a slot (R2). -/
inductive SlotState where
  | unassigned
  | free
  | filling
  | ready
  | held
deriving DecidableEq, Repr

/-! ### Rings (table of 1.2) -/

/-- What a bind does when the free list is empty (R8). -/
inductive Overflow where
  | dropNew
  | overwriteOldest
deriving DecidableEq, Repr

/-- A ring record (table of 1.2). -/
structure Ring where
  on           : Bool
  slotSize     : Option Nat
  overflow     : Overflow
  frameCounter : Nat
  free         : List SlotId
  ready        : List SlotId
  held         : List SlotId
  producer     : Option ApId
  consumers    : ApSet
  pool         : Nat
deriving DecidableEq, Repr

/-- A ring after power-on reset (R24). -/
def Ring.atReset : Ring :=
  { on := false, slotSize := none, overflow := .dropNew, frameCounter := 0, free := [], ready := [],
    held := [], producer := none, consumers := 0, pool := 0 }

/-! ### Apertures (tables of 3.1) -/

/-- The role of an aperture. -/
inductive Role where
  | producer
  | consumer
deriving DecidableEq, Repr

/-- The boundary line an aperture selects. -/
inductive LineSel where
  | a
  | b
  | noLine
deriving DecidableEq, Repr

/-- Which frame a consumer takes (R76, R77). -/
inductive Pick where
  | newest
  | ordered
deriving DecidableEq, Repr

/-- What a consumer does with no new frame (R78). -/
inductive OnEmpty where
  | repeatFrame
  | strict
deriving DecidableEq, Repr

/-- What a read does while its consumer waits (R35). -/
inductive StallPolicy where
  | wait
  | blank
deriving DecidableEq, Repr

/-- The configuration fields of an aperture that is set up (table of 3.1). `windowSize` is an
exponent, equal to the ring's slot size. -/
structure ApConfig where
  ring       : RingId
  role       : Role
  windowBase : Addr
  windowSize : Nat
  sources    : ApSet
  line       : LineSel
  divider    : Nat
  fill       : Word
  pick       : Pick
  onEmpty    : OnEmpty
  stall      : StallPolicy
  timeout    : Nat
deriving DecidableEq, Repr

/-- The run-time state of an aperture with its bound slot: `off`; `unbound` is STARVED for a producer
and WAITING for a consumer; `bound` is WRITING for a producer and VIEWING for a consumer (R50, R68). -/
inductive ApState where
  | off
  | unbound
  | bound (slot : SlotId)
deriving DecidableEq, Repr

/-- An aperture record: `config` is present when the aperture is set up. `deferred` says that a
boundary is pending; its reason follows the conditions (R55) and is `State.deferredReason`. -/
structure Aperture where
  config   : Option ApConfig
  state    : ApState
  count    : Nat
  deferred : Bool
deriving DecidableEq, Repr

/-- An aperture after power-on reset (R67). -/
def Aperture.atReset : Aperture :=
  { config := none, state := .off, count := 0, deferred := false }

/-- Why a boundary is pending (R55, R161). -/
inductive DeferReason where
  | inFlight
  | lock
deriving DecidableEq, Repr

/-! ### Retention schedules (R96) -/

/-- What starts a schedule. -/
inductive StartBy where
  | command
  | snap
deriving DecidableEq, Repr

/-- The five states of a schedule (R97). -/
inductive SchedState where
  | idle
  | armed
  | delay
  | retaining
  | gap
deriving DecidableEq, Repr

/-- A schedule record (R96). -/
structure Schedule where
  delay      : Nat
  burst      : Nat
  gap        : Nat
  bursts     : Nat
  start      : StartBy
  state      : SchedState
  remaining  : Nat
  burstsDone : Nat
deriving DecidableEq, Repr

/-- A schedule after either reset (R115). -/
def Schedule.atReset : Schedule :=
  { delay := 0, burst := 0, gap := 0, bursts := 0, start := .command, state := .idle,
    remaining := 0, burstsDone := 0 }

/-! ### The Steering Unit (R27, R33, R39, R44) -/

/-- What the Steering Unit records of a translated transaction at acceptance (R33): aperture, its
ring, bound slot and the slot's frame number. -/
structure Target where
  ap    : ApId
  ring  : RingId
  slot  : SlotId
  frame : Option Nat
deriving DecidableEq, Repr

/-- The phase of the Steering Unit with its transaction record (R27).

* `opened`: OPEN, no transaction in progress.
* `inFlight`: the accepted transaction, and its target if it was translated.
* `stalled`: the held read, its aperture, the window base it was accepted under (R37) and the stall
  timer in ticks left, absent for a timeout of 0 (R39). -/
inductive SteeringPhase where
  | opened
  | inFlight (txn : Txn) (target : Option Target)
  | stalled (txn : Txn) (ap : ApId) (windowBase : Addr) (timer : Option Nat)
deriving DecidableEq, Repr

/-- The lock window (section 2.5): while it is open, its opening aperture, the source tag of the
locked transaction, and the expiry timer, present once the locked transaction is answered. -/
inductive LockWindow where
  | closed
  | opened (opening : Option ApId) (source : Tag) (expiry : Option Nat)
deriving DecidableEq, Repr

/-- The Steering Unit. `waiting` holds the transactions presented at the A-side port and not yet
accepted, in the order in which the port sees them (R27). -/
structure Steering where
  phase   : SteeringPhase
  waiting : List Txn
  lock    : LockWindow
deriving DecidableEq, Repr

/-- The Steering Unit after power-on reset (R47). -/
def Steering.atReset : Steering := { phase := .opened, waiting := [], lock := .closed }

/-- A response returned to a master at the A-side port (R26). -/
structure AResponse where
  source  : Tag
  kind    : TxnKind
  outcome : BusOutcome
  data    : List Beat
deriving DecidableEq, Repr

/-! ### The M-side Arbiter (R133) -/

/-- The two claimants of the M-side port. -/
inductive Claimant where
  | steering
  | copy
deriving DecidableEq, Repr

/-- The transaction on the M-side port and its claimant. -/
structure Grant where
  claimant : Claimant
  txn      : Txn
deriving DecidableEq, Repr

/-- The M-side Arbiter (R133). `port` is absent when the port is FREE; `share` is the setting K. -/
structure Arbiter where
  port          : Option Grant
  steeringClaim : Option Txn
  copyClaim     : Option Txn
  shareCount    : Nat
  share         : Nat
deriving DecidableEq, Repr

/-- The Arbiter after power-on reset (R143). -/
def Arbiter.atReset : Arbiter :=
  { port := none, steeringClaim := none, copyClaim := none, shareCount := 0, share := 4 }

/-! ### The Copy-Out Engine (R116 to R118) -/

/-- A copy job (R116). Whether it is QUEUED or ACTIVE is given by where the engine holds it. -/
structure Job where
  id          : Nat
  ring        : RingId
  slot        : SlotId
  frame       : Nat
  dest        : Addr
  length      : Nat
  autoRelease : Bool
  doneBytes   : Nat
deriving DecidableEq, Repr

/-- Which half of a pair the ACTIVE job is in (R116). -/
inductive Half where
  | read
  | write
deriving DecidableEq, Repr

/-- The ACTIVE job with what the engine records for it alone (R116): its half, whether a cancellation
waits on it, and whether its claim is granted and on the M-side port (R135). -/
structure ActiveJob where
  job       : Job
  half      : Half
  cancelled : Bool
  granted   : Bool
deriving DecidableEq, Repr

/-- The Copy-Out Engine: the copy queue is the ACTIVE job, its head, and the QUEUED jobs behind it
(R117); then the next-id counter (R118) and the staging buffer (R116). -/
structure CopyEngine where
  active  : Option ActiveJob
  queued  : List Job
  nextId  : Nat
  staging : List Beat
deriving DecidableEq, Repr

/-- The engine after either reset (R131, R132). -/
def CopyEngine.atReset : CopyEngine := { active := none, queued := [], nextId := 1, staging := [] }

/-! ### The Change Queue (R144, R145) -/

/-- A change of one aperture: the five kinds of APERTURE_MODIFY, and DETACH (R144). -/
inductive ApChange where
  | moveWindow (base : Addr)
  | setSources (sources : ApSet)
  | setPick (pick : Pick) (onEmpty : OnEmpty)
  | setStall (stall : StallPolicy) (timeout : Nat) (fill : Word)
  | setDivider (k : Nat)
  | detach
deriving DecidableEq, Repr

/-- The target, kind and arguments of a change entry (R144). -/
inductive ChangeOp where
  | aperture (ap : ApId) (change : ApChange)
  | setOverflow (ring : RingId) (policy : Overflow)
  | retireSlot (slot : SlotId)
deriving DecidableEq, Repr

/-- A change entry (R144). Its condition follows from its kind (R183). -/
structure Change where
  seq    : Nat
  op     : ChangeOp
  expiry : Nat
deriving DecidableEq, Repr

/-- The Change Queue, oldest entry first (R145). -/
structure ChangeQueue where
  entries : List Change
  nextSeq : Nat
deriving DecidableEq, Repr

/-- The Change Queue after either reset (R159). -/
def ChangeQueue.atReset : ChangeQueue := { entries := [], nextSeq := 1 }

/-! ### The Notification Queue (R160, section 10.2) -/

/-- The nineteen kinds of note (section 10.2). -/
inductive NoteKind where
  | framePublished
  | frameEmpty
  | frameDropped
  | producerStarved
  | boundaryMerged
  | consumerTimeout
  | accessFault
  | memoryFault
  | lockExpired
  | frameHeld
  | retainRefused
  | scheduleDone
  | triggerIgnored
  | copyDone
  | copyAborted
  | copyFailed
  | changeApplied
  | changeRejected
  | changeExpired
deriving DecidableEq, Repr

/-- A note record (R160). `frame` holds a frame number, or a transaction address for two kinds. -/
structure Note where
  kind     : NoteKind
  ring     : Option RingId := none
  aperture : Option ApId := none
  slot     : Option SlotId := none
  frame    : Option Nat := none
  tag      : Option Nat := none
  detail   : Nat := 0
deriving DecidableEq, Repr

/-- The Notification Queue: notes oldest first, the kind mask with bit n-1 for kind n, NOTES_LOST and
the ATTN enable. -/
structure NoteQueue where
  queue      : List Note
  mask       : BitVec 19
  lost       : Bool
  attnEnable : Bool
deriving DecidableEq, Repr

/-- The Notification Queue after either reset: every kind enabled but FRAME_PUBLISHED (1) and
CHANGE_APPLIED (17) (R167). -/
def NoteQueue.atReset : NoteQueue :=
  { queue := [], mask := 0x6FFFE#19, lost := false, attnEnable := true }

/-! ### Line Inputs and Timebase (R85, R93) -/

/-- The active edge of a line (R85). -/
inductive Edge where
  | falling
  | rising
deriving DecidableEq, Repr

/-- Line Inputs and Timebase: active edges, last sampled levels (true is high), the tick divisor and
the REFCLK periods counted since the last tick. -/
structure Lines where
  edgeA     : Edge
  edgeB     : Edge
  edgeSnap  : Edge
  levelA    : Bool
  levelB    : Bool
  levelSnap : Bool
  divisor   : Nat
  periods   : Nat
deriving DecidableEq, Repr

/-- The block after either reset; the levels are those at the end of the reset (R95). -/
def Lines.atReset (levels : LineLevels) : Lines :=
  { edgeA := .falling, edgeB := .falling, edgeSnap := .falling, levelA := levels.frameA,
    levelB := levels.frameB, levelSnap := levels.snap, divisor := 1, periods := 0 }

/-! ### The Management Link Controller (R168 to R173) -/

/-- The phase of the exchange in progress (R168). -/
inductive LinkPhase where
  | idle
  | request
  | answer
  | spent
deriving DecidableEq, Repr

/-- The status codes of R170. -/
inductive Status where
  | done
  | queued
  | busy
  | badCommand
  | badArg
  | badCheck
  | noSpace
  | noEntry
  | wrongState
  | conflict
deriving DecidableEq, Repr

/-- A response: status, flags byte and result words; count byte and check byte follow (R171). -/
structure Response where
  status : Status
  flags  : Byte
  words  : List Word
deriving DecidableEq, Repr

/-- The Management Link Controller, with the level of SEL. -/
structure Link where
  selLow       : Bool
  phase        : LinkPhase
  request      : List Byte
  response     : Option Response
  truncated    : Bool
  responseLost : Bool
  resetSeen    : Bool
deriving DecidableEq, Repr

/-- The controller after power-on reset, with SEL at the level it has when the reset ends (R186). -/
def Link.atReset (selLow : Bool) : Link :=
  { selLow := selLow, phase := .idle, request := [], response := none, truncated := false,
    responseLost := false, resetSeen := true }

/-! ### The whole part -/

/-- The state of the part. `pending` is the queue of commands and events not yet taken, first in first
out (log 1). `aOut` records the responses returned at the A-side port since the last power-on reset
(log 13). `freeReads` counts the reads whose data the spec gives no value (log 15). -/
structure State where
  pending   : List Instr
  link      : Link
  lines     : Lines
  slots     : Vector Slot 16
  rings     : Vector Ring 4
  apertures : Vector Aperture 8
  schedules : Vector Schedule 4
  steering  : Steering
  arbiter   : Arbiter
  copy      : CopyEngine
  changes   : ChangeQueue
  notes     : NoteQueue
  aOut      : List AResponse
  freeReads : Nat
deriving DecidableEq, Repr

/-- No command of this part stops the machine: a bus FAULT is an answer to a master and a refused
command an answer to the supervisor, both next states. So there is no fault, which is safe: every
command is given its effect. -/
inductive Fault where
deriving DecidableEq, Repr

/-- Why a step has no meaning. -/
inductive Refusal where
  /-- Raised by an arm of `exec` whose command has no meaning yet; safe, since no next state is
  claimed. No arm raises it. -/
  | notModelled (mnemonic : String)
deriving DecidableEq, Repr

/-- The state after a power-on reset that ends with these pin levels and this queue. -/
def State.powerOn (levels : LineLevels) (selLow : Bool) (pending : List Instr) (freeReads : Nat) :
    State :=
  { pending   := pending
    link      := Link.atReset selLow
    lines     := Lines.atReset levels
    slots     := Vector.replicate 16 Slot.unassigned
    rings     := Vector.replicate 4 Ring.atReset
    apertures := Vector.replicate 8 Aperture.atReset
    schedules := Vector.replicate 4 Schedule.atReset
    steering  := Steering.atReset
    arbiter   := Arbiter.atReset
    copy      := CopyEngine.atReset
    changes   := ChangeQueue.atReset
    notes     := NoteQueue.atReset
    aOut      := []
    freeReads := freeReads }

/-- The part right after power-on reset (R24, R47, R67, R84, R95, R115, R131, R143, R159, R167,
R186). DESIGN CHOICE: the three lines low and SEL high when the reset ends (log 6). -/
def State.reset : State :=
  State.powerOn { frameA := false, frameB := false, snap := false } false [] 0

end Sys2Proof.Machine
end

