-- ==== Sys2Proof/Machine/Operands.lean ====
section
/-! DEFINITION. The argument words of every command: the count of R174 and the ranges and encodings of
R175 and R179. A reader answers none where check 3 or check 4 of R170 fails; both give BAD_ARG. -/

namespace Sys2Proof.Machine

/-! ### Single words (R175) -/

/-- A word that is an id below `n`. -/
def readFin (n : Nat) (w : Word) : Option (Fin n) :=
  if h : w.toNat < n then some ⟨w.toNat, h⟩ else none

/-- A word in a range. -/
def readRange (lo hi : Nat) (w : Word) : Option Nat :=
  if lo ≤ w.toNat ∧ w.toNat ≤ hi then some w.toNat else none

/-- 0 no, 1 yes. -/
def readBool (w : Word) : Option Bool :=
  match w.toNat with
  | 0 => some false
  | 1 => some true
  | _ => none

/-- 0 DROP_NEW, 1 OVERWRITE_OLDEST. -/
def readOverflow (w : Word) : Option Overflow :=
  match w.toNat with
  | 0 => some .dropNew
  | 1 => some .overwriteOldest
  | _ => none

/-- 0 FALLING, 1 RISING. -/
def readEdge (w : Word) : Option Edge :=
  match w.toNat with
  | 0 => some .falling
  | 1 => some .rising
  | _ => none

/-- 0 COMMAND, 1 SNAP. -/
def readStart (w : Word) : Option StartBy :=
  match w.toNat with
  | 0 => some .command
  | 1 => some .snap
  | _ => none

/-! ### Fields of packed words (R179) -/

/-- 0 PRODUCER, 1 CONSUMER. -/
def roleOf : Nat → Option Role
  | 0 => some .producer
  | 1 => some .consumer
  | _ => none

/-- 0 A, 1 B, 2 NONE. -/
def lineOf : Nat → Option LineSel
  | 0 => some .a
  | 1 => some .b
  | 2 => some .noLine
  | _ => none

/-- 0 NEWEST, 1 ORDERED. -/
def pickOf : Nat → Option Pick
  | 0 => some .newest
  | 1 => some .ordered
  | _ => none

/-- 0 REPEAT, 1 STRICT. -/
def onEmptyOf : Nat → Option OnEmpty
  | 0 => some .repeatFrame
  | 1 => some .strict
  | _ => none

/-- 0 WAIT, 1 BLANK. -/
def stallOf : Nat → Option StallPolicy
  | 0 => some .wait
  | 1 => some .blank
  | _ => none

/-- A sources set is not empty. -/
def sourcesOf (n : Nat) : Option ApSet := if n = 0 then none else some (BitVec.ofNat 8 n)

/-- A field below `n`. -/
def finOf (n k : Nat) : Option (Fin n) := if h : k < n then some ⟨k, h⟩ else none

/-- A divider, 1 to 16. -/
def dividerOf (n : Nat) : Option Nat := if 1 ≤ n ∧ n ≤ 16 then some n else none

/-! ### Commands with one argument or none -/

/-- No argument. -/
def argsNone : List Word → Option Unit
  | [] => some ()
  | _  => none

/-- One ring. -/
def argsRing : List Word → Option RingId
  | [w] => readFin 4 w
  | _   => none

/-- One slot. -/
def argsSlot : List Word → Option SlotId
  | [w] => readFin 16 w
  | _   => none

/-- One aperture. -/
def argsAperture : List Word → Option ApId
  | [w] => readFin 8 w
  | _   => none

/-- One number in a range. -/
def argsRange (lo hi : Nat) : List Word → Option Nat
  | [w] => readRange lo hi w
  | _   => none

/-! ### The other commands, in the order of R174 -/

/-- A line of LINE_SETUP: 0 FRAMEA, 1 FRAMEB, 2 SNAP. -/
inductive PinLine where
  | frameA
  | frameB
  | snap
deriving DecidableEq, Repr

/-- The line of LINE_SETUP (R175). -/
def readPinLine (w : Word) : Option PinLine :=
  match w.toNat with
  | 0 => some .frameA
  | 1 => some .frameB
  | 2 => some .snap
  | _ => none

/-- LINE_SETUP (line, edge). -/
def argsLineSetup : List Word → Option (PinLine × Edge)
  | [l, e] => do
    let l ← readPinLine l
    let e ← readEdge e
    some (l, e)
  | _ => none

/-- The target of BOUNDARY. -/
inductive BoundaryTarget where
  | aperture (a : ApId)
  | line (l : FrameLine)
deriving DecidableEq, Repr

/-- BOUNDARY (target): 0..7 an aperture, 8 line A, 9 line B. -/
def argsBoundary : List Word → Option BoundaryTarget
  | [w] =>
    if w.toNat = 8 then some (.line .a)
    else if w.toNat = 9 then some (.line .b)
    else (readFin 8 w).map .aperture
  | _ => none

/-- RING_SETUP (ring, exponent, overflow). -/
def argsRingSetup : List Word → Option (RingId × Nat × Overflow)
  | [r, e, o] => do
    let r ← readFin 4 r
    let e ← readRange 12 24 e
    let o ← readOverflow o
    some (r, e, o)
  | _ => none

/-- RING_FLUSH (ring, keep_held). -/
def argsRingFlush : List Word → Option (RingId × Bool)
  | [r, k] => do
    let r ← readFin 4 r
    let k ← readBool k
    some (r, k)
  | _ => none

/-- SLOT_ASSIGN (slot, ring, base). -/
def argsSlotAssign : List Word → Option (SlotId × RingId × Addr)
  | [sl, r, b] => do
    let sl ← readFin 16 sl
    let r ← readFin 4 r
    some (sl, r, b)
  | _ => none

/-- SLOT_RETIRE (slot, expiry). -/
def argsSlotRetire : List Word → Option (SlotId × Nat)
  | [sl, x] => do
    let sl ← readFin 16 sl
    let x ← readRange 0 255 x
    some (sl, x)
  | _ => none

/-- What APERTURE_SETUP gives: the aperture and every configuration field but the window size, which
the command takes from the ring (R49). -/
structure SetupArgs where
  aperture : ApId
  config   : ApConfig
deriving DecidableEq, Repr

/-- APERTURE_SETUP, configuration words 0 to 4 (R179). -/
def argsApertureSetup : List Word → Option SetupArgs
  | [w0, w1, w2, w3, w4] => do
    let a ← finOf 8 (Word.byte w0 0)
    let r ← finOf 4 (Word.byte w0 1)
    let role ← roleOf (Word.byte w0 2)
    let line ← lineOf (Word.byte w0 3)
    let m ← sourcesOf (Word.byte w2 0)
    let k ← dividerOf (Word.byte w2 1)
    let p ← pickOf (Word.byte w2 2)
    let oe ← onEmptyOf (Word.byte w2 3)
    let st ← stallOf (Word.byte w3 2)
    if Word.byte w3 3 = 0 then
      some
        { aperture := a
          config :=
            { ring := r, role := role, windowBase := w1, windowSize := 0, sources := m, line := line,
              divider := k, fill := w4, pick := p, onEmpty := oe, stall := st,
              timeout := Word.low w3 } }
    else none
  | _ => none

/-- APERTURE_OFF (aperture, expiry). -/
def argsApertureOff : List Word → Option (ApId × Nat)
  | [a, x] => do
    let a ← readFin 8 a
    let x ← readRange 0 255 x
    some (a, x)
  | _ => none

/-- The value and value2 of APERTURE_MODIFY by kind, 1 to 5 (R175, R179); bits outside the fields
named are 0, and an ignored value2 takes any value. -/
def readApChange (kind v v2 : Word) : Option ApChange :=
  match kind.toNat with
  | 1 => some (.moveWindow v)
  | 2 => if v.toNat < 256 then (sourcesOf v.toNat).map .setSources else none
  | 3 => do
    let p ← pickOf (Word.byte v 0)
    let oe ← onEmptyOf (Word.byte v 1)
    if v.toNat < 65536 then some (.setPick p oe) else none
  | 4 => do
    let st ← stallOf (Word.byte v 2)
    if Word.byte v 3 = 0 then some (.setStall st (Word.low v) v2) else none
  | 5 => (dividerOf v.toNat).map .setDivider
  | _ => none

/-- APERTURE_MODIFY (aperture, kind, expiry, value, value2). -/
def argsApertureModify : List Word → Option (ApId × ApChange × Nat)
  | [a, k, x, v, v2] => do
    let a ← readFin 8 a
    let x ← readRange 0 255 x
    let c ← readApChange k v v2
    some (a, c, x)
  | _ => none

/-- SET_OVERFLOW (ring, overflow, expiry). -/
def argsSetOverflow : List Word → Option (RingId × Overflow × Nat)
  | [r, o, x] => do
    let r ← readFin 4 r
    let o ← readOverflow o
    let x ← readRange 0 255 x
    some (r, o, x)
  | _ => none

/-- What SCHEDULE_SETUP gives: the ring, D, N, G, B and start. -/
structure ScheduleArgs where
  ring   : RingId
  delay  : Nat
  burst  : Nat
  gap    : Nat
  bursts : Nat
  start  : StartBy
deriving DecidableEq, Repr

/-- SCHEDULE_SETUP (ring, D, N, G, B, start). -/
def argsScheduleSetup : List Word → Option ScheduleArgs
  | [r, d, n, g, b, st] => do
    let r ← readFin 4 r
    let d ← readRange 0 255 d
    let n ← readRange 0 64 n
    let g ← readRange 0 255 g
    let b ← readRange 0 255 b
    let st ← readStart st
    some { ring := r, delay := d, burst := n, gap := g, bursts := b, start := st }
  | _ => none

/-- The selector of RELEASE. -/
inductive Selector where
  | oldest
  | frame (n : Nat)
  | all
deriving DecidableEq, Repr

/-- RELEASE (ring, selector, frame): 0 OLDEST, 1 FRAME, 2 ALL; the frame word is ignored but with
FRAME. -/
def argsRelease : List Word → Option (RingId × Selector)
  | [r, k, f] => do
    let r ← readFin 4 r
    match k.toNat with
    | 0 => some (r, .oldest)
    | 1 => some (r, .frame f.toNat)
    | 2 => some (r, .all)
    | _ => none
  | _ => none

/-- What COPY gives: ring, frame, destination, length, auto_release. -/
structure CopyArgs where
  ring        : RingId
  frame       : Nat
  dest        : Addr
  length      : Nat
  autoRelease : Bool
deriving DecidableEq, Repr

/-- COPY (ring, frame, dest, length, auto_release): dest is a multiple of 8 (R175). -/
def argsCopy : List Word → Option CopyArgs
  | [r, f, d, l, ar] => do
    let r ← readFin 4 r
    let ar ← readBool ar
    if d.toNat % 8 = 0 then
      some { ring := r, frame := f.toNat, dest := d, length := l.toNat, autoRelease := ar }
    else none
  | _ => none

/-- NOTE_MASK (mask, attn_enable): mask bits 0 to 18 only. -/
def argsNoteMask : List Word → Option (BitVec 19 × Bool)
  | [m, e] => do
    let e ← readBool e
    if m.toNat < 2 ^ 19 then some (BitVec.ofNat 19 m.toNat, e) else none
  | _ => none

end Sys2Proof.Machine
end

