-- ==== Sys2Proof/Machine/Ops.lean ====
section
/-! DEFINITION. The named operations over the part's records that the meanings share: reading and
writing records, raising notes, moving slots between lists (R3, R9, R12, R23), retirement (R154), the
M-side grant (R135), answering masters and the lock window (R44, R45), and the end of copy jobs. -/

namespace Sys2Proof.Machine

/-! ### Reading and writing records -/

/-- The record of a slot. -/
def State.slot (s : State) (i : SlotId) : Slot := s.slots[i]

/-- The record of a ring. -/
def State.ring (s : State) (i : RingId) : Ring := s.rings[i]

/-- The record of an aperture. -/
def State.ap (s : State) (i : ApId) : Aperture := s.apertures[i]

/-- The schedule of a ring. -/
def State.sched (s : State) (i : RingId) : Schedule := s.schedules[i]

/-- Replaces a slot record. -/
def State.setSlot (s : State) (i : SlotId) (x : Slot) : State := { s with slots := s.slots.set i x }

/-- Replaces a ring record. -/
def State.setRing (s : State) (i : RingId) (x : Ring) : State := { s with rings := s.rings.set i x }

/-- Replaces an aperture record. -/
def State.setAp (s : State) (i : ApId) (x : Aperture) : State :=
  { s with apertures := s.apertures.set i x }

/-- Replaces a schedule record. -/
def State.setSched (s : State) (i : RingId) (x : Schedule) : State :=
  { s with schedules := s.schedules.set i x }

/-- Sets the state of an aperture, which gives its bound slot (R50, R68). -/
def State.setApState (s : State) (a : ApId) (x : ApState) : State :=
  s.setAp a { s.ap a with state := x }

/-! ### Derived views -/

/-- An aperture is ON when it is not OFF. -/
def State.apOn (s : State) (a : ApId) : Bool := decide ((s.ap a).state ≠ .off)

/-- The slot bound to an aperture, if there is one. -/
def State.boundSlot (s : State) (a : ApId) : Option SlotId :=
  match (s.ap a).state with
  | .bound sl => some sl
  | _         => none

/-- The ring of a set-up aperture. -/
def State.ringOf (s : State) (a : ApId) : Option RingId := (s.ap a).config.map (·.ring)

/-- The slot size of a ring in bytes; 0 while it has none (R16). -/
def State.slotBytes (s : State) (r : RingId) : Nat :=
  match (s.ring r).slotSize with
  | some e => 2 ^ e
  | none   => 0

/-- The base of a slot; an UNASSIGNED slot has none and no transaction reaches it (R1). -/
def State.slotBase (s : State) (sl : SlotId) : Addr :=
  match (s.slot sl).home with
  | some h => h.base
  | none   => 0

/-- The state of a slot, derived from its placement (R2). -/
def State.slotState (s : State) (sl : SlotId) : SlotState :=
  match (s.slot sl).home with
  | none   => .unassigned
  | some h =>
    if (s.ring h.ring).free.contains sl then .free
    else if (s.ring h.ring).ready.contains sl then .ready
    else if (s.ring h.ring).held.contains sl then .held
    else .filling

/-- ATTN is asserted while the queue holds a note and the ATTN enable is yes (R166). -/
def State.attn (s : State) : Bool := !s.notes.queue.isEmpty && s.notes.attnEnable

/-- A transaction translated through the aperture is in flight (R38, R55). The aperture is the one recorded
at acceptance; DESIGN CHOICE (log 34): a read accepted through a consumer that has since been turned OFF
and ON again as a producer still counts, although R50 knows no transaction through a STARVED producer. -/
def State.inFlightThrough (s : State) (a : ApId) : Bool :=
  match s.steering.phase with
  | .inFlight _ (some tg) => decide (tg.ap = a)
  | _ => false

/-- The lock window is open with the aperture as its opening aperture (R46, R55). -/
def State.lockedThrough (s : State) (a : ApId) : Bool :=
  match s.steering.lock with
  | .opened (some o) _ _ => decide (o = a)
  | _ => false

/-- The lock window is OPEN. -/
def State.lockOpen (s : State) : Bool := decide (s.steering.lock ≠ .closed)

/-- The reason a pending boundary has now: IN_FLIGHT while a transaction through the aperture is in
flight, and LOCK while only the lock condition holds (R55). -/
def State.deferReasonNow (s : State) (a : ApId) : DeferReason :=
  if s.inFlightThrough a then .inFlight else .lock

/-- The deferred boundary field: none, or pending with its reason (table of 3.1). -/
def State.deferredReason (s : State) (a : ApId) : Option DeferReason :=
  if (s.ap a).deferred then some (s.deferReasonNow a) else none

/-- The ON ORDERED consumer apertures of a ring (R12, R64). -/
def State.orderedConsumers (s : State) (r : RingId) : ApSet :=
  allAps.foldl (fun m a =>
    if ApSet.has (s.ring r).consumers a && decide ((s.ap a).config.map (·.pick) = some .ordered)
    then ApSet.insert m a else m) 0

/-! ### Address ranges (R21, R28, R29) -/

/-- A range of addresses overlaps the region of an assigned slot. -/
def State.overlapsSlot (s : State) (start len : Nat) : Bool :=
  allSlots.any fun sl =>
    match (s.slot sl).home with
    | some h => overlaps start len h.base.toNat (s.slotBytes h.ring)
    | none   => false

/-- A range of addresses overlaps the window of one aperture. -/
def ApConfig.overlapsWindow (c : ApConfig) (start len : Nat) : Bool :=
  overlaps start len c.windowBase.toNat (2 ^ c.windowSize)

/-- The ON apertures whose windows a range of addresses overlaps, lowest number first. -/
def State.windowsHit (s : State) (start len : Nat) : List ApId :=
  allAps.filter fun a =>
    s.apOn a &&
      match (s.ap a).config with
      | some c => c.overlapsWindow start len
      | none   => false

/-- A range of addresses overlaps the window of an ON aperture other than `a`. -/
def State.overlapsOtherWindow (s : State) (a : ApId) (start len : Nat) : Bool :=
  (s.windowsHit start len).any fun b => decide (b ≠ a)

/-! ### Notes (R160 to R163) -/

/-- The number of a note kind, which is also its place in the mask (section 10.2). -/
def NoteKind.number : NoteKind → Nat
  | .framePublished  => 1
  | .frameEmpty      => 2
  | .frameDropped    => 3
  | .producerStarved => 4
  | .boundaryMerged  => 5
  | .consumerTimeout => 6
  | .accessFault     => 7
  | .memoryFault     => 8
  | .lockExpired     => 9
  | .frameHeld       => 10
  | .retainRefused   => 11
  | .scheduleDone    => 12
  | .triggerIgnored  => 13
  | .copyDone        => 14
  | .copyAborted     => 15
  | .copyFailed      => 16
  | .changeApplied   => 17
  | .changeRejected  => 18
  | .changeExpired   => 19

/-- A kind is enabled in the kind mask. -/
def NoteQueue.enabled (q : NoteQueue) (k : NoteKind) : Bool := q.mask.getLsbD (k.number - 1)

/-- What the Notification Queue does with a note: a masked one is discarded, an enabled one joins the
tail, and one that finds the queue full is discarded with NOTES_LOST set (R162, R163). -/
def NoteQueue.push (q : NoteQueue) (n : Note) : NoteQueue :=
  if q.enabled n.kind then
    if q.queue.length < Config.noteCapacity then { q with queue := q.queue ++ [n] }
    else { q with lost := true }
  else q

/-- Raises a note, as part of the event that causes it (R162). -/
def State.raise (s : State) (n : Note) : State := { s with notes := s.notes.push n }

/-- The detail of a pair: the first value times 256 plus the second (R161). -/
def pairDetail (hi lo : Nat) : Nat := hi * 256 + lo

/-- The code of a deferral reason (R161, R182). -/
def DeferReason.code : DeferReason → Nat
  | .inFlight => 1
  | .lock     => 2

/-! ### Slots on the move (R3, R9) -/

/-- What joining the free list does to a slot record: frame absent, retained and release_requested
no, passed_by empty; written and faulted keep their values (R3). -/
def Slot.freed (x : Slot) : Slot :=
  { x with frame := none, retained := false, releaseRequested := false, passedBy := 0 }

/-- A slot joins the tail of its ring's free list (R3, R9). -/
def State.joinFreeTail (s : State) (r : RingId) (sl : SlotId) : State :=
  let s1 := s.setSlot sl (s.slot sl).freed
  s1.setRing r { s1.ring r with free := (s1.ring r).free ++ [sl] }

/-- A slot returned unwritten joins the head of its ring's free list (R9, R59). -/
def State.joinFreeHead (s : State) (r : RingId) (sl : SlotId) : State :=
  let s1 := s.setSlot sl (s.slot sl).freed
  s1.setRing r { s1.ring r with free := sl :: (s1.ring r).free }

/-- A slot leaves the ready list; the others keep their order (R9). -/
def State.leaveReady (s : State) (r : RingId) (sl : SlotId) : State :=
  s.setRing r { s.ring r with ready := (s.ring r).ready.erase sl }

/-- A slot leaves the held list; the others keep their order (R9). -/
def State.leaveHeld (s : State) (r : RingId) (sl : SlotId) : State :=
  s.setRing r { s.ring r with held := (s.ring r).held.erase sl }

/-- A slot joins the tail of the held list and becomes HELD, with note FRAME_HELD (R12). -/
def State.joinHeld (s : State) (r : RingId) (sl : SlotId) : State :=
  (s.setRing r { s.ring r with held := (s.ring r).held ++ [sl] }).raise
    { kind := .frameHeld, ring := some r, slot := some sl, frame := (s.slot sl).frame }

/-- A READY slot leaves the ready list: retained, for the held tail with FRAME_HELD; otherwise for
the free tail (R12, R18). -/
def State.dropReady (s : State) (r : RingId) (sl : SlotId) : State :=
  if (s.slot sl).retained then (s.leaveReady r sl).joinHeld r sl
  else (s.leaveReady r sl).joinFreeTail r sl

/-- A HELD slot leaves the held list for the free tail (R15, R110). -/
def State.freeHeld (s : State) (r : RingId) (sl : SlotId) : State :=
  (s.leaveHeld r sl).joinFreeTail r sl

/-- Retiring a FREE slot: it leaves its ring's free list from wherever it stands, becomes UNASSIGNED,
and the pool goes down by 1 (R23). -/
def State.retire (s : State) (sl : SlotId) : State :=
  match (s.slot sl).home with
  | none   => s
  | some h =>
    (s.setRing h.ring { s.ring h.ring with
      free := (s.ring h.ring).free.erase sl, pool := (s.ring h.ring).pool - 1 }).setSlot sl
      Slot.unassigned

/-! ### The Change Queue (R144, R145, R158) -/

/-- The kind number of a change (R144). -/
def ChangeOp.number : ChangeOp → Nat
  | .aperture _ (.moveWindow _)   => 1
  | .aperture _ (.setSources _)   => 2
  | .aperture _ (.setPick _ _)    => 3
  | .aperture _ (.setStall _ _ _) => 4
  | .aperture _ (.setDivider _)   => 5
  | .aperture _ .detach           => 6
  | .setOverflow _ _              => 7
  | .retireSlot _                 => 8

/-- The target id of a change: an aperture, ring or slot number, as the kind gives (R174, R183). -/
def ChangeOp.targetId : ChangeOp → Nat
  | .aperture a _    => a.val
  | .setOverflow r _ => r.val
  | .retireSlot sl   => sl.val

/-- The Change Queue holds 12 entries (R145). -/
def State.changesFull (s : State) : Bool :=
  decide (Config.changeCapacity ≤ s.changes.entries.length)

/-- An entry joins the tail with the next seq, and the counter advances, from 65535 to 1, past the seq
of every entry in the queue, since "a seq is not issued again while the entry that holds it is still in
the queue" (R145, log 31). -/
def State.queueChange (s : State) (op : ChangeOp) (expiry : Nat) : State :=
  let entries := s.changes.entries ++ [{ seq := s.changes.nextSeq, op := op, expiry := expiry }]
  { s with changes :=
      { entries := entries
        nextSeq := nextUnused 65535 (entries.map (·.seq)) s.changes.nextSeq } }

/-- One entry leaves the queue; those behind it keep their order (R145). -/
def State.removeChange (s : State) (e : Change) : State :=
  { s with changes := { s.changes with entries := s.changes.entries.erase e } }

/-- A change note: seq in the tag, kind number in the detail, and the target fields of R158, with the
slot bound to an aperture in the state given. -/
def State.changeNote (s : State) (kind : NoteKind) (e : Change) : Note :=
  match e.op with
  | .aperture a _ =>
    { kind := kind, ring := s.ringOf a, aperture := some a, slot := s.boundSlot a,
      tag := some e.seq, detail := e.op.number }
  | .setOverflow r _ => { kind := kind, ring := some r, tag := some e.seq, detail := e.op.number }
  | .retireSlot sl =>
    { kind := kind, ring := (s.slot sl).home.map (·.ring), slot := some sl, tag := some e.seq,
      detail := e.op.number }

/-- The RETIRE_SLOT entry that waits on a slot; there is at most one (R5, R149). -/
def State.waitingRetirement (s : State) (sl : SlotId) : Option Change :=
  s.changes.entries.find? fun e => decide (e.op = .retireSlot sl)

/-- The retirement waiting on a slot applies at the moment the slot becomes FREE: rejected if the ring
is ON with a pool of 2 or less, otherwise the slot is retired; retire_pending becomes no (R154). -/
def State.applyRetirement (s : State) (sl : SlotId) : State :=
  match s.waitingRetirement sl with
  | none   => s
  | some e =>
    let s1 := s.removeChange e
    let s2 := s1.setSlot sl { s1.slot sl with retirePending := false }
    let tooSmall :=
      match (s.slot sl).home with
      | some h => (s.ring h.ring).on && decide ((s.ring h.ring).pool ≤ 2)
      | none   => false
    if tooSmall then s2.raise (s.changeNote .changeRejected e)
    else (s2.retire sl).raise (s.changeNote .changeApplied e)

/-- The retirements waiting on slots that one event freed, in the order the slots joined the free
list (R154). -/
def State.applyRetirements (s : State) (sls : List SlotId) : State :=
  sls.foldl State.applyRetirement s

/-! ### Reclamation (R12, R13) -/

/-- The newest READY slot of a ring (R9). -/
def State.newestReady (s : State) (r : RingId) : Option SlotId := (s.ring r).ready.getLast?

/-- The reclamation condition of a READY slot: no holders, passed by every ON ORDERED consumer of the
ring, and not the newest (R12). -/
def State.reclaimable (s : State) (r : RingId) (sl : SlotId) : Bool :=
  decide ((s.slot sl).holders = 0) &&
    decide (s.orderedConsumers r &&& ~~~(s.slot sl).passedBy = 0) &&
    decide (s.newestReady r ≠ some sl)

/-- A check of the reclamation condition for some READY slots of a ring: those that meet it leave in
ready-list order, oldest first; then the retirements waiting on the freed ones apply (R13, R54, R72).
DESIGN CHOICE (log 36): outside a boundary operation, as at an immediate APERTURE_OFF (R70), no rule orders
the FRAME_HELD notes and those of retirements (R154), and the model keeps that order. -/
def State.reclaim (s : State) (r : RingId) (cands : List SlotId) : State :=
  let leaving := (s.ring r).ready.filter fun sl => cands.contains sl && s.reclaimable r sl
  (leaving.foldl (fun t sl => t.dropReady r sl) s).applyRetirements
    (leaving.filter fun sl => !(s.slot sl).retained)

/-- A check of the reclamation condition for every READY slot of a ring (R13). -/
def State.reclaimAll (s : State) (r : RingId) : State := s.reclaim r (s.ring r).ready

/-! ### The M-side Arbiter (R135) -/

/-- Grants the waiting STEERING claim. -/
def State.grantSteering (s : State) (t : Txn) (count : Nat) : State :=
  { s with arbiter :=
      { s.arbiter with
        port := some { claimant := .steering, txn := t }, steeringClaim := none,
        shareCount := count } }

/-- Grants the waiting COPY claim: share_count returns to 0 and the engine is told of the grant. -/
def State.grantCopy (s : State) (t : Txn) : State :=
  { s with
    arbiter :=
      { s.arbiter with
        port := some { claimant := .copy, txn := t }, copyClaim := none, shareCount := 0 }
    copy := { s.copy with active := s.copy.active.map fun j => { j with granted := true } } }

/-- With both claims waiting, COPY is granted when the lock window is CLOSED, K is 1 or more and
share_count has reached K (R135). -/
def State.copyWins (s : State) : Bool :=
  !s.lockOpen && decide (1 ≤ s.arbiter.share) && decide (s.arbiter.share ≤ s.arbiter.shareCount)

/-- The grant decision: one grant at most, and none while the port is BUSY (R135). -/
def State.arbitrate (s : State) : State :=
  match s.arbiter.port, s.arbiter.steeringClaim, s.arbiter.copyClaim with
  | some _, _, _ => s
  | none, none, none => s
  | none, some t, none => s.grantSteering t s.arbiter.shareCount
  | none, none, some c => if s.lockOpen then s else s.grantCopy c
  | none, some t, some c =>
    if s.copyWins then s.grantCopy c else s.grantSteering t (min 15 (s.arbiter.shareCount + 1))

/-- The Steering Unit presents a transaction as the STEERING claim and enters IN_FLIGHT with its
transaction record (R30, R33, R38). `t` is the transaction as accepted, `m` as it leaves. -/
def State.forward (s : State) (t m : Txn) (target : Option Target) : State :=
  { s with
    steering := { s.steering with phase := .inFlight t target }
    arbiter := { s.arbiter with steeringClaim := some m } }

/-! ### Answering masters, and the lock window at completion (R26, R45) -/

/-- A response returned at the A-side port. -/
def State.respond (s : State) (t : Txn) (outcome : BusOutcome) (data : List Beat) : State :=
  { s with aOut := s.aOut ++
      [{ source := t.source, kind := t.kind, outcome := outcome, data := data }] }

/-- The lock window at the completion of a transaction: the locked transaction's own response starts
the expiry timer (R44); the next completion closes the window (R45). -/
def LockWindow.complete (w : LockWindow) (lock : Bool) : LockWindow :=
  match w with
  | .closed => .closed
  | .opened o src _ => if lock then .opened o src (some Config.lockTicks) else .closed

/-- A transaction receives its one response and completes: the Steering Unit is OPEN again and the
lock window moves on (R27, R45). -/
def State.answer (s : State) (t : Txn) (outcome : BusOutcome) (data : List Beat) : State :=
  let s1 := s.respond t outcome data
  { s1 with steering :=
      { s1.steering with phase := .opened, lock := s1.steering.lock.complete t.lock } }

/-- A transaction is answered FAULT inside the part. A READ answered so carries data of no stated
value: the free value of Config (R26, log 15). -/
def State.answerFault (s : State) (t : Txn) : State :=
  match t.kind with
  | .write => s.answer t .fault []
  | .read  =>
    { s.answer t .fault ((List.range t.beats).map (Config.faultReadData s.freeReads)) with
      freeReads := s.freeReads + 1 }

/-- A READ answered with a fill pattern: the pattern twice in every beat, its least significant byte
at the lowest address (R36). -/
def fillData (fill : Word) (beats : Nat) : List Beat := List.replicate beats (fill ++ fill)

/-- The address of a transaction through a window, moved to the bound slot: the base of the slot plus
the distance from the window base (R33). -/
def State.translate (s : State) (t : Txn) (windowBase : Addr) (sl : SlotId) : Txn :=
  { t with address := s.slotBase sl + (t.address - windowBase) }

/-- Translates a transaction into a slot, records aperture, ring, slot and frame number, and forwards
it (R33, R35, R40). -/
def State.forwardInto (s : State) (t : Txn) (a : ApId) (r : RingId) (windowBase : Addr)
    (sl : SlotId) : State :=
  s.forward t (s.translate t windowBase sl)
    (some { ap := a, ring := r, slot := sl, frame := (s.slot sl).frame })

/-- A read stalled on an aperture that turns OFF is answered FAULT with cause DETACHED (R42). -/
def State.detachStall (s : State) (a : ApId) : State :=
  match s.steering.phase with
  | .stalled t b _ _ => if b = a then s.answerFault t else s
  | _ => s

/-! ### Consumers: acquire and release (R6, R7, R80) -/

/-- An aperture joins the passed_by set of some slots. -/
def State.markPassed (s : State) (a : ApId) (sls : List SlotId) : State :=
  sls.foldl (fun t sl => t.setSlot sl
    { t.slot sl with passedBy := ApSet.insert (t.slot sl).passedBy a }) s

/-- An aperture leaves the passed_by set of some slots. -/
def State.unmarkPassed (s : State) (a : ApId) (sls : List SlotId) : State :=
  sls.foldl (fun t sl => t.setSlot sl
    { t.slot sl with passedBy := ApSet.erase (t.slot sl).passedBy a }) s

/-- The slots assigned to a ring. -/
def State.slotsOf (s : State) (r : RingId) : List SlotId :=
  allSlots.filter fun sl => decide ((s.slot sl).home.map (·.ring) = some r)

/-- The READY slots of a ring up to and including one: it and every older one (R7). -/
def State.readyThrough (s : State) (r : RingId) (sl : SlotId) : List SlotId :=
  takeThrough sl (s.ring r).ready

/-- A consumer binds to a READY slot: the slot's holders set gains it and it becomes VIEWING; an
ORDERED one joins the passed_by set of the slot and of every older READY slot (R6, R7). -/
def State.acquire (s : State) (a : ApId) (r : RingId) (pick : Pick) (sl : SlotId) : State :=
  let s1 := s.setSlot sl { s.slot sl with holders := ApSet.insert (s.slot sl).holders a }
  let s2 := s1.setApState a (.bound sl)
  match pick with
  | .newest  => s2
  | .ordered => s2.markPassed a (s.readyThrough r sl)

/-- A consumer releases its bound slot: it leaves the holders set and its bound slot is absent
(R80). -/
def State.releaseHold (s : State) (a : ApId) : State :=
  match (s.ap a).state with
  | .bound sl =>
    (s.setSlot sl { s.slot sl with holders := ApSet.erase (s.slot sl).holders a }).setApState a
      .unbound
  | _ => s

/-- The candidate of an ORDERED consumer: the oldest READY slot not in its passed_by set (R77). -/
def State.candidate (s : State) (a : ApId) (r : RingId) : Option SlotId :=
  (s.ring r).ready.find? fun sl => !ApSet.has (s.slot sl).passedBy a

/-! ### Copy jobs (R120 to R127) -/

/-- The beats of the next pair: 16, or what remains (R122). -/
def Job.nextBeats (j : Job) : Nat :=
  if 128 ≤ j.length - j.doneBytes then 16 else (j.length - j.doneBytes) / 8

/-- The transaction of a read claim: source tag 7, no lock (R122, R124). -/
def State.readClaim (s : State) (j : Job) : Txn :=
  { source := 7, kind := .read, address := s.slotBase j.slot + BitVec.ofNat 32 j.doneBytes,
    beats := j.nextBeats, masks := [], data := [], lock := false }

/-- The transaction of a write claim: every byte enabled in every beat (R123, R124). -/
def Job.writeClaim (j : Job) (data : List Beat) : Txn :=
  { source := 7, kind := .write, address := j.dest + BitVec.ofNat 32 j.doneBytes,
    beats := j.nextBeats, masks := List.replicate j.nextBeats 0xFF, data := data, lock := false }

/-- A job in its READ half presents its next read claim (R121, R122). -/
def State.presentRead (s : State) (j : Job) : State :=
  { s with
    copy := { s.copy with
      active := some { job := j, half := .read, cancelled := false, granted := false } }
    arbiter := { s.arbiter with copyClaim := some (s.readClaim j) } }

/-- A job goes to its WRITE half and presents its write claim, which takes the staging buffer's data
(R116, R123). -/
def State.presentWrite (s : State) (j : Job) : State :=
  { s with
    copy := { s.copy with
      active := some { job := j, half := .write, cancelled := false, granted := false }
      staging := [] }
    arbiter := { s.arbiter with copyClaim := some (j.writeClaim s.copy.staging) } }

/-- The head of the copy queue becomes ACTIVE and presents its first read claim; an engine whose queue
is empty says so, and share_count returns to 0 (R121, R137). -/
def State.activateNext (s : State) : State :=
  match s.copy.queued with
  | []      => { s with arbiter := { s.arbiter with shareCount := 0 } }
  | j :: js => { s with copy := { s.copy with queued := js } }.presentRead j

/-- The slot's jobs field goes down by 1 as one of its jobs leaves the queue (R4). -/
def State.dropJobCount (s : State) (sl : SlotId) : State :=
  s.setSlot sl { s.slot sl with jobs := (s.slot sl).jobs - 1 }

/-- A HELD slot whose jobs count is 0 and whose release_requested is yes goes free (R15). -/
def State.dueFree (s : State) (r : RingId) (sl : SlotId) : Bool :=
  (s.slot sl).releaseRequested && decide ((s.slot sl).jobs = 0) && (s.ring r).held.contains sl

/-- The common end of a job that has left the queue: the slot goes free if R15 frees it, the copy note
is raised with the detail given for "freed" and "still held", and a retirement waiting on the freed
slot applies with its own note after it (R125 to R127, R130). -/
def State.settleJob (s : State) (j : Job) (kind : NoteKind) (ifFreed ifHeld : Nat) : State :=
  let freed := s.dueFree j.ring j.slot
  let s1 := if freed then s.freeHeld j.ring j.slot else s
  let s2 := s1.raise
    { kind := kind, ring := some j.ring, slot := some j.slot, frame := some j.frame,
      tag := some j.id, detail := if freed then ifFreed else ifHeld }
  if freed then s2.applyRetirement j.slot else s2

/-- The ACTIVE job leaves the engine: no job is active, no claim of it waits, and the staging buffer's
data is discarded. -/
def State.clearActive (s : State) : State :=
  { s with
    copy := { s.copy with active := none, staging := [] }
    arbiter := { s.arbiter with copyClaim := none } }

/-- The ACTIVE job ends without being DONE, with the note and detail given; the next becomes ACTIVE
(R126, R127). -/
def State.endActive (s : State) (j : Job) (kind : NoteKind) (detail : Nat) : State :=
  ((s.clearActive.dropJobCount j.slot).settleJob j kind detail detail).activateNext

/-- The ACTIVE job ends DONE: it leaves the queue, auto_release requests the release, the slot may go
free, COPY_DONE is raised, and the next job becomes ACTIVE (R125). -/
def State.endDone (s : State) (j : Job) : State :=
  let s1 := s.clearActive.dropJobCount j.slot
  let s2 := if j.autoRelease then s1.setSlot j.slot { s1.slot j.slot with releaseRequested := true }
    else s1
  (s2.settleJob j .copyDone 1 0).activateNext

/-- A QUEUED job leaves the queue ABORTED (R127). One job leaves: no other has its id, since a
value in use is not issued again (R118); DESIGN CHOICE (log 31): a state from outside in which two
jobs share an id loses the job given alone. -/
def State.abortQueued (s : State) (j : Job) : State :=
  let s1 := { s with copy := { s.copy with queued := s.copy.queued.erase j } }
  (s1.dropJobCount j.slot).settleJob j .copyAborted 0 0

/-- Cancelling the ACTIVE job: a waiting claim is withdrawn and the job ends at once; a claim on the
M-side port runs to its response and the job is marked (R127). -/
def State.cancelActive (s : State) (j : ActiveJob) : State :=
  if j.granted then
    { s with copy := { s.copy with active := some { j with cancelled := true } } }
  else s.endActive j.job .copyAborted 1

end Sys2Proof.Machine
end

