-- ==== Sys2Proof/WellFormed.lean ====
section
/-! DEFINITION. Which commands and events are well formed: the field ranges the spec gives a
transaction and the framing it gives a request. The machine is total and runs the others too. -/

namespace Sys2Proof

/-- The command codes of R174. -/
def commandCodes : List Byte :=
  [0x01, 0x02, 0x03, 0x04, 0x05, 0x06, 0x08, 0x09, 0x0A, 0x0B, 0x0C, 0x0D, 0x10, 0x11, 0x12, 0x13,
   0x14, 0x18, 0x20, 0x21, 0x22, 0x23, 0x28, 0x29, 0x2A, 0x30, 0x31, 0x32, 0x33, 0x34, 0x38, 0x39]

/-- A request carries at most six argument words; a larger count ends it early (R169). -/
def Request.wf (r : Request) : Bool := decide (r.args.length ≤ 6)

/-- The ranges of R26: an address that is a multiple of 8, 1 to 16 beats, and a mask and a value for
each beat of a WRITE. -/
def Txn.wf (t : Txn) : Bool :=
  decide (t.address.toNat % 8 = 0) && decide (1 ≤ t.beats) && decide (t.beats ≤ 16) &&
    match t.kind with
    | .read  => t.masks.isEmpty && t.data.isEmpty
    | .write => decide (t.masks.length = t.beats) && decide (t.data.length = t.beats)

/-- A response has data for at most 16 beats (R26). -/
def MResponse.wf (r : MResponse) : Bool := decide (r.data.length ≤ 16)

/-- A list that says which operations run first names no aperture twice. -/
def orderWf (order : List ApId) : Bool := decide order.Nodup

/-- Well-formed commands and events. -/
def Instr.wf : Instr → Bool
  | .selFall => true
  | .selRise n => decide (n < 8 * 27)
  | .responseComplete => true
  | .excessArgumentCount _ count => decide (6 < count.toNat)
  | .badCommand code req => !commandCodes.contains code && req.wf
  | .summary req => req.wf
  | .resetCore req _ => req.wf
  | .timebase req => req.wf
  | .lineSetup req => req.wf
  | .boundary req order => req.wf && orderWf order
  | .snap req => req.wf
  | .ringSetup req => req.wf
  | .ringOn req => req.wf
  | .ringOff req => req.wf
  | .ringFlush req => req.wf
  | .slotAssign req => req.wf
  | .slotRetire req => req.wf
  | .apertureSetup req => req.wf
  | .apertureOn req => req.wf
  | .apertureOff req => req.wf
  | .apertureModify req => req.wf
  | .setOverflow req => req.wf
  | .cancelChange req => req.wf
  | .scheduleSetup req => req.wf
  | .scheduleStart req => req.wf
  | .scheduleStop req => req.wf
  | .release req => req.wf
  | .copy req => req.wf
  | .copyCancel req => req.wf
  | .copyShare req => req.wf
  | .queryRing req => req.wf
  | .querySlot req => req.wf
  | .queryAperture req => req.wf
  | .queryChanges req => req.wf
  | .queryJobs req => req.wf
  | .readNotes req => req.wf
  | .noteMask req => req.wf
  | .powerOnReset _ _ => true
  | .boundaryEvent _ _ order => orderWf order
  | .pendingBoundaryRun _ => true
  | .snapEdge _ => true
  | .tick => true
  | .stallTimeout => true
  | .lockExpiry => true
  | .aSideTransaction t => t.wf
  | .steeringResponse resp order => resp.wf && orderWf order
  | .copyReadResponse resp => resp.wf
  | .copyWriteResponse _ => true
  | .refclkPeriod => true

end Sys2Proof
end

