-- ==== Sys2Proof/Machine/Flags.lean ====
section
/-! DEFINITION. The management link: status codes, the flags byte, the checks of a request and the
response to it (spec/11, R168 to R173). -/

namespace Sys2Proof.Machine

/-! ### Status and flags -/

/-- The status codes (R170). -/
def Status.code : Status → Byte
  | .done       => 0x00
  | .queued     => 0x01
  | .busy       => 0x10
  | .badCommand => 0x11
  | .badArg     => 0x12
  | .badCheck   => 0x13
  | .noSpace    => 0x14
  | .noEntry    => 0x15
  | .wrongState => 0x16
  | .conflict   => 0x17

/-- The flags byte as the part stands: NOTES_PENDING, NOTES_LOST, TRUNCATED, RESPONSE_LOST,
RESET_SEEN in bits 0 to 4 (R173). -/
def State.flagsByte (s : State) : Byte :=
  BitVec.ofNat 8
    (bit (!s.notes.queue.isEmpty) + 2 * bit s.notes.lost + 4 * bit s.link.truncated +
      8 * bit s.link.responseLost + 16 * bit s.link.resetSeen)

/-- The bytes of a response as they are sent: status, flags, word count, words, and a check byte that
makes their sum 0 modulo 256 (R171). -/
def Response.bytes (r : Response) : List Byte :=
  let body := [Status.code r.status, r.flags, BitVec.ofNat 8 r.words.length] ++
    r.words.flatMap Word.bytes
  body ++ [- byteSum body]

/-- The idle byte on SDO (R168, R171). -/
def idleByte : Byte := 0xFF

/-- What SDO carries in the `i`-th byte of a phase: in ANSWER idle bytes and then the response bytes, in
IDLE, REQUEST and SPENT idle bytes (table of R168). The number of idle bytes before the status is "not
fixed" (R171), so it is a free argument, `idle` (log 5). -/
def Link.sdoByte (l : Link) (idle i : Nat) : Byte :=
  match l.phase, l.response with
  | .answer, some r => if i < idle then idleByte else r.bytes.getD (i - idle) idleByte
  | _, _ => idleByte

/-- What SDO carries in the `k`-th SCLK period of a phase: one bit, and "each byte is sent most
significant bit first" (R168). -/
def Link.sdoBit (l : Link) (idle k : Nat) : Bool :=
  (Byte.bits (l.sdoByte idle (k / 8))).getD (k % 8) false

/-- The controller moves to ANSWER with a response whose flags byte shows the part as it stands
(R169, R173). -/
def State.reply (s : State) (status : Status) (words : List Word) : State :=
  { s with link := { s.link with
      phase := .answer,
      response := some { status := status, flags := s.flagsByte, words := words } } }

/-! ### Requests -/

/-- The bytes of a request (R169). -/
def requestBytes (code : Byte) (req : Request) : List Byte :=
  [code, BitVec.ofNat 8 req.args.length] ++ req.args.flatMap Word.bytes ++ [req.check]

/-- Check 1: the sum of the request bytes is a multiple of 256 (R170). -/
def requestBalanced (code : Byte) (req : Request) : Bool :=
  decide (byteSum (requestBytes code req) = 0)

/-- The check byte that balances a request. -/
def checkByte (code : Byte) (args : List Word) : Byte :=
  - byteSum ([code, BitVec.ofNat 8 args.length] ++ args.flatMap Word.bytes)

/-- The request a supervisor sends for a command: its arguments with the check byte that balances
them. -/
def requestFor (code : Byte) (args : List Word) : Request :=
  { args := args, check := checkByte code args }

/-- The request bytes received (section 11). -/
def State.received (s : State) (bytes : List Byte) : State :=
  { s with link := { s.link with request := bytes } }

/-- A flag that a command clears after the response that reports it is built (R164, R176). -/
inductive Clears where
  | nothing
  | notesLost
  | resetSeen
deriving DecidableEq, Repr

/-- Clears what the command clears once its response is built. -/
def State.clearing (s : State) : Clears → State
  | .nothing   => s
  | .notesLost => { s with notes := { s.notes with lost := false } }
  | .resetSeen => { s with link := { s.link with resetSeen := false } }

/-- What a block answers to a command handed to it: the part after it, the status, the result words,
and a flag cleared with the report. -/
structure Answer where
  state  : State
  status : Status
  words  : List Word := []
  clears : Clears := .nothing

/-- A refusal by the owning block: the status, nothing changed (R170). -/
def State.deny (s : State) (status : Status) : Answer := { state := s, status := status }

/-- An acceptance with no result words. -/
def State.done (s : State) : Answer := { state := s, status := .done }

/-- An acceptance with result words. -/
def State.doneWith (s : State) (words : List Word) : Answer :=
  { state := s, status := .done, words := words }

/-- The answer QUEUED: the entry joins the Change Queue and its seq is the result; a full queue
refuses with NO_SPACE (R145, R171). -/
def State.queueAnswer (s : State) (op : ChangeOp) (expiry : Nat) : Answer :=
  if s.changesFull then s.deny .noSpace
  else
    { state := s.queueChange op expiry, status := .queued,
      words := [BitVec.ofNat 32 s.changes.nextSeq] }

/-- The end of a request at its check byte, for a command of R174 (R169 to R171). Outside REQUEST the
bytes on SDI are no request (R168). The checks come in the order of R170; a command that passes is
taken, and the response is built once it has acted. -/
def State.takeCommand {α : Type} (s : State) (code : Byte) (parse : List Word → Option α)
    (req : Request) (act : State → α → Answer) : State :=
  if s.link.phase ≠ .request then s
  else if 6 < req.args.length then
    (s.received [code, BitVec.ofNat 8 req.args.length]).reply .badArg []
  else
    let s1 := s.received (requestBytes code req)
    if !requestBalanced code req then s1.reply .badCheck []
    else
      match parse req.args with
      | none   => s1.reply .badArg []
      | some x =>
        let r := act s1 x
        (r.state.reply r.status r.words).clearing r.clears

end Sys2Proof.Machine
end

