-- ==== Sys2Proof/Machine/Changes.lean ====
section
/-! DEFINITION. The Change Queue at work: applying one entry (R152, R153), the walk of a producer
boundary (R150), the changes of a consumer boundary (R151), and expiry (R156). -/

namespace Sys2Proof.Machine

/-- Changes the configuration of a set-up aperture. -/
def State.setConfig (s : State) (a : ApId) (c : ApConfig) : State :=
  s.setAp a { s.ap a with config := some c }

/-- A producer turns OFF: no bound slot, the ring's producer field absent, a pending boundary
discarded; the divider count is left (R52, R53). -/
def State.producerOff (s : State) (a : ApId) (r : RingId) : State :=
  (s.setAp a { s.ap a with state := .off, deferred := false }).setRing r
    { s.ring r with producer := none }

/-- A consumer that holds no slot turns OFF: a read stalled on it is answered DETACHED, the ring's
consumers field loses it, a pending boundary is discarded, and it leaves the passed_by set of every
slot of its ring (R70). The reclamation check follows at the caller. -/
def State.consumerOff (s : State) (a : ApId) (r : RingId) : State :=
  let s1 := s.detachStall a
  let s2 := s1.setAp a { s1.ap a with state := .off, deferred := false }
  let s3 := s2.setRing r { s2.ring r with consumers := ApSet.erase (s2.ring r).consumers a }
  s3.unmarkPassed a (s3.slotsOf r)

/-- The slots a consumer's turning OFF checks: every READY slot if it was ORDERED, and the slot it
released, if any (R13, R70, R80). -/
def State.offChecks (s : State) (r : RingId) (pick : Pick) (released : Option SlotId) :
    List SlotId :=
  match pick with
  | .ordered => (s.ring r).ready
  | .newest  => released.toList

/-- What a change of pick does to the passed_by sets (R7): a VIEWING consumer made ORDERED joins those
of its slot and every older READY slot, a WAITING one those of every READY slot; one made NEWEST
leaves those of every slot of the ring. -/
def State.repick (s : State) (a : ApId) (r : RingId) (pick : Pick) : State :=
  match pick, (s.ap a).state with
  | .ordered, .bound sl => s.markPassed a (s.readyThrough r sl)
  | .ordered, .unbound  => s.markPassed a (s.ring r).ready
  | .ordered, .off      => s
  | .newest,  _         => s.unmarkPassed a (s.slotsOf r)

/-- Raises CHANGE_APPLIED for an entry, with the target as the change has left it (R152, R158). -/
def State.applied (s : State) (e : Change) : State := s.raise (s.changeNote .changeApplied e)

/-- The new window of an entry is blocked: it overlaps the window of another ON aperture or an
assigned slot's region (R152). -/
def State.windowBlocked (s : State) (a : ApId) (c : ApConfig) (base : Addr) : Bool :=
  s.overlapsOtherWindow a base.toNat (2 ^ c.windowSize) ||
    s.overlapsSlot base.toNat (2 ^ c.windowSize)

/-- The configuration a change of one aperture writes; DETACH writes none (R146, R152). -/
def ApChange.write (x : ApChange) (c : ApConfig) : ApConfig :=
  match x with
  | .moveWindow base  => { c with windowBase := base }
  | .setSources m     => { c with sources := m }
  | .setPick p oe     => { c with pick := p, onEmpty := oe }
  | .setStall st t f  => { c with stall := st, timeout := t, fill := f }
  | .setDivider k     => { c with divider := k }
  | .detach           => c

/-- The fields of a change written to an aperture with configuration `c`; a SET_DIVIDER also sets the
divider count to 0 (R90, R146). -/
def State.writeChange (s : State) (a : ApId) (c : ApConfig) (x : ApChange) : State :=
  match x with
  | .setDivider _ => s.setAp a { s.ap a with config := some (ApChange.write x c), count := 0 }
  | _ => s.setConfig a (ApChange.write x c)

/-- The effect of an aperture entry whose place in the queue is already given up, on an aperture with
configuration `c` (R152); an OFF aperture takes it at once, with no window check (R153). -/
def State.applyApChange (s : State) (e : Change) (a : ApId) (c : ApConfig) (x : ApChange) : State :=
  match x with
  | .moveWindow base =>
    if s.apOn a && s.windowBlocked a c base then s.raise (s.changeNote .changeRejected e)
    else (s.writeChange a c x).applied e
  | .setSources _ | .setStall _ _ _ | .setDivider _ => (s.writeChange a c x).applied e
  | .setPick p _ =>
    let s1 := s.writeChange a c x
    if c.role = .consumer ∧ s.apOn a = true ∧ c.pick ≠ p then
      ((s1.repick a c.ring p).applied e).reclaimAll c.ring
    else s1.applied e
  | .detach =>
    if s.apOn a then
      match c.role with
      | .producer => (s.producerOff a c.ring).applied e
      | .consumer =>
        let s1 := ((s.releaseHold a).consumerOff a c.ring).applied e
        s1.reclaim c.ring (s1.offChecks c.ring c.pick (s.boundSlot a))
    else s.applied e

/-- Applying an entry: it leaves the queue and changes its target (R152). RETIRE_SLOT applies when its
slot becomes FREE and nowhere else (R154). -/
def State.applyChange (s : State) (e : Change) : State :=
  match e.op with
  | .aperture a x =>
    match (s.ap a).config with
    | some c => (s.removeChange e).applyApChange e a c x
    | none   => (s.removeChange e).applied e
  | .setOverflow r p =>
    let s1 := s.removeChange e
    (s1.setRing r { s1.ring r with overflow := p }).applied e
  | .retireSlot _ => s

/-- An entry's target is the aperture. -/
def ChangeOp.forAperture (a : ApId) : ChangeOp → Bool
  | .aperture b _ => decide (b = a)
  | _ => false

/-- An entry's target is the ring. -/
def ChangeOp.forRing (r : RingId) : ChangeOp → Bool
  | .setOverflow q _ => decide (q = r)
  | _ => false

/-- The waiting entries of an aperture apply, in queue order (R151, R153). -/
def State.applyForAperture (s : State) (a : ApId) : State :=
  (s.changes.entries.filter fun e => e.op.forAperture a).foldl State.applyChange s

/-- The waiting entries of a ring that has lost its producer apply, in queue order (R148). -/
def State.applyForRing (s : State) (r : RingId) : State :=
  (s.changes.entries.filter fun e => e.op.forRing r).foldl State.applyChange s

/-- An entry counts the producer boundaries of a ring for its expiry: those of the ring's consumer
apertures and the RETIRE_SLOT entries of its slots (R150, R155). -/
def State.countsBoundary (s : State) (r : RingId) (op : ChangeOp) : Bool :=
  match op with
  | .aperture b _ =>
    match (s.ap b).config with
    | some c => decide (c.ring = r) && decide (c.role = .consumer)
    | none   => false
  | .setOverflow _ _ => false
  | .retireSlot sl => decide ((s.slot sl).home.map (·.ring) = some r)

/-- A RETIRE_SLOT entry that leaves the queue clears its slot's retire_pending (R5). -/
def State.clearRetirePending (s : State) (op : ChangeOp) : State :=
  match op with
  | .retireSlot sl => s.setSlot sl { s.slot sl with retirePending := false }
  | _ => s

/-- A counted boundary at which an entry is not applied: a non-zero expiry goes down by 1, and at 0
the entry is removed with CHANGE_EXPIRED (R156). -/
def State.countExpiry (s : State) (e : Change) : State :=
  match e.expiry with
  | 0 => s
  | 1 => ((s.removeChange e).clearRetirePending e.op).raise (s.changeNote .changeExpired e)
  | n + 2 =>
    { s with changes := { s.changes with
        entries := s.changes.entries.map fun x =>
          if x = e then { x with expiry := n + 1 } else x } }

/-- What the walk of a producer boundary does at one entry (R150). -/
def State.walkOne (a : ApId) (r : RingId) (s : State) (e : Change) : State :=
  if e.op.forAperture a || e.op.forRing r then s.applyChange e
  else if s.countsBoundary r e.op then s.countExpiry e
  else s

/-- Stage 4 of a producer boundary: the Change Queue walks its entries in queue order, once (R150). -/
def State.walkChanges (s : State) (a : ApId) (r : RingId) : State :=
  s.changes.entries.foldl (State.walkOne a r) s

end Sys2Proof.Machine
end

