-- ==== Sys2Proof/Machine/Schedules.lean ====
section
/-! DEFINITION. The Retention Scheduler: the decision for a frame, the counting step and the SNAP event
(spec/06, R97 to R107). -/

namespace Sys2Proof.Machine

/-- The slots of a ring that are set aside: the held list and the retained READY slots (R104). -/
def State.setAside (s : State) (r : RingId) : Nat :=
  (s.ring r).held.length + ((s.ring r).ready.filter fun sl => (s.slot sl).retained).length

/-- The pool guard allows retaining: the set-aside slots are fewer than the pool minus 2 (R104). -/
def State.guardAllows (s : State) (r : RingId) : Bool :=
  decide (s.setAside r < (s.ring r).pool - 2)

/-- The schedule is RETAINING, so the frame being published is to be retained if the guard allows it
(R103). -/
def State.wantsRetain (s : State) (r : RingId) : Bool := decide ((s.sched r).state = .retaining)

/-- A schedule that starts to run: DELAY with remaining D, or RETAINING with remaining N for D = 0
(R99, R100). -/
def Schedule.run (x : Schedule) : Schedule :=
  if 0 < x.delay then { x with state := .delay, remaining := x.delay }
  else { x with state := .retaining, remaining := x.burst }

/-- SCHEDULE_START on an IDLE schedule: bursts_done becomes 0, then the start parameter decides
(R99). -/
def Schedule.started (x : Schedule) : Schedule :=
  match x.start with
  | .snap    => { x with burstsDone := 0, state := .armed, remaining := 0 }
  | .command => { x with burstsDone := 0 }.run

/-- A schedule that is stopped: IDLE with remaining 0; bursts_done keeps its value (R102). -/
def Schedule.stopped (x : Schedule) : Schedule := { x with state := .idle, remaining := 0 }

/-- Stops the schedule of a ring, with SCHEDULE_DONE of reason STOPPED unless it was IDLE (R18,
R102). -/
def State.stopSchedule (s : State) (r : RingId) : State :=
  if (s.sched r).state = .idle then s
  else (s.setSched r (s.sched r).stopped).raise { kind := .scheduleDone, ring := some r, detail := 2 }

/-- The code of a busy state in TRIGGER_IGNORED and of every state in QUERY_RING (R100, R180). -/
def SchedState.code : SchedState → Nat
  | .idle      => 0
  | .delay     => 1
  | .retaining => 2
  | .gap       => 3
  | .armed     => 4

/-- In DELAY, RETAINING and GAP a schedule is busy (R97). -/
def SchedState.busy : SchedState → Bool
  | .delay | .retaining | .gap => true
  | .idle | .armed => false

/-- The SNAP event at the schedule of one ring: it starts an ARMED one, and raises TRIGGER_IGNORED at
a busy one whose start is SNAP (R100). -/
def State.snapAt (s : State) (r : RingId) : State :=
  let x := s.sched r
  match x.start with
  | .command => s
  | .snap =>
    if x.state = .armed then s.setSched r x.run
    else if x.state.busy then
      s.raise { kind := .triggerIgnored, ring := some r, detail := x.state.code }
    else s

/-- A SNAP event: every ring's schedule, 0 to 3 (R92, R100). -/
def State.snapEvent (s : State) : State := allRings.foldl State.snapAt s

/-- A completed burst: the end of the schedule, a gap, or the next burst at once (R105). -/
def Schedule.burstEnd (x : Schedule) : Schedule :=
  let done := (x.burstsDone + 1) % 256
  if x.bursts ≠ 0 ∧ done = x.bursts then { x with burstsDone := done, state := .idle, remaining := 0 }
  else if 0 < x.gap then { x with burstsDone := done, state := .gap, remaining := x.gap }
  else { x with burstsDone := done, remaining := x.burst }

/-- The counting step of a schedule (R105, R106). -/
def Schedule.step (x : Schedule) : Schedule :=
  match x.state with
  | .idle | .armed => x
  | .delay | .gap =>
    if x.remaining - 1 = 0 then { x with state := .retaining, remaining := x.burst }
    else { x with remaining := x.remaining - 1 }
  | .retaining =>
    if x.burst = 0 then x
    else if x.remaining - 1 = 0 then x.burstEnd
    else { x with remaining := x.remaining - 1 }

/-- Stage 3 of a producer boundary: the schedule counts one boundary; at its end it raises
SCHEDULE_DONE of reason COMPLETE with the frame published at this boundary, if one was (R61, R105). -/
def State.stepSchedule (s : State) (r : RingId) (published : Option Nat) : State :=
  let x := s.sched r
  let s1 := s.setSched r x.step
  if x.state = .retaining ∧ x.step.state = .idle then
    s1.raise { kind := .scheduleDone, ring := some r, frame := published, detail := 1 }
  else s1

end Sys2Proof.Machine
end

