-- ==== Sys2Proof/Machine/Boundary.lean ====
section
/-! DEFINITION. Boundaries: the bind (R63 to R65), the producer boundary operation (R54 to R62), the
consumer boundary operation (R72 to R81), delivery, the divider, deferral and merging (R55, R56,
R89, R90). -/

namespace Sys2Proof.Machine

/-! ### The bind -/

/-- A slot after a bind: FILLING with the frame number just issued (R3, R63). -/
def Slot.filling (x : Slot) (frame : Nat) : Slot :=
  { x with frame := some frame, written := false, faulted := false, holders := 0, passedBy := 0,
           retained := false, releaseRequested := false }

/-- A producer takes a slot to fill; it becomes or stays WRITING (R63). -/
def State.fill (s : State) (a : ApId) (sl : SlotId) (frame : Nat) : State :=
  (s.setSlot sl ((s.slot sl).filling frame)).setApState a (.bound sl)

/-- A slot may be stolen: no holders, not retained, not the newest READY slot (R64). -/
def State.stealable (s : State) (r : RingId) (sl : SlotId) : Bool :=
  decide ((s.slot sl).holders = 0) && !(s.slot sl).retained && decide (s.newestReady r ≠ some sl)

/-- The ON ORDERED consumers of a ring that are not in a slot's passed_by set (R64). -/
def State.missedBy (s : State) (r : RingId) (sl : SlotId) : ApSet :=
  s.orderedConsumers r &&& ~~~(s.slot sl).passedBy

/-- A producer finds no slot: it is STARVED and the frame number is spent (R65). -/
def State.starve (s : State) (a : ApId) (r : RingId) (frame detail : Nat) : State :=
  (s.setApState a .unbound).raise
    { kind := .producerStarved, ring := some r, aperture := some a, frame := some frame,
      detail := detail }

/-- A steal: the slot leaves the ready list and is bound, with FRAME_DROPPED for the frame
overwritten (R64). -/
def State.steal (s : State) (a : ApId) (r : RingId) (sl : SlotId) (frame : Nat) : State :=
  ((s.leaveReady r sl).fill a sl frame).raise
    { kind := .frameDropped, ring := some r, aperture := some a, slot := some sl,
      frame := (s.slot sl).frame, detail := (s.missedBy r sl).toNat }

/-- The frame counter advances by 1, from 0xFFFFFFFF to 1 (R11, R63). -/
def State.advanceFrame (s : State) (r : RingId) : State :=
  s.setRing r { s.ring r with frameCounter := wrapNext 0xFFFFFFFF (s.ring r).frameCounter }

/-- The bind stage: the counter advances, and the producer takes the free head, or steals, or starves
(R63 to R65). -/
def State.bind (s : State) (a : ApId) (r : RingId) : State :=
  let s1 := s.advanceFrame r
  let frame := (s1.ring r).frameCounter
  match (s1.ring r).free with
  | sl :: rest => (s1.setRing r { s1.ring r with free := rest }).fill a sl frame
  | [] =>
    match (s1.ring r).overflow with
    | .dropNew => s1.starve a r frame 0
    | .overwriteOldest =>
      match (s1.ring r).ready.find? (s1.stealable r) with
      | some sl => s1.steal a r sl frame
      | none    => s1.starve a r frame 1

/-! ### Publish -/

/-- A read stalled on an acquiring aperture is translated into the acquired slot and forwarded, under
the window base it was accepted with (R40, log 18). -/
def State.forwardStall (s : State) (a : ApId) (r : RingId) (sl : SlotId) : State :=
  match s.steering.phase with
  | .stalled t b base _ => if b = a then s.forwardInto t a r base sl else s
  | _ => s

/-- Acquisition at publish for one aperture: a WAITING consumer of the ring takes the newest slot or
its ORDERED candidate (R81). -/
def State.acquireAtPublish (r : RingId) (s : State) (a : ApId) : State :=
  if ApSet.has (s.ring r).consumers a && decide ((s.ap a).state = .unbound) then
    match (s.ap a).config with
    | none   => s
    | some c =>
      match (match c.pick with
             | .newest  => s.newestReady r
             | .ordered => s.candidate a r) with
      | some sl => (s.acquire a r c.pick sl).forwardStall a r sl
      | none    => s
  else s

/-- Step 1 of the publish: the retention decision marks the slot, or the guard refuses it with
RETAIN_REFUSED (R103, R104). -/
def State.decideRetain (s : State) (a : ApId) (r : RingId) (sl : SlotId) : State :=
  if s.wantsRetain r then
    if s.guardAllows r then s.setSlot sl { s.slot sl with retained := true }
    else s.raise
      { kind := .retainRefused, ring := some r, aperture := some a, slot := some sl,
        frame := (s.slot sl).frame, detail := s.setAside r }
  else s

/-- Steps 2 and 3 of the publish: the slot leaves the aperture for the ready tail, with
FRAME_PUBLISHED (R58). -/
def State.toReady (s : State) (a : ApId) (r : RingId) (sl : SlotId) : State :=
  let s1 := s.setApState a .unbound
  (s1.setRing r { s1.ring r with ready := (s1.ring r).ready ++ [sl] }).raise
    { kind := .framePublished, ring := some r, aperture := some a, slot := some sl,
      frame := (s.slot sl).frame, detail := bit (s.slot sl).retained }

/-- Stage 2 for a written slot: decision, publish, acquisitions, reclamation check (R58). -/
def State.publish (s : State) (a : ApId) (r : RingId) (sl : SlotId) : State :=
  (allAps.foldl (State.acquireAtPublish r) ((s.decideRetain a r sl).toReady a r sl)).reclaimAll r

/-- Stage 2 for an unwritten slot: it returns to the free head with FRAME_EMPTY, and a retirement
waiting on it applies (R59). -/
def State.emptyReturn (s : State) (a : ApId) (r : RingId) (sl : SlotId) : State :=
  (((s.setApState a .unbound).joinFreeHead r sl).raise
    { kind := .frameEmpty, ring := some r, aperture := some a, slot := some sl,
      frame := (s.slot sl).frame }).applyRetirement sl

/-- Stage 2 of a producer boundary (R58 to R60). -/
def State.publishStage (s : State) (a : ApId) (r : RingId) : State :=
  match (s.ap a).state with
  | .bound sl => if (s.slot sl).written then s.publish a r sl else s.emptyReturn a r sl
  | _ => s

/-- The frame that stage 2 publishes, if it publishes one (R61). -/
def State.publishedFrame (s : State) (a : ApId) : Option Nat :=
  match (s.ap a).state with
  | .bound sl => if (s.slot sl).written then (s.slot sl).frame else none
  | _ => none

/-- Stages 2 to 5 of the producer boundary operation; stage 5 does not run for an aperture that a
DETACH has turned OFF (R54, R62). -/
def State.producerBoundary (s : State) (a : ApId) (r : RingId) : State :=
  let s1 := ((s.publishStage a r).stepSchedule r (s.publishedFrame a)).walkChanges a r
  if s1.apOn a then s1.bind a r else s1

/-! ### The consumer boundary operation -/

/-- The frame a VIEWING consumer moves to, if there is a newer one: NEWEST the newest READY slot if it
is not the bound one (R76), ORDERED its candidate (R77). -/
def State.pickNext (s : State) (a : ApId) (r : RingId) (pick : Pick) (sl : SlotId) :
    Option SlotId :=
  match pick with
  | .newest  => if s.newestReady r = some sl then none else s.newestReady r
  | .ordered => s.candidate a r

/-- The slots whose passed_by set grows when a consumer acquires a slot (R13, R77). -/
def State.growing (s : State) (a : ApId) (r : RingId) (pick : Pick) (sl : SlotId) : List SlotId :=
  match pick with
  | .newest  => []
  | .ordered => (s.readyThrough r sl).filter fun x => !ApSet.has (s.slot x).passedBy a

/-- Stages 3 and 4 of a consumer boundary: the pick, what on_empty does without a new frame, and the
reclamation check (R76 to R80). -/
def State.pickStage (s : State) (a : ApId) (c : ApConfig) : State :=
  match (s.ap a).state with
  | .bound sl =>
    match s.pickNext a c.ring c.pick sl with
    | some x =>
      ((s.releaseHold a).acquire a c.ring c.pick x).reclaim c.ring
        (sl :: s.growing a c.ring c.pick x)
    | none =>
      match c.onEmpty with
      | .repeatFrame => s
      | .strict      => (s.releaseHold a).reclaim c.ring [sl]
  | _ => s

/-- Stages 2 to 4 of the consumer boundary operation: a DETACH at stage 2 ends it (R72, R75). -/
def State.consumerBoundary (s : State) (a : ApId) : State :=
  let s1 := s.applyForAperture a
  match (s1.ap a).config with
  | some c => s1.pickStage a c
  | none   => s1

/-! ### Delivery (R55, R56, R89, R90) -/

/-- Runs the stages of an aperture's boundary after its deferral; the deferred field returns to none
(R55, R73). -/
def State.runBoundary (s : State) (a : ApId) : State :=
  let s1 := s.setAp a { s.ap a with deferred := false }
  match (s.ap a).config with
  | none   => s1
  | some c =>
    match c.role with
    | .producer => s1.producerBoundary a c.ring
    | .consumer => s1.consumerBoundary a

/-- A condition holds that defers the boundaries of an aperture (R55). -/
def State.mustDefer (s : State) (a : ApId) : Bool := s.inFlightThrough a || s.lockedThrough a

/-- An acted boundary: merged into a pending one, deferred, or run (R55, R56, R74). -/
def State.actBoundary (s : State) (a : ApId) : State :=
  if (s.ap a).deferred then
    s.raise
      { kind := .boundaryMerged, ring := s.ringOf a, aperture := some a,
        detail := (s.deferReasonNow a).code }
  else if s.mustDefer a then s.setAp a { s.ap a with deferred := true }
  else s.runBoundary a

/-- A boundary event delivered to one aperture: an ON aperture counts it, and the k-th is acted (R89,
R90). -/
def State.deliver (s : State) (a : ApId) : State :=
  match (s.ap a).config with
  | none   => s
  | some c =>
    if s.apOn a then
      if (s.ap a).count + 1 = c.divider then
        (s.setAp a { s.ap a with count := 0 }).actBoundary a
      else s.setAp a { s.ap a with count := (s.ap a).count + 1 }
    else s

end Sys2Proof.Machine
end

