-- ==== Sys2Proof/Machine/Settle.lean ====
section
/-! DEFINITION. Accepting transactions at the A-side port (R27 to R39, R44), and what follows within an
event once a transaction completes or the lock window moves: pending boundaries run, the Arbiter
decides, and waiting transactions are accepted (R55, R73, R136). -/

namespace Sys2Proof.Machine

/-! ### Acceptance -/

/-- The lock window at the acceptance of a transaction: a locked one opens it or takes it over with
its own opening aperture; any acceptance discards the expiry timer (R44, R45). -/
def LockWindow.accept (w : LockWindow) (t : Txn) (opening : Option ApId) : LockWindow :=
  if t.lock then .opened opening t.source none
  else
    match w with
    | .closed => .closed
    | .opened o src _ => .opened o src none

/-- The lock window as an acceptance leaves it. -/
def State.lockAccept (s : State) (t : Txn) (opening : Option ApId) : State :=
  { s with steering := { s.steering with lock := s.steering.lock.accept t opening } }

/-- A refusal: FAULT at acceptance with ACCESS_FAULT, whose detail is the cause and the source tag
(R31, R32, R161). DESIGN CHOICE (log 37): the note comes before those of a pending boundary that the
completion or the passing of the lock window frees (`State.drainPort`), which no rule orders. -/
def State.refuse (s : State) (t : Txn) (a : ApId) (slot : Option SlotId) (cause : Nat) : State :=
  ((s.lockAccept t none).answerFault t).raise
    { kind := .accessFault, ring := s.ringOf a, aperture := some a, slot := slot,
      frame := some t.address.toNat, detail := pairDetail cause t.source.val }

/-- A WRITE forwarded into a producer's slot marks it written (R33). -/
def State.markWritten (s : State) (t : Txn) (sl : SlotId) : State :=
  match t.kind with
  | .write => s.setSlot sl { s.slot sl with written := true }
  | .read  => s

/-- A transaction wholly inside the window of one ON aperture that has passed the source and role
checks, by role and state (R33 to R35, R39). -/
def State.acceptPassed (s : State) (t : Txn) (a : ApId) (c : ApConfig) : State :=
  match c.role, (s.ap a).state with
  | .producer, .bound sl => (s.markWritten t sl).forwardInto t a c.ring c.windowBase sl
  | .producer, _ =>
    match t.kind with
    | .write => s.answer t .okay []
    | .read  => s.answer t .okay (fillData c.fill t.beats)
  | .consumer, .bound sl => s.forwardInto t a c.ring c.windowBase sl
  | .consumer, _ =>
    match c.stall with
    | .blank => s.answer t .okay (fillData c.fill t.beats)
    | .wait =>
      { s with steering := { s.steering with
          phase := .stalled t a c.windowBase (if c.timeout = 0 then none else some c.timeout) } }

/-- A transaction wholly inside the window of one ON aperture: the source check, then the role check,
then the aperture (R32). -/
def State.acceptInside (s : State) (t : Txn) (a : ApId) (c : ApConfig) : State :=
  if !ApSet.has c.sources t.source then s.refuse t a (s.boundSlot a) 2
  else if t.kind = .write ∧ c.role = .consumer then s.refuse t a (s.boundSlot a) 3
  else (s.lockAccept t (some a)).acceptPassed t a c

/-- The bytes of a transaction that lie below the top of the address space (R28). -/
def bytesBelowTop (t : Txn) : Nat := min (8 * t.beats) (2 ^ 32 - t.address.toNat)

/-- Every byte of the transaction lies in the window (R28). -/
def ApConfig.holdsWhole (c : ApConfig) (t : Txn) : Bool :=
  decide (c.windowBase.toNat ≤ t.address.toNat) &&
    decide (t.address.toNat + 8 * t.beats ≤ c.windowBase.toNat + 2 ^ c.windowSize)

/-- Accepts a transaction in OPEN and decides it: passed through unchanged, refused as a straddle, or
handled by the one aperture whose window holds all of it (R28, R30, R31). -/
def State.accept (s : State) (t : Txn) : State :=
  match s.windowsHit t.address.toNat (bytesBelowTop t) with
  | [] => (s.lockAccept t none).forward t t none
  | [a] =>
    match (s.ap a).config with
    | some c => if c.holdsWhole t then s.acceptInside t a c else s.refuse t a none 1
    | none   => s.refuse t a none 1
  | a :: _ => s.refuse t a none 1

/-- In OPEN, the transaction the port sees is accepted at once (R27). -/
def State.acceptNext (s : State) : State :=
  match s.steering.phase, s.steering.waiting with
  | .opened, t :: rest => { s with steering := { s.steering with waiting := rest } }.accept t
  | _, _ => s

/-! ### Pending boundaries and the end of an event -/

/-- A pending boundary can go on: no transaction through the aperture is in flight and the lock window
is not held through it (R55, R73). -/
def State.canRun (s : State) (a : ApId) : Bool :=
  s.apOn a && (s.ap a).deferred && !s.mustDefer a

/-- Runs the pending boundaries that can go on, in the order given, at most `n` of them. -/
def State.runPendingUpTo : Nat → List ApId → State → State
  | 0, _, s => s
  | n + 1, order, s =>
    match order.find? s.canRun with
    | some a => State.runPendingUpTo n order (s.runBoundary a)
    | none   => s

/-- Runs every pending boundary that can go on, the apertures of `order` first (log 8). -/
def State.runPending (s : State) (order : List ApId) : State :=
  State.runPendingUpTo 8 (inOrder order) s

/-- Accepts waiting transactions while the Steering Unit is OPEN, at most `n`, each with what follows
from it. -/
def State.drainPort : Nat → State → State
  | 0, s => s
  | n + 1, s =>
    match s.steering.phase, s.steering.waiting with
    | .opened, _ :: _ => State.drainPort n (s.acceptNext.runPending []).arbitrate
    | _, _ => s

/-- Accepts the waiting transactions while the Steering Unit is OPEN (R27). -/
def State.drainAll (s : State) : State := State.drainPort s.steering.waiting.length s

/-- What ends an event that completed a transaction inside the part, moved the lock window or ran a
boundary: pending boundaries that can go on run, the Arbiter decides, and waiting transactions are
accepted (R55, R136, log 19). -/
def State.finish (s : State) (order : List ApId) : State :=
  (s.runPending order).arbitrate.drainAll

/-- A boundary event of one aperture with all that follows from it (R89). -/
def State.boundaryAt (s : State) (a : ApId) : State := (s.deliver a).finish []

/-- The line an aperture selects is the one named (R89). -/
def lineSelected (l : FrameLine) (c : ApConfig) : Bool :=
  match l, c.line with
  | .a, .a => true
  | .b, .b => true
  | _, _   => false

/-- A boundary event of a line, delivered to every ON aperture that selects it; the deliveries run in
the order given, since either may run first (R89, R91, log 8). -/
def State.lineEvent (s : State) (l : FrameLine) (order : List ApId) : State :=
  (inOrder order).foldl (fun t a =>
    match (t.ap a).config with
    | some c => if t.apOn a && lineSelected l c then t.boundaryAt a else t
    | none   => t) s

end Sys2Proof.Machine
end

