-- ==== Sys2Proof/Machine/ApertureCommands.lean ====
section
/-! DEFINITION. APERTURE_SETUP, APERTURE_ON, APERTURE_OFF, APERTURE_MODIFY, SET_OVERFLOW and
CANCEL_CHANGE (spec/03, spec/04, spec/09, R178). -/

namespace Sys2Proof.Machine

/-! ### APERTURE_SETUP (R49) -/

/-- APERTURE_SETUP: an OFF aperture, a ring with a slot size, an aligned window base; the window size
is the ring's slot size and no run-time field changes (R49). -/
def actApertureSetup (s : State) (x : SetupArgs) : Answer :=
  if s.apOn x.aperture then s.deny .wrongState
  else
    match (s.ring x.config.ring).slotSize with
    | none   => s.deny .wrongState
    | some e =>
      if x.config.windowBase.toNat % 2 ^ e ≠ 0 then s.deny .badArg
      else (s.setConfig x.aperture { x.config with windowSize := e }).done

/-- APERTURE_SETUP. -/
def execApertureSetup (req : Request) (s : State) : Host.Outcome State Fault Refusal :=
  .next (s.takeCommand 0x10 argsApertureSetup req actApertureSetup)

/-! ### APERTURE_ON (R51, R69, R178) -/

/-- The role of the ring is taken: it has a producer already, or three ON consumers (R178). -/
def State.roleTaken (s : State) (c : ApConfig) : Bool :=
  match c.role with
  | .producer => (s.ring c.ring).producer.isSome
  | .consumer => decide (3 ≤ ApSet.size (s.ring c.ring).consumers)

/-- The window of an aperture overlaps that of an ON aperture or an assigned slot's region (R178). -/
def State.windowTaken (s : State) (c : ApConfig) : Bool :=
  s.overlapsSlot c.windowBase.toNat (2 ^ c.windowSize) ||
    !(s.windowsHit c.windowBase.toNat (2 ^ c.windowSize)).isEmpty

/-- An aperture turned ON has a divider count of 0 and no deferred boundary (R51, R69). -/
def State.freshOn (s : State) (a : ApId) : State :=
  s.setAp a { s.ap a with state := .unbound, count := 0, deferred := false }

/-- A producer turned ON: the ring's producer field takes its id, and the bind stage runs (R51). -/
def State.producerOn (s : State) (a : ApId) (r : RingId) : State :=
  ((s.setRing r { s.ring r with producer := some a }).freshOn a).bind a r

/-- A consumer turned ON: the ring's consumers field gains its id, and it acquires the newest READY
slot whatever its pick, or becomes WAITING (R69). -/
def State.consumerOn (s : State) (a : ApId) (c : ApConfig) : State :=
  let r := c.ring
  let s1 := (s.setRing r { s.ring r with
    consumers := ApSet.insert (s.ring r).consumers a }).freshOn a
  match s1.newestReady r with
  | none    => s1
  | some sl => (s1.acquire a r c.pick sl).reclaim r (s1.growing a r c.pick sl)

/-- APERTURE_ON with its checks in order (R178). -/
def actApertureOn (s : State) (a : ApId) : Answer :=
  if s.apOn a then s.deny .wrongState
  else
    match (s.ap a).config with
    | none   => s.deny .wrongState
    | some c =>
      if !(s.ring c.ring).on then s.deny .wrongState
      else if s.roleTaken c then s.deny .conflict
      else if s.windowTaken c then s.deny .conflict
      else
        match c.role with
        | .producer => (s.producerOn a c.ring).done
        | .consumer => (s.consumerOn a c).done

/-- APERTURE_ON. -/
def execApertureOn (req : Request) (s : State) : Host.Outcome State Fault Refusal :=
  .next (s.takeCommand 0x11 argsAperture req actApertureOn)

/-! ### APERTURE_OFF (R52, R70, R147) -/

/-- A STARVED producer turns OFF at once; the entries waiting for it apply, then those of the ring that
has lost its producer (R52, R147). -/
def State.producerOffNow (s : State) (a : ApId) (r : RingId) : State :=
  ((s.producerOff a r).applyForAperture a).applyForRing r

/-- A WAITING consumer turns OFF at once, with the reclamation checks of an ORDERED one; the entries
waiting for it apply (R70, R147). A stalled read answered by this completes, so what follows from
that comes within the command. DESIGN CHOICE (log 35): no rule orders the waiting entries and the pending
boundary of another aperture that the completion frees; the entries come first. -/
def State.consumerOffNow (s : State) (a : ApId) (c : ApConfig) : State :=
  let s1 := s.consumerOff a c.ring
  ((s1.reclaim c.ring (s1.offChecks c.ring c.pick none)).applyForAperture a).finish []

/-- APERTURE_OFF: at once on an OFF, STARVED or WAITING aperture; a DETACH is queued for a WRITING or
VIEWING one (R147). -/
def actApertureOff (s : State) (x : ApId × Nat) : Answer :=
  let (a, expiry) := x
  match (s.ap a).state, (s.ap a).config with
  | .off, _ => s.done
  | .bound _, _ => s.queueAnswer (.aperture a .detach) expiry
  | .unbound, none => s.done
  | .unbound, some c =>
    match c.role with
    | .producer => (s.producerOffNow a c.ring).done
    | .consumer => (s.consumerOffNow a c).done

/-- APERTURE_OFF. -/
def execApertureOff (req : Request) (s : State) : Host.Outcome State Fault Refusal :=
  .next (s.takeCommand 0x12 argsApertureOff req actApertureOff)

/-! ### APERTURE_MODIFY (R146) -/

/-- A MOVE_WINDOW base that is not a multiple of the ring's slot size (R146). -/
def State.baseUnaligned (s : State) (c : ApConfig) (x : ApChange) : Bool :=
  match x with
  | .moveWindow base => decide (base.toNat % s.slotBytes c.ring ≠ 0)
  | _ => false

/-- A MOVE_WINDOW of an ON aperture whose new window is in the way (R146). -/
def State.moveBlocked (s : State) (a : ApId) (c : ApConfig) (x : ApChange) : Bool :=
  match x with
  | .moveWindow base => s.windowBlocked a c base
  | _ => false

/-- APERTURE_MODIFY: at once on an OFF aperture, queued for an ON one (R146). -/
def actApertureModify (s : State) (x : ApId × ApChange × Nat) : Answer :=
  let (a, change, expiry) := x
  match (s.ap a).config with
  | none   => s.deny .wrongState
  | some c =>
    if s.baseUnaligned c change then s.deny .badArg
    else if s.apOn a then
      if s.moveBlocked a c change then s.deny .conflict
      else s.queueAnswer (.aperture a change) expiry
    else (s.writeChange a c change).done

/-- APERTURE_MODIFY. -/
def execApertureModify (req : Request) (s : State) : Host.Outcome State Fault Refusal :=
  .next (s.takeCommand 0x13 argsApertureModify req actApertureModify)

/-! ### SET_OVERFLOW, CANCEL_CHANGE (R148, R157) -/

/-- SET_OVERFLOW: at once on a ring without an ON producer, queued otherwise (R148). -/
def actSetOverflow (s : State) (x : RingId × Overflow × Nat) : Answer :=
  let (r, o, expiry) := x
  if (s.ring r).producer.isSome then s.queueAnswer (.setOverflow r o) expiry
  else (s.setRing r { s.ring r with overflow := o }).done

/-- SET_OVERFLOW. -/
def execSetOverflow (req : Request) (s : State) : Host.Outcome State Fault Refusal :=
  .next (s.takeCommand 0x14 argsSetOverflow req actSetOverflow)

/-- CANCEL_CHANGE: the entry with the seq leaves with no note; a cancelled RETIRE_SLOT clears its
slot's retire_pending; the result holds kind number and target id (R157, R174). -/
def actCancelChange (s : State) (seq : Nat) : Answer :=
  match s.changes.entries.find? fun e => decide (e.seq = seq) with
  | none   => s.deny .noEntry
  | some e =>
    if seq = 0 then s.deny .noEntry
    else ((s.removeChange e).clearRetirePending e.op).doneWith
      [packWord e.op.number e.op.targetId 0 0]

/-- CANCEL_CHANGE. -/
def execCancelChange (req : Request) (s : State) : Host.Outcome State Fault Refusal :=
  .next (s.takeCommand 0x18 (argsRange 0 65535) req actCancelChange)

end Sys2Proof.Machine
end

