-- ==== Sys2Proof/Machine/PartCommands.lean ====
section
/-! DEFINITION. SUMMARY, RESET_CORE, TIMEBASE, LINE_SETUP, BOUNDARY and SNAP (spec/11 R176, R177;
spec/05). -/

namespace Sys2Proof.Machine

/-! ### SUMMARY (R176) -/

/-- The state code of an aperture: 0 OFF, 1 STARVED or WAITING, 2 WRITING or VIEWING. -/
def ApState.code : ApState → Nat
  | .off     => 0
  | .unbound => 1
  | .bound _ => 2

/-- The role bit: 0 producer, 1 consumer. -/
def Role.code : Role → Nat
  | .producer => 0
  | .consumer => 1

/-- The phase code of the Steering Unit. -/
def SteeringPhase.code : SteeringPhase → Nat
  | .opened          => 0
  | .inFlight _ _    => 1
  | .stalled _ _ _ _ => 2

/-- The jobs in the copy queue (R117). -/
def CopyEngine.count (c : CopyEngine) : Nat := c.active.toList.length + c.queued.length

/-- The byte of one ring in word 1: bit 0 ON, bits 1 to 5 its pool. -/
def State.summaryRing (s : State) (r : RingId) : Nat :=
  bit (s.ring r).on + 2 * ((s.ring r).pool % 32)

/-- The four bits of one aperture in word 2: state, role, set up. -/
def State.summaryAperture (s : State) (a : ApId) : Nat :=
  (s.ap a).state.code + 8 * bit (s.ap a).config.isSome +
    match (s.ap a).config with
    | some c => 4 * Role.code c.role
    | none   => 0

/-- The four words of SUMMARY. -/
def State.summaryWords (s : State) : List Word :=
  [ packHalves 2240 0,
    packWord (s.summaryRing 0) (s.summaryRing 1) (s.summaryRing 2) (s.summaryRing 3),
    packWord (s.summaryAperture 0 + 16 * s.summaryAperture 1)
      (s.summaryAperture 2 + 16 * s.summaryAperture 3)
      (s.summaryAperture 4 + 16 * s.summaryAperture 5)
      (s.summaryAperture 6 + 16 * s.summaryAperture 7),
    packWord s.notes.queue.length s.changes.entries.length s.copy.count
      (s.steering.phase.code + 4 * bit s.lockOpen) ]

/-- SUMMARY: four words, and RESET_SEEN is cleared once reported. -/
def actSummary (s : State) (_ : Unit) : Answer :=
  { state := s, status := .done, words := s.summaryWords, clears := .resetSeen }

/-- SUMMARY. -/
def execSummary (req : Request) (s : State) : Host.Outcome State Fault Refusal :=
  .next (s.takeCommand 0x01 argsNone req actSummary)

/-! ### RESET_CORE (R177) -/

/-- A stalled read is answered FAULT with cause RESET (R43). -/
def State.resetStall (s : State) : State :=
  match s.steering.phase with
  | .stalled t _ _ _ => s.answerFault t
  | _ => s

/-- The Steering Unit after RESET_CORE: a transaction in flight stays so, but no longer belongs to an
aperture; the lock window is CLOSED (R48, log 25). -/
def Steering.afterCoreReset (x : Steering) : Steering :=
  { phase :=
      match x.phase with
      | .inFlight t _ => .inFlight t none
      | _ => .opened
    waiting := x.waiting
    lock := .closed }

/-- Every block but the Management Link Controller takes its RESET_CORE values, the port keeps the
transaction on it and a waiting STEERING claim stays (R25, R48, R67, R95, R115, R132, R143, R159,
R167); RESET_SEEN becomes yes. -/
def State.coreReset (s : State) (levels : LineLevels) : State :=
  let s1 := s.resetStall
  { pending   := s1.pending
    link      := { s1.link with resetSeen := true }
    lines     := Lines.atReset levels
    slots     := Vector.replicate 16 Slot.unassigned
    rings     := Vector.replicate 4 Ring.atReset
    apertures := Vector.replicate 8 Aperture.atReset
    schedules := Vector.replicate 4 Schedule.atReset
    steering  := s1.steering.afterCoreReset
    arbiter   := { Arbiter.atReset with
      port := s1.arbiter.port, steeringClaim := s1.arbiter.steeringClaim }
    copy      := CopyEngine.atReset
    changes   := ChangeQueue.atReset
    notes     := NoteQueue.atReset
    aOut      := s1.aOut
    freeReads := s1.freeReads }

/-- RESET_CORE is accepted in any state; a transaction that waited behind a stalled read is accepted
with the reset Aperture Table (R48, R177). -/
def actResetCore (levels : LineLevels) (s : State) (_ : Unit) : Answer :=
  ((s.coreReset levels).finish []).done

/-- RESET_CORE. -/
def execResetCore (req : Request) (levels : LineLevels) (s : State) :
    Host.Outcome State Fault Refusal :=
  .next (s.takeCommand 0x02 argsNone req (actResetCore levels))

/-! ### TIMEBASE and LINE_SETUP (R86, R93) -/

/-- TIMEBASE: the new divisor; the period count returns to 0 (R93). -/
def actTimebase (s : State) (divisor : Nat) : Answer :=
  State.done { s with lines := { s.lines with divisor := divisor, periods := 0 } }

/-- TIMEBASE. -/
def execTimebase (req : Request) (s : State) : Host.Outcome State Fault Refusal :=
  .next (s.takeCommand 0x03 (argsRange 1 1024) req actTimebase)

/-- The Line Inputs with a new active edge for one line (R86). -/
def Lines.withEdge (l : Lines) (line : PinLine) (e : Edge) : Lines :=
  match line with
  | .frameA => { l with edgeA := e }
  | .frameB => { l with edgeB := e }
  | .snap   => { l with edgeSnap := e }

/-- LINE_SETUP: the new selection; no event (R86). -/
def actLineSetup (s : State) (x : PinLine × Edge) : Answer :=
  State.done { s with lines := s.lines.withEdge x.1 x.2 }

/-- LINE_SETUP. -/
def execLineSetup (req : Request) (s : State) : Host.Outcome State Fault Refusal :=
  .next (s.takeCommand 0x04 argsLineSetup req actLineSetup)

/-! ### BOUNDARY and SNAP (R87, R88, R92) -/

/-- BOUNDARY to a line acts as an edge on it; to an aperture, which must be ON, it acts on that
aperture alone (R87, R88). -/
def actBoundaryCommand (order : List ApId) (s : State) (target : BoundaryTarget) : Answer :=
  match target with
  | .line l => (s.lineEvent l order).done
  | .aperture a => if s.apOn a then (s.boundaryAt a).done else s.deny .wrongState

/-- BOUNDARY. -/
def execBoundary (req : Request) (order : List ApId) (s : State) :
    Host.Outcome State Fault Refusal :=
  .next (s.takeCommand 0x05 argsBoundary req (actBoundaryCommand order))

/-- SNAP: a SNAP event for every ring's schedule (R92). -/
def actSnap (s : State) (_ : Unit) : Answer := s.snapEvent.done

/-- SNAP. -/
def execSnap (req : Request) (s : State) : Host.Outcome State Fault Refusal :=
  .next (s.takeCommand 0x06 argsNone req actSnap)

end Sys2Proof.Machine
end

