-- ==== Sys2Proof/Machine/RingCommands.lean ====
section
/-! DEFINITION. RING_SETUP, RING_ON, RING_OFF, RING_FLUSH, SLOT_ASSIGN and SLOT_RETIRE (spec/01, R16 to
R23). -/

namespace Sys2Proof.Machine

/-! ### RING_SETUP, RING_ON (R16, R17) -/

/-- An aperture record is set up for the ring. -/
def State.anySetUpFor (s : State) (r : RingId) : Bool :=
  allAps.any fun a => decide (s.ringOf a = some r)

/-- A new exponent that differs from the ring's is in the way of its slots or its set-up apertures
(R16). -/
def State.sizeConflict (s : State) (r : RingId) (e : Nat) : Bool :=
  decide ((s.ring r).slotSize.isSome = true ∧ (s.ring r).slotSize ≠ some e) &&
    (decide ((s.ring r).pool ≠ 0) || s.anySetUpFor r)

/-- RING_SETUP (R16). -/
def actRingSetup (s : State) (x : RingId × Nat × Overflow) : Answer :=
  let (r, e, o) := x
  if (s.ring r).on then s.deny .wrongState
  else if s.sizeConflict r e then s.deny .conflict
  else (s.setRing r { s.ring r with slotSize := some e, overflow := o }).done

/-- RING_SETUP. -/
def execRingSetup (req : Request) (s : State) : Host.Outcome State Fault Refusal :=
  .next (s.takeCommand 0x08 argsRingSetup req actRingSetup)

/-- RING_ON: an OFF ring with a slot size and a pool of at least 2 (R17). -/
def actRingOn (s : State) (r : RingId) : Answer :=
  if !(s.ring r).on && (s.ring r).slotSize.isSome && decide (2 ≤ (s.ring r).pool) then
    (s.setRing r { s.ring r with on := true }).done
  else s.deny .wrongState

/-- RING_ON. -/
def execRingOn (req : Request) (s : State) : Host.Outcome State Fault Refusal :=
  .next (s.takeCommand 0x09 argsRing req actRingOn)

/-! ### RING_OFF (R18) -/

/-- An aperture of the ring is ON. -/
def State.anyOnFor (s : State) (r : RingId) : Bool :=
  allAps.any fun a => s.apOn a && decide (s.ringOf a = some r)

/-- The effects of RING_OFF: every READY slot leaves, the schedule stops, the ring becomes OFF, and
then the retirements waiting on the freed slots apply (R18, R154). -/
def State.ringOff (s : State) (r : RingId) : State :=
  let s1 := ((s.ring r).ready.foldl (fun t sl => t.dropReady r sl) s).stopSchedule r
  (s1.setRing r { s1.ring r with on := false }).applyRetirements
    ((s.ring r).ready.filter fun sl => !(s.slot sl).retained)

/-- RING_OFF: an ON ring with all of its apertures OFF (R18). -/
def actRingOff (s : State) (r : RingId) : Answer :=
  if (s.ring r).on && !s.anyOnFor r then (s.ringOff r).done else s.deny .wrongState

/-- RING_OFF. -/
def execRingOff (req : Request) (s : State) : Host.Outcome State Fault Refusal :=
  .next (s.takeCommand 0x0A argsRing req actRingOff)

/-! ### RING_FLUSH (R19, R20) -/

/-- Every VIEWING consumer of the ring releases its slot and goes to WAITING, with no reclamation
check (R19). -/
def State.releaseConsumers (s : State) (r : RingId) : State :=
  allAps.foldl (fun t a => if ApSet.has (t.ring r).consumers a then t.releaseHold a else t) s

/-- Every READY slot leaves the ready list in order: with keep_held a retained one for the held tail
with FRAME_HELD, and every other one for the free tail; then the waiting retirements apply (R19). -/
def State.flushReady (s : State) (r : RingId) (keepHeld : Bool) : State :=
  if keepHeld then
    ((s.ring r).ready.foldl (fun t sl => t.dropReady r sl) s).applyRetirements
      ((s.ring r).ready.filter fun sl => !(s.slot sl).retained)
  else
    ((s.ring r).ready.foldl (fun t sl => (t.leaveReady r sl).joinFreeTail r sl) s).applyRetirements
      (s.ring r).ready

/-- Every copy job of the ring is cancelled: the QUEUED ones in queue order, then the ACTIVE one
(R20, R128). -/
def State.cancelRingJobs (s : State) (r : RingId) : State :=
  let s1 := (s.copy.queued.filter fun j => decide (j.ring = r)).foldl State.abortQueued s
  match s1.copy.active with
  | some j => if j.job.ring = r then s1.cancelActive j else s1
  | none   => s1

/-- Every HELD slot of the ring: with no jobs it joins the free tail, otherwise its release is
requested (R20). -/
def State.flushHeld (s : State) (r : RingId) : State :=
  ((s.ring r).held.foldl (fun t sl =>
      if (t.slot sl).jobs = 0 then t.freeHeld r sl
      else t.setSlot sl { t.slot sl with releaseRequested := true }) s).applyRetirements
    ((s.ring r).held.filter fun sl => decide ((s.slot sl).jobs = 0))

/-- RING_FLUSH, in any ring state (R19, R20). -/
def actRingFlush (s : State) (x : RingId × Bool) : Answer :=
  let (r, keepHeld) := x
  let s1 := (s.releaseConsumers r).flushReady r keepHeld
  if keepHeld then s1.done else ((s1.cancelRingJobs r).flushHeld r).arbitrate.done

/-- RING_FLUSH. -/
def execRingFlush (req : Request) (s : State) : Host.Outcome State Fault Refusal :=
  .next (s.takeCommand 0x0B argsRingFlush req actRingFlush)

/-! ### SLOT_ASSIGN (R21) -/

/-- The region from a base for a length overlaps an assigned slot's region or an ON aperture's
window. -/
def State.regionTaken (s : State) (start len : Nat) : Bool :=
  s.overlapsSlot start len || !(s.windowsHit start len).isEmpty

/-- The slot takes the ring and base, joins the free tail, and the pool goes up by 1 (R21). -/
def State.assignSlot (s : State) (sl : SlotId) (r : RingId) (base : Addr) : State :=
  let s1 := (s.setSlot sl { Slot.unassigned with home := some { ring := r, base := base } })
    |>.joinFreeTail r sl
  s1.setRing r { s1.ring r with pool := (s1.ring r).pool + 1 }

/-- SLOT_ASSIGN with its checks in order (R21). -/
def actSlotAssign (s : State) (x : SlotId × RingId × Addr) : Answer :=
  let (sl, r, base) := x
  if (s.slot sl).home.isSome then s.deny .wrongState
  else if (s.ring r).slotSize.isNone then s.deny .wrongState
  else if base.toNat % s.slotBytes r ≠ 0 then s.deny .badArg
  else if s.regionTaken base.toNat (s.slotBytes r) then s.deny .conflict
  else (s.assignSlot sl r base).done

/-- SLOT_ASSIGN. -/
def execSlotAssign (req : Request) (s : State) : Host.Outcome State Fault Refusal :=
  .next (s.takeCommand 0x0C argsSlotAssign req actSlotAssign)

/-! ### SLOT_RETIRE (R22) -/

/-- SLOT_RETIRE: refused for an UNASSIGNED slot, for one whose retirement waits, and at the pool floor
of an ON ring; at once for a FREE slot; queued for any other (R22). -/
def actSlotRetire (s : State) (x : SlotId × Nat) : Answer :=
  let (sl, expiry) := x
  match (s.slot sl).home with
  | none   => s.deny .wrongState
  | some h =>
    if (s.slot sl).retirePending then s.deny .wrongState
    else if (s.ring h.ring).on = true ∧ (s.ring h.ring).pool ≤ 2 then s.deny .wrongState
    else if s.slotState sl = .free then (s.retire sl).done
    else if s.changesFull then s.deny .noSpace
    else (s.setSlot sl { s.slot sl with retirePending := true }).queueAnswer (.retireSlot sl) expiry

/-- SLOT_RETIRE. -/
def execSlotRetire (req : Request) (s : State) : Host.Outcome State Fault Refusal :=
  .next (s.takeCommand 0x0D argsSlotRetire req actSlotRetire)

end Sys2Proof.Machine
end

