-- ==== Sys2Proof/Machine/ScheduleCommands.lean ====
section
/-! DEFINITION. SCHEDULE_SETUP, SCHEDULE_START, SCHEDULE_STOP and RELEASE (spec/06). -/

namespace Sys2Proof.Machine

/-- SCHEDULE_SETUP: the five parameters of an IDLE schedule (R98). -/
def actScheduleSetup (s : State) (x : ScheduleArgs) : Answer :=
  if (s.sched x.ring).state = .idle then
    (s.setSched x.ring { s.sched x.ring with
      delay := x.delay, burst := x.burst, gap := x.gap, bursts := x.bursts, start := x.start }).done
  else s.deny .busy

/-- SCHEDULE_SETUP. -/
def execScheduleSetup (req : Request) (s : State) : Host.Outcome State Fault Refusal :=
  .next (s.takeCommand 0x20 argsScheduleSetup req actScheduleSetup)

/-- SCHEDULE_START: an IDLE schedule becomes ARMED, DELAY or RETAINING (R99). -/
def actScheduleStart (s : State) (r : RingId) : Answer :=
  if (s.sched r).state = .idle then (s.setSched r (s.sched r).started).done else s.deny .busy

/-- SCHEDULE_START. -/
def execScheduleStart (req : Request) (s : State) : Host.Outcome State Fault Refusal :=
  .next (s.takeCommand 0x21 argsRing req actScheduleStart)

/-- SCHEDULE_STOP: a schedule that is not IDLE ends with SCHEDULE_DONE of reason STOPPED (R102). -/
def actScheduleStop (s : State) (r : RingId) : Answer := (s.stopSchedule r).done

/-- SCHEDULE_STOP. -/
def execScheduleStop (req : Request) (s : State) : Host.Outcome State Fault Refusal :=
  .next (s.takeCommand 0x22 argsRing req actScheduleStop)

/-! ### RELEASE (R110 to R113) -/

/-- A held slot goes to the free tail, and a retirement waiting on it applies (R110). -/
def State.releaseHeld (s : State) (r : RingId) (sl : SlotId) : State :=
  (s.freeHeld r sl).applyRetirement sl

/-- BUSY with one word, 0 (R111, R112, R174). -/
def State.busyZero (s : State) : Answer := { state := s, status := .busy, words := [0] }

/-- RELEASE OLDEST (R111). -/
def releaseOldest (s : State) (r : RingId) : Answer :=
  match (s.ring r).held with
  | [] => s.deny .noEntry
  | sl :: _ =>
    if (s.slot sl).jobs = 0 then (s.releaseHeld r sl).doneWith [1] else s.busyZero

/-- The oldest held slot with a frame number; 0 never matches (R112, R119). -/
def State.heldWith (s : State) (r : RingId) (n : Nat) : Option SlotId :=
  (s.ring r).held.find? fun sl => decide (n ≠ 0) && decide ((s.slot sl).frame = some n)

/-- The oldest retained READY slot with a frame number (R112, log 21). -/
def State.retainedReadyWith (s : State) (r : RingId) (n : Nat) : Option SlotId :=
  (s.ring r).ready.find? fun sl =>
    decide (n ≠ 0) && decide ((s.slot sl).frame = some n) && (s.slot sl).retained

/-- RELEASE FRAME n (R112). -/
def releaseFrame (s : State) (r : RingId) (n : Nat) : Answer :=
  match s.heldWith r n with
  | some sl =>
    if (s.slot sl).jobs = 0 then (s.releaseHeld r sl).doneWith [1] else s.busyZero
  | none =>
    match s.retainedReadyWith r n with
    | some sl =>
      ((s.setSlot sl { s.slot sl with retained := false }).reclaim r [sl]).doneWith [0]
    | none => s.deny .noEntry

/-- RELEASE ALL: held slots without jobs go free, the others are skipped (R113). -/
def releaseAll (s : State) (r : RingId) : Answer :=
  let held := (s.ring r).held
  let idle := held.filter fun sl => decide ((s.slot sl).jobs = 0)
  match held with
  | [] => s.deny .noEntry
  | _ :: _ =>
    ((idle.foldl (fun t sl => t.freeHeld r sl) s).applyRetirements idle).doneWith
      [BitVec.ofNat 32 idle.length, BitVec.ofNat 32 (held.length - idle.length)]

/-- RELEASE by its selector (R110). -/
def actRelease (s : State) (x : RingId × Selector) : Answer :=
  match x.2 with
  | .oldest  => releaseOldest s x.1
  | .frame n => releaseFrame s x.1 n
  | .all     => releaseAll s x.1

/-- RELEASE. -/
def execRelease (req : Request) (s : State) : Host.Outcome State Fault Refusal :=
  .next (s.takeCommand 0x23 argsRelease req actRelease)

end Sys2Proof.Machine
end

