-- ==== Sys2Proof/Machine/CopyCommands.lean ====
section
/-! DEFINITION. COPY, COPY_CANCEL, COPY_SHARE and the responses to copy claims (spec/07, spec/08). -/

namespace Sys2Proof.Machine

/-! ### COPY (R119, R120) -/

/-- The length is a multiple of 8, at least 8 and at most the ring's slot size (R119). -/
def State.lengthOk (s : State) (x : CopyArgs) : Bool :=
  decide (x.length % 8 = 0) && decide (8 ≤ x.length) && decide (x.length ≤ s.slotBytes x.ring)

/-- The ids of the jobs in the copy queue (R117). -/
def CopyEngine.ids (c : CopyEngine) : List Nat :=
  c.active.toList.map (·.job.id) ++ c.queued.map (·.id)

/-- The job joins the tail of the copy queue with the next id, and the slot's jobs count goes up; into
an empty queue it becomes ACTIVE and presents its first read claim (R120). The counter advances, from
255 to 1, past the id of every job in the queue, since the ids "never collide with a job still in the
queue" (R118, log 31). -/
def State.submitJob (s : State) (x : CopyArgs) (sl : SlotId) : State :=
  let j : Job :=
    { id := s.copy.nextId, ring := x.ring, slot := sl, frame := x.frame, dest := x.dest,
      length := x.length, autoRelease := x.autoRelease, doneBytes := 0 }
  let s1 := s.setSlot sl { s.slot sl with jobs := (s.slot sl).jobs + 1 }
  let s2 := { s1 with copy := { s1.copy with
    nextId := nextUnused 255 (s1.copy.ids ++ [s1.copy.nextId]) s1.copy.nextId } }
  match s.copy.active with
  | none   => (s2.presentRead j).arbitrate
  | some _ => { s2 with copy := { s2.copy with queued := s2.copy.queued ++ [j] } }

/-- COPY with its checks in order (R119). -/
def actCopy (s : State) (x : CopyArgs) : Answer :=
  match s.heldWith x.ring x.frame with
  | none    => s.deny .noEntry
  | some sl =>
    if !s.lengthOk x then s.deny .badArg
    else if 2 ^ 32 < x.dest.toNat + x.length then s.deny .badArg
    else if s.regionTaken x.dest.toNat x.length then s.deny .conflict
    else if Config.jobCapacity ≤ s.copy.count then s.deny .noSpace
    else (s.submitJob x sl).doneWith [BitVec.ofNat 32 s.copy.nextId]

/-- COPY. -/
def execCopy (req : Request) (s : State) : Host.Outcome State Fault Refusal :=
  .next (s.takeCommand 0x28 argsCopy req actCopy)

/-! ### COPY_CANCEL, COPY_SHARE (R127, R138) -/

/-- COPY_CANCEL: the ACTIVE job, or a QUEUED one, with the id (R127). -/
def actCopyCancel (s : State) (id : Nat) : Answer :=
  if id = 0 then s.deny .noEntry
  else
    match s.copy.active with
    | none   => s.deny .noEntry
    | some j =>
      if j.job.id = id then (s.cancelActive j).arbitrate.done
      else
        match s.copy.queued.find? fun q => decide (q.id = id) with
        | some q => (s.abortQueued q).done
        | none   => s.deny .noEntry

/-- COPY_CANCEL. -/
def execCopyCancel (req : Request) (s : State) : Host.Outcome State Fault Refusal :=
  .next (s.takeCommand 0x29 (argsRange 0 255) req actCopyCancel)

/-- COPY_SHARE: the new K; share_count keeps its value and no grant decision is made (R138). -/
def actCopyShare (s : State) (k : Nat) : Answer :=
  State.done { s with arbiter := { s.arbiter with share := k } }

/-- COPY_SHARE. -/
def execCopyShare (req : Request) (s : State) : Host.Outcome State Fault Refusal :=
  .next (s.takeCommand 0x2A (argsRange 0 15) req actCopyShare)

/-! ### Responses to copy claims (R122, R123, R127, R132) -/

/-- The port becomes FREE. -/
def State.freePort (s : State) : State := { s with arbiter := { s.arbiter with port := none } }

/-- The response to a read claim at its job: a cancelled job ends ABORTED, a FAULT ends it FAILED, and
otherwise the data enters the staging buffer and the write claim is presented (R122, R127). -/
def State.readDone (s : State) (j : ActiveJob) (resp : MResponse) : State :=
  if j.cancelled then s.endActive j.job .copyAborted 1
  else
    match resp.outcome with
    | .fault => s.endActive j.job .copyFailed 1
    | .okay =>
      { s with copy := { s.copy with staging := resp.data.take j.job.nextBeats } }.presentWrite j.job

/-- A job after an OKAY write: done_bytes goes up by 8 times the beats (R123). -/
def Job.advanced (j : Job) : Job := { j with doneBytes := j.doneBytes + 8 * j.nextBeats }

/-- The response to a write claim at its job: ABORTED if cancelled, FAILED on FAULT, DONE when the whole
length is written, and otherwise the next read claim (R123, R125 to R127). -/
def State.writeDone (s : State) (j : ActiveJob) (outcome : BusOutcome) : State :=
  if j.cancelled then s.endActive j.job .copyAborted 1
  else
    match outcome with
    | .fault => s.endActive j.job .copyFailed 2
    | .okay =>
      if (Job.advanced j.job).length ≤ (Job.advanced j.job).doneBytes then
        s.endDone (Job.advanced j.job)
      else s.presentRead (Job.advanced j.job)

/-- The COPY transaction on the port, of a kind, if there is one. -/
def State.copyOnPort (s : State) (kind : TxnKind) : Bool :=
  match s.arbiter.port with
  | some g => decide (g.claimant = .copy) && decide (g.txn.kind = kind)
  | none   => false

/-- The job whose claim is on the port; none for a claim that RESET_CORE has orphaned, whose response
is discarded (R132). -/
def State.jobOnPort (s : State) : Option ActiveJob :=
  match s.copy.active with
  | some j => if j.granted then some j else none
  | none   => none

/-- COPY_READ_RESPONSE: the port becomes FREE, the engine acts, and the Arbiter decides (R136). With no
copy read on the port there is no such response and nothing happens. -/
def State.copyReadResponse (s : State) (resp : MResponse) : State :=
  if s.copyOnPort .read then
    (match s.jobOnPort with
     | some j => s.freePort.readDone j resp
     | none   => s.freePort).arbitrate
  else s

/-- COPY_WRITE_RESPONSE, in the same way. -/
def State.copyWriteResponse (s : State) (outcome : BusOutcome) : State :=
  if s.copyOnPort .write then
    (match s.jobOnPort with
     | some j => s.freePort.writeDone j outcome
     | none   => s.freePort).arbitrate
  else s

/-- COPY_READ_RESPONSE. -/
def execCopyReadResponse (resp : MResponse) (s : State) : Host.Outcome State Fault Refusal :=
  .next (s.copyReadResponse resp)

/-- COPY_WRITE_RESPONSE. -/
def execCopyWriteResponse (outcome : BusOutcome) (s : State) : Host.Outcome State Fault Refusal :=
  .next (s.copyWriteResponse outcome)

end Sys2Proof.Machine
end

