-- ==== Sys2Proof/Machine/Events.lean ====
section
/-! DEFINITION. The events that reach the part on its pins, its clock and its buses: POWER_ON_RESET,
BOUNDARY_EVENT, PENDING_BOUNDARY_RUN, SNAP_EDGE, TICK, STALL_TIMEOUT, LOCK_EXPIRY,
A_SIDE_TRANSACTION, STEERING_RESPONSE and REFCLK_PERIOD. An event whose condition does not hold
cannot occur and changes nothing (log 3). -/

namespace Sys2Proof.Machine

/-! ### Pins -/

/-- POWER_ON_RESET: every block and both buses; transactions in progress are lost (R24, R47, R131,
R143, R186). The queue of events to come stays, and so does the count of free values. -/
def State.powerOnReset (s : State) (levels : LineLevels) (selLow : Bool) : State :=
  State.powerOn levels selLow s.pending s.freeReads

/-- A transition from one level to another is the active edge (R85). -/
def Edge.isActive (e : Edge) (before after : Bool) : Bool :=
  match e with
  | .rising  => !before && after
  | .falling => before && !after

/-- FRAMEA or FRAMEB is sampled: an active edge is a boundary event of the line, and anything else
changes only the sampled level (R85, R89, log 7). -/
def State.sampleFrame (s : State) (line : FrameLine) (level : Bool) (order : List ApId) : State :=
  match line with
  | .a =>
    let s1 := { s with lines := { s.lines with levelA := level } }
    if s.lines.edgeA.isActive s.lines.levelA level then s1.lineEvent .a order else s1
  | .b =>
    let s1 := { s with lines := { s.lines with levelB := level } }
    if s.lines.edgeB.isActive s.lines.levelB level then s1.lineEvent .b order else s1

/-- SNAP is sampled: an active edge is a SNAP event (R85, R92, log 7). -/
def State.sampleSnap (s : State) (level : Bool) : State :=
  let s1 := { s with lines := { s.lines with levelSnap := level } }
  if s.lines.edgeSnap.isActive s.lines.levelSnap level then s1.snapEvent else s1

/-- PENDING_BOUNDARY_RUN: a pending boundary whose last condition has ended runs its stages (R55, R73,
log 9). -/
def State.runPendingAt (s : State) (a : ApId) : State :=
  if s.canRun a then (s.runBoundary a).finish [] else s

/-! ### The clock (R93, R94) -/

/-- REFCLK_PERIOD: a period that completes no tick (R93). -/
def State.refclkPeriod (s : State) : State :=
  if s.lines.periods + 1 < s.lines.divisor then
    { s with lines := { s.lines with periods := s.lines.periods + 1 } }
  else s

/-- A tick at the stall timer (R39, R94). -/
def SteeringPhase.tick : SteeringPhase → SteeringPhase
  | .stalled t a base (some n) => .stalled t a base (some (n - 1))
  | p => p

/-- A tick at the lock window's expiry timer (R45, R94). -/
def LockWindow.tick : LockWindow → LockWindow
  | .opened o src (some n) => .opened o src (some (n - 1))
  | w => w

/-- TICK: the period count reaches the divisor and returns to 0, and one tick is delivered to the two
timers of the Steering Unit (R93, R94). What a timer at 0 then does is STALL_TIMEOUT or LOCK_EXPIRY
(log 10). -/
def State.tick (s : State) : State :=
  if s.lines.divisor ≤ s.lines.periods + 1 then
    { s with
      lines := { s.lines with periods := 0 }
      steering := { s.steering with
        phase := s.steering.phase.tick, lock := s.steering.lock.tick } }
  else s

/-- STALL_TIMEOUT: the stall timer has run out; the read is answered FAULT with cause TIMEOUT and
CONSUMER_TIMEOUT is raised; the aperture stays WAITING (R41). DESIGN CHOICE (log 37): the note comes before
those of a pending boundary that the completion frees, which no rule orders. -/
def State.stallTimeout (s : State) : State :=
  match s.steering.phase with
  | .stalled t a _ (some 0) =>
    ((s.answerFault t).raise
      { kind := .consumerTimeout, ring := s.ringOf a, aperture := some a,
        frame := some t.address.toNat, detail := t.source.val }).finish []
  | _ => s

/-- LOCK_EXPIRY: the expiry timer has run out; the window closes and LOCK_EXPIRED is raised (R45). DESIGN
CHOICE (log 37): the note comes before those of a pending boundary that the closing frees, which no rule
orders. -/
def State.lockExpiry (s : State) : State :=
  match s.steering.lock with
  | .opened o src (some 0) =>
    ({ s with steering := { s.steering with lock := .closed } }.raise
      { kind := .lockExpired, ring := o.bind s.ringOf, aperture := o, detail := src.val }).finish []
  | _ => s

/-! ### The buses -/

/-- A_SIDE_TRANSACTION: a transaction presented at the A-side port is accepted at once in OPEN, and
waits at the port otherwise (R27, log 12). -/
def State.presentA (s : State) (t : Txn) : State :=
  State.drainAll { s with steering := { s.steering with waiting := s.steering.waiting ++ [t] } }

/-- The code of a transaction kind in MEMORY_FAULT (R161). -/
def TxnKind.code : TxnKind → Nat
  | .read  => 0
  | .write => 1

/-- A FAULT from memory to a translated transaction: the slot is faulted if it still holds the frame
recorded at acceptance, and MEMORY_FAULT is raised either way (R38). -/
def State.memoryFault (s : State) (t : Txn) (tg : Target) : State :=
  let x := s.slot tg.slot
  let s1 := if x.home.isSome = true ∧ x.frame.isSome = true ∧ x.frame = tg.frame then
      s.setSlot tg.slot { x with faulted := true }
    else s
  s1.raise
    { kind := .memoryFault, ring := some tg.ring, aperture := some tg.ap, slot := some tg.slot,
      frame := tg.frame, detail := pairDetail (TxnKind.code t.kind) t.source.val }

/-- What the response brings about at the slot it concerns, if any: nothing but for a FAULT to a
translated transaction (R30, R38). -/
def State.responseFault (s : State) (t : Txn) (target : Option Target) (outcome : BusOutcome) :
    State :=
  match target, outcome with
  | some tg, .fault => s.memoryFault t tg
  | _, _ => s

/-- A STEERING transaction is on the port. -/
def State.steeringOnPort (s : State) : Bool :=
  match s.arbiter.port with
  | some g => decide (g.claimant = .steering)
  | none   => false

/-- STEERING_RESPONSE: the response is returned unchanged and the Steering Unit is OPEN; then pending
boundaries that can go on run, a transaction waiting at the port is accepted, and the Arbiter decides,
all in this event (R30, R38, R48, R55, R136). With no STEERING transaction on the port there is no
such response and nothing happens. -/
def State.steeringResponse (s : State) (resp : MResponse) (order : List ApId) : State :=
  match s.steering.phase with
  | .inFlight t target =>
    if s.steeringOnPort then
      let s1 := { s with arbiter := { s.arbiter with port := none } }
      let s2 := (s1.answer t resp.outcome resp.data).responseFault t target resp.outcome
      (((s2.runPending order).acceptNext).runPending order).arbitrate.drainAll
    else s
  | _ => s

/-! ### The meanings -/

/-- POWER_ON_RESET. -/
def execPowerOnReset (levels : LineLevels) (selLow : Bool) (s : State) :
    Host.Outcome State Fault Refusal :=
  .next (s.powerOnReset levels selLow)

/-- BOUNDARY_EVENT. -/
def execBoundaryEvent (line : FrameLine) (level : Bool) (order : List ApId) (s : State) :
    Host.Outcome State Fault Refusal :=
  .next (s.sampleFrame line level order)

/-- PENDING_BOUNDARY_RUN. -/
def execPendingBoundaryRun (ap : ApId) (s : State) : Host.Outcome State Fault Refusal :=
  .next (s.runPendingAt ap)

/-- SNAP_EDGE. -/
def execSnapEdge (level : Bool) (s : State) : Host.Outcome State Fault Refusal :=
  .next (s.sampleSnap level)

/-- TICK. -/
def execTick (s : State) : Host.Outcome State Fault Refusal := .next s.tick

/-- STALL_TIMEOUT. -/
def execStallTimeout (s : State) : Host.Outcome State Fault Refusal := .next s.stallTimeout

/-- LOCK_EXPIRY. -/
def execLockExpiry (s : State) : Host.Outcome State Fault Refusal := .next s.lockExpiry

/-- A_SIDE_TRANSACTION. -/
def execASideTransaction (t : Txn) (s : State) : Host.Outcome State Fault Refusal :=
  .next (s.presentA t)

/-- STEERING_RESPONSE. -/
def execSteeringResponse (resp : MResponse) (order : List ApId) (s : State) :
    Host.Outcome State Fault Refusal :=
  .next (s.steeringResponse resp order)

/-- REFCLK_PERIOD. -/
def execRefclkPeriod (s : State) : Host.Outcome State Fault Refusal := .next s.refclkPeriod

end Sys2Proof.Machine
end

