-- ==== Sys2Proof/Machine/LinkExchange.lean ====
section
/-! DEFINITION. The framing of exchanges on the management link: SEL_FALL, SEL_RISE,
RESPONSE_COMPLETE, EXCESS_ARGUMENT_COUNT and BAD_COMMAND (spec/11, R168 to R173). -/

namespace Sys2Proof.Machine

/-- SEL falls: an exchange begins in REQUEST. With SEL low already there is no fall, so a low period
that began under reset is no exchange (R168). -/
def State.selFall (s : State) : State :=
  if s.link.selLow then s
  else { s with link := { s.link with selLow := true, phase := .request, request := [], response := none } }

/-- What the rise of SEL leaves of TRUNCATED and RESPONSE_LOST: a request cut short after at least one
bit, or a response cut short (R172). -/
def Link.afterRise (l : Link) (sclkPeriods : Nat) : Link :=
  { l with
    selLow := false, phase := .idle, request := [], response := none
    truncated := l.truncated || (decide (l.phase = .request) && decide (0 < sclkPeriods))
    responseLost := l.responseLost || decide (l.phase = .answer) }

/-- SEL rises: the controller returns to IDLE from any phase (R168, R172). -/
def State.selRise (s : State) (sclkPeriods : Nat) : State :=
  { s with link := s.link.afterRise sclkPeriods }

/-- The response's check byte has been clocked out: the controller is SPENT, and a sticky flag that
the response showed as yes becomes no (R168, R173). -/
def State.responseComplete (s : State) : State :=
  match s.link.phase, s.link.response with
  | .answer, some r =>
    { s with link := { s.link with
        phase := .spent
        truncated := s.link.truncated && !r.flags.getLsbD 2
        responseLost := s.link.responseLost && !r.flags.getLsbD 3 } }
  | _, _ => s

/-- A count byte above 6 ends the request at once: BAD_ARG, and nothing is taken (R169). Outside
REQUEST, or with a count the request goes on after, nothing happens. -/
def State.excessCount (s : State) (code count : Byte) : State :=
  if s.link.phase = .request ∧ 6 < count.toNat then (s.received [code, count]).reply .badArg []
  else s

/-- A request whose code is in no row of R174: BAD_CHECK if it does not balance, otherwise BAD_COMMAND
(R170). With a code that is in the table this is no such request and nothing happens (log 28). -/
def State.unknownCommand (s : State) (code : Byte) (req : Request) : State :=
  if s.link.phase ≠ .request ∨ commandCodes.contains code = true then s
  else if 6 < req.args.length then
    (s.received [code, BitVec.ofNat 8 req.args.length]).reply .badArg []
  else
    let s1 := s.received (requestBytes code req)
    if requestBalanced code req then s1.reply .badCommand [] else s1.reply .badCheck []

/-- SEL_FALL. -/
def execSelFall (s : State) : Host.Outcome State Fault Refusal := .next s.selFall

/-- SEL_RISE. -/
def execSelRise (sclkPeriods : Nat) (s : State) : Host.Outcome State Fault Refusal :=
  .next (s.selRise sclkPeriods)

/-- RESPONSE_COMPLETE. -/
def execResponseComplete (s : State) : Host.Outcome State Fault Refusal := .next s.responseComplete

/-- EXCESS_ARGUMENT_COUNT. -/
def execExcessArgumentCount (code count : Byte) (s : State) : Host.Outcome State Fault Refusal :=
  .next (s.excessCount code count)

/-- BAD_COMMAND. -/
def execBadCommand (code : Byte) (req : Request) (s : State) : Host.Outcome State Fault Refusal :=
  .next (s.unknownCommand code req)

end Sys2Proof.Machine
end

