-- ==== Sys2Proof/Machine/QueryCommands.lean ====
section
/-! DEFINITION. QUERY_RING, QUERY_SLOT, QUERY_APERTURE, QUERY_CHANGES, QUERY_JOBS, READ_NOTES and
NOTE_MASK, with the word layouts of section 11.4 (R179 to R185). -/

namespace Sys2Proof.Machine

/-! ### QUERY_RING (R180) -/

/-- The code of an overflow policy. -/
def Overflow.code : Overflow → Nat
  | .dropNew         => 0
  | .overwriteOldest => 1

/-- The code of a start setting. -/
def StartBy.code : StartBy → Nat
  | .command => 0
  | .snap    => 1

/-- The 16 bytes of the list area: free, ready, held, then 0xFF (R180). -/
def Ring.listArea (r : Ring) : List Nat :=
  ((r.free ++ r.ready ++ r.held).map (fun i : SlotId => i.val) ++ List.replicate 16 0xFF).take 16

/-- The word of the list area that starts at byte `i`; its most significant byte is the first. -/
def Ring.areaWord (r : Ring) (i : Nat) : Word :=
  packWord (r.listArea.getD (i + 3) 0xFF) (r.listArea.getD (i + 2) 0xFF)
    (r.listArea.getD (i + 1) 0xFF) (r.listArea.getD i 0xFF)

/-- The ten words of QUERY_RING. -/
def State.ringWords (s : State) (i : RingId) : List Word :=
  let r := s.ring i
  let x := s.sched i
  [ packWord (bit r.on) (r.slotSize.getD 0) (Overflow.code r.overflow) r.pool,
    BitVec.ofNat 32 r.frameCounter,
    packWord (idByte r.producer) r.consumers.toNat r.free.length r.ready.length,
    packWord r.held.length 0 0 0,
    r.areaWord 0, r.areaWord 4, r.areaWord 8, r.areaWord 12,
    packWord x.state.code (StartBy.code x.start) x.remaining x.burstsDone,
    packWord x.delay x.burst x.gap x.bursts ]

/-- QUERY_RING. -/
def actQueryRing (s : State) (r : RingId) : Answer := s.doneWith (s.ringWords r)

/-- QUERY_RING. -/
def execQueryRing (req : Request) (s : State) : Host.Outcome State Fault Refusal :=
  .next (s.takeCommand 0x30 argsRing req actQueryRing)

/-! ### QUERY_SLOT (R181) -/

/-- The code of a slot state. -/
def SlotState.code : SlotState → Nat
  | .unassigned => 0
  | .free       => 1
  | .filling    => 2
  | .ready      => 3
  | .held       => 4

/-- The four words of QUERY_SLOT. -/
def State.slotWords (s : State) (i : SlotId) : List Word :=
  let x := s.slot i
  [ packWord (s.slotState i).code (idByte (x.home.map (·.ring)))
      (bit x.written + 2 * bit x.faulted + 4 * bit x.retained + 8 * bit x.releaseRequested +
        16 * bit x.retirePending)
      x.jobs,
    s.slotBase i,
    BitVec.ofNat 32 (x.frame.getD 0),
    packWord x.holders.toNat x.passedBy.toNat 0 0 ]

/-- QUERY_SLOT. -/
def actQuerySlot (s : State) (sl : SlotId) : Answer := s.doneWith (s.slotWords sl)

/-- QUERY_SLOT. -/
def execQuerySlot (req : Request) (s : State) : Host.Outcome State Fault Refusal :=
  .next (s.takeCommand 0x31 argsSlot req actQuerySlot)

/-! ### QUERY_APERTURE (R179, R182) -/

/-- The code of a line selection. -/
def LineSel.code : LineSel → Nat
  | .a      => 0
  | .b      => 1
  | .noLine => 2

/-- The code of a pick. -/
def Pick.code : Pick → Nat
  | .newest  => 0
  | .ordered => 1

/-- The code of an on_empty setting. -/
def OnEmpty.code : OnEmpty → Nat
  | .repeatFrame => 0
  | .strict      => 1

/-- The code of a stall policy. -/
def StallPolicy.code : StallPolicy → Nat
  | .wait  => 0
  | .blank => 1

/-- The configuration words 0 to 4 (R179); for an aperture not set up, its id and zeros (R182). -/
def configWords (a : ApId) (c : Option ApConfig) : List Word :=
  match c with
  | none => [packWord a.val 0 0 0, 0, 0, 0, 0]
  | some c =>
    [ packWord a.val c.ring.val (Role.code c.role) (LineSel.code c.line),
      c.windowBase,
      packWord c.sources.toNat c.divider (Pick.code c.pick) (OnEmpty.code c.onEmpty),
      packHalves c.timeout (StallPolicy.code c.stall),
      c.fill ]

/-- The seven words of QUERY_APERTURE. -/
def State.apertureWords (s : State) (a : ApId) : List Word :=
  let x := s.ap a
  configWords a x.config ++
    [ packWord x.state.code (idByte (s.boundSlot a)) x.count
        (match s.deferredReason a with
         | none   => 0
         | some d => d.code),
      packWord (bit x.config.isSome)
        (match x.config with
         | none   => 0
         | some c => c.windowSize) 0 0 ]

/-- QUERY_APERTURE. -/
def actQueryAperture (s : State) (a : ApId) : Answer := s.doneWith (s.apertureWords a)

/-- QUERY_APERTURE. -/
def execQueryAperture (req : Request) (s : State) : Host.Outcome State Fault Refusal :=
  .next (s.takeCommand 0x32 argsAperture req actQueryAperture)

/-! ### QUERY_CHANGES (R183) -/

/-- The value word of an entry, as APERTURE_MODIFY encodes it. -/
def ChangeOp.valueWord : ChangeOp → Word
  | .aperture _ (.moveWindow base)  => base
  | .aperture _ (.setSources m)     => packWord m.toNat 0 0 0
  | .aperture _ (.setPick p oe)     => packWord (Pick.code p) (OnEmpty.code oe) 0 0
  | .aperture _ (.setStall st t _)  => packHalves t (StallPolicy.code st)
  | .aperture _ (.setDivider k)     => packWord k 0 0 0
  | .aperture _ .detach             => 0
  | .setOverflow _ p                => packWord (Overflow.code p) 0 0 0
  | .retireSlot _                   => 0

/-- The value2 word of an entry: the fill pattern for SET_STALL. -/
def ChangeOp.value2Word : ChangeOp → Word
  | .aperture _ (.setStall _ _ f) => f
  | _ => 0

/-- The four words of an entry. -/
def Change.words (e : Change) : List Word :=
  [ packHalves e.seq (e.op.number + 256 * e.op.targetId), packWord e.expiry 0 0 0, e.op.valueWord,
    e.op.value2Word ]

/-- The entries that QUERY_CHANGES returns: from a position to the tail, at most seven. -/
def ChangeQueue.shown (q : ChangeQueue) (first : Nat) : List Change := (q.entries.drop first).take 7

/-- The words of QUERY_CHANGES. -/
def ChangeQueue.words (q : ChangeQueue) (first : Nat) : List Word :=
  packHalves (q.entries.length % 256 + 256 * (q.shown first).length) q.nextSeq ::
    (q.shown first).flatMap Change.words

/-- QUERY_CHANGES. -/
def actQueryChanges (s : State) (first : Nat) : Answer := s.doneWith (s.changes.words first)

/-- QUERY_CHANGES. -/
def execQueryChanges (req : Request) (s : State) : Host.Outcome State Fault Refusal :=
  .next (s.takeCommand 0x33 (argsRange 0 11) req actQueryChanges)

/-! ### QUERY_JOBS (R184) -/

/-- The five words of a job, with its flag bits. -/
def Job.words (j : Job) (flags : Nat) : List Word :=
  [ packWord j.id j.ring.val j.slot.val (bit j.autoRelease + flags), BitVec.ofNat 32 j.frame, j.dest,
    BitVec.ofNat 32 j.length, BitVec.ofNat 32 j.doneBytes ]

/-- The flag bits of the ACTIVE job: ACTIVE, WRITE half, a cancellation waits, its claim is granted. -/
def ActiveJob.flagBits (j : ActiveJob) : Nat :=
  2 + 4 * bit (decide (j.half = .write)) + 8 * bit j.cancelled + 16 * bit j.granted

/-- The words of QUERY_JOBS. -/
def State.jobWords (s : State) : List Word :=
  packWord s.copy.count s.copy.nextId s.arbiter.share s.arbiter.shareCount ::
    (s.copy.active.toList.flatMap (fun j => j.job.words j.flagBits) ++
      s.copy.queued.flatMap fun j => j.words 0)

/-- QUERY_JOBS. -/
def actQueryJobs (s : State) (_ : Unit) : Answer := s.doneWith s.jobWords

/-- QUERY_JOBS. -/
def execQueryJobs (req : Request) (s : State) : Host.Outcome State Fault Refusal :=
  .next (s.takeCommand 0x34 argsNone req actQueryJobs)

/-! ### READ_NOTES, NOTE_MASK (R164, R165, R185) -/

/-- The three words of a note. -/
def Note.words (n : Note) : List Word :=
  [ packWord n.kind.number (idByte n.ring) (idByte n.aperture) (idByte n.slot),
    BitVec.ofNat 32 (n.frame.getD 0),
    packHalves n.detail (n.tag.getD 0) ]

/-- READ_NOTES: up to max notes leave the head and are returned; NOTES_LOST is reported and then
cleared (R164). -/
def actReadNotes (s : State) (max : Nat) : Answer :=
  let taken := s.notes.queue.take max
  { state := { s with notes := { s.notes with queue := s.notes.queue.drop max } }
    status := .done
    words := packWord taken.length 0 0 0 :: taken.flatMap Note.words
    clears := .notesLost }

/-- READ_NOTES. -/
def execReadNotes (req : Request) (s : State) : Host.Outcome State Fault Refusal :=
  .next (s.takeCommand 0x38 (argsRange 1 8) req actReadNotes)

/-- NOTE_MASK: the kind mask and the ATTN enable together (R165). -/
def actNoteMask (s : State) (x : BitVec 19 × Bool) : Answer :=
  State.done { s with notes := { s.notes with mask := x.1, attnEnable := x.2 } }

/-- NOTE_MASK. -/
def execNoteMask (req : Request) (s : State) : Host.Outcome State Fault Refusal :=
  .next (s.takeCommand 0x39 argsNoteMask req actNoteMask)

end Sys2Proof.Machine
end

