-- ==== Sys2Proof/Machine/Dispatch.lean ====
section
/-! DEFINITION. The effect of every command and event on everything but the queue: one arm per row of
spec/opcode_table.json, in the table's order. -/

namespace Sys2Proof.Machine

/-- The effect of a command or event (spec/opcode_table.json). -/
def exec (i : Instr) (s : State) : Host.Outcome State Fault Refusal :=
  match i with
  | .selFall => Sys2Proof.Machine.execSelFall s
  | .selRise sclkPeriods => Sys2Proof.Machine.execSelRise sclkPeriods s
  | .responseComplete => Sys2Proof.Machine.execResponseComplete s
  | .excessArgumentCount code count => Sys2Proof.Machine.execExcessArgumentCount code count s
  | .badCommand code req => Sys2Proof.Machine.execBadCommand code req s
  | .summary req => Sys2Proof.Machine.execSummary req s
  | .resetCore req levels => Sys2Proof.Machine.execResetCore req levels s
  | .timebase req => Sys2Proof.Machine.execTimebase req s
  | .lineSetup req => Sys2Proof.Machine.execLineSetup req s
  | .boundary req order => Sys2Proof.Machine.execBoundary req order s
  | .snap req => Sys2Proof.Machine.execSnap req s
  | .ringSetup req => Sys2Proof.Machine.execRingSetup req s
  | .ringOn req => Sys2Proof.Machine.execRingOn req s
  | .ringOff req => Sys2Proof.Machine.execRingOff req s
  | .ringFlush req => Sys2Proof.Machine.execRingFlush req s
  | .slotAssign req => Sys2Proof.Machine.execSlotAssign req s
  | .slotRetire req => Sys2Proof.Machine.execSlotRetire req s
  | .apertureSetup req => Sys2Proof.Machine.execApertureSetup req s
  | .apertureOn req => Sys2Proof.Machine.execApertureOn req s
  | .apertureOff req => Sys2Proof.Machine.execApertureOff req s
  | .apertureModify req => Sys2Proof.Machine.execApertureModify req s
  | .setOverflow req => Sys2Proof.Machine.execSetOverflow req s
  | .cancelChange req => Sys2Proof.Machine.execCancelChange req s
  | .scheduleSetup req => Sys2Proof.Machine.execScheduleSetup req s
  | .scheduleStart req => Sys2Proof.Machine.execScheduleStart req s
  | .scheduleStop req => Sys2Proof.Machine.execScheduleStop req s
  | .release req => Sys2Proof.Machine.execRelease req s
  | .copy req => Sys2Proof.Machine.execCopy req s
  | .copyCancel req => Sys2Proof.Machine.execCopyCancel req s
  | .copyShare req => Sys2Proof.Machine.execCopyShare req s
  | .queryRing req => Sys2Proof.Machine.execQueryRing req s
  | .querySlot req => Sys2Proof.Machine.execQuerySlot req s
  | .queryAperture req => Sys2Proof.Machine.execQueryAperture req s
  | .queryChanges req => Sys2Proof.Machine.execQueryChanges req s
  | .queryJobs req => Sys2Proof.Machine.execQueryJobs req s
  | .readNotes req => Sys2Proof.Machine.execReadNotes req s
  | .noteMask req => Sys2Proof.Machine.execNoteMask req s
  | .powerOnReset levels selLow => Sys2Proof.Machine.execPowerOnReset levels selLow s
  | .boundaryEvent line level order => Sys2Proof.Machine.execBoundaryEvent line level order s
  | .pendingBoundaryRun ap => Sys2Proof.Machine.execPendingBoundaryRun ap s
  | .snapEdge level => Sys2Proof.Machine.execSnapEdge level s
  | .tick => Sys2Proof.Machine.execTick s
  | .stallTimeout => Sys2Proof.Machine.execStallTimeout s
  | .lockExpiry => Sys2Proof.Machine.execLockExpiry s
  | .aSideTransaction t => Sys2Proof.Machine.execASideTransaction t s
  | .steeringResponse resp order => Sys2Proof.Machine.execSteeringResponse resp order s
  | .copyReadResponse resp => Sys2Proof.Machine.execCopyReadResponse resp s
  | .copyWriteResponse outcome => Sys2Proof.Machine.execCopyWriteResponse outcome s
  | .refclkPeriod => Sys2Proof.Machine.execRefclkPeriod s

end Sys2Proof.Machine
end

