-- ==== Sys2Proof/Machine/Step.lean ====
section
/-! DEFINITION. One step: the event at the front of the queue is taken. -/

namespace Sys2Proof.Machine

/-- One step of the part: the front of the queue is taken and acts on the part with the queue's rest;
on an empty queue the block idles (log 1). -/
def step (s : State) : Host.Outcome State Fault Refusal :=
  match s.pending with
  | []        => .next s
  | c :: rest => exec c { s with pending := rest }

/-- The state with the command that a word spells at the front of its queue; unchanged where the word
spells none (log 2). -/
def State.withFetchWord (s : State) (nbits w : Nat) : State :=
  match decodeTableWord nbits w with
  | some c => { s with pending := c :: s.pending }
  | none   => s

/-- The state with the command that the bytes of a request spell at the front of its queue; unchanged
where they spell none. This is how a request of the supervisor reaches the queue (log 2, log 4). -/
def State.withRequest (s : State) (levels : LineLevels) (order : List ApId) (bytes : List Byte) :
    State :=
  match readRequest levels order bytes with
  | some c => { s with pending := c :: s.pending }
  | none   => s

end Sys2Proof.Machine
end

