-- ==== Sys2Proof/Safety.lean ====
section
/-! DEFINITION. What claims about the part are stated in: the link commands with their codes and the
argument ranges of R174 and R175, the answer to a request, and the laws the spec says the part obeys
(ranges of fields, placement of slots, windows kept apart, claims at the Arbiter). -/

namespace Sys2Proof.Machine

/-! ### Requests and answers -/

/-- The command code and the request of a link command (R174); none for the other rows of the
table. -/
def Instr.linkCommand : Instr → Option (Byte × Request)
  | .summary req        => some (0x01, req)
  | .resetCore req _    => some (0x02, req)
  | .timebase req       => some (0x03, req)
  | .lineSetup req      => some (0x04, req)
  | .boundary req _     => some (0x05, req)
  | .snap req           => some (0x06, req)
  | .ringSetup req      => some (0x08, req)
  | .ringOn req         => some (0x09, req)
  | .ringOff req        => some (0x0A, req)
  | .ringFlush req      => some (0x0B, req)
  | .slotAssign req     => some (0x0C, req)
  | .slotRetire req     => some (0x0D, req)
  | .apertureSetup req  => some (0x10, req)
  | .apertureOn req     => some (0x11, req)
  | .apertureOff req    => some (0x12, req)
  | .apertureModify req => some (0x13, req)
  | .setOverflow req    => some (0x14, req)
  | .cancelChange req   => some (0x18, req)
  | .scheduleSetup req  => some (0x20, req)
  | .scheduleStart req  => some (0x21, req)
  | .scheduleStop req   => some (0x22, req)
  | .release req        => some (0x23, req)
  | .copy req           => some (0x28, req)
  | .copyCancel req     => some (0x29, req)
  | .copyShare req      => some (0x2A, req)
  | .queryRing req      => some (0x30, req)
  | .querySlot req      => some (0x31, req)
  | .queryAperture req  => some (0x32, req)
  | .queryChanges req   => some (0x33, req)
  | .queryJobs req      => some (0x34, req)
  | .readNotes req      => some (0x38, req)
  | .noteMask req       => some (0x39, req)
  | .selFall | .selRise _ | .responseComplete | .excessArgumentCount _ _ | .badCommand _ _
  | .powerOnReset _ _ | .boundaryEvent _ _ _ | .pendingBoundaryRun _ | .snapEdge _ | .tick
  | .stallTimeout | .lockExpiry | .aSideTransaction _ | .steeringResponse _ _
  | .copyReadResponse _ | .copyWriteResponse _ | .refclkPeriod => none

/-- The value words of APERTURE_MODIFY lie in the ranges of their kind (R175, R179). -/
def modifyInRange (kind v : Nat) : Bool :=
  match kind with
  | 1 => true
  | 2 => decide (1 ≤ v) && decide (v ≤ 255)
  | 3 => decide (v % 256 ≤ 1) && decide (v / 256 % 256 ≤ 1) && decide (v < 65536)
  | 4 => decide (v / 65536 % 256 ≤ 1) && decide (v < 16777216)
  | 5 => decide (1 ≤ v) && decide (v ≤ 16)
  | _ => false

/-- The five words of APERTURE_SETUP lie in the ranges of R179. -/
def setupInRange (w0 w2 w3 : Nat) : Bool :=
  decide (w0 % 256 ≤ 7) && decide (w0 / 256 % 256 ≤ 3) && decide (w0 / 65536 % 256 ≤ 1) &&
    decide (w0 / 16777216 ≤ 2) && decide (1 ≤ w2 % 256) && decide (1 ≤ w2 / 256 % 256) &&
    decide (w2 / 256 % 256 ≤ 16) && decide (w2 / 65536 % 256 ≤ 1) && decide (w2 / 16777216 ≤ 1) &&
    decide (w3 / 65536 % 256 ≤ 1) && decide (w3 < 16777216)

/-- The argument words of a command code, as numbers, have the count of R174 and lie in the ranges of
R175: checks 3 and 4 of R170. -/
def argsInRange (code : Nat) (args : List Nat) : Bool :=
  match code, args with
  | 0x01, [] | 0x02, [] | 0x06, [] | 0x34, [] => true
  | 0x03, [d] => decide (1 ≤ d) && decide (d ≤ 1024)
  | 0x04, [l, e] => decide (l ≤ 2) && decide (e ≤ 1)
  | 0x05, [t] => decide (t ≤ 9)
  | 0x08, [r, e, o] => decide (r ≤ 3) && decide (12 ≤ e) && decide (e ≤ 24) && decide (o ≤ 1)
  | 0x09, [r] | 0x0A, [r] | 0x21, [r] | 0x22, [r] | 0x30, [r] => decide (r ≤ 3)
  | 0x0B, [r, k] => decide (r ≤ 3) && decide (k ≤ 1)
  | 0x0C, [sl, r, _] => decide (sl ≤ 15) && decide (r ≤ 3)
  | 0x0D, [sl, x] => decide (sl ≤ 15) && decide (x ≤ 255)
  | 0x10, [w0, _, w2, w3, _] => setupInRange w0 w2 w3
  | 0x11, [a] | 0x32, [a] => decide (a ≤ 7)
  | 0x12, [a, x] => decide (a ≤ 7) && decide (x ≤ 255)
  | 0x13, [a, k, x, v, _] => decide (a ≤ 7) && decide (x ≤ 255) && modifyInRange k v
  | 0x14, [r, o, x] => decide (r ≤ 3) && decide (o ≤ 1) && decide (x ≤ 255)
  | 0x18, [n] => decide (n ≤ 65535)
  | 0x20, [r, d, n, g, b, st] =>
    decide (r ≤ 3) && decide (d ≤ 255) && decide (n ≤ 64) && decide (g ≤ 255) &&
      decide (b ≤ 255) && decide (st ≤ 1)
  | 0x23, [r, k, _] => decide (r ≤ 3) && decide (k ≤ 2)
  | 0x28, [r, _, d, _, ar] => decide (r ≤ 3) && decide (d % 8 = 0) && decide (ar ≤ 1)
  | 0x29, [i] => decide (i ≤ 255)
  | 0x2A, [k] => decide (k ≤ 15)
  | 0x31, [sl] => decide (sl ≤ 15)
  | 0x33, [f] => decide (f ≤ 11)
  | 0x38, [m] => decide (1 ≤ m) && decide (m ≤ 8)
  | 0x39, [m, e] => decide (m < 524288) && decide (e ≤ 1)
  | _, _ => false

/-- The part with its link in ANSWER, holding the request bytes received and the response to them; the
flags byte shows the part as it stands (R171, R173). -/
def State.answeredBytes (s : State) (bytes : List Byte) (status : Status) (words : List Word) :
    State :=
  { s with link := { s.link with
      phase := .answer, request := bytes,
      response := some { status := status, flags := s.flagsByte, words := words } } }

/-- The part with its link answering a balanced request. -/
def State.answered (s : State) (code : Byte) (args : List Word) (status : Status)
    (words : List Word) : State :=
  s.answeredBytes (requestBytes code (requestFor code args)) status words

/-- The argument word of an id. -/
def idWord {n : Nat} (i : Fin n) : Word := BitVec.ofNat 32 i.val

/-- The argument word of a number. -/
def numWord (n : Nat) : Word := BitVec.ofNat 32 n

/-- The argument word of a yes or no. -/
def boolWord (b : Bool) : Word := if b then 1 else 0

/-- The word with these four bytes, bits 0 to 7 first; each is meant to be below 256. -/
def bytesWord (b0 b1 b2 b3 : Nat) : Word :=
  BitVec.ofNat 32 (b0 + 256 * b1 + 65536 * b2 + 16777216 * b3)

/-- A yes or no as a bit number. -/
def flag (b : Bool) (n : Nat) : Nat := if b then 2 ^ n else 0

/-- The number of an optional id, 0xFF for absent (section 11.4). -/
def idOrFF {n : Nat} : Option (Fin n) → Nat
  | some i => i.val
  | none   => 255

/-! ### Words of a change (R144, R179, R183) -/

/-- The kind number of a change (table of R144). -/
def ChangeOp.kindNumber : ChangeOp → Nat
  | .aperture _ (.moveWindow _)   => 1
  | .aperture _ (.setSources _)   => 2
  | .aperture _ (.setPick _ _)    => 3
  | .aperture _ (.setStall _ _ _) => 4
  | .aperture _ (.setDivider _)   => 5
  | .aperture _ .detach           => 6
  | .setOverflow _ _              => 7
  | .retireSlot _                 => 8

/-- The aperture, ring or slot id of a change, as its kind gives (R183). -/
def ChangeOp.targetNumber : ChangeOp → Nat
  | .aperture a _    => a.val
  | .setOverflow r _ => r.val
  | .retireSlot sl   => sl.val

/-- The value word of a change: the new window base; sources in bits 0 to 7; pick in bits 0 to 7 and
on_empty in bits 8 to 15; timeout in bits 0 to 15 and stall in bits 16 to 23; the divider; the overflow
policy; and 0 for DETACH and RETIRE_SLOT (R179, R183). -/
def ChangeOp.valueField : ChangeOp → Word
  | .aperture _ (.moveWindow base) => base
  | .aperture _ (.setSources m)    => numWord m.toNat
  | .aperture _ (.setPick p oe)    =>
    numWord ((match p with | .newest => 0 | .ordered => 1) +
      256 * match oe with | .repeatFrame => 0 | .strict => 1)
  | .aperture _ (.setStall st t _) =>
    numWord (t % 65536 + 65536 * match st with | .wait => 0 | .blank => 1)
  | .aperture _ (.setDivider k)    => numWord (k % 256)
  | .aperture _ .detach            => 0
  | .setOverflow _ o               => match o with | .dropNew => 0 | .overwriteOldest => 1
  | .retireSlot _                  => 0

/-- The value2 word of a change: the fill pattern for SET_STALL, 0 otherwise (R179, R183). -/
def ChangeOp.value2Field : ChangeOp → Word
  | .aperture _ (.setStall _ _ fill) => fill
  | .aperture _ (.moveWindow _) | .aperture _ (.setSources _) | .aperture _ (.setPick _ _)
  | .aperture _ (.setDivider _) | .aperture _ .detach | .setOverflow _ _ | .retireSlot _ => 0

/-- A change note: seq in the tag, kind number in the detail, and the target fields (R158). -/
def Change.note (e : Change) (kind : NoteKind) (r : RingId) (a : Option ApId) (slot : Option SlotId) :
    Note :=
  { kind := kind, ring := some r, aperture := a, slot := slot, tag := some e.seq
    detail := e.op.kindNumber }

/-! ### Ranges of fields -/

/-- The configuration fields lie in the ranges of the table of 3.1. -/
structure ApConfig.InRange (c : ApConfig) : Prop where
  divider    : 1 ≤ c.divider ∧ c.divider ≤ 16
  timeout    : c.timeout ≤ 65535
  sources    : c.sources ≠ 0
  windowSize : 12 ≤ c.windowSize ∧ c.windowSize ≤ 24

/-- The arguments of a change lie in the ranges of R179. -/
def ApChange.InRange : ApChange → Prop
  | .setSources m   => m ≠ 0
  | .setStall _ t _ => t ≤ 65535
  | .setDivider k   => 1 ≤ k ∧ k ≤ 16
  | .moveWindow _ | .setPick _ _ | .detach => True

/-- A change entry lies in the ranges of R144. -/
structure Change.InRange (e : Change) : Prop where
  seq    : 1 ≤ e.seq ∧ e.seq ≤ 65535
  expiry : e.expiry ≤ 255
  args   : ∀ a x, e.op = .aperture a x → ApChange.InRange x

/-- An aperture record: its configuration is in range, its divider count is below the largest divider,
and while it is ON below its own (R90). -/
structure Aperture.InRange (x : Aperture) : Prop where
  config : ∀ c, x.config = some c → c.InRange
  count  : ∀ c, x.config = some c → x.state ≠ .off → x.count < c.divider
  most   : x.count < 16

/-- The frame and jobs count of a slot record (table of 1.1). -/
structure Slot.InRange (x : Slot) : Prop where
  frame : ∀ n, x.frame = some n → 1 ≤ n ∧ n ≤ 0xFFFFFFFF
  jobs  : x.jobs ≤ 4

/-- A job record (R116), with the destination inside the address space (R119); the largest slot size is
2^24 bytes. -/
structure Job.InRange (j : Job) : Prop where
  id        : 1 ≤ j.id ∧ j.id ≤ 255
  frame     : 1 ≤ j.frame ∧ j.frame ≤ 0xFFFFFFFF
  dest      : j.dest.toNat % 8 = 0 ∧ j.dest.toNat + j.length ≤ 2 ^ 32
  length    : j.length % 8 = 0 ∧ 8 ≤ j.length ∧ j.length ≤ 2 ^ 24
  doneBytes : j.doneBytes % 8 = 0 ∧ j.doneBytes ≤ j.length

/-- The slot size and frame counter of a ring record (table of 1.2); "While a ring is ON, its pool is at
least 2" (R10). -/
structure Ring.InRange (r : Ring) : Prop where
  slotSize     : ∀ e, r.slotSize = some e → 12 ≤ e ∧ e ≤ 24
  frameCounter : r.frameCounter ≤ 0xFFFFFFFF
  pool         : r.on = true → 2 ≤ r.pool

/-- A schedule record (R96). -/
structure Schedule.InRange (x : Schedule) : Prop where
  delay      : x.delay ≤ 255
  burst      : x.burst ≤ 64
  gap        : x.gap ≤ 255
  bursts     : x.bursts ≤ 255
  remaining  : x.remaining ≤ 255
  burstsDone : x.burstsDone ≤ 255

/-- The jobs of the copy queue, the ACTIVE one first (R117). -/
def CopyEngine.jobs (c : CopyEngine) : List Job := c.active.toList.map (·.job) ++ c.queued

/-- These fields lie in the ranges the spec gives them: the capacities of the three queues (R117, R145,
R162), the counters that wrap (R11, R118, R145), the share counter and setting (R133), the timebase
(R93), the timers (R39, R45), the staging buffer (R116), and the fields that `Slot.InRange` (1.1),
`Ring.InRange` (1.2), `Aperture.InRange` (3.1), `Schedule.InRange` (R96), `Job.InRange` (R116) and
`Change.InRange` (R144) hold. A slot counts no more jobs than name it (R4). The consumers and pool of
a ring are in `State.RingsCounted`, its lists in `State.Placed`, notes and the response in
`State.RecordsInRange`. -/
structure State.InRange (s : State) : Prop where
  slots      : ∀ sl, (s.slot sl).InRange
  rings      : ∀ r, (s.ring r).InRange
  apertures  : ∀ a, (s.ap a).InRange
  schedules  : ∀ r, (s.sched r).InRange
  entries    : ∀ e ∈ s.changes.entries, e.InRange
  changes    : s.changes.entries.length ≤ 12
  nextSeq    : 1 ≤ s.changes.nextSeq ∧ s.changes.nextSeq ≤ 65535
  jobs       : ∀ j ∈ s.copy.jobs, j.InRange
  jobCount   : s.copy.count ≤ 4
  counted    : ∀ sl, (s.slot sl).jobs ≤ (s.copy.jobs.filter fun j => decide (j.slot = sl)).length
  nextId     : 1 ≤ s.copy.nextId ∧ s.copy.nextId ≤ 255
  staging    : s.copy.staging.length ≤ 16
  shareCount : s.arbiter.shareCount ≤ 15
  share      : s.arbiter.share ≤ 15
  notes      : s.notes.queue.length ≤ 32
  divisor    : 1 ≤ s.lines.divisor ∧ s.lines.divisor ≤ 1024
  periods    : s.lines.periods < s.lines.divisor
  stallTimer : ∀ t a b n, s.steering.phase = .stalled t a b (some n) → n ≤ 65535
  lockTimer  : ∀ o src n, s.steering.lock = .opened o src (some n) → n ≤ 64

/-- Two fields of a ring record (table of 1.2): at most three apertures are its consumers (R8, R178), and
its pool, 0 to 16, is the "number of slots assigned to the ring" (R10). -/
structure State.RingsCounted (s : State) : Prop where
  consumers : ∀ r, (allAps.filter fun a => ApSet.has (s.ring r).consumers a).length ≤ 3
  pool      : ∀ r, (s.ring r).pool ≤ 16
  counted   : ∀ r, (s.ring r).pool =
    (allSlots.filter fun sl => decide ((s.slot sl).home.map (·.ring) = some r)).length

/-- The two kinds of note whose frame field holds a transaction address (R160). -/
def NoteKind.holdsAddress : NoteKind → Bool
  | .accessFault | .consumerTimeout => true
  | .framePublished | .frameEmpty | .frameDropped | .producerStarved | .boundaryMerged | .memoryFault
  | .lockExpired | .frameHeld | .retainRefused | .scheduleDone | .triggerIgnored | .copyDone
  | .copyAborted | .copyFailed | .changeApplied | .changeRejected | .changeExpired => false

/-- The largest tag of a note kind, 0 for a kind without a tag: a job id for the copy kinds, a sequence
number for the change kinds (R160, section 10.2). -/
def NoteKind.largestTag : NoteKind → Nat
  | .copyDone | .copyAborted | .copyFailed => 255
  | .changeApplied | .changeRejected | .changeExpired => 65535
  | .framePublished | .frameEmpty | .frameDropped | .producerStarved | .boundaryMerged | .consumerTimeout
  | .accessFault | .memoryFault | .lockExpired | .frameHeld | .retainRefused | .scheduleDone
  | .triggerIgnored => 0

/-- A note record (R160): a tag is present for exactly the copy and change kinds, and the frame field is
present for the two kinds that hold an address there; for every other kind a frame field that is
present holds a frame number, from 1. -/
structure Note.InRange (n : Note) : Prop where
  frame   : ∀ f, n.frame = some f → f ≤ 0xFFFFFFFF ∧ (n.kind.holdsAddress = true ∨ 1 ≤ f)
  address : n.kind.holdsAddress = true → n.frame.isSome = true
  tag     : ∀ k, n.tag = some k → 1 ≤ k ∧ k ≤ n.kind.largestTag
  tagged  : n.kind.largestTag ≠ 0 → n.tag.isSome = true
  detail  : n.detail ≤ 65535

/-- What the part has recorded: the notes (R160), the frame number recorded of a transaction in flight
(R33), and the words of the response, at most 30 (R171). -/
structure State.RecordsInRange (s : State) : Prop where
  notes    : ∀ n ∈ s.notes.queue, n.InRange
  target   : ∀ t tg f, s.steering.phase = .inFlight t (some tg) → tg.frame = some f →
    1 ≤ f ∧ f ≤ 0xFFFFFFFF
  response : ∀ x, s.link.response = some x → x.words.length ≤ 30

/-! ### Placement of slots (R2, R9, R10) -/

/-- The three lists of a ring as one. -/
def Ring.lists (r : Ring) : List SlotId := r.free ++ r.ready ++ r.held

/-- The slot bound to the producer of a ring, if the producer is WRITING (R50). -/
def State.fillingSlot (s : State) (r : RingId) : Option SlotId :=
  (s.ring r).producer.bind s.boundSlot

/-- An aperture is ON with a role in a ring. -/
def State.servesAs (s : State) (a : ApId) (role : Role) (r : RingId) : Prop :=
  s.apOn a = true ∧ ∃ c, (s.ap a).config = some c ∧ c.role = role ∧ c.ring = r

/-- The placement law (R2, R9) with conservation (R10), and the meaning of the producer and consumers
fields (R8): every assigned slot is in exactly one place of its ring, an UNASSIGNED one in none, and
the places of a ring add up to its pool. -/
structure State.Placed (s : State) : Prop where
  listed    : ∀ r, ∀ sl ∈ (s.ring r).lists, (s.slot sl).home.map (·.ring) = some r
  once      : ∀ r, (s.ring r).lists.Nodup
  filling   : ∀ r sl, s.fillingSlot r = some sl →
    (s.slot sl).home.map (·.ring) = some r ∧ sl ∉ (s.ring r).lists
  somewhere : ∀ r sl, (s.slot sl).home.map (·.ring) = some r →
    sl ∈ (s.ring r).lists ∨ s.fillingSlot r = some sl
  producer  : ∀ r a, (s.ring r).producer = some a ↔ s.servesAs a .producer r
  consumers : ∀ r a, ApSet.has (s.ring r).consumers a = true ↔ s.servesAs a .consumer r
  conserved : ∀ r, (s.ring r).lists.length + (s.fillingSlot r).toList.length = (s.ring r).pool

/-! ### Windows and regions (R21, R29) -/

/-- The windows of ON apertures are pairwise disjoint and each is disjoint from the region of every
assigned slot; the regions of assigned slots are pairwise disjoint; and windows and regions have the
slot size of their ring (R21, R29, R49). -/
structure State.WindowsApart (s : State) : Prop where
  windowSized : ∀ a c, (s.ap a).config = some c → (s.ring c.ring).slotSize = some c.windowSize
  regionSized : ∀ sl h, (s.slot sl).home = some h → (s.ring h.ring).slotSize.isSome = true
  windows     : ∀ a b c d, a ≠ b → s.apOn a = true → s.apOn b = true → (s.ap a).config = some c →
    (s.ap b).config = some d →
    overlaps c.windowBase.toNat (2 ^ c.windowSize) d.windowBase.toNat (2 ^ d.windowSize) = false
  regions     : ∀ a c sl h, s.apOn a = true → (s.ap a).config = some c → (s.slot sl).home = some h →
    overlaps c.windowBase.toNat (2 ^ c.windowSize) h.base.toNat (s.slotBytes h.ring) = false
  slots       : ∀ sl sm h k, sl ≠ sm → (s.slot sl).home = some h → (s.slot sm).home = some k →
    overlaps h.base.toNat (s.slotBytes h.ring) k.base.toNat (s.slotBytes k.ring) = false

/-! ### The ports at rest (R27, R121, R135) -/

/-- Between two events: no transaction waits at the A-side port while the Steering Unit is OPEN (R27);
the M-side port is FREE with a claim waiting only when a COPY claim waits alone behind an open lock
window (R135, R138); and no pending boundary is left whose two conditions have both ended (R55,
R73). -/
structure State.Settled (s : State) : Prop where
  accepted : s.steering.phase = .opened → s.steering.waiting = []
  granted  : s.arbiter.port = none → s.arbiter.steeringClaim = none
  behind   : s.arbiter.port = none → s.arbiter.copyClaim.isSome = true → s.lockOpen = true
  deferred : ∀ a, s.canRun a = false

/-- While a job is ACTIVE it has exactly one claim, waiting or granted and on the port, and with no
ACTIVE job no job and no claim waits (R121, R134). -/
structure State.CopyClaims (s : State) : Prop where
  idle    : s.copy.active = none → s.copy.queued = [] ∧ s.arbiter.copyClaim = none
  waiting : ∀ j, s.copy.active = some j → j.granted = false → s.arbiter.copyClaim.isSome = true
  onPort  : ∀ j, s.copy.active = some j → j.granted = true →
    s.arbiter.copyClaim = none ∧ ∃ t, s.arbiter.port = some { claimant := .copy, txn := t }

/-- While the Steering Unit is IN_FLIGHT its transaction waits as the STEERING claim or occupies the
M-side port, and otherwise there is no STEERING claim and no STEERING transaction (R38, R134). -/
structure State.SteeringClaims (s : State) : Prop where
  flying  : ∀ t tg, s.steering.phase = .inFlight t tg →
    s.arbiter.steeringClaim.isSome = true ∨ s.steeringOnPort = true
  one     : s.arbiter.steeringClaim.isSome = true → s.steeringOnPort = false
  resting : (∀ t tg, s.steering.phase ≠ .inFlight t tg) →
    s.arbiter.steeringClaim = none ∧ s.steeringOnPort = false

/-! ### Holders (R6) -/

/-- A consumer aperture is VIEWING a slot. -/
def State.views (s : State) (a : ApId) (sl : SlotId) : Prop :=
  (s.ap a).state = .bound sl ∧ ∃ c, (s.ap a).config = some c ∧ c.role = .consumer

/-- The law on holders (R6): the holders of a slot are the consumer apertures VIEWING it, and a slot
with holders is in the ready list of its ring, which is the ring of each of them. -/
structure State.HoldersLaw (s : State) : Prop where
  holds : ∀ sl a, ApSet.has (s.slot sl).holders a = true ↔ s.views a sl
  ready : ∀ sl a c, s.views a sl → (s.ap a).config = some c → sl ∈ (s.ring c.ring).ready

/-! ### The two queues (R118, R129, R145) -/

/-- A counter that runs from 1 to `top` and then returns to 1 moves from `m` to `n`: the first of the
following values that is not in use (R118, R145, log 31). -/
structure CounterMoves (top : Nat) (used : List Nat) (m n : Nat) : Prop where
  inRange : 1 ≤ n ∧ n ≤ top
  unused  : n ∉ used
  first   : ∃ k, n = (wrapNext top)^[k + 1] m ∧ ∀ i, i < k → (wrapNext top)^[i + 1] m ∈ used

/-- The Change Queue with one more entry at its tail, under the next seq, and its counter at `n`
(R145). -/
def State.queued (s : State) (op : ChangeOp) (expiry n : Nat) : ChangeQueue :=
  { entries := s.changes.entries ++ [{ seq := s.changes.nextSeq, op := op, expiry := expiry }]
    nextSeq := n }

/-- The next-seq counter moves to `n` when an entry is queued (R145). -/
def State.SeqMoves (s : State) (n : Nat) : Prop :=
  CounterMoves 65535 (s.changes.entries.map (·.seq) ++ [s.changes.nextSeq]) s.changes.nextSeq n

/-- The next-id counter moves to `n` when a job is accepted (R118). -/
def State.IdMoves (s : State) (n : Nat) : Prop :=
  CounterMoves 255 (s.copy.jobs.map (·.id) ++ [s.copy.nextId]) s.copy.nextId n

/-- The laws of the Change Queue and the copy queue: no two entries share a seq and no two jobs an id,
and the counters hold no value in use (R118, R145); "an aperture entry waits only while its aperture is
ON, a ring entry only while its ring has an ON producer, and a RETIRE_SLOT entry only while its slot is
assigned and not FREE" (R145); retire_pending says that a RETIRE_SLOT waits, and at most one does (R5);
a slot's jobs field counts the jobs that name it, each of which keeps it in the held list of its ring
(R129); and a job behind the head has done_bytes 0 (R121). -/
structure State.QueueLaws (s : State) : Prop where
  seqs       : (s.changes.entries.map (·.seq) ++ [s.changes.nextSeq]).Nodup
  ids        : (s.copy.jobs.map (·.id) ++ [s.copy.nextId]).Nodup
  apertures  : ∀ e ∈ s.changes.entries, ∀ a x, e.op = .aperture a x → s.apOn a = true
  overflows  : ∀ e ∈ s.changes.entries, ∀ r p, e.op = .setOverflow r p →
    (s.ring r).producer.isSome = true
  retiring   : ∀ e ∈ s.changes.entries, ∀ sl, e.op = .retireSlot sl →
    (s.slot sl).home.isSome = true ∧ ∀ r, sl ∉ (s.ring r).free
  pending    : ∀ sl, (s.slot sl).retirePending = true ↔ ∃ e ∈ s.changes.entries, e.op = .retireSlot sl
  retireOnce : ∀ sl, (s.changes.entries.filter fun e => decide (e.op = .retireSlot sl)).length ≤ 1
  jobCounts  : ∀ sl, (s.slot sl).jobs = (s.copy.jobs.filter fun j => decide (j.slot = sl)).length
  held       : ∀ j ∈ s.copy.jobs, j.slot ∈ (s.ring j.ring).held
  notRun     : ∀ j ∈ s.copy.queued, j.doneBytes = 0

/-! ### Hypotheses that statements share -/

/-- No boundary is pending (R55, R73). -/
def State.NonePending (s : State) : Prop := ∀ a, (s.ap a).deferred = false

/-- The Steering Unit is OPEN with nothing waiting at the A-side port (R27). -/
def State.PortOpen (s : State) : Prop :=
  s.steering.phase = .opened ∧ s.steering.waiting = []

/-- The boundary of an ON aperture that its divider passes, with nothing pending and no condition that
defers it: its operation runs at once (R55, R73, R90). -/
structure State.ActsNow (s : State) (a : ApId) (c : ApConfig) : Prop where
  on      : s.apOn a = true
  config  : (s.ap a).config = some c
  passed  : (s.ap a).count + 1 = c.divider
  fresh   : (s.ap a).deferred = false
  free    : s.inFlightThrough a = false
  unlocked : s.lockedThrough a = false

/-- The bytes of a transaction below the top of the address space overlap the window of an ON aperture
(R28). -/
def State.touches (s : State) (t : Txn) (a : ApId) : Prop :=
  s.apOn a = true ∧ ∃ c, (s.ap a).config = some c ∧
    t.address.toNat < c.windowBase.toNat + 2 ^ c.windowSize ∧
    c.windowBase.toNat < t.address.toNat + min (8 * t.beats) (2 ^ 32 - t.address.toNat)

/-- The whole of a transaction lies in the window of one ON aperture with the configuration given, and
it touches no other (R28). -/
structure State.Inside (s : State) (t : Txn) (a : ApId) (c : ApConfig) : Prop where
  on     : s.apOn a = true
  config : (s.ap a).config = some c
  above  : c.windowBase.toNat ≤ t.address.toNat
  below  : t.address.toNat + 8 * t.beats ≤ c.windowBase.toNat + 2 ^ c.windowSize
  some   : 1 ≤ t.beats
  alone  : ∀ b, s.touches t b → b = a

/-- The lock window as the acceptance of a transaction leaves it (R44, R45). -/
def lockAfterAccept (w : LockWindow) (t : Txn) (opening : Option ApId) : LockWindow :=
  match t.lock, w with
  | true,  _              => .opened opening t.source none
  | false, .closed        => .closed
  | false, .opened o s _  => .opened o s none

/-- The lock window as the response to a transaction leaves it (R44, R45). -/
def lockAfterResponse (w : LockWindow) (t : Txn) : LockWindow :=
  match t.lock, w with
  | true,  .opened o s _ => .opened o s (some 64)
  | _, _                 => .closed

/-- A transaction is the STEERING claim or the STEERING transaction on the port (R38, R134). -/
def State.presented (s : State) (t : Txn) : Prop :=
  s.arbiter.steeringClaim = some t ∨ s.arbiter.port = some { claimant := .steering, txn := t }

/-- A transaction is the COPY claim or the COPY transaction on the port (R121). -/
def State.copyPresented (s : State) (t : Txn) : Prop :=
  s.arbiter.copyClaim = some t ∨ s.arbiter.port = some { claimant := .copy, txn := t }

/-- A part that differs in its ports, notes and outgoing responses alone: the records, the lines, the
changes, the link and the queue of commands are those of the other. -/
structure SameRecords (s t : State) : Prop where
  pending   : t.pending = s.pending
  link      : t.link = s.link
  lines     : t.lines = s.lines
  slots     : t.slots = s.slots
  rings     : t.rings = s.rings
  apertures : t.apertures = s.apertures
  schedules : t.schedules = s.schedules
  changes   : t.changes = s.changes

/-- The response the link holds (R171). -/
def State.answers (t : State) (status : Status) (words : List Word) : Prop :=
  t.link.phase = .answer ∧
    ∃ r, t.link.response = some r ∧ r.status = status ∧ r.words = words

/-- A note that an event raises, if its kind is enabled, is among the notes the event adds to the queue,
unless the event has left the queue full (R162, R163). -/
def Raised (s t : State) (n : Note) : Prop :=
  s.notes.enabled n.kind = true →
    n ∈ t.notes.queue.drop s.notes.queue.length ∨ 32 ≤ t.notes.queue.length

/-- A window overlaps no window of an ON aperture and no assigned slot's region (R178). -/
def State.WindowFree (s : State) (base : Addr) (size : Nat) : Prop :=
  (∀ b d, s.apOn b = true → (s.ap b).config = some d →
    overlaps base.toNat size d.windowBase.toNat (2 ^ d.windowSize) = false) ∧
  (∀ sl h, (s.slot sl).home = some h →
    overlaps base.toNat size h.base.toNat (s.slotBytes h.ring) = false)

/-- The new window of a MOVE_WINDOW of an ON aperture "overlaps no window of another ON aperture and no
assigned slot's region" (R146, R152). -/
def State.MoveFree (s : State) (a : ApId) (base : Addr) (size : Nat) : Prop :=
  (∀ b d, b ≠ a → s.apOn b = true → (s.ap b).config = some d →
    overlaps base.toNat size d.windowBase.toNat (2 ^ d.windowSize) = false) ∧
  (∀ sl h, (s.slot sl).home = some h →
    overlaps base.toNat size h.base.toNat (s.slotBytes h.ring) = false)

/-- No RETIRE_SLOT waits in the Change Queue. -/
def State.NoRetirements (s : State) : Prop :=
  ∀ e ∈ s.changes.entries, ∀ sl, e.op ≠ .retireSlot sl

/-- No entry of an aperture waits in the Change Queue. -/
def State.NoEntriesFor (s : State) (a : ApId) : Prop :=
  ∀ e ∈ s.changes.entries, ∀ x, e.op ≠ .aperture a x

/-- The configuration that the fields of a change leave (R146, R152). -/
def ApChange.after (x : ApChange) (c : ApConfig) : ApConfig :=
  match x with
  | .moveWindow base => { c with windowBase := base }
  | .setSources m    => { c with sources := m }
  | .setPick p oe    => { c with pick := p, onEmpty := oe }
  | .setStall st t f => { c with stall := st, timeout := t, fill := f }
  | .setDivider k    => { c with divider := k }
  | .detach          => c

/-- The entries that wait for an aperture, oldest first (R149). -/
def State.entriesFor (s : State) (a : ApId) : List Change :=
  s.changes.entries.filter fun e =>
    match e.op with
    | .aperture b _ => decide (b = a)
    | _ => false

/-- The SET_OVERFLOW entries that wait for a ring, oldest first (R148, R149). -/
def State.entriesForRing (s : State) (r : RingId) : List Change :=
  s.changes.entries.filter fun e =>
    match e.op with
    | .setOverflow q _ => decide (q = r)
    | _ => false

/-- The configuration that entries for one aperture leave, applied in their order (R149). -/
def configAfter (es : List Change) (c : ApConfig) : ApConfig :=
  es.foldl (fun d e => match e.op with | .aperture _ x => ApChange.after x d | _ => d) c

/-- The divider count that entries for one aperture leave: 0 if one of them sets the divider (R90). -/
def countAfter (es : List Change) (n : Nat) : Nat :=
  if es.any fun e => match e.op with | .aperture _ (.setDivider _) => true | _ => false then 0 else n

/-- The policy that entries for one ring leave, applied in their order (R148, R149). -/
def overflowAfter (es : List Change) (o : Overflow) : Overflow :=
  es.foldl (fun p e => match e.op with | .setOverflow _ q => q | _ => p) o

/-- The CHANGE_APPLIED note of an entry for a ring, or for an aperture that holds no slot (R158). -/
def Change.appliedNote (e : Change) (r : RingId) (a : Option ApId) : Note :=
  e.note .changeApplied r a none

/-- An entry is a DETACH. -/
def Change.isDetach (e : Change) : Bool :=
  match e.op with
  | .aperture _ .detach => true
  | _ => false

/-- The entries for an aperture that apply while it is ON: those ahead of a DETACH (R149, R153). -/
def aheadOfDetach (es : List Change) : List Change := es.takeWhile fun e => !e.isDetach

/-- A waiting entry of an ON aperture is rejected at its boundary: a MOVE_WINDOW ahead of any DETACH whose
new window is in the way (R152). Behind a DETACH none is rejected (R153). -/
def State.Rejects (s : State) (a : ApId) (c : ApConfig) (e : Change) : Prop :=
  e ∈ aheadOfDetach (s.entriesFor a) ∧
    ∃ base, e.op = .aperture a (.moveWindow base) ∧ ¬ s.MoveFree a base (2 ^ c.windowSize)

/-- The note of an entry that a boundary of an ON aperture applies or rejects: it names the slot bound to
the aperture as long as no DETACH has applied (R152, R158). -/
def State.boundaryNote (s : State) (a : ApId) (r : RingId) (slot : Option SlotId) (rejected : Bool)
    (e : Change) : Note :=
  e.note (if rejected then .changeRejected else .changeApplied) r (some a)
    (if e ∈ aheadOfDetach (s.entriesFor a) then slot else none)

/-- The entries of an ON aperture apply at its boundary in their order, each to what the earlier ones
left, so that of two for one field the later stays; a DETACH turns it OFF, and the entries behind it
still write their fields (R149, R151 to R153). A SET_DIVIDER resets the divider count, which the acted
boundary has left at 0 (R90). -/
structure EntriesApply (s t : State) (a : ApId) (c : ApConfig) (rejected : Change → Bool) : Prop where
  config : (t.ap a).config = some (configAfter ((s.entriesFor a).filter fun e => !rejected e) c)
  count  : (t.ap a).count = 0
  on     : t.apOn a = true ↔ ∀ e ∈ s.entriesFor a, e.isDetach = false

/-- An entry counts the producer boundaries of a ring: it waits for a consumer of the ring, or is the
RETIRE_SLOT of one of its slots (R150, R155). -/
def State.countedAt (s : State) (r : RingId) (op : ChangeOp) : Bool :=
  match op with
  | .aperture b _ =>
    (s.ap b).config.any fun d => decide (d.ring = r ∧ d.role = .consumer)
  | .setOverflow _ _ => false
  | .retireSlot sl => decide ((s.slot sl).home.map (·.ring) = some r)

/-- An entry is for the producer aperture of a boundary or for its ring (R150). -/
def ChangeOp.isFor (a : ApId) (r : RingId) : ChangeOp → Bool
  | .aperture b _    => decide (b = a)
  | .setOverflow q _ => decide (q = r)
  | .retireSlot _    => false

/-- What the walk of a producer boundary leaves of one entry (R150, R156): nothing of one for the aperture
or its ring; a counted one with an expiry 1 lower, or nothing of it at 0; any other as it was. -/
def State.leftByWalk (s : State) (a : ApId) (r : RingId) (e : Change) : Option Change :=
  if e.op.isFor a r then none
  else if s.countedAt r e.op then
    match e.expiry with
    | 0     => some e
    | 1     => none
    | n + 2 => some { e with expiry := n + 1 }
  else some e

/-- The note that the walk of a producer boundary raises at one entry (R150, R152, R156, R158): applied or
rejected for the aperture or its ring, expired for a counted one whose expiry was 1. `t` gives the slots
bound to consumers. -/
def State.walkNote (s t : State) (a : ApId) (r : RingId) (rejected : Change → Bool) (e : Change) :
    Option Note :=
  if e.op.isFor a r then
    match e.op with
    | .aperture _ _ => some (s.boundaryNote a r none (rejected e) e)
    | _ => some (e.appliedNote r none)
  else if s.countedAt r e.op ∧ e.expiry = 1 then
    match e.op with
    | .aperture b _    => some (e.note .changeExpired r (some b) (t.boundSlot b))
    | .retireSlot sl   => some (e.note .changeExpired r none (some sl))
    | .setOverflow _ _ => none
  else none

/-- A producer boundary does not free the slot (R58, R59, R12): it is HELD, the boundary publishes it, or
it is READY and held by an aperture, retained, or not passed by an ON ORDERED consumer, or the boundary
publishes nothing. -/
def State.StaysOut (s : State) (a : ApId) (r : RingId) (sl : SlotId) : Prop :=
  sl ∈ (s.ring r).held ∨ ((s.ap a).state = .bound sl ∧ (s.slot sl).written = true) ∨
    (sl ∈ (s.ring r).ready ∧
      ((s.slot sl).holders ≠ 0 ∨ (s.slot sl).retained = true ∨
        (∃ b d, ApSet.has (s.ring r).consumers b = true ∧ (s.ap b).config = some d ∧
          d.pick = .ordered ∧ ApSet.has (s.slot sl).passedBy b = false) ∨
        ∀ x, (s.ap a).state = .bound x → (s.slot x).written = false))

/-- A READY slot meets the three terms of R12. -/
def State.MeetsReclamation (s : State) (r : RingId) (sl : SlotId) : Prop :=
  (s.slot sl).holders = 0 ∧
    (∀ a c, ApSet.has (s.ring r).consumers a = true → (s.ap a).config = some c → c.pick = .ordered →
      ApSet.has (s.slot sl).passedBy a = true) ∧
    (s.ring r).ready.getLast? ≠ some sl

/-- No READY slot that meets the reclamation condition is left in a ready list: "a READY slot leaves
the ready list as soon as all of the following hold" (R12). -/
def State.PromptlyReclaimed (s : State) : Prop :=
  ∀ r, ∀ sl ∈ (s.ring r).ready, ¬ s.MeetsReclamation r sl

/-- The slots of a ring that leave its ready list by reclamation, oldest first (R12): retained ones join
the tail of the held list with FRAME_HELD and keep their frame; with no retirement waiting the others join
the tail of the free list and lose frame, marks and sets (R3). `taken` is the slot that a bind of the same
event then takes to fill. -/
structure Reclaimed (s t : State) (r : RingId) (leaving : List SlotId) (taken : Option SlotId) :
    Prop where
  oldestFirst : leaving.Sublist (s.ring r).ready
  gone        : ∀ y ∈ leaving, y ∉ (t.ring r).ready
  held        : (t.ring r).held = (s.ring r).held ++ leaving.filter fun y => (s.slot y).retained
  kept        : ∀ y ∈ leaving, (s.slot y).retained = true →
    (t.slot y).frame = (s.slot y).frame ∧ (t.slot y).retained = true ∧
      Raised s t
        { kind := .frameHeld, ring := some r, slot := some y, frame := (s.slot y).frame }
  free        : s.NoRetirements →
    (t.ring r).free =
      ((s.ring r).free ++ leaving.filter fun y => !(s.slot y).retained).filter fun y =>
        decide (taken ≠ some y)
  freed       : s.NoRetirements → ∀ y ∈ leaving, (s.slot y).retained = false → taken ≠ some y →
    t.slot y =
      { s.slot y with
        frame := none, holders := 0, passedBy := 0, retained := false, releaseRequested := false }

/-- The COPY_ABORTED note of a job, with its detail (R127, R130). -/
def Job.abortedNote (j : Job) (detail : Nat) : Note :=
  { kind := .copyAborted, ring := some j.ring, slot := some j.slot, frame := some j.frame
    tag := some j.id, detail := detail }

/-- A slot record as joining the free list leaves it (R3). -/
def Slot.cleared (x : Slot) : Slot :=
  { x with frame := none, retained := false, releaseRequested := false, passedBy := 0 }

/-- A slot record after its retirement (R1, R23). -/
def Slot.retiredRecord : Slot :=
  { home := none, frame := none, written := false, faulted := false, holders := 0, passedBy := 0
    retained := false, jobs := 0, releaseRequested := false, retirePending := false }

/-- The slot of a job whose jobs count reaches 0 with its release requested goes free (R15). -/
def State.FreesAtEnd (s : State) (j : Job) (release : Bool) : Prop :=
  release = true ∧ (s.slot j.slot).jobs - 1 = 0 ∧ j.slot ∈ (s.ring j.ring).held

/-- A job has become ACTIVE (R121, R122, R124): in its READ half, not cancelled, with its first read claim
waiting or granted and on the port. A job that has not run has done_bytes 0 (`State.QueueLaws`), so the
address is the base of its slot. -/
def Activated (s t : State) (q : Job) : Prop :=
  ∃ (g : Bool) (claim : Txn),
    claim =
      { source := 7, kind := .read, address := s.slotBase q.slot + BitVec.ofNat 32 q.doneBytes
        beats := min 16 ((q.length - q.doneBytes) / 8), masks := [], data := [], lock := false } ∧
    t.copy.active = some { job := q, half := .read, cancelled := false, granted := g } ∧
    (g = false → t.arbiter.copyClaim = some claim) ∧
    (g = true → t.arbiter.copyClaim = none ∧
      t.arbiter.port = some { claimant := .copy, txn := claim })

/-- What the end of the ACTIVE job leaves (R4, R15, R121): the next job is ACTIVE with its first read
claim, and the slot either goes to the free tail or stays with one job less. `release` is its
release_requested field at the end. -/
structure JobEnded (s t : State) (j : Job) (release : Bool) : Prop where
  next    : ∀ q, s.copy.queued.head? = some q → Activated s t q
  queued  : t.copy.queued = s.copy.queued.tail
  staging : t.copy.staging = []
  last    : s.copy.queued = [] →
    t.copy.active = none ∧ t.arbiter.copyClaim = none ∧ t.arbiter.shareCount = 0
  others  : ∀ x, x ≠ j.slot → t.slot x = s.slot x
  kept    : ¬ s.FreesAtEnd j release →
    t.rings = s.rings ∧
      t.slot j.slot =
        { s.slot j.slot with jobs := (s.slot j.slot).jobs - 1, releaseRequested := release }
  freed   : s.FreesAtEnd j release →
    t.ring j.ring =
        { s.ring j.ring with
          held := (s.ring j.ring).held.erase j.slot, free := (s.ring j.ring).free ++ [j.slot] } ∧
      t.slot j.slot =
        { s.slot j.slot with
          jobs := 0, frame := none, retained := false, releaseRequested := false, passedBy := 0 }

/-- The one entry of the Change Queue, the retirement of a slot of a ring, applies as an event frees the
slot (R154): at the pool floor it is rejected, and otherwise the slot is retired (R23). -/
structure RetirementApplied (s t : State) (r : RingId) (sl : SlotId) (e : Change) (floor : Prop) :
    Prop where
  left     : t.changes.entries = []
  rejected : floor →
    (t.slot sl).home = (s.slot sl).home ∧ (t.slot sl).retirePending = false ∧
      (t.ring r).pool = (s.ring r).pool ∧
      Raised s t
        { kind := .changeRejected, ring := some r, slot := some sl, tag := some e.seq, detail := 8 }
  retired  : ¬ floor →
    t.slot sl = Slot.retiredRecord ∧
      (∀ q, sl ∉ (t.ring q).lists ∧ t.fillingSlot q ≠ some sl) ∧
      (t.ring r).pool = (s.ring r).pool - 1 ∧
      Raised s t
        { kind := .changeApplied, ring := some r, slot := some sl, tag := some e.seq, detail := 8 }

/-- A RETIRE_SLOT waits on a slot. -/
def State.retires (s : State) (sl : SlotId) : Bool :=
  s.changes.entries.any fun e => decide (e.op = .retireSlot sl)

/-- Of the slots that one event frees, in the order in which they join the free list, those that their
waiting retirements take away: "the pool is checked again" at each, so that a retirement is rejected if
the ring is ON and the pool, less the slots retired before, is 2 or less (R113, R154). -/
def retiredOf (on : Bool) (waits : SlotId → Bool) : Nat → List SlotId → List SlotId
  | _, [] => []
  | pool, sl :: rest =>
    if waits sl = true ∧ (on = false ∨ 2 < pool) then sl :: retiredOf on waits (pool - 1) rest
    else retiredOf on waits pool rest

/-- The note of the retirement that waits on a freed slot, if one does (R154, R158). -/
def State.retireNote (s : State) (r : RingId) (gone : List SlotId) (sl : SlotId) : Option Note :=
  (s.changes.entries.find? fun e => decide (e.op = .retireSlot sl)).map fun e =>
    e.note (if sl ∈ gone then .changeApplied else .changeRejected) r none (some sl)

/-- The retirements waiting on the slots of a ring that one event frees all apply in it (R154): the slots
of `gone` are retired, which the pool counts, and the others are rejected and stay in the ring. -/
structure RetirementsApplied (s t : State) (r : RingId) (freed gone : List SlotId) : Prop where
  left    : ∀ x ∈ freed, ∀ e ∈ t.changes.entries, e.op ≠ .retireSlot x
  pool    : (t.ring r).pool = (s.ring r).pool - gone.length
  retired : ∀ x ∈ gone, t.slot x = Slot.retiredRecord ∧
    ∀ q, x ∉ (t.ring q).lists ∧ t.fillingSlot q ≠ some x
  stays   : ∀ x ∈ freed, x ∉ gone →
    (t.slot x).home = (s.slot x).home ∧ (s.retires x = true → (t.slot x).retirePending = false)
  notes   : ∀ x ∈ freed, ∀ n, s.retireNote r gone x = some n → Raised s t n

/-- The Change Queue without the retirements of some slots; the others keep their order (R145). -/
def State.withoutRetirements (s : State) (sls : List SlotId) : List Change :=
  s.changes.entries.filter fun e => sls.all fun x => decide (e.op ≠ .retireSlot x)

/-- A slot of a ring has the one entry of the Change Queue, its retirement, waiting on it (R22, R154). -/
def State.OnlyRetires (s : State) (r : RingId) (sl : SlotId) (e : Change) : Prop :=
  s.changes.entries = [e] ∧ e.op = .retireSlot sl ∧ (s.slot sl).home.map (·.ring) = some r

/-! ### A line event (R89, R91) -/

/-- An aperture is ON and selects a line. -/
def State.selects (s : State) (line : FrameLine) (a : ApId) : Prop :=
  s.apOn a = true ∧ ∃ c, (s.ap a).config = some c ∧
    c.line = (match line with | .a => LineSel.a | .b => LineSel.b)

/-- A boundary event of a line reaches apertures one after another (R89, R91): each that is ON then and
selects the line takes it as a BOUNDARY of its own, finished before the next, and any other is passed
over. The link stays as it was. -/
def Delivered (line : FrameLine) (order : List ApId) : List ApId → State → State → Prop
  | [], s, t => t = s
  | a :: rest, s, t =>
    (s.selects line a → ∃ u, exec (.boundary (requestFor 0x05 [idWord a]) order) s = .next u ∧
      Delivered line order rest { u with link := s.link } t) ∧
    (¬ s.selects line a → Delivered line order rest s t)

end Sys2Proof.Machine
end

