-- ==== Sys2Proof/Certificates/Slice0/Obligations.lean ====
section
/-! DEFINITION. The statements for the provers, in the order of OBLIGATIONS.json: the machine and its
link, the lines and clock, boundaries, the link commands by chapter, the two buses, the Arbiter, and the
invariants. A request is written `requestFor code words`; a statement's premise `s.link.phase = .request`
says that the exchange is in REQUEST (R168). -/

open Sys2Proof Sys2Proof.Machine

/-! ### The machine -/

/-- A step takes the command at the front of the queue and runs it with the queue's rest; with an empty
queue the block idles. The queue is the model's (log 1). -/
def Obligations.StepTakesTheFront : Prop :=
  (∀ (c : Instr) (rest : List Instr) (s : State),
    step { s with pending := c :: rest } = exec c { s with pending := rest }) ∧
  ∀ s : State, s.pending = [] → step s = .next s

/-- No command stops the part, and none touches the queue of commands to come. -/
def Obligations.EveryCommandCompletes : Prop :=
  ∀ (c : Instr) (s : State), ∃ t, exec c s = .next t ∧ t.pending = s.pending

/-- What POWER_ON_RESET leaves in every record (R24, R47, R67, R84, R95, R115, R131, R143, R159, R167,
R186), and that `State.reset` is that state for lines low and SEL high, which the model chose (log 6). -/
def Obligations.PowerOnResetValues : Prop :=
  (∀ (s : State) (levels : LineLevels) (selLow : Bool),
    ∃ t, exec (.powerOnReset levels selLow) s = .next t ∧
      (∀ sl, t.slot sl =
        { home := none, frame := none, written := false, faulted := false, holders := 0,
          passedBy := 0, retained := false, jobs := 0, releaseRequested := false,
          retirePending := false }) ∧
      (∀ r, t.ring r =
        { on := false, slotSize := none, overflow := .dropNew, frameCounter := 0, free := [],
          ready := [], held := [], producer := none, consumers := 0, pool := 0 }) ∧
      (∀ a, t.ap a = { config := none, state := .off, count := 0, deferred := false }) ∧
      (∀ r, t.sched r =
        { delay := 0, burst := 0, gap := 0, bursts := 0, start := .command, state := .idle,
          remaining := 0, burstsDone := 0 }) ∧
      t.steering = { phase := .opened, waiting := [], lock := .closed } ∧
      t.arbiter =
        { port := none, steeringClaim := none, copyClaim := none, shareCount := 0, share := 4 } ∧
      t.copy = { active := none, queued := [], nextId := 1, staging := [] } ∧
      t.changes = { entries := [], nextSeq := 1 } ∧
      t.notes.queue = [] ∧ t.notes.lost = false ∧ t.notes.attnEnable = true ∧
      (∀ k, t.notes.enabled k = decide (k ≠ .framePublished ∧ k ≠ .changeApplied)) ∧
      t.lines =
        { edgeA := .falling, edgeB := .falling, edgeSnap := .falling, levelA := levels.frameA,
          levelB := levels.frameB, levelSnap := levels.snap, divisor := 1, periods := 0 } ∧
      t.link =
        { selLow := selLow, phase := .idle, request := [], response := none, truncated := false,
          responseLost := false, resetSeen := true }) ∧
  exec (.powerOnReset { frameA := false, frameB := false, snap := false } false) State.reset =
    .next State.reset

/-- What RESET_CORE leaves (R25, R48, R67, R95, R115, R132, R143, R159, R167, R177): the records take
their reset values, a stalled read is answered FAULT, a transaction on the port stays, and the response
shows RESET_SEEN with no notes. -/
def Obligations.ResetCoreResetsTheBlocks : Prop :=
  ∀ (s : State) (levels : LineLevels), s.link.phase = .request →
    ∃ t, exec (.resetCore (requestFor 0x02 []) levels) s = .next t ∧
      (∀ sl, t.slot sl = Slot.unassigned) ∧ (∀ r, t.ring r = Ring.atReset) ∧
      (∀ a, t.ap a = Aperture.atReset) ∧ (∀ r, t.sched r = Schedule.atReset) ∧
      t.lines = Lines.atReset levels ∧ t.copy = CopyEngine.atReset ∧
      t.changes = ChangeQueue.atReset ∧ t.notes = NoteQueue.atReset ∧
      t.link =
        { s.link with
          phase := .answer, request := requestBytes 0x02 (requestFor 0x02 []), resetSeen := true,
          response := some
            { status := .done, words := []
              flags := BitVec.ofNat 8 (16 + 4 * bit s.link.truncated + 8 * bit s.link.responseLost) } } ∧
      t.arbiter.copyClaim = none ∧ t.arbiter.shareCount = 0 ∧ t.arbiter.share = 4 ∧
      (∀ g, s.arbiter.port = some g → t.arbiter.port = some g) ∧
      (∀ x tg, s.steering.phase = .inFlight x tg →
        t.steering = { phase := .inFlight x none, waiting := s.steering.waiting, lock := .closed } ∧
        t.aOut = s.aOut ∧
        (s.arbiter.port.isSome = true → t.arbiter.steeringClaim = s.arbiter.steeringClaim)) ∧
      (∀ x a base timer, s.steering.phase = .stalled x a base timer →
        (∃ d, t.aOut =
          s.aOut ++ [{ source := x.source, kind := x.kind, outcome := .fault, data := d }]) ∧
        (s.steering.waiting = [] → t.steering = { phase := .opened, waiting := [], lock := .closed })) ∧
      (s.PortOpen →
        t.steering = { phase := .opened, waiting := [], lock := .closed } ∧ t.aOut = s.aOut)

/-! ### The management link -/

/-- The phases of an exchange. A fall of SEL begins one in REQUEST, unless SEL was low already (R168,
log 3); the end of a response makes the controller SPENT and clears the sticky flags the response showed
(R173); and the rise of SEL ends it, with the effect R172 gives each phase. -/
def Obligations.ExchangesFollowThePhases : Prop :=
  (∀ s : State, s.link.selLow = false →
    exec .selFall s =
      .next { s with link :=
        { s.link with selLow := true, phase := .request, request := [], response := none } }) ∧
  (∀ s : State, s.link.selLow = true → exec .selFall s = .next s) ∧
  (∀ (s : State) (r : Response), s.link.phase = .answer → s.link.response = some r →
    exec .responseComplete s =
      .next { s with link :=
        { s.link with
          phase := .spent
          truncated := s.link.truncated && !r.flags.getLsbD 2
          responseLost := s.link.responseLost && !r.flags.getLsbD 3 } }) ∧
  (∀ s : State, s.link.phase ≠ .answer → exec .responseComplete s = .next s) ∧
  ∀ (s : State) (periods : Nat),
    ∃ truncated lost : Bool,
      exec (.selRise periods) s =
        .next { s with link :=
          { s.link with
            selLow := false, phase := .idle, request := [], response := none
            truncated := truncated, responseLost := lost } } ∧
      (s.link.phase = .request → periods = 0 →
        truncated = s.link.truncated ∧ lost = s.link.responseLost) ∧
      (s.link.phase = .request → 0 < periods → truncated = true ∧ lost = s.link.responseLost) ∧
      (s.link.phase = .answer → truncated = s.link.truncated ∧ lost = true) ∧
      (s.link.phase = .spent → truncated = s.link.truncated ∧ lost = s.link.responseLost) ∧
      (s.link.phase = .idle → truncated = s.link.truncated ∧ lost = s.link.responseLost)

/-- The bytes of a request spell its command (R169, R174), and the bits on SDI its bytes, most significant
first (R168): every command of R174 is read from its code, argument count, argument words and check byte;
a code in no row is BAD_COMMAND, and a count byte above 6 ends the request at once; nothing else is read,
and a request ends exactly where its count says. What a request does not carry is given: the line levels
of RESET_CORE (log 6) and the order of deliveries of BOUNDARY (log 8). -/
def Obligations.RequestsSpellTheirCommands : Prop :=
  ∀ (levels : LineLevels) (order : List ApId),
    (∀ (i : Instr) (code : Byte) (req : Request), Instr.linkCommand i = some (code, req) →
      req.args.length ≤ 6 → (∀ q l, i = .resetCore q l → l = levels) →
      (∀ q o, i = .boundary q o → o = order) →
      readRequest levels order (requestBytes code req) = some i) ∧
    (∀ (code : Byte) (req : Request), commandCodes.contains code = false → req.args.length ≤ 6 →
      readRequest levels order (requestBytes code req) = some (.badCommand code req)) ∧
    (∀ code count : Byte, 6 < count.toNat →
      readRequest levels order [code, count] = some (.excessArgumentCount code count)) ∧
    (∀ (bytes : List Byte) (i : Instr), readRequest levels order bytes = some i →
      (∃ code req, bytes = requestBytes code req ∧ req.args.length ≤ 6 ∧
        (Instr.linkCommand i = some (code, req) ∨
          commandCodes.contains code = false ∧ i = .badCommand code req)) ∨
      ∃ code count : Byte, 6 < count.toNat ∧ bytes = [code, count] ∧
        i = .excessArgumentCount code count) ∧
    (∀ (bytes more : List Byte), (readRequest levels order bytes).isSome = true → more ≠ [] →
      readRequest levels order (bytes ++ more) = none) ∧
    ∀ bytes : List Byte,
      readRequestBits levels order (bytes.flatMap fun b =>
        [b.getLsbD 7, b.getLsbD 6, b.getLsbD 5, b.getLsbD 4, b.getLsbD 3, b.getLsbD 2, b.getLsbD 1,
          b.getLsbD 0]) = readRequest levels order bytes

/-- Requests that are refused by the controller: a count byte above 6 ends the request with BAD_ARG
(R169); checks 1, 3 and 4 in their order for every command of R174 (R170, R175); check 2 for a code that
is in no row of R174. Nothing but the link changes. Outside REQUEST a link command changes nothing, which
is how the model reads such a row (R168, log 3). -/
def Obligations.UnreadableRequestsAreRefused : Prop :=
  (∀ (s : State) (code count : Byte), s.link.phase = .request → 6 < count.toNat →
    exec (.excessArgumentCount code count) s = .next (s.answeredBytes [code, count] .badArg [])) ∧
  (∀ (i : Instr) (code : Byte) (req : Request) (s : State),
    Instr.linkCommand i = some (code, req) → s.link.phase = .request → req.args.length ≤ 6 →
      (byteSum (requestBytes code req) ≠ 0 →
        exec i s = .next (s.answeredBytes (requestBytes code req) .badCheck [])) ∧
      (byteSum (requestBytes code req) = 0 → argsInRange code.toNat (req.args.map (·.toNat)) = false →
        exec i s = .next (s.answeredBytes (requestBytes code req) .badArg []))) ∧
  (∀ (s : State) (code : Byte) (req : Request), s.link.phase = .request → req.args.length ≤ 6 →
    commandCodes.contains code = false →
      exec (.badCommand code req) s =
        .next (s.answeredBytes (requestBytes code req)
          (if byteSum (requestBytes code req) = 0 then .badCommand else .badCheck) [])) ∧
  ∀ (i : Instr) (code : Byte) (req : Request) (s : State),
    Instr.linkCommand i = some (code, req) → s.link.phase ≠ .request → exec i s = .next s

/-- The bytes of a response: the status code, flags, word count, the words most significant byte first,
and a check byte that makes the sum 0 modulo 256 (R170, R171); the flags byte bit by bit (R173); and SDO:
idle bytes 0xFF in every phase but ANSWER, there idle bytes of any number (log 5) and then the response
bytes, of which the first is no idle byte, and idle bytes after them; one bit for each SCLK period, the
most significant of a byte first (R168, R171). -/
def Obligations.ResponseBytesAreFramed : Prop :=
  (∀ r : Response, r.words.length ≤ 30 →
    byteSum r.bytes = 0 ∧ r.bytes.length = 4 + 4 * r.words.length ∧
      (r.bytes[0]?).map (·.toNat) = some
        (match r.status with
          | .done => 0x00 | .queued => 0x01 | .busy => 0x10 | .badCommand => 0x11 | .badArg => 0x12
          | .badCheck => 0x13 | .noSpace => 0x14 | .noEntry => 0x15 | .wrongState => 0x16
          | .conflict => 0x17) ∧
      r.bytes[1]? = some r.flags ∧ (r.bytes[2]?).map (·.toNat) = some r.words.length ∧
      ∀ (i : Nat) (w : Word), r.words[i]? = some w →
        (r.bytes.drop (3 + 4 * i)).take 4 =
          [w.extractLsb' 24 8, w.extractLsb' 16 8, w.extractLsb' 8 8, w.extractLsb' 0 8]) ∧
  (∀ (s : State) (i : Nat),
    s.flagsByte.getLsbD i =
      (if i = 0 then decide (s.notes.queue ≠ [])
      else if i = 1 then s.notes.lost
      else if i = 2 then s.link.truncated
      else if i = 3 then s.link.responseLost
      else decide (i = 4) && s.link.resetSeen)) ∧
  ∀ (l : Link) (idle : Nat),
    (l.phase ≠ .answer → ∀ i, l.sdoByte idle i = 0xFF) ∧
    (∀ r, l.phase = .answer → l.response = some r →
      (∀ i, i < idle → l.sdoByte idle i = 0xFF) ∧ l.sdoByte idle idle ≠ 0xFF ∧
      (∀ (i : Nat) (b : Byte), r.bytes[i]? = some b → l.sdoByte idle (idle + i) = b) ∧
      ∀ i, idle + r.bytes.length ≤ i → l.sdoByte idle i = 0xFF) ∧
    ∀ i j, j < 8 → l.sdoBit idle (8 * i + j) = (l.sdoByte idle i).getLsbD (7 - j)

/-- "A command refused by any check is not taken and changes nothing in any block" (R170), and no status
but DONE, QUEUED and BUSY carries words (R171). -/
def Obligations.RefusalChangesOnlyTheLink : Prop :=
  ∀ (i : Instr) (code : Byte) (req : Request) (s t : State) (r : Response),
    Instr.linkCommand i = some (code, req) → s.link.phase = .request → exec i s = .next t →
      t.link.response = some r → r.status ≠ .done → r.status ≠ .queued →
        { t with link := s.link } = s ∧ (r.status ≠ .busy → r.words = [])

/-- TIMEBASE, LINE_SETUP, COPY_SHARE and NOTE_MASK replace their settings and nothing else (R86, R93,
R138, R165), and the kind mask and ATTN enable, the share setting, the divisor and the active edges
change only by their own commands and the two resets. -/
def Obligations.SettingsChangeByTheirCommandsAlone : Prop :=
  (∀ s : State, s.link.phase = .request →
    (∀ d : Nat, 1 ≤ d → d ≤ 1024 →
      exec (.timebase (requestFor 0x03 [numWord d])) s =
        .next (State.answered { s with lines := { s.lines with divisor := d, periods := 0 } } 0x03
          [numWord d] .done [])) ∧
    (∀ e : Edge,
      exec (.lineSetup (requestFor 0x04 [0, if e = .rising then 1 else 0])) s =
        .next (State.answered { s with lines := { s.lines with edgeA := e } } 0x04
          [0, if e = .rising then 1 else 0] .done []) ∧
      exec (.lineSetup (requestFor 0x04 [1, if e = .rising then 1 else 0])) s =
        .next (State.answered { s with lines := { s.lines with edgeB := e } } 0x04
          [1, if e = .rising then 1 else 0] .done []) ∧
      exec (.lineSetup (requestFor 0x04 [2, if e = .rising then 1 else 0])) s =
        .next (State.answered { s with lines := { s.lines with edgeSnap := e } } 0x04
          [2, if e = .rising then 1 else 0] .done [])) ∧
    (∀ k : Nat, k ≤ 15 →
      exec (.copyShare (requestFor 0x2A [numWord k])) s =
        .next (State.answered { s with arbiter := { s.arbiter with share := k } } 0x2A [numWord k]
          .done [])) ∧
    (∀ (m : BitVec 19) (e : Bool),
      exec (.noteMask (requestFor 0x39 [numWord m.toNat, boolWord e])) s =
        .next (State.answered { s with notes := { s.notes with mask := m, attnEnable := e } } 0x39
          [numWord m.toNat, boolWord e] .done []))) ∧
  ∀ (i : Instr) (s t : State), exec i s = .next t →
    (∀ req levels, i ≠ .resetCore req levels) → (∀ levels selLow, i ≠ .powerOnReset levels selLow) →
      ((∀ req, i ≠ .noteMask req) →
        t.notes.mask = s.notes.mask ∧ t.notes.attnEnable = s.notes.attnEnable) ∧
      ((∀ req, i ≠ .copyShare req) → t.arbiter.share = s.arbiter.share) ∧
      ((∀ req, i ≠ .timebase req) → t.lines.divisor = s.lines.divisor) ∧
      ((∀ req, i ≠ .lineSetup req) →
        t.lines.edgeA = s.lines.edgeA ∧ t.lines.edgeB = s.lines.edgeB ∧
          t.lines.edgeSnap = s.lines.edgeSnap)

/-! ### Lines and clock -/

/-- A SNAP event at the four schedules (R92, R100), from the command and from an active edge; the other
edge and a constant level are no event (R85, log 7). -/
def Obligations.SnapEventActsOnEverySchedule : Prop :=
  ∀ s : State,
    ∃ schedules notes,
      (∀ r : RingId, schedules[r] =
        if (s.sched r).start = .snap ∧ (s.sched r).state = .armed then
          if 0 < (s.sched r).delay then
            { s.sched r with state := .delay, remaining := (s.sched r).delay }
          else { s.sched r with state := .retaining, remaining := (s.sched r).burst }
        else s.sched r) ∧
      notes =
        ([0, 1, 2, 3] : List RingId).foldl (fun q r =>
          if (s.sched r).start = .snap then
            match (s.sched r).state with
            | .delay => q.push { kind := .triggerIgnored, ring := some r, detail := 1 }
            | .retaining => q.push { kind := .triggerIgnored, ring := some r, detail := 2 }
            | .gap => q.push { kind := .triggerIgnored, ring := some r, detail := 3 }
            | .idle | .armed => q
          else q) s.notes ∧
      (s.link.phase = .request →
        exec (.snap (requestFor 0x06 [])) s =
          .next (State.answered { s with schedules := schedules, notes := notes } 0x06 [] .done [])) ∧
      (∀ level,
        (if s.lines.edgeSnap.isActive s.lines.levelSnap level then
          exec (.snapEdge level) s =
            .next { s with
              schedules := schedules, notes := notes
              lines := { s.lines with levelSnap := level } }
        else
          exec (.snapEdge level) s = .next { s with lines := { s.lines with levelSnap := level } }))

/-- "BOUNDARY with target A acts exactly as an active edge on FRAMEA, and BOUNDARY with target B exactly
as an active edge on FRAMEB" (R87), with the deliveries in one order (log 8); the other edge is no event
(R85). A line event reaches the ON apertures that select the line (R89), however many: one after another,
those the operand lists first and the others in ascending order (log 8), each takes it as a BOUNDARY of
its own if it is then still ON, and one delivery is finished before the next (R91, log 23). With one
aperture it acts as that one BOUNDARY, and with none it changes nothing (R87). -/
def Obligations.BoundaryCommandActsAsAnEdge : Prop :=
  ∀ (s : State) (line : FrameLine) (level active : Bool) (order : List ApId) (target : Word)
    (lines : Lines),
    s.link.phase = .request → target = (match line with | .a => 8 | .b => 9) →
    active = (match line with
      | .a => s.lines.edgeA.isActive s.lines.levelA level
      | .b => s.lines.edgeB.isActive s.lines.levelB level) →
    lines = (match line with
      | .a => { s.lines with levelA := level }
      | .b => { s.lines with levelB := level }) →
    (active = true →
      ∃ t u, exec (.boundaryEvent line level order) s = .next t ∧
        exec (.boundary (requestFor 0x05 [target]) order) s = .next u ∧ u.answers .done [] ∧
        t.link = s.link ∧ t.lines = lines ∧ u.lines = s.lines ∧
        { t with link := u.link, lines := u.lines } = u) ∧
    (active = false →
      exec (.boundaryEvent line level order) s = .next { s with lines := lines }) ∧
    (∀ turn, turn = order.eraseDups ++ allAps.filter (fun a => decide (a ∉ order)) →
      ∃ u, exec (.boundary (requestFor 0x05 [target]) order) s = .next u ∧ u.answers .done [] ∧
        Delivered line order turn s { u with link := s.link }) ∧
    ((∀ b, ¬ s.selects line b) →
      exec (.boundary (requestFor 0x05 [target]) order) s =
        .next (s.answered 0x05 [target] .done [])) ∧
    (∀ a, s.selects line a → (∀ b, b ≠ a → ¬ s.selects line b) →
      ∃ u v, exec (.boundary (requestFor 0x05 [target]) order) s = .next u ∧
        exec (.boundary (requestFor 0x05 [idWord a]) order) s = .next v ∧
        { u with link := v.link } = v)

/-- BOUNDARY to one aperture: refused unless it is ON (R88); a boundary the divider does not pass only
counts (R90); one that is acted while a transaction through the aperture is in flight or the lock window
is held through it becomes pending, or merges into a pending one with BOUNDARY_MERGED (R55, R56, R73,
R74). -/
def Obligations.BoundariesCountDeferAndMerge : Prop :=
  ∀ (s : State) (a : ApId) (order : List ApId), s.link.phase = .request →
    (s.apOn a = false →
      exec (.boundary (requestFor 0x05 [idWord a]) order) s =
        .next (s.answered 0x05 [idWord a] .wrongState [])) ∧
    (∀ c, s.Settled → s.apOn a = true → (s.ap a).config = some c →
      ((s.ap a).count + 1 ≠ c.divider →
        exec (.boundary (requestFor 0x05 [idWord a]) order) s =
          .next (State.answered (s.setAp a { s.ap a with count := (s.ap a).count + 1 }) 0x05
            [idWord a] .done [])) ∧
      ((s.ap a).count + 1 = c.divider → (s.ap a).deferred = false →
        (s.inFlightThrough a = true ∨ s.lockedThrough a = true) →
        exec (.boundary (requestFor 0x05 [idWord a]) order) s =
          .next (State.answered (s.setAp a { s.ap a with count := 0, deferred := true }) 0x05
            [idWord a] .done [])) ∧
      ((s.ap a).count + 1 = c.divider → (s.ap a).deferred = true →
        exec (.boundary (requestFor 0x05 [idWord a]) order) s =
          .next (State.answered
            { s.setAp a { s.ap a with count := 0 } with
              notes := s.notes.push
                { kind := .boundaryMerged, ring := some c.ring, aperture := some a
                  detail := if s.inFlightThrough a then 1 else 2 } } 0x05 [idWord a] .done [])))

/-! ### Boundary operations -/

/-- A producer's acted boundary with a written slot publishes it (R58, R103, R104): the slot is the
newest READY slot with its frame number, retained exactly if the schedule is RETAINING and the guard
allows it; FRAME_PUBLISHED says so, RETAIN_REFUSED reports a refusal; and the bind that follows advances
the counter (R63), unless a DETACH of the producer waits (R62). Exactly the older READY slots that no
aperture holds and every ON ORDERED consumer has passed are reclaimed, to the held or the free tail (R12),
and the bind takes the head of the free list they leave. Where they leave it empty, the bind steals under
OVERWRITE_OLDEST the oldest slot of the ready list they leave that is neither held, retained, newest, nor
acquired at this publish, with FRAME_DROPPED (R64), and otherwise the producer is STARVED with
PRODUCER_STARVED (R65); the overflow policy is that which the walk leaves (R61, R62). Other rings are not
touched. -/
def Obligations.BoundaryPublishesTheWrittenSlot : Prop :=
  ∀ (s : State) (a : ApId) (c : ApConfig) (sl : SlotId) (order : List ApId),
    s.link.phase = .request → s.Settled → s.Placed → s.ActsNow a c → c.role = .producer →
      (s.ap a).state = .bound sl → (s.slot sl).written = true → (s.slot sl).retained = false →
      ∃ t, exec (.boundary (requestFor 0x05 [idWord a]) order) s = .next t ∧ t.answers .done [] ∧
        (t.ring c.ring).ready.getLast? = some sl ∧ (t.slot sl).frame = (s.slot sl).frame ∧
        (t.slot sl).written = true ∧ (t.slot sl).faulted = (s.slot sl).faulted ∧
        ((t.slot sl).retained = true ↔
          (s.sched c.ring).state = .retaining ∧
            (s.ring c.ring).held.length +
              ((s.ring c.ring).ready.filter fun x => (s.slot x).retained).length <
                (s.ring c.ring).pool - 2) ∧
        Raised s t
          { kind := .framePublished, ring := some c.ring, aperture := some a, slot := some sl
            frame := (s.slot sl).frame, detail := if (t.slot sl).retained then 1 else 0 } ∧
        ((s.sched c.ring).state = .retaining → (t.slot sl).retained = false →
          Raised s t
            { kind := .retainRefused, ring := some c.ring, aperture := some a, slot := some sl
              frame := (s.slot sl).frame
              detail := (s.ring c.ring).held.length +
                ((s.ring c.ring).ready.filter fun x => (s.slot x).retained).length }) ∧
        ((∀ e ∈ s.changes.entries, e.op ≠ .aperture a .detach) →
          t.apOn a = true ∧
            (t.ring c.ring).frameCounter = wrapNext 0xFFFFFFFF (s.ring c.ring).frameCounter) ∧
        ((∃ seq expiry, s.changes.entries =
            [{ seq := seq, op := .aperture a .detach, expiry := expiry }]) →
          t.apOn a = false ∧ (t.ring c.ring).producer = none ∧ t.changes.entries = [] ∧
            (t.ring c.ring).frameCounter = (s.ring c.ring).frameCounter) ∧
        (∃ leaving, Reclaimed s t c.ring leaving (t.boundSlot a) ∧
          (∀ y ∈ (s.ring c.ring).ready, y ∈ leaving ↔
            (s.slot y).holders = 0 ∧
              ∀ b d, ApSet.has (s.ring c.ring).consumers b = true → (s.ap b).config = some d →
                d.pick = .ordered → ApSet.has (s.slot y).passedBy b = true) ∧
          (s.NoRetirements → t.apOn a = true → ∀ z rest,
            (s.ring c.ring).free ++ leaving.filter (fun y => !(s.slot y).retained) = z :: rest →
              (t.ap a).state = .bound z ∧ (t.ring c.ring).ready =
                ((s.ring c.ring).ready ++ [sl]).filter fun y => decide (y ∉ leaving)) ∧
          (s.NoRetirements → t.apOn a = true →
            (s.ring c.ring).free ++ leaving.filter (fun y => !(s.slot y).retained) = [] →
            ∀ (n : Nat) (ready : List SlotId) (stealable : SlotId → Bool),
              n = (if (s.ring c.ring).frameCounter < 0xFFFFFFFF then
                (s.ring c.ring).frameCounter + 1 else 1) →
              ready = ((s.ring c.ring).ready ++ [sl]).filter (fun y => decide (y ∉ leaving)) →
              (∀ y, stealable y = true ↔
                (s.slot y).holders = 0 ∧ (s.slot y).retained = false ∧ y ≠ sl ∧
                ∀ b d, ApSet.has (s.ring c.ring).consumers b = true → (s.ap b).config = some d →
                  d.pick = .ordered → (s.ap b).state = .unbound →
                    ((s.ring c.ring).ready ++ [sl]).find?
                      (fun x => !ApSet.has (s.slot x).passedBy b) ≠ some y) →
              (∀ y, (t.ring c.ring).overflow = .overwriteOldest → ready.find? stealable = some y →
                (t.ap a).state = .bound y ∧ (t.ring c.ring).ready = ready.erase y ∧
                (t.ring c.ring).free = [] ∧
                t.slot y =
                  { s.slot y with
                    frame := some n, written := false, faulted := false, holders := 0, passedBy := 0
                    retained := false, releaseRequested := false } ∧
                ∃ missed : ApSet,
                  (∀ b, ApSet.has missed b = true ↔
                    ApSet.has (s.ring c.ring).consumers b = true ∧
                      (s.ap b).config.map (·.pick) = some .ordered ∧
                      ApSet.has (s.slot y).passedBy b = false) ∧
                  Raised s t
                    { kind := .frameDropped, ring := some c.ring, aperture := some a, slot := some y
                      frame := (s.slot y).frame, detail := missed.toNat }) ∧
              ∀ detail,
                (t.ring c.ring).overflow = .dropNew ∧ detail = 0 ∨
                  (t.ring c.ring).overflow = .overwriteOldest ∧ ready.find? stealable = none ∧
                    detail = 1 →
                (t.ap a).state = .unbound ∧ (t.ring c.ring).ready = ready ∧
                (t.ring c.ring).free = [] ∧
                Raised s t
                  { kind := .producerStarved, ring := some c.ring, aperture := some a
                    frame := some n, detail := detail })) ∧
        (∀ q, q ≠ c.ring → t.ring q = s.ring q)

/-- Acquisition at publish (R81): every WAITING consumer of the ring is VIEWING after the publish, a
NEWEST one the slot just published, an ORDERED one the oldest READY slot it has not passed, where it
joins the passed_by set of the slot and of every older READY slot (R7). A read stalled on the consumer is
translated into the slot it acquires, from the window base it was accepted under (log 18), presented and
in flight (R40, R82). A VIEWING consumer does not move. -/
def Obligations.WaitingConsumersAcquireAtPublish : Prop :=
  ∀ (s : State) (a b : ApId) (c d : ApConfig) (sl : SlotId) (order : List ApId),
    s.link.phase = .request → s.Settled → s.Placed → s.ActsNow a c → c.role = .producer →
      (s.ap a).state = .bound sl → (s.slot sl).written = true → (s.slot sl).passedBy = 0 →
      (s.ap b).config = some d → d.role = .consumer → d.ring = c.ring → s.apOn b = true →
      ∃ t, exec (.boundary (requestFor 0x05 [idWord a]) order) s = .next t ∧
        ((s.ap b).state = .unbound → ∀ queue, queue = (s.ring c.ring).ready ++ [sl] →
          ∃ x,
            (d.pick = .newest → x = sl) ∧
            (d.pick = .ordered →
              queue.find? (fun y => !ApSet.has (s.slot y).passedBy b) = some x ∧
              ApSet.has (t.slot x).passedBy b = true ∧
              ∀ y ∈ takeThrough x queue, y ∈ (t.ring c.ring).ready →
                ApSet.has (t.slot y).passedBy b = true) ∧
            (t.ap b).state = .bound x ∧ ApSet.has (t.slot x).holders b = true ∧
            ∀ w base timer, s.steering.phase = .stalled w b base timer →
              t.steering =
                { s.steering with
                  phase := .inFlight w
                    (some { ap := b, ring := c.ring, slot := x, frame := (s.slot x).frame }) } ∧
              t.presented { w with address := s.slotBase x + (w.address - base) }) ∧
        ∀ x, (s.ap b).state = .bound x → t.ap b = s.ap b

/-- A producer's acted boundary with an unwritten slot (R59, R63), with no change waiting and the
schedule IDLE: FRAME_EMPTY, and the bind takes the returned slot again for the next frame number. -/
def Obligations.EmptyBoundaryRebindsTheSlot : Prop :=
  ∀ (s : State) (a : ApId) (c : ApConfig) (sl : SlotId) (order : List ApId),
    s.link.phase = .request → s.Settled → s.ActsNow a c → c.role = .producer →
      (s.ap a).state = .bound sl → (s.slot sl).written = false → s.changes.entries = [] →
      (s.sched c.ring).state = .idle →
      exec (.boundary (requestFor 0x05 [idWord a]) order) s =
        .next (State.answered
          { ((s.setAp a { s.ap a with count := 0 }).setRing c.ring
              { s.ring c.ring with
                frameCounter := wrapNext 0xFFFFFFFF (s.ring c.ring).frameCounter }).setSlot sl
              { s.slot sl with
                frame := some (wrapNext 0xFFFFFFFF (s.ring c.ring).frameCounter)
                written := false, faulted := false, holders := 0, passedBy := 0, retained := false
                releaseRequested := false } with
            notes := s.notes.push
              { kind := .frameEmpty, ring := some c.ring, aperture := some a, slot := some sl
                frame := (s.slot sl).frame } } 0x05 [idWord a] .done [])

/-- The counting step of the ring's schedule at a producer boundary that runs, whatever its stage 2 did
(R105, R106, R107), with SCHEDULE_DONE at the end of the last burst. -/
def Obligations.ScheduleCountsProducerBoundaries : Prop :=
  ∀ (s : State) (a : ApId) (c : ApConfig) (order : List ApId),
    s.link.phase = .request → s.Settled → s.ActsNow a c → c.role = .producer →
      ∃ t, exec (.boundary (requestFor 0x05 [idWord a]) order) s = .next t ∧
        (∀ q, q ≠ c.ring → t.sched q = s.sched q) ∧
        ∀ x, x = s.sched c.ring →
          (x.state = .idle ∨ x.state = .armed → t.sched c.ring = x) ∧
          (x.state = .delay ∨ x.state = .gap →
            (x.remaining ≤ 1 →
              t.sched c.ring = { x with state := .retaining, remaining := x.burst }) ∧
            (1 < x.remaining → t.sched c.ring = { x with remaining := x.remaining - 1 })) ∧
          (x.state = .retaining →
            (x.burst = 0 → t.sched c.ring = x) ∧
            (0 < x.burst → 1 < x.remaining →
              t.sched c.ring = { x with remaining := x.remaining - 1 }) ∧
            (0 < x.burst → x.remaining ≤ 1 → ∀ done, done = (x.burstsDone + 1) % 256 →
              (x.bursts ≠ 0 → done = x.bursts →
                t.sched c.ring = { x with state := .idle, remaining := 0, burstsDone := done } ∧
                Raised s t
                  { kind := .scheduleDone, ring := some c.ring, detail := 1
                    frame := match (s.ap a).state with
                      | .bound sl => if (s.slot sl).written then (s.slot sl).frame else none
                      | _ => none }) ∧
              (x.bursts = 0 ∨ done ≠ x.bursts → 0 < x.gap →
                t.sched c.ring = { x with state := .gap, remaining := x.gap, burstsDone := done }) ∧
              (x.bursts = 0 ∨ done ≠ x.bursts → x.gap = 0 →
                t.sched c.ring = { x with remaining := x.burst, burstsDone := done })))

/-- A consumer's acted boundary with no change waiting for it (R76 to R80): a WAITING consumer only
counts; a VIEWING one moves to the newest slot (NEWEST) or to the oldest it has not passed (ORDERED);
with no new frame REPEAT keeps the slot and STRICT gives it up. Where no slot was left to reclaim before,
exactly the READY slots that then meet the condition are reclaimed, to the held or the free tail (R12,
R13). The buses, the schedules, the other apertures and, where the placement law holds, the other rings
are not touched. -/
def Obligations.ConsumerBoundaryPicks : Prop :=
  ∀ (s : State) (a : ApId) (c : ApConfig) (order : List ApId),
    s.link.phase = .request → s.Settled → s.ActsNow a c → c.role = .consumer → s.NoEntriesFor a →
      ((s.ap a).state = .unbound →
        exec (.boundary (requestFor 0x05 [idWord a]) order) s =
          .next (State.answered (s.setAp a { s.ap a with count := 0 }) 0x05 [idWord a] .done [])) ∧
      ∀ sl next, (s.ap a).state = .bound sl →
        next = (match c.pick with
          | .newest =>
            if (s.ring c.ring).ready.getLast? = some sl then none else (s.ring c.ring).ready.getLast?
          | .ordered =>
            (s.ring c.ring).ready.find? fun x => !ApSet.has (s.slot x).passedBy a) →
        (next = none → c.onEmpty = .repeatFrame →
          exec (.boundary (requestFor 0x05 [idWord a]) order) s =
            .next (State.answered (s.setAp a { s.ap a with count := 0 }) 0x05 [idWord a] .done [])) ∧
        ∃ t, exec (.boundary (requestFor 0x05 [idWord a]) order) s = .next t ∧ t.answers .done [] ∧
          (next = none → c.onEmpty = .strict →
            (t.ap a).state = .unbound ∧ ApSet.has (t.slot sl).holders a = false) ∧
          (∀ x, next = some x →
            (t.ap a).state = .bound x ∧ ApSet.has (t.slot x).holders a = true ∧
            (x ≠ sl → ApSet.has (t.slot sl).holders a = false) ∧
            (c.pick = .ordered → ∀ y ∈ takeThrough x (s.ring c.ring).ready,
              y ∈ (t.ring c.ring).ready → ApSet.has (t.slot y).passedBy a = true)) ∧
          (s.Placed → s.PromptlyReclaimed → (next = none → c.onEmpty = .strict) →
            ∃ leaving, Reclaimed s t c.ring leaving none ∧
              (t.ring c.ring).ready =
                (s.ring c.ring).ready.filter (fun y => decide (y ∉ leaving)) ∧
              ∀ y ∈ (s.ring c.ring).ready, y ∈ leaving ↔
                (s.ring c.ring).ready.getLast? ≠ some y ∧ next ≠ some y ∧
                (if y = sl then ApSet.erase (s.slot y).holders a else (s.slot y).holders) = 0 ∧
                ∀ b d, ApSet.has (s.ring c.ring).consumers b = true → (s.ap b).config = some d →
                  d.pick = .ordered →
                    ApSet.has (s.slot y).passedBy b = true ∨
                    b = a ∧ ∃ x, next = some x ∧ y ∈ takeThrough x (s.ring c.ring).ready) ∧
          (∀ b, b ≠ a → t.ap b = s.ap b) ∧ (t.ap a).config = (s.ap a).config ∧
          t.steering = s.steering ∧ t.arbiter = s.arbiter ∧ t.copy = s.copy ∧
          t.schedules = s.schedules ∧ t.aOut = s.aOut ∧
          (t.ring c.ring).frameCounter = (s.ring c.ring).frameCounter ∧
          (s.Placed → ∀ q, q ≠ c.ring → t.ring q = s.ring q)

/-! ### Rings and slots -/

/-- RING_SETUP with its two refusals (R16), and RING_ON (R17). -/
def Obligations.RingSetupAndOn : Prop :=
  ∀ (s : State) (r : RingId), s.link.phase = .request →
    (∀ (e : Nat) (o : Overflow) (args : List Word), 12 ≤ e → e ≤ 24 →
      args = [idWord r, numWord e, if o = .dropNew then 0 else 1] →
      ((s.ring r).on = true →
        exec (.ringSetup (requestFor 0x08 args)) s = .next (s.answered 0x08 args .wrongState [])) ∧
      ((s.ring r).on = false → (∃ f, (s.ring r).slotSize = some f ∧ f ≠ e) →
        ((s.ring r).pool ≠ 0 ∨ ∃ a c, (s.ap a).config = some c ∧ c.ring = r) →
        exec (.ringSetup (requestFor 0x08 args)) s = .next (s.answered 0x08 args .conflict [])) ∧
      ((s.ring r).on = false →
        ((∀ f, (s.ring r).slotSize = some f → f = e) ∨
          ((s.ring r).pool = 0 ∧ ∀ a c, (s.ap a).config = some c → c.ring ≠ r)) →
        exec (.ringSetup (requestFor 0x08 args)) s =
          .next (State.answered (s.setRing r { s.ring r with slotSize := some e, overflow := o }) 0x08
            args .done []))) ∧
    ((s.ring r).on = false → (s.ring r).slotSize.isSome = true → 2 ≤ (s.ring r).pool →
      exec (.ringOn (requestFor 0x09 [idWord r])) s =
        .next (State.answered (s.setRing r { s.ring r with on := true }) 0x09 [idWord r] .done [])) ∧
    ((s.ring r).on = true ∨ (s.ring r).slotSize = none ∨ (s.ring r).pool < 2 →
      exec (.ringOn (requestFor 0x09 [idWord r])) s =
        .next (s.answered 0x09 [idWord r] .wrongState []))

/-- RING_OFF (R18): refused unless the ring is ON with all of its apertures OFF; with no retirement
waiting, the retained READY slots join the held tail with FRAME_HELD and the others the free tail, the
schedule stops with SCHEDULE_DONE of reason STOPPED, and the ring is OFF. -/
def Obligations.RingOffEmptiesTheReadyList : Prop :=
  ∀ (s : State) (r : RingId), s.link.phase = .request →
    ((s.ring r).on = false ∨ (∃ a c, s.apOn a = true ∧ (s.ap a).config = some c ∧ c.ring = r) →
      exec (.ringOff (requestFor 0x0A [idWord r])) s =
        .next (s.answered 0x0A [idWord r] .wrongState [])) ∧
    ((s.ring r).on = true → (∀ a c, s.apOn a = true → (s.ap a).config = some c → c.ring ≠ r) →
      s.NoRetirements → s.Placed →
      ∃ t, exec (.ringOff (requestFor 0x0A [idWord r])) s = .next t ∧ t.answers .done [] ∧
        t.ring r =
          { s.ring r with
            on := false, ready := []
            held := (s.ring r).held ++ (s.ring r).ready.filter fun sl => (s.slot sl).retained
            free := (s.ring r).free ++ (s.ring r).ready.filter fun sl => !(s.slot sl).retained } ∧
        (∀ q, q ≠ r → t.ring q = s.ring q) ∧
        (∀ sl, t.slot sl =
          if sl ∈ (s.ring r).ready ∧ (s.slot sl).retained = false then
            { s.slot sl with
              frame := none, retained := false, releaseRequested := false, passedBy := 0 }
          else s.slot sl) ∧
        (∀ sl ∈ (s.ring r).ready, (s.slot sl).retained = true →
          Raised s t
            { kind := .frameHeld, ring := some r, slot := some sl, frame := (s.slot sl).frame }) ∧
        t.sched r = { s.sched r with state := .idle, remaining :=
          if (s.sched r).state = .idle then (s.sched r).remaining else 0 } ∧
        ((s.sched r).state ≠ .idle →
          Raised s t { kind := .scheduleDone, ring := some r, detail := 2 }) ∧
        t.apertures = s.apertures ∧ t.copy = s.copy ∧ t.arbiter = s.arbiter ∧
        t.steering = s.steering ∧ t.changes = s.changes)

/-- RING_FLUSH (R19, R20), with no retirement waiting: VIEWING consumers go to WAITING and no slot of the
ring has a holder left; the ready list empties into the held and free lists (keep_held yes) or into the
free list (no). A slot that goes free loses frame, retained, release_requested and passed_by (R3); one that
is kept keeps them, with FRAME_HELD, oldest first. Without keep_held the ring's jobs are cancelled, the
QUEUED ones in queue order and then the ACTIVE one, each with COPY_ABORTED unless its claim is on the port
(R127), the first job of another ring then becomes ACTIVE with its first read claim (R121, R128), and a
held slot is left only with its release requested. The jobs of other rings, the frame
counter, the producer, the schedule and the other rings are not touched. -/
def Obligations.RingFlushEmptiesTheRing : Prop :=
  ∀ (s : State) (r : RingId), s.link.phase = .request → s.NoRetirements → s.Placed →
    (∃ t, exec (.ringFlush (requestFor 0x0B [idWord r, 1])) s = .next t ∧ t.answers .done [] ∧
      t.ring r =
        { s.ring r with
          ready := []
          held := (s.ring r).held ++ (s.ring r).ready.filter fun sl => (s.slot sl).retained
          free := (s.ring r).free ++ (s.ring r).ready.filter fun sl => !(s.slot sl).retained } ∧
      (∀ q, q ≠ r → t.ring q = s.ring q) ∧
      (∀ a, ApSet.has (s.ring r).consumers a = true → (t.ap a).state = .unbound) ∧
      (∀ a, ApSet.has (s.ring r).consumers a = false → t.ap a = s.ap a) ∧
      (∀ sl, t.slot sl =
        { (if sl ∈ (s.ring r).ready ∧ (s.slot sl).retained = false then (s.slot sl).cleared
          else s.slot sl) with holders := (t.slot sl).holders }) ∧
      (s.HoldersLaw → ∀ sl, (t.slot sl).holders =
        if (s.slot sl).home.map (·.ring) = some r then 0 else (s.slot sl).holders) ∧
      t.notes =
        (((s.ring r).ready.filter fun sl => (s.slot sl).retained).map fun sl =>
          { kind := .frameHeld, ring := some r, slot := some sl
            frame := (s.slot sl).frame : Note }).foldl NoteQueue.push s.notes ∧
      t.schedules = s.schedules ∧ t.copy = s.copy ∧ t.arbiter = s.arbiter ∧ t.steering = s.steering) ∧
    (∃ t, exec (.ringFlush (requestFor 0x0B [idWord r, 0])) s = .next t ∧ t.answers .done [] ∧
      (t.ring r).ready = [] ∧ (t.ring r).frameCounter = (s.ring r).frameCounter ∧
      (t.ring r).producer = (s.ring r).producer ∧
      (∀ sl, sl ∈ (s.ring r).lists ↔ sl ∈ (t.ring r).free ∨ sl ∈ (t.ring r).held) ∧
      ((s.ring r).free ++ (s.ring r).ready).IsPrefix (t.ring r).free ∧
      (t.ring r).held.Sublist (s.ring r).held ∧
      (∀ sl ∈ (t.ring r).held, sl ∈ (s.ring r).held ∧ (t.slot sl).releaseRequested = true ∧
        0 < (t.slot sl).jobs) ∧
      (∀ q, q ≠ r → t.ring q = s.ring q) ∧
      (∀ a, ApSet.has (s.ring r).consumers a = true → (t.ap a).state = .unbound) ∧
      (∀ a, ApSet.has (s.ring r).consumers a = false → t.ap a = s.ap a) ∧
      (∀ sl, t.slot sl =
        { (if sl ∈ (t.ring r).free ∧ sl ∉ (s.ring r).free then (s.slot sl).cleared
          else if sl ∈ (t.ring r).held then { s.slot sl with releaseRequested := true }
          else s.slot sl) with holders := (t.slot sl).holders, jobs := (t.slot sl).jobs }) ∧
      (s.HoldersLaw → ∀ sl, (t.slot sl).holders =
        if (s.slot sl).home.map (·.ring) = some r then 0 else (s.slot sl).holders) ∧
      (∀ j ∈ t.copy.queued, j.ring ≠ r) ∧
      (t.copy.jobs.filter fun j => decide (j.ring ≠ r)) =
        (s.copy.jobs.filter fun j => decide (j.ring ≠ r)) ∧
      (∀ j, t.copy.active = some j → j.job.ring = r →
        s.copy.active.map (·.job) = some j.job ∧ j.granted = true ∧ j.cancelled = true) ∧
      (∀ j q, s.copy.active = some j → j.job.ring = r → j.granted = false →
        (s.copy.queued.filter fun x => decide (x.ring ≠ r)).head? = some q → Activated s t q) ∧
      t.notes =
        (((s.copy.queued.filter fun j => decide (j.ring = r)).map fun j => j.abortedNote 0) ++
          (match s.copy.active with
            | some j =>
              if j.job.ring = r ∧ j.granted = false then [j.job.abortedNote 1] else []
            | none => [])).foldl NoteQueue.push s.notes ∧
      t.schedules = s.schedules ∧ t.steering = s.steering)

/-- SLOT_ASSIGN with its four checks in order (R21). -/
def Obligations.SlotAssignChecksAndActs : Prop :=
  ∀ (s : State) (sl : SlotId) (r : RingId) (base : Addr) (args : List Word),
    s.link.phase = .request → args = [idWord sl, idWord r, base] →
    ((s.slot sl).home.isSome = true ∨ (s.ring r).slotSize = none →
      exec (.slotAssign (requestFor 0x0C args)) s = .next (s.answered 0x0C args .wrongState [])) ∧
    (∀ e, (s.slot sl).home = none → (s.ring r).slotSize = some e →
      (base.toNat % 2 ^ e ≠ 0 →
        exec (.slotAssign (requestFor 0x0C args)) s = .next (s.answered 0x0C args .badArg [])) ∧
      (base.toNat % 2 ^ e = 0 → ¬ s.WindowFree base (2 ^ e) →
        exec (.slotAssign (requestFor 0x0C args)) s = .next (s.answered 0x0C args .conflict [])) ∧
      (base.toNat % 2 ^ e = 0 → s.WindowFree base (2 ^ e) →
        exec (.slotAssign (requestFor 0x0C args)) s =
          .next (State.answered
            ((s.setSlot sl
                { home := some { ring := r, base := base }, frame := none, written := false
                  faulted := false, holders := 0, passedBy := 0, retained := false, jobs := 0
                  releaseRequested := false, retirePending := false }).setRing r
              { s.ring r with free := (s.ring r).free ++ [sl], pool := (s.ring r).pool + 1 })
            0x0C args .done [])))

/-- SLOT_RETIRE (R22, R23): its refusals, the retirement of a FREE slot at once, and the RETIRE_SLOT
entry for any other slot, or NO_SPACE when twelve entries wait (R145). The next-seq counter advances by
1, past the seq of a waiting entry: the model's reading of R145 (log 31). -/
def Obligations.SlotRetireActsOrQueues : Prop :=
  ∀ (s : State) (sl : SlotId) (expiry : Nat) (args : List Word),
    s.link.phase = .request → expiry ≤ 255 → args = [idWord sl, numWord expiry] →
    ((s.slot sl).home = none ∨ (s.slot sl).retirePending = true ∨
        (∃ h, (s.slot sl).home = some h ∧ (s.ring h.ring).on = true ∧ (s.ring h.ring).pool ≤ 2) →
      exec (.slotRetire (requestFor 0x0D args)) s = .next (s.answered 0x0D args .wrongState [])) ∧
    (∀ h, (s.slot sl).home = some h → (s.slot sl).retirePending = false →
      ((s.ring h.ring).on = false ∨ 2 < (s.ring h.ring).pool) →
      (sl ∈ (s.ring h.ring).free →
        exec (.slotRetire (requestFor 0x0D args)) s =
          .next (State.answered
            ((s.setRing h.ring
                { s.ring h.ring with
                  free := (s.ring h.ring).free.erase sl, pool := (s.ring h.ring).pool - 1 }).setSlot sl
              { home := none, frame := none, written := false, faulted := false, holders := 0
                passedBy := 0, retained := false, jobs := 0, releaseRequested := false
                retirePending := false }) 0x0D args .done [])) ∧
      (sl ∉ (s.ring h.ring).free → 12 ≤ s.changes.entries.length →
        exec (.slotRetire (requestFor 0x0D args)) s = .next (s.answered 0x0D args .noSpace [])) ∧
      (sl ∉ (s.ring h.ring).free → s.changes.entries.length < 12 →
        ∃ n, s.SeqMoves n ∧
          exec (.slotRetire (requestFor 0x0D args)) s =
            .next (State.answered
              { s.setSlot sl { s.slot sl with retirePending := true } with
                changes := s.queued (.retireSlot sl) expiry n } 0x0D args .queued
              [numWord s.changes.nextSeq])))

/-! ### Apertures -/

/-- APERTURE_SETUP with its three checks in order and the configuration it leaves (R49), which its five
arguments spell in the layout of R179; and the five checks of APERTURE_ON in order: what each refusal
answers (R178). -/
def Obligations.ApertureSetupAndOnCheckInOrder : Prop :=
  (∀ (s : State) (a : ApId) (c : ApConfig) (args : List Word),
    s.link.phase = .request → c.InRange →
    args =
      [ bytesWord a.val c.ring.val (match c.role with | .producer => 0 | .consumer => 1)
          (match c.line with | .a => 0 | .b => 1 | .noLine => 2),
        c.windowBase,
        bytesWord c.sources.toNat c.divider (match c.pick with | .newest => 0 | .ordered => 1)
          (match c.onEmpty with | .repeatFrame => 0 | .strict => 1),
        numWord (c.timeout + 65536 * match c.stall with | .wait => 0 | .blank => 1),
        c.fill ] →
    (s.apOn a = true ∨ (s.ring c.ring).slotSize = none →
      exec (.apertureSetup (requestFor 0x10 args)) s = .next (s.answered 0x10 args .wrongState [])) ∧
    (∀ e, s.apOn a = false → (s.ring c.ring).slotSize = some e →
      (c.windowBase.toNat % 2 ^ e ≠ 0 →
        exec (.apertureSetup (requestFor 0x10 args)) s = .next (s.answered 0x10 args .badArg [])) ∧
      (c.windowBase.toNat % 2 ^ e = 0 →
        exec (.apertureSetup (requestFor 0x10 args)) s =
          .next (State.answered
            (s.setAp a { s.ap a with config := some { c with windowSize := e } }) 0x10 args .done [])))) ∧
  ∀ (s : State) (a : ApId), s.link.phase = .request →
    (s.apOn a = true ∨ (s.ap a).config = none →
      exec (.apertureOn (requestFor 0x11 [idWord a])) s =
        .next (s.answered 0x11 [idWord a] .wrongState [])) ∧
    (∀ c, s.apOn a = false → (s.ap a).config = some c →
      ((s.ring c.ring).on = false →
        exec (.apertureOn (requestFor 0x11 [idWord a])) s =
          .next (s.answered 0x11 [idWord a] .wrongState [])) ∧
      ((s.ring c.ring).on = true →
        (c.role = .producer ∧ (s.ring c.ring).producer.isSome = true ∨
          c.role = .consumer ∧
            3 ≤ (allAps.filter fun b => ApSet.has (s.ring c.ring).consumers b).length ∨
          ¬ s.WindowFree c.windowBase (2 ^ c.windowSize)) →
        exec (.apertureOn (requestFor 0x11 [idWord a])) s =
          .next (s.answered 0x11 [idWord a] .conflict [])))

/-- A producer turned ON binds at once (R51): it takes the free head (R63), or under OVERWRITE_OLDEST
steals the oldest READY slot that is unheld, not retained and not the newest, with FRAME_DROPPED (R64),
or is STARVED with PRODUCER_STARVED (R65); the frame number is spent in each case. -/
def Obligations.ProducerOnBinds : Prop :=
  ∀ (s : State) (a : ApId) (c : ApConfig) (n : Nat) (filled : SlotId → Slot),
    s.link.phase = .request → s.apOn a = false → (s.ap a).config = some c → c.role = .producer →
      (s.ring c.ring).on = true → (s.ring c.ring).producer = none →
      s.WindowFree c.windowBase (2 ^ c.windowSize) →
      n = (if (s.ring c.ring).frameCounter < 0xFFFFFFFF then (s.ring c.ring).frameCounter + 1 else 1) →
      (∀ sl, filled sl =
        { s.slot sl with
          frame := some n, written := false, faulted := false, holders := 0, passedBy := 0
          retained := false, releaseRequested := false }) →
      (∀ sl rest, (s.ring c.ring).free = sl :: rest →
        exec (.apertureOn (requestFor 0x11 [idWord a])) s =
          .next (State.answered
            (((s.setRing c.ring
                { s.ring c.ring with producer := some a, frameCounter := n, free := rest }).setSlot sl
                (filled sl)).setAp a
              { s.ap a with state := .bound sl, count := 0, deferred := false })
            0x11 [idWord a] .done [])) ∧
      (∀ sl, (s.ring c.ring).free = [] → (s.ring c.ring).overflow = .overwriteOldest →
        (s.ring c.ring).ready.find? (fun x =>
          decide ((s.slot x).holders = 0 ∧ (s.slot x).retained = false ∧
            (s.ring c.ring).ready.getLast? ≠ some x)) = some sl →
        ∃ missed : ApSet,
          (∀ b, ApSet.has missed b = true ↔
            ApSet.has (s.ring c.ring).consumers b = true ∧
              (s.ap b).config.map (·.pick) = some .ordered ∧
              ApSet.has (s.slot sl).passedBy b = false) ∧
          exec (.apertureOn (requestFor 0x11 [idWord a])) s =
            .next (State.answered
              { ((s.setRing c.ring
                    { s.ring c.ring with
                      producer := some a, frameCounter := n
                      ready := (s.ring c.ring).ready.erase sl }).setSlot sl (filled sl)).setAp a
                  { s.ap a with state := .bound sl, count := 0, deferred := false } with
                notes := s.notes.push
                  { kind := .frameDropped, ring := some c.ring, aperture := some a, slot := some sl
                    frame := (s.slot sl).frame, detail := missed.toNat } }
              0x11 [idWord a] .done [])) ∧
      (∀ detail, (s.ring c.ring).free = [] →
        ((s.ring c.ring).overflow = .dropNew ∧ detail = 0 ∨
          (s.ring c.ring).overflow = .overwriteOldest ∧ detail = 1 ∧
            ∀ x ∈ (s.ring c.ring).ready, (s.slot x).holders ≠ 0 ∨ (s.slot x).retained = true ∨
              (s.ring c.ring).ready.getLast? = some x) →
        exec (.apertureOn (requestFor 0x11 [idWord a])) s =
          .next (State.answered
            { (s.setRing c.ring
                { s.ring c.ring with producer := some a, frameCounter := n }).setAp a
                { s.ap a with state := .unbound, count := 0, deferred := false } with
              notes := s.notes.push
                { kind := .producerStarved, ring := some c.ring, aperture := some a, frame := some n
                  detail := detail } } 0x11 [idWord a] .done []))

/-- A consumer turned ON (R69): with an empty ready list it is WAITING; otherwise it acquires the newest
READY slot whatever its pick, and an ORDERED one joins the passed_by set of every READY slot, of which
none is then reclaimed. -/
def Obligations.ConsumerOnAcquiresTheNewest : Prop :=
  ∀ (s : State) (a : ApId) (c : ApConfig),
    s.link.phase = .request → s.apOn a = false → (s.ap a).config = some c → c.role = .consumer →
      (s.ring c.ring).on = true → s.WindowFree c.windowBase (2 ^ c.windowSize) → s.Placed →
      (allAps.filter fun b => ApSet.has (s.ring c.ring).consumers b).length < 3 →
      s.PromptlyReclaimed →
      ((s.ring c.ring).ready = [] →
        exec (.apertureOn (requestFor 0x11 [idWord a])) s =
          .next (State.answered
            ((s.setRing c.ring
                { s.ring c.ring with consumers := ApSet.insert (s.ring c.ring).consumers a }).setAp a
              { s.ap a with state := .unbound, count := 0, deferred := false })
            0x11 [idWord a] .done [])) ∧
      (∀ sl, (s.ring c.ring).ready.getLast? = some sl →
        ∃ t, exec (.apertureOn (requestFor 0x11 [idWord a])) s = .next t ∧ t.answers .done [] ∧
          t.ap a = { s.ap a with state := .bound sl, count := 0, deferred := false } ∧
          t.ring c.ring =
            { s.ring c.ring with consumers := ApSet.insert (s.ring c.ring).consumers a } ∧
          (∀ x, t.slot x =
            { s.slot x with
              holders := if x = sl then ApSet.insert (s.slot x).holders a else (s.slot x).holders
              passedBy :=
                if c.pick = .ordered ∧ x ∈ (s.ring c.ring).ready then
                  ApSet.insert (s.slot x).passedBy a
                else (s.slot x).passedBy }) ∧
          (∀ b, b ≠ a → t.ap b = s.ap b) ∧ (∀ q, q ≠ c.ring → t.ring q = s.ring q) ∧
          t.steering = s.steering ∧ t.arbiter = s.arbiter ∧ t.notes = s.notes)

/-- APERTURE_OFF (R52, R70, R71, R53, R147): nothing on an OFF aperture; a DETACH queued for a bound
one; a STARVED producer and a WAITING consumer turn OFF at once, a boundary pending for them is
discarded, and a read stalled on the consumer is answered FAULT. The entries waiting for an aperture
that turns OFF apply at once, in queue order, each with CHANGE_APPLIED and none rejected, and those of a
ring that so loses its producer after them (R148, R149, R153); READY slots that an ORDERED consumer
leaves behind are reclaimed (R12, R70). The next-seq counter skips a seq in use (log 31). -/
def Obligations.ApertureOffActsOrQueues : Prop :=
  ∀ (s : State) (a : ApId) (expiry : Nat) (args : List Word),
    s.link.phase = .request → expiry ≤ 255 → args = [idWord a, numWord expiry] →
    ((s.ap a).state = .off →
      exec (.apertureOff (requestFor 0x12 args)) s = .next (s.answered 0x12 args .done [])) ∧
    (∀ sl, (s.ap a).state = .bound sl →
      (12 ≤ s.changes.entries.length →
        exec (.apertureOff (requestFor 0x12 args)) s = .next (s.answered 0x12 args .noSpace [])) ∧
      (s.changes.entries.length < 12 →
        ∃ n, s.SeqMoves n ∧
          exec (.apertureOff (requestFor 0x12 args)) s =
            .next (State.answered { s with changes := s.queued (.aperture a .detach) expiry n } 0x12
              args .queued [numWord s.changes.nextSeq]))) ∧
    (∀ c mine theirs off, (s.ap a).state = .unbound → (s.ap a).config = some c →
      mine = s.entriesFor a → theirs = s.entriesForRing c.ring →
      off =
        { s.ap a with
          state := .off, deferred := false, config := some (configAfter mine c)
          count := countAfter mine (s.ap a).count } →
      (c.role = .producer →
        exec (.apertureOff (requestFor 0x12 args)) s =
          .next (State.answered
            { (s.setAp a off).setRing c.ring
                { s.ring c.ring with
                  producer := none, overflow := overflowAfter theirs (s.ring c.ring).overflow } with
              changes := { s.changes with
                entries := s.changes.entries.filter fun e => decide (e ∉ mine ++ theirs) }
              notes :=
                (mine.map (fun e => e.appliedNote c.ring (some a)) ++
                  theirs.map (fun e => e.appliedNote c.ring none)).foldl NoteQueue.push s.notes }
            0x12 args .done [])) ∧
      (c.role = .consumer → s.Settled → (∀ b, b ≠ a → (s.ap b).deferred = false) →
        s.steering.waiting = [] →
        ∃ t, exec (.apertureOff (requestFor 0x12 args)) s = .next t ∧ t.answers .done [] ∧
          t.ap a = off ∧
          (t.ring c.ring).consumers = ApSet.erase (s.ring c.ring).consumers a ∧
          (∀ sl, (t.slot sl).home.map (·.ring) = some c.ring →
            ApSet.has (t.slot sl).passedBy a = false) ∧
          (∀ e ∈ mine, Raised s t (e.appliedNote c.ring (some a))) ∧
          (c.pick = .newest ∨ s.NoRetirements →
            t.changes.entries = s.changes.entries.filter fun e => decide (e ∉ mine)) ∧
          (c.pick = .newest →
            (t.ring c.ring).ready = (s.ring c.ring).ready ∧
            t.notes =
              (mine.map fun e => e.appliedNote c.ring (some a)).foldl NoteQueue.push s.notes) ∧
          (c.pick = .ordered → s.Placed →
            ∃ leaving, Reclaimed s t c.ring leaving none ∧
              (t.ring c.ring).ready =
                (s.ring c.ring).ready.filter (fun y => decide (y ∉ leaving)) ∧
              ∀ y ∈ (s.ring c.ring).ready, y ∈ leaving ↔
                (s.ring c.ring).ready.getLast? ≠ some y ∧ (s.slot y).holders = 0 ∧
                ∀ b d, b ≠ a → ApSet.has (s.ring c.ring).consumers b = true →
                  (s.ap b).config = some d → d.pick = .ordered →
                    ApSet.has (s.slot y).passedBy b = true) ∧
          (∀ x base timer, s.steering.phase = .stalled x a base timer →
            t.steering.phase = .opened ∧
            ∃ d, t.aOut =
              s.aOut ++ [{ source := x.source, kind := x.kind, outcome := .fault, data := d }]) ∧
          ((∀ x base timer, s.steering.phase ≠ .stalled x a base timer) →
            t.steering = s.steering ∧ t.aOut = s.aOut)))

/-! ### Deferred changes -/

/-- APERTURE_MODIFY (R146) for every kind of change it takes, with its checks in order: at once on an
OFF aperture, queued for an ON one; kind number and value words are those of the tables of R144 and R179
(`ChangeOp.kindNumber`, `ChangeOp.valueField`, `ChangeOp.value2Field`). SET_OVERFLOW acts at once on a
ring without an ON producer and is queued for one with it (R148). The next-seq counter skips a seq in
use (log 31). -/
def Obligations.ModifyCommandsActOrQueue : Prop :=
  (∀ (s : State) (a : ApId) (x : ApChange) (expiry : Nat) (args : List Word),
    s.link.phase = .request → x ≠ .detach → x.InRange → expiry ≤ 255 →
    args =
      [idWord a, numWord (ChangeOp.aperture a x).kindNumber, numWord expiry,
        (ChangeOp.aperture a x).valueField, (ChangeOp.aperture a x).value2Field] →
    ((s.ap a).config = none →
      exec (.apertureModify (requestFor 0x13 args)) s = .next (s.answered 0x13 args .wrongState [])) ∧
    (∀ c, (s.ap a).config = some c →
      (∀ base, x = .moveWindow base → base.toNat % s.slotBytes c.ring ≠ 0 →
        exec (.apertureModify (requestFor 0x13 args)) s = .next (s.answered 0x13 args .badArg [])) ∧
      ((∀ base, x = .moveWindow base → base.toNat % s.slotBytes c.ring = 0) →
        (s.apOn a = false →
          exec (.apertureModify (requestFor 0x13 args)) s =
            .next (State.answered
              (s.setAp a
                { s.ap a with
                  config := some (ApChange.after x c)
                  count := match x with | .setDivider _ => 0 | _ => (s.ap a).count })
              0x13 args .done [])) ∧
        (s.apOn a = true →
          (∀ base, x = .moveWindow base → ¬ s.MoveFree a base (2 ^ c.windowSize) →
            exec (.apertureModify (requestFor 0x13 args)) s =
              .next (s.answered 0x13 args .conflict [])) ∧
          ((∀ base, x = .moveWindow base → s.MoveFree a base (2 ^ c.windowSize)) →
            (12 ≤ s.changes.entries.length →
              exec (.apertureModify (requestFor 0x13 args)) s =
                .next (s.answered 0x13 args .noSpace [])) ∧
            (s.changes.entries.length < 12 →
              ∃ n, s.SeqMoves n ∧
                exec (.apertureModify (requestFor 0x13 args)) s =
                  .next (State.answered { s with changes := s.queued (.aperture a x) expiry n } 0x13
                    args .queued [numWord s.changes.nextSeq]))))))) ∧
  ∀ (s : State) (r : RingId) (o : Overflow) (expiry : Nat) (args : List Word),
    s.link.phase = .request → expiry ≤ 255 →
    args = [idWord r, if o = .dropNew then 0 else 1, numWord expiry] →
    ((s.ring r).producer = none →
      exec (.setOverflow (requestFor 0x14 args)) s =
        .next (State.answered (s.setRing r { s.ring r with overflow := o }) 0x14 args .done [])) ∧
    ((s.ring r).producer.isSome = true → 12 ≤ s.changes.entries.length →
      exec (.setOverflow (requestFor 0x14 args)) s = .next (s.answered 0x14 args .noSpace [])) ∧
    ((s.ring r).producer.isSome = true → s.changes.entries.length < 12 →
      ∃ n, s.SeqMoves n ∧
        exec (.setOverflow (requestFor 0x14 args)) s =
          .next (State.answered { s with changes := s.queued (.setOverflow r o) expiry n } 0x14 args
            .queued [numWord s.changes.nextSeq]))

/-- A consumer's acted boundary applies every entry that waits for the aperture, in queue order, and no
other (R149, R151, R152): each leaves the queue and writes its fields over what the earlier ones left,
with CHANGE_APPLIED; a MOVE_WINDOW whose new window is in the way is rejected instead. A SET_PICK that
changes the pick moves the passed_by sets (R7), and the pick that follows uses the last one; slots that
an ORDERED consumer made NEWEST leaves behind are reclaimed before it (R13). A DETACH releases the slot
and turns the aperture OFF, a read stalled on it answered FAULT (R70, R71, R42), and the entries behind
it still write their fields, none rejected (R153). No retirement waits. -/
def Obligations.ConsumerBoundaryAppliesItsChange : Prop :=
  ∀ (s : State) (a : ApId) (c d : ApConfig) (order : List ApId) (mine others : List Change)
    (rejected : Change → Bool) (forgets : Prop),
    s.link.phase = .request → s.Settled → s.ActsNow a c → c.role = .consumer → s.NoRetirements →
    (s.changes.entries.map (·.seq)).Nodup → mine = s.entriesFor a →
    others = s.changes.entries.filter (fun e => decide (e ∉ mine)) →
    (∀ e, rejected e = true ↔ s.Rejects a c e) → d = configAfter (aheadOfDetach mine) c →
    (forgets ↔ ∃ before e after oe, aheadOfDetach mine = before ++ e :: after ∧
      e.op = .aperture a (.setPick .newest oe) ∧ (configAfter before c).pick = .ordered) →
    ((s.ap a).state = .unbound → (∀ e ∈ mine, e.isDetach = false) →
      (∀ e ∈ mine, ∀ p oe, e.op = .aperture a (.setPick p oe) → p = c.pick) →
      exec (.boundary (requestFor 0x05 [idWord a]) order) s =
        .next (State.answered
          { s.setAp a
              { s.ap a with
                count := 0, config := some (configAfter (mine.filter fun e => !rejected e) c) } with
            changes := { s.changes with entries := others }
            notes := (mine.map fun e => s.boundaryNote a c.ring none (rejected e) e).foldl
              NoteQueue.push s.notes } 0x05 [idWord a] .done [])) ∧
    ((∀ e ∈ mine, e.isDetach = false) ∨ s.NonePending ∧ s.steering.waiting = [] →
      ∃ t, exec (.boundary (requestFor 0x05 [idWord a]) order) s = .next t ∧ t.answers .done [] ∧
        t.changes = { s.changes with entries := others } ∧ EntriesApply s t a c rejected ∧
        (∀ e ∈ mine, Raised s t (s.boundaryNote a c.ring (s.boundSlot a) (rejected e) e)) ∧
        (∀ b, b ≠ a → t.ap b = s.ap b) ∧
        ((∀ e ∈ mine, e.isDetach = false) → s.Placed → (forgets → d.pick = .ordered → s.HoldersLaw) →
          (forgets → d.pick = .newest → ∀ y, (t.slot y).home.map (·.ring) = some c.ring →
            ApSet.has (t.slot y).passedBy a = false) ∧
          (c.pick = .newest ∨ forgets → d.pick = .ordered → ∀ y ∈ (t.ring c.ring).ready,
            ((s.ap a).state = .unbound → ApSet.has (t.slot y).passedBy a = true) ∧
            ∀ sl, (s.ap a).state = .bound sl → y ∈ takeThrough sl (s.ring c.ring).ready →
              ApSet.has (t.slot y).passedBy a = true) ∧
          ((s.ap a).state = .unbound → (t.ap a).state = .unbound) ∧
          ∀ sl next, (s.ap a).state = .bound sl →
            (d.pick = .newest → next =
              if (s.ring c.ring).ready.getLast? = some sl then none
              else (s.ring c.ring).ready.getLast?) →
            (d.pick = .ordered → ∀ passed left : SlotId → Bool,
              (∀ y, passed y = true ↔
                (¬ forgets ∧ ApSet.has (s.slot y).passedBy a = true) ∨
                (c.pick = .newest ∨ forgets) ∧ y ∈ takeThrough sl (s.ring c.ring).ready) →
              (∀ y, left y = true ↔ forgets ∧ (s.slot y).holders = 0 ∧
                (s.ring c.ring).ready.getLast? ≠ some y ∧
                ∀ b x, b ≠ a → ApSet.has (s.ring c.ring).consumers b = true →
                  (s.ap b).config = some x → x.pick = .ordered →
                    ApSet.has (s.slot y).passedBy b = true) →
              next = (s.ring c.ring).ready.find? fun y => !passed y && !left y) →
            (∀ y, next = some y → (t.ap a).state = .bound y) ∧
            (next = none → d.onEmpty = .repeatFrame → (t.ap a).state = .bound sl) ∧
            (next = none → d.onEmpty = .strict → (t.ap a).state = .unbound)) ∧
        ((∃ e ∈ mine, e.isDetach = true) →
          (t.ap a).state = .off ∧ (t.ap a).deferred = false ∧
          (t.ring c.ring).consumers = ApSet.erase (s.ring c.ring).consumers a ∧
          (∀ sl, (s.ap a).state = .bound sl → ApSet.has (t.slot sl).holders a = false) ∧
          (∀ sl, (t.slot sl).home.map (·.ring) = some c.ring →
            ApSet.has (t.slot sl).passedBy a = false) ∧
          ((s.ap a).state = .unbound → c.pick = .newest →
            (∀ e ∈ aheadOfDetach mine, ∀ p oe, e.op = .aperture a (.setPick p oe) → p = .newest) →
            t.notes = (mine.map fun e => s.boundaryNote a c.ring none (rejected e) e).foldl
              NoteQueue.push s.notes) ∧
          (∀ w base timer, s.steering.phase = .stalled w a base timer →
            t.steering.phase = .opened ∧
            ∃ x, t.aOut =
              s.aOut ++ [{ source := w.source, kind := w.kind, outcome := .fault, data := x }]) ∧
          ((∀ w base timer, s.steering.phase ≠ .stalled w a base timer) →
            t.steering = s.steering ∧ t.aOut = s.aOut)))

/-- The walk of a producer's acted boundary, once through all the entries in queue order (R150). Those for
the aperture and its ring apply, each after the earlier ones, but for a MOVE_WINDOW whose new window is in
the way, which is rejected (R152); a DETACH turns the aperture OFF and the walk goes on (R153). Those for
consumers of the ring and the RETIRE_SLOT entries of its slots count the boundary, and at 0 leave with
CHANGE_EXPIRED (R155, R156). Any other is passed over. The notes come in the order of the walk: stated in
full for a STARVED producer that binds a free slot or turns OFF. No RETIRE_SLOT waits on a slot that the
boundary frees before the walk. -/
def Obligations.ProducerBoundaryWalksTheChanges : Prop :=
  ∀ (s : State) (a : ApId) (c : ApConfig) (order : List ApId) (rejected : Change → Bool),
    s.link.phase = .request → s.Settled → s.ActsNow a c → c.role = .producer →
    (s.changes.entries.map (·.seq)).Nodup → (∀ e, rejected e = true ↔ s.Rejects a c e) →
    (∀ e ∈ s.changes.entries, ∀ sl, e.op = .retireSlot sl → s.Placed ∧
      ((s.slot sl).home.map (·.ring) ≠ some c.ring ∨ s.StaysOut a c.ring sl)) →
    ∃ t, exec (.boundary (requestFor 0x05 [idWord a]) order) s = .next t ∧ t.answers .done [] ∧
      t.changes =
        { s.changes with entries := s.changes.entries.filterMap (s.leftByWalk a c.ring) } ∧
      EntriesApply s t a c rejected ∧
      (t.ring c.ring).overflow =
        overflowAfter (s.entriesForRing c.ring) (s.ring c.ring).overflow ∧
      (∀ e ∈ s.changes.entries, ∀ n, s.walkNote t a c.ring rejected e = some n → Raised s t n) ∧
      (∀ b, b ≠ a → t.ap b = { s.ap b with state := (t.ap b).state }) ∧
      (∀ sl, (∃ e ∈ s.changes.entries, e.op = .retireSlot sl) →
        (t.slot sl).home = (s.slot sl).home ∧
        ((t.slot sl).retirePending = true ↔
          (s.slot sl).retirePending = true ∧
            ¬ ∃ e ∈ s.changes.entries, e.op = .retireSlot sl ∧ e.expiry = 1 ∧
              (s.slot sl).home.map (·.ring) = some c.ring)) ∧
      ((∃ e ∈ s.entriesFor a, e.isDetach = true) →
        (t.ap a).state = .off ∧ (t.ring c.ring).producer = none) ∧
      ((s.ap a).state = .unbound → (s.sched c.ring).state = .idle →
        (s.ring c.ring).free ≠ [] ∨ (∃ e ∈ s.entriesFor a, e.isDetach = true) →
        t.notes = (s.changes.entries.filterMap (s.walkNote s a c.ring rejected)).foldl
          NoteQueue.push s.notes)

/-- A RETIRE_SLOT applies at the moment its slot becomes FREE (R154), here by a command: RELEASE OLDEST and
RELEASE FRAME of a held frame (R111, R112), RELEASE FRAME that lets a READY slot be reclaimed, RELEASE
ALL (R113), RING_OFF, and RING_FLUSH of either kind. It is rejected if the ring is ON with a pool of 2 or
less, and otherwise the slot leaves the ring; after RING_OFF the ring is OFF, and nothing is rejected. Of
several slots that one command frees, the retirements apply in the order in which the slots join the free
list, and each counts the pool down for those behind it. That the READY match of RELEASE FRAME is the
oldest RETAINED one is the model's reading (log 21). -/
def Obligations.RetirementAppliesToTheFreedSlot : Prop :=
  (∀ (s : State) (r : RingId) (sl : SlotId) (h : Home) (before after : List Change) (e : Change)
    (sel f : Word) (args : List Word),
    s.link.phase = .request → args = [idWord r, sel, f] →
    (sel = 0 ∧ (s.ring r).held.head? = some sl ∨
      sel = 1 ∧ f ≠ 0 ∧
        (s.ring r).held.find? (fun x => decide ((s.slot x).frame = some f.toNat)) = some sl) →
    (s.slot sl).jobs = 0 → (s.slot sl).home = some h → h.ring = r → sl ∉ (s.ring r).free →
    s.changes.entries = before ++ e :: after → e.op = .retireSlot sl →
    (∀ x ∈ before, x ≠ e ∧ x.op ≠ .retireSlot sl) →
    ((s.ring r).on = true ∧ (s.ring r).pool ≤ 2 →
      exec (.release (requestFor 0x23 args)) s =
        .next (State.answered
          { (s.setRing r
              { s.ring r with
                held := (s.ring r).held.erase sl, free := (s.ring r).free ++ [sl] }).setSlot sl
              { s.slot sl with
                frame := none, retained := false, releaseRequested := false, passedBy := 0
                retirePending := false } with
            changes := { s.changes with entries := before ++ after }
            notes := s.notes.push (e.note .changeRejected r none (some sl)) } 0x23 args .done [1])) ∧
    ((s.ring r).on = false ∨ 2 < (s.ring r).pool →
      exec (.release (requestFor 0x23 args)) s =
        .next (State.answered
          { (s.setRing r
              { s.ring r with
                held := (s.ring r).held.erase sl, pool := (s.ring r).pool - 1 }).setSlot sl
              Slot.retiredRecord with
            changes := { s.changes with entries := before ++ after }
            notes := s.notes.push (e.note .changeApplied r none (some sl)) } 0x23 args .done [1]))) ∧
  (∀ (s : State) (r : RingId) (f : Word) (idle busy gone : List SlotId),
    s.link.phase = .request → s.Placed → s.QueueLaws → (s.ring r).held ≠ [] →
    idle = (s.ring r).held.filter (fun x => decide ((s.slot x).jobs = 0)) →
    busy = (s.ring r).held.filter (fun x => decide ((s.slot x).jobs ≠ 0)) →
    gone = retiredOf (s.ring r).on s.retires (s.ring r).pool idle →
    ∃ t, exec (.release (requestFor 0x23 [idWord r, 2, f])) s = .next t ∧
      t.answers .done [numWord idle.length, numWord busy.length] ∧
      t.ring r =
        { s.ring r with
          held := busy, free := (s.ring r).free ++ idle.filter fun x => decide (x ∉ gone)
          pool := (s.ring r).pool - gone.length } ∧
      (∀ q, q ≠ r → t.ring q = s.ring q) ∧
      (∀ x, t.slot x =
        if x ∈ gone then Slot.retiredRecord
        else if x ∈ idle then
          { (s.slot x).cleared with
            retirePending := if s.retires x then false else (s.slot x).retirePending }
        else s.slot x) ∧
      t.changes = { s.changes with entries := s.withoutRetirements idle } ∧
      t.notes = (idle.filterMap (s.retireNote r gone)).foldl NoteQueue.push s.notes ∧
      { t with
        link := s.link, rings := s.rings, slots := s.slots, changes := s.changes
        notes := s.notes } = s) ∧
  (∀ (s : State) (r : RingId) (freed : List SlotId), s.link.phase = .request → s.Placed → s.QueueLaws →
    ((s.ring r).on = true → (∀ a c, s.apOn a = true → (s.ap a).config = some c → c.ring ≠ r) →
      freed = (s.ring r).ready.filter (fun x => !(s.slot x).retained) →
      ∃ t, exec (.ringOff (requestFor 0x0A [idWord r])) s = .next t ∧ t.answers .done [] ∧
        (t.ring r).on = false ∧ t.changes = { s.changes with entries := s.withoutRetirements freed } ∧
        RetirementsApplied s t r freed (freed.filter s.retires)) ∧
    ∀ (keep : Bool) (gone : List SlotId),
      freed = (if keep then (s.ring r).ready.filter fun x => !(s.slot x).retained
        else (s.ring r).ready ++ (s.ring r).held) →
      (keep = false → ∀ j ∈ s.copy.jobs, j.ring ≠ r) →
      gone = retiredOf (s.ring r).on s.retires (s.ring r).pool freed →
      ∃ t, exec (.ringFlush (requestFor 0x0B [idWord r, boolWord keep])) s = .next t ∧
        t.answers .done [] ∧ t.changes = { s.changes with entries := s.withoutRetirements freed } ∧
        (t.ring r).free = (s.ring r).free ++ freed.filter (fun x => decide (x ∉ gone)) ∧
        RetirementsApplied s t r freed gone) ∧
  ∀ (s : State) (r : RingId) (sl : SlotId) (e : Change) (floor : Prop),
    s.link.phase = .request → s.Placed → s.OnlyRetires r sl e →
    (floor ↔ (s.ring r).on = true ∧ (s.ring r).pool ≤ 2) →
    (∀ n args, n ≠ 0 → n ≤ 0xFFFFFFFF → args = [idWord r, 1, numWord n] →
      (∀ y ∈ (s.ring r).held, (s.slot y).frame ≠ some n) →
      (s.ring r).ready.find? (fun y =>
        decide ((s.slot y).frame = some n ∧ (s.slot y).retained = true)) = some sl →
      s.MeetsReclamation r sl →
      ∃ t, exec (.release (requestFor 0x23 args)) s = .next t ∧ t.answers .done [0] ∧
        RetirementApplied s t r sl e floor ∧ (floor → sl ∈ (t.ring r).free)) ∧
    (sl ∈ (s.ring r).ready → (s.slot sl).retained = false → (s.ring r).on = true →
      (∀ a c, s.apOn a = true → (s.ap a).config = some c → c.ring ≠ r) →
      ∃ t, exec (.ringOff (requestFor 0x0A [idWord r])) s = .next t ∧ t.answers .done [] ∧
        (t.ring r).on = false ∧ RetirementApplied s t r sl e False) ∧
    ∀ keep : Bool,
      sl ∈ (s.ring r).ready ∧ (keep = true → (s.slot sl).retained = false) ∨
        keep = false ∧ sl ∈ (s.ring r).held ∧ (s.slot sl).jobs = 0 →
      ∃ t, exec (.ringFlush (requestFor 0x0B [idWord r, boolWord keep])) s = .next t ∧
        t.answers .done [] ∧ RetirementApplied s t r sl e floor ∧ (floor → sl ∈ (t.ring r).free)

/-- A RETIRE_SLOT applies at the moment its slot becomes FREE (R154), here at a boundary or at the end of
a job: an empty return, whose slot is bound again only if the retirement is rejected; reclamation at a
publish and at a consumer's move; and the end of the last job of a slot whose release is requested (R15),
DONE, FAILED or ABORTED. Of several slots that one boundary reclaims, as one publish can, the retirements
apply in ready-list order, and each counts the pool down for those behind it (R12, R13). -/
def Obligations.RetirementAppliesAtBoundariesAndJobEnds : Prop :=
  (∀ (s : State) (a : ApId) (c : ApConfig) (order : List ApId) (freed gone : List SlotId),
    s.link.phase = .request → s.Settled → s.Placed → s.QueueLaws → s.ActsNow a c →
    freed.Sublist (s.ring c.ring).ready →
    gone = retiredOf (s.ring c.ring).on s.retires (s.ring c.ring).pool freed →
    (∀ x, c.role = .producer → (s.ap a).state = .bound x → (s.slot x).written = true →
      (∀ y ∈ (s.ring c.ring).ready, y ∈ freed ↔
        (s.slot y).holders = 0 ∧ (s.slot y).retained = false ∧
          ∀ b d, ApSet.has (s.ring c.ring).consumers b = true → (s.ap b).config = some d →
            d.pick = .ordered → ApSet.has (s.slot y).passedBy b = true) →
      ∃ t, exec (.boundary (requestFor 0x05 [idWord a]) order) s = .next t ∧
        RetirementsApplied s t c.ring freed gone) ∧
    ∀ sl x, c.role = .consumer → s.NoEntriesFor a → s.PromptlyReclaimed → (s.ap a).state = .bound sl →
      (match c.pick with
        | .newest => (s.ring c.ring).ready.getLast? = some x ∧ x ≠ sl
        | .ordered =>
          (s.ring c.ring).ready.find? (fun y => !ApSet.has (s.slot y).passedBy a) = some x) →
      (∀ y ∈ (s.ring c.ring).ready, y ∈ freed ↔
        (s.ring c.ring).ready.getLast? ≠ some y ∧ y ≠ x ∧ (s.slot y).retained = false ∧
        (if y = sl then ApSet.erase (s.slot y).holders a else (s.slot y).holders) = 0 ∧
        ∀ b d, ApSet.has (s.ring c.ring).consumers b = true → (s.ap b).config = some d →
          d.pick = .ordered →
            ApSet.has (s.slot y).passedBy b = true ∨
            b = a ∧ y ∈ takeThrough x (s.ring c.ring).ready) →
      ∃ t, exec (.boundary (requestFor 0x05 [idWord a]) order) s = .next t ∧
        RetirementsApplied s t c.ring freed gone ∧
        t.changes = { s.changes with entries := s.withoutRetirements freed } ∧
        (t.ring c.ring).free =
          (s.ring c.ring).free ++ freed.filter (fun y => decide (y ∉ gone))) ∧
  ∀ (s : State) (r : RingId) (sl : SlotId) (e : Change) (floor : Prop),
    s.Placed → s.OnlyRetires r sl e → (floor ↔ (s.ring r).on = true ∧ (s.ring r).pool ≤ 2) →
    (∀ a c order, s.link.phase = .request → s.Settled → s.ActsNow a c → c.ring = r →
      (c.role = .producer → (s.ap a).state = .bound sl → (s.slot sl).written = false →
        ∃ t, exec (.boundary (requestFor 0x05 [idWord a]) order) s = .next t ∧
          RetirementApplied s t r sl e floor ∧ (floor → (t.ap a).state = .bound sl)) ∧
      (sl ∈ (s.ring r).ready → (s.slot sl).retained = false →
        (∀ b d, ApSet.has (s.ring r).consumers b = true → (s.ap b).config = some d →
          d.pick = .ordered → ApSet.has (s.slot sl).passedBy b = true) →
        (∀ x, c.role = .producer → (s.ap a).state = .bound x → (s.slot x).written = true →
          (s.slot sl).holders = 0 →
          ∃ t, exec (.boundary (requestFor 0x05 [idWord a]) order) s = .next t ∧
            RetirementApplied s t r sl e floor ∧
            (floor → sl ∈ (t.ring r).free ∨ (t.ap a).state = .bound sl)) ∧
        (∀ x, c.role = .consumer → c.pick = .newest → (s.ap a).state = .bound sl →
          (s.ring r).ready.getLast? = some x → x ≠ sl → ApSet.erase (s.slot sl).holders a = 0 →
          ∃ t, exec (.boundary (requestFor 0x05 [idWord a]) order) s = .next t ∧
            RetirementApplied s t r sl e floor ∧ (floor → sl ∈ (t.ring r).free)))) ∧
    (∀ x j b, s.arbiter.port = some { claimant := .copy, txn := x } → s.copy.active = some j →
      j.granted = true → j.job.ring = r → j.job.slot = sl →
      b = min 16 ((j.job.length - j.job.doneBytes) / 8) →
      (∀ resp : MResponse, x.kind = .read → j.cancelled = true ∨ resp.outcome = .fault →
        s.FreesAtEnd j.job (s.slot sl).releaseRequested →
        ∃ t, exec (.copyReadResponse resp) s = .next t ∧ RetirementApplied s t r sl e floor ∧
          (floor → sl ∈ (t.ring r).free)) ∧
      ∀ outcome, x.kind = .write →
        (j.cancelled = true ∨ outcome = .fault) ∧
            s.FreesAtEnd j.job (s.slot sl).releaseRequested ∨
          j.cancelled = false ∧ outcome = .okay ∧ j.job.length ≤ j.job.doneBytes + 8 * b ∧
            s.FreesAtEnd j.job ((s.slot sl).releaseRequested || j.job.autoRelease) →
        ∃ t, exec (.copyWriteResponse outcome) s = .next t ∧ RetirementApplied s t r sl e floor ∧
          (floor → sl ∈ (t.ring r).free)) ∧
    ∀ (j : ActiveJob) (q : Job) (id : Nat), s.link.phase = .request → id ≠ 0 → id ≤ 255 →
      s.copy.active = some j → q.ring = r → q.slot = sl →
      s.FreesAtEnd q (s.slot sl).releaseRequested →
      j.job = q ∧ q.id = id ∧ j.granted = false ∨
        j.job.id ≠ id ∧ s.copy.queued.find? (fun y => decide (y.id = id)) = some q →
      ∃ t, exec (.copyCancel (requestFor 0x29 [numWord id])) s = .next t ∧ t.answers .done [] ∧
        RetirementApplied s t r sl e floor ∧ (floor → sl ∈ (t.ring r).free)

/-- CANCEL_CHANGE (R157, R174): the entry leaves the queue with no note and its kind number and target
id are the result; a cancelled RETIRE_SLOT clears retire_pending; a seq of no entry, and seq 0, answer
NO_ENTRY. -/
def Obligations.CancelChangeRemovesTheEntry : Prop :=
  ∀ (s : State) (seq : Nat), s.link.phase = .request → seq ≤ 65535 →
    (seq = 0 ∨ (∀ e ∈ s.changes.entries, e.seq ≠ seq) →
      exec (.cancelChange (requestFor 0x18 [numWord seq])) s =
        .next (s.answered 0x18 [numWord seq] .noEntry [])) ∧
    (∀ before e after, seq ≠ 0 → s.changes.entries = before ++ e :: after → e.seq = seq →
      (∀ x ∈ before ++ after, x.seq ≠ seq) →
      ∃ t, exec (.cancelChange (requestFor 0x18 [numWord seq])) s = .next t ∧
        t.answers .done [numWord (e.op.kindNumber + 256 * e.op.targetNumber)] ∧
        t.changes = { entries := before ++ after, nextSeq := s.changes.nextSeq } ∧
        (∀ sl, t.slot sl =
          if e.op = .retireSlot sl then { s.slot sl with retirePending := false } else s.slot sl) ∧
        { t with link := s.link, changes := s.changes, slots := s.slots } = s)

/-! ### Schedules and RELEASE -/

/-- SCHEDULE_SETUP, SCHEDULE_START and SCHEDULE_STOP, each with its refusal (R98, R99, R102). -/
def Obligations.ScheduleCommandsFollowTheState : Prop :=
  ∀ (s : State) (r : RingId), s.link.phase = .request →
    (∀ (d n g b : Nat) (start : StartBy) (args : List Word), d ≤ 255 → n ≤ 64 → g ≤ 255 → b ≤ 255 →
      args = [idWord r, numWord d, numWord n, numWord g, numWord b,
        if start = .command then 0 else 1] →
      ((s.sched r).state ≠ .idle →
        exec (.scheduleSetup (requestFor 0x20 args)) s = .next (s.answered 0x20 args .busy [])) ∧
      ((s.sched r).state = .idle →
        exec (.scheduleSetup (requestFor 0x20 args)) s =
          .next (State.answered
            (s.setSched r
              { s.sched r with delay := d, burst := n, gap := g, bursts := b, start := start })
            0x20 args .done []))) ∧
    ((s.sched r).state ≠ .idle →
      exec (.scheduleStart (requestFor 0x21 [idWord r])) s =
        .next (s.answered 0x21 [idWord r] .busy [])) ∧
    ((s.sched r).state = .idle →
      exec (.scheduleStart (requestFor 0x21 [idWord r])) s =
        .next (State.answered
          (s.setSched r
            (if (s.sched r).start = .snap then
              { s.sched r with burstsDone := 0, state := .armed, remaining := 0 }
            else if 0 < (s.sched r).delay then
              { s.sched r with burstsDone := 0, state := .delay, remaining := (s.sched r).delay }
            else
              { s.sched r with burstsDone := 0, state := .retaining, remaining := (s.sched r).burst }))
          0x21 [idWord r] .done [])) ∧
    ((s.sched r).state = .idle →
      exec (.scheduleStop (requestFor 0x22 [idWord r])) s =
        .next (s.answered 0x22 [idWord r] .done [])) ∧
    ((s.sched r).state ≠ .idle →
      exec (.scheduleStop (requestFor 0x22 [idWord r])) s =
        .next (State.answered
          { s.setSched r { s.sched r with state := .idle, remaining := 0 } with
            notes := s.notes.push { kind := .scheduleDone, ring := some r, detail := 2 } }
          0x22 [idWord r] .done []))

/-- RELEASE OLDEST (R111) and RELEASE ALL (R113), with no retirement waiting (R110): held slots without
jobs go to the free tail in held-list order, and a busy head or busy slots stay. -/
def Obligations.ReleaseOldestAndAll : Prop :=
  ∀ (s : State) (r : RingId) (f : Word), s.link.phase = .request → s.NoRetirements →
    (s.ring r).held.Nodup →
    ((s.ring r).held = [] →
      exec (.release (requestFor 0x23 [idWord r, 0, f])) s =
        .next (s.answered 0x23 [idWord r, 0, f] .noEntry []) ∧
      exec (.release (requestFor 0x23 [idWord r, 2, f])) s =
        .next (s.answered 0x23 [idWord r, 2, f] .noEntry [])) ∧
    (∀ sl rest, (s.ring r).held = sl :: rest →
      ((s.slot sl).jobs = 0 →
        exec (.release (requestFor 0x23 [idWord r, 0, f])) s =
          .next (State.answered
            ((s.setRing r { s.ring r with held := rest, free := (s.ring r).free ++ [sl] }).setSlot sl
              { s.slot sl with
                frame := none, retained := false, releaseRequested := false, passedBy := 0 })
            0x23 [idWord r, 0, f] .done [1])) ∧
      (0 < (s.slot sl).jobs →
        exec (.release (requestFor 0x23 [idWord r, 0, f])) s =
          .next (s.answered 0x23 [idWord r, 0, f] .busy [0])) ∧
      ∀ idle busy, idle = (s.ring r).held.filter (fun x => decide ((s.slot x).jobs = 0)) →
        busy = (s.ring r).held.filter (fun x => decide ((s.slot x).jobs ≠ 0)) →
        ∃ t, exec (.release (requestFor 0x23 [idWord r, 2, f])) s = .next t ∧
          t.answers .done [numWord idle.length, numWord busy.length] ∧
          t.ring r = { s.ring r with held := busy, free := (s.ring r).free ++ idle } ∧
          (∀ q, q ≠ r → t.ring q = s.ring q) ∧
          (∀ x, t.slot x =
            if x ∈ idle then
              { s.slot x with
                frame := none, retained := false, releaseRequested := false, passedBy := 0 }
            else s.slot x) ∧
          { t with link := s.link, rings := s.rings, slots := s.slots } = s)

/-- RELEASE FRAME n (R112, R13), with no retirement waiting: the oldest held match goes to the free tail
or is BUSY; with no held match the oldest retained READY match loses its mark and is reclaimed if it
meets the condition; everything else is NO_ENTRY. That the READY match is the oldest RETAINED one is the
model's reading (log 21). -/
def Obligations.ReleaseFrameFreesOrUnretains : Prop :=
  ∀ (s : State) (r : RingId) (n : Nat) (args : List Word),
    s.link.phase = .request → s.NoRetirements → s.Placed → n ≤ 0xFFFFFFFF →
    args = [idWord r, 1, numWord n] →
    (∀ sl, n ≠ 0 → (s.ring r).held.find? (fun x => decide ((s.slot x).frame = some n)) = some sl →
      ((s.slot sl).jobs = 0 →
        exec (.release (requestFor 0x23 args)) s =
          .next (State.answered
            ((s.setRing r
                { s.ring r with
                  held := (s.ring r).held.erase sl, free := (s.ring r).free ++ [sl] }).setSlot sl
              { s.slot sl with
                frame := none, retained := false, releaseRequested := false, passedBy := 0 })
            0x23 args .done [1])) ∧
      (0 < (s.slot sl).jobs →
        exec (.release (requestFor 0x23 args)) s = .next (s.answered 0x23 args .busy [0]))) ∧
    ((∀ sl ∈ (s.ring r).held, (s.slot sl).frame ≠ some n) →
      (∀ sl, n ≠ 0 →
        (s.ring r).ready.find? (fun x =>
          decide ((s.slot x).frame = some n ∧ (s.slot x).retained = true)) = some sl →
        (s.MeetsReclamation r sl →
          exec (.release (requestFor 0x23 args)) s =
            .next (State.answered
              ((s.setRing r
                  { s.ring r with
                    ready := (s.ring r).ready.erase sl, free := (s.ring r).free ++ [sl] }).setSlot sl
                { s.slot sl with
                  frame := none, retained := false, releaseRequested := false, passedBy := 0 })
              0x23 args .done [0])) ∧
        (¬ s.MeetsReclamation r sl →
          exec (.release (requestFor 0x23 args)) s =
            .next (State.answered (s.setSlot sl { s.slot sl with retained := false }) 0x23 args
              .done [0]))) ∧
      (n = 0 ∨ (∀ sl ∈ (s.ring r).ready,
          (s.slot sl).frame ≠ some n ∨ (s.slot sl).retained = false) →
        exec (.release (requestFor 0x23 args)) s = .next (s.answered 0x23 args .noEntry [])))

/-! ### The Copy-Out Engine -/

/-- COPY: the five checks in order (R119), and what an accepted job leaves (R118, R120): behind other
jobs it is QUEUED, and into an empty queue it is ACTIVE with its first read claim presented (R122,
R124). The next-id counter advances by 1, past the id of a job in the queue: the model's reading of R118
(log 31). -/
def Obligations.CopyChecksAndSubmits : Prop :=
  ∀ (s : State) (r : RingId) (n len : Nat) (dest : Addr) (auto : Bool) (args : List Word),
    s.link.phase = .request → n ≤ 0xFFFFFFFF → len ≤ 0xFFFFFFFF → dest.toNat % 8 = 0 →
    args = [idWord r, numWord n, dest, numWord len, boolWord auto] →
    (n = 0 ∨ (∀ sl ∈ (s.ring r).held, (s.slot sl).frame ≠ some n) →
      exec (.copy (requestFor 0x28 args)) s = .next (s.answered 0x28 args .noEntry [])) ∧
    (∀ sl, n ≠ 0 → (s.ring r).held.find? (fun x => decide ((s.slot x).frame = some n)) = some sl →
      (len % 8 ≠ 0 ∨ len < 8 ∨ s.slotBytes r < len ∨ 2 ^ 32 < dest.toNat + len →
        exec (.copy (requestFor 0x28 args)) s = .next (s.answered 0x28 args .badArg [])) ∧
      (len % 8 = 0 → 8 ≤ len → len ≤ s.slotBytes r → dest.toNat + len ≤ 2 ^ 32 →
        (¬ s.WindowFree dest len →
          exec (.copy (requestFor 0x28 args)) s = .next (s.answered 0x28 args .conflict [])) ∧
        (s.WindowFree dest len →
          (4 ≤ s.copy.count →
            exec (.copy (requestFor 0x28 args)) s = .next (s.answered 0x28 args .noSpace [])) ∧
          (∀ j : Job, s.copy.count < 4 →
            j = { id := s.copy.nextId, ring := r, slot := sl, frame := n, dest := dest, length := len
                  autoRelease := auto, doneBytes := 0 } →
            (s.copy.active.isSome = true →
              ∃ m, s.IdMoves m ∧
                exec (.copy (requestFor 0x28 args)) s =
                  .next (State.answered
                    { s.setSlot sl { s.slot sl with jobs := (s.slot sl).jobs + 1 } with
                      copy := { s.copy with queued := s.copy.queued ++ [j], nextId := m } }
                    0x28 args .done [numWord s.copy.nextId])) ∧
            (s.copy.active = none →
              ∃ t g, exec (.copy (requestFor 0x28 args)) s = .next t ∧
                t.answers .done [numWord s.copy.nextId] ∧
                t.slots = (s.setSlot sl { s.slot sl with jobs := (s.slot sl).jobs + 1 }).slots ∧
                t.copy.active = some { job := j, half := .read, cancelled := false, granted := g } ∧
                t.copy.queued = s.copy.queued ∧
                s.IdMoves t.copy.nextId ∧
                t.copyPresented
                  { source := 7, kind := .read, address := s.slotBase sl
                    beats := min 16 (len / 8), masks := [], data := [], lock := false } ∧
                t.rings = s.rings ∧ t.apertures = s.apertures ∧ t.notes = s.notes ∧
                t.steering = s.steering)))))

/-- COPY_CANCEL (R127): NO_ENTRY for an id of no job; a granted ACTIVE job is marked and its claim runs
on; an ACTIVE job whose claim waits ends ABORTED at once with its claim withdrawn (R134), and the next
job is ACTIVE with its first read claim (R121); a QUEUED one leaves the queue, alone should another
share its id, which no run brings about (log 31). No retirement waits on the job's slot. -/
def Obligations.CopyCancelEndsTheJob : Prop :=
  ∀ (s : State) (id : Nat), s.link.phase = .request → id ≤ 255 → s.CopyClaims → s.NoRetirements →
    (id = 0 ∨ ((∀ j, s.copy.active = some j → j.job.id ≠ id) ∧ ∀ q ∈ s.copy.queued, q.id ≠ id) →
      exec (.copyCancel (requestFor 0x29 [numWord id])) s =
        .next (s.answered 0x29 [numWord id] .noEntry [])) ∧
    (∀ j, s.copy.active = some j → j.job.id = id → id ≠ 0 →
      (j.granted = true →
        exec (.copyCancel (requestFor 0x29 [numWord id])) s =
          .next (State.answered
            { s with copy := { s.copy with active := some { j with cancelled := true } } } 0x29
            [numWord id] .done [])) ∧
      (j.granted = false →
        ∃ t, exec (.copyCancel (requestFor 0x29 [numWord id])) s = .next t ∧ t.answers .done [] ∧
          JobEnded s t j.job (s.slot j.job.slot).releaseRequested ∧
          (∀ x, s.arbiter.port = some x → t.arbiter.port = some x) ∧
          t.notes = s.notes.push
            { kind := .copyAborted, ring := some j.job.ring, slot := some j.job.slot
              frame := some j.job.frame, tag := some j.job.id, detail := 1 })) ∧
    (∀ j q, s.copy.active = some j → j.job.id ≠ id → id ≠ 0 →
      s.copy.queued.find? (fun x => decide (x.id = id)) = some q →
      ∃ t, exec (.copyCancel (requestFor 0x29 [numWord id])) s = .next t ∧ t.answers .done [] ∧
        t.copy = { s.copy with queued := s.copy.queued.erase q } ∧
        t.arbiter = s.arbiter ∧
        (∀ x, x ≠ q.slot → t.slot x = s.slot x) ∧
        (¬ s.FreesAtEnd q (s.slot q.slot).releaseRequested →
          t.rings = s.rings ∧
            t.slot q.slot = { s.slot q.slot with jobs := (s.slot q.slot).jobs - 1 }) ∧
        (s.FreesAtEnd q (s.slot q.slot).releaseRequested →
          t.ring q.ring =
            { s.ring q.ring with
              held := (s.ring q.ring).held.erase q.slot
              free := (s.ring q.ring).free ++ [q.slot] } ∧
          (t.slot q.slot).frame = none ∧ (t.slot q.slot).releaseRequested = false) ∧
        t.notes = s.notes.push
          { kind := .copyAborted, ring := some q.ring, slot := some q.slot, frame := some q.frame
            tag := some q.id, detail := 0 })

/-- The response to a read claim (R122, R126, R127, R132): OKAY brings the write claim with the data
read (R123, R124), FAULT ends the job FAILED, a cancelled job ends ABORTED, after either the next job is
ACTIVE with its first read claim (R121), and the response to a claim that RESET_CORE has orphaned is
discarded, whether or not a new job's claim waits behind it. No retirement waits. Of a response with
more data than the claim has beats the model takes the first beats (log 33). -/
def Obligations.CopyReadResponseGoesOn : Prop :=
  ∀ (s : State) (resp : MResponse) (x : Txn), s.NoRetirements →
    s.arbiter.port = some { claimant := .copy, txn := x } → x.kind = .read →
    (∀ j, s.copy.active = some j → j.granted = true →
      ∃ t, exec (.copyReadResponse resp) s = .next t ∧ t.link = s.link ∧ t.steering = s.steering ∧
        (j.cancelled = false → resp.outcome = .okay →
          SameRecords s t ∧ t.notes = s.notes ∧
          (∃ g, t.copy =
            { s.copy with
              active := some { job := j.job, half := .write, cancelled := false, granted := g }
              staging := [] }) ∧
          ∀ b, b = min 16 ((j.job.length - j.job.doneBytes) / 8) →
            t.copyPresented
              { source := 7, kind := .write, address := j.job.dest + BitVec.ofNat 32 j.job.doneBytes
                beats := b, masks := List.replicate b 0xFF, data := resp.data.take b
                lock := false }) ∧
        (j.cancelled = true ∨ resp.outcome = .fault →
          JobEnded s t j.job (s.slot j.job.slot).releaseRequested ∧
          t.notes = s.notes.push
            { kind := if j.cancelled then .copyAborted else .copyFailed, ring := some j.job.ring
              slot := some j.job.slot, frame := some j.job.frame, tag := some j.job.id
              detail := 1 })) ∧
    (∀ j, s.copy.active = some j → j.granted = false →
      ∃ t g, exec (.copyReadResponse resp) s = .next t ∧ SameRecords s t ∧ t.notes = s.notes ∧
        t.steering = s.steering ∧ t.copy = { s.copy with active := some { j with granted := g } } ∧
        ∀ y, s.arbiter.copyClaim = some y → t.copyPresented y) ∧
    (s.copy.active = none →
      ∃ t, exec (.copyReadResponse resp) s = .next t ∧ SameRecords s t ∧ t.notes = s.notes ∧
        t.steering = s.steering ∧ t.copy = s.copy)

/-- The response to a write claim (R123, R125 to R127, R132): OKAY advances done_bytes and brings the
next read claim, or ends the job DONE with COPY_DONE, whose detail says whether the slot was freed;
FAULT ends it FAILED and a cancellation ABORTED; after each ending the next job is ACTIVE with its first
read claim (R121); the response to a claim that RESET_CORE has orphaned is
discarded, whether or not a new job's claim waits behind it. No retirement waits. -/
def Obligations.CopyWriteResponseGoesOn : Prop :=
  ∀ (s : State) (outcome : BusOutcome) (x : Txn), s.NoRetirements →
    s.arbiter.port = some { claimant := .copy, txn := x } → x.kind = .write →
    (∀ j b, s.copy.active = some j → j.granted = true →
      b = min 16 ((j.job.length - j.job.doneBytes) / 8) →
      ∃ t, exec (.copyWriteResponse outcome) s = .next t ∧ t.link = s.link ∧
        t.steering = s.steering ∧
        (j.cancelled = false → outcome = .okay → j.job.doneBytes + 8 * b < j.job.length →
          SameRecords s t ∧ t.notes = s.notes ∧
          (∃ g, t.copy =
            { s.copy with
              active := some
                { job := { j.job with doneBytes := j.job.doneBytes + 8 * b }, half := .read
                  cancelled := false, granted := g } }) ∧
          t.copyPresented
            { source := 7, kind := .read
              address := s.slotBase j.job.slot + BitVec.ofNat 32 (j.job.doneBytes + 8 * b)
              beats := min 16 ((j.job.length - (j.job.doneBytes + 8 * b)) / 8)
              masks := [], data := [], lock := false }) ∧
        (j.cancelled = false → outcome = .okay → j.job.length ≤ j.job.doneBytes + 8 * b →
          ∀ release, release = ((s.slot j.job.slot).releaseRequested || j.job.autoRelease) →
            JobEnded s t j.job release ∧
            (s.FreesAtEnd j.job release →
              t.notes = s.notes.push
                { kind := .copyDone, ring := some j.job.ring, slot := some j.job.slot
                  frame := some j.job.frame, tag := some j.job.id, detail := 1 }) ∧
            (¬ s.FreesAtEnd j.job release →
              t.notes = s.notes.push
                { kind := .copyDone, ring := some j.job.ring, slot := some j.job.slot
                  frame := some j.job.frame, tag := some j.job.id, detail := 0 })) ∧
        (j.cancelled = true ∨ outcome = .fault →
          JobEnded s t j.job (s.slot j.job.slot).releaseRequested ∧
          t.notes = s.notes.push
            { kind := if j.cancelled then .copyAborted else .copyFailed, ring := some j.job.ring
              slot := some j.job.slot, frame := some j.job.frame, tag := some j.job.id
              detail := if j.cancelled then 1 else 2 })) ∧
    (∀ j, s.copy.active = some j → j.granted = false →
      ∃ t g, exec (.copyWriteResponse outcome) s = .next t ∧ SameRecords s t ∧ t.notes = s.notes ∧
        t.steering = s.steering ∧ t.copy = { s.copy with active := some { j with granted := g } } ∧
        ∀ y, s.arbiter.copyClaim = some y → t.copyPresented y) ∧
    (s.copy.active = none →
      ∃ t, exec (.copyWriteResponse outcome) s = .next t ∧ SameRecords s t ∧ t.notes = s.notes ∧
        t.steering = s.steering ∧ t.copy = s.copy)

/-! ### Reading the part -/

/-- SUMMARY answers DONE with the four words of R176 and then sets RESET_SEEN to no; QUERY_CHANGES with
the entries from a position on, at most seven, each in the four words of R183: seq, kind number and
target; expiry; value; value2, for each kind of change as the tables of R144, R179 and R183 have it; the
other QUERY_ commands with the model's report, whose fields `QueryWordsHoldTheFields` gives (R180 to
R182, R184). They change nothing else. -/
def Obligations.QueriesReportWithoutChange : Prop :=
  ∀ s : State, s.link.phase = .request →
    (∃ a b c : Word, ∃ u, u = s.answered 0x01 [] .done [2240, a, b, c] ∧
      exec (.summary (requestFor 0x01 [])) s =
        .next { u with link := { u.link with resetSeen := false } } ∧
      (∀ r : RingId, (s.ring r).pool < 32 →
        Word.byte a r.val = flag (s.ring r).on 0 + 2 * (s.ring r).pool) ∧
      (∀ p : ApId, b.toNat / 16 ^ p.val % 16 =
        (match (s.ap p).state with | .off => 0 | .unbound => 1 | .bound _ => 2) +
          (match (s.ap p).config with
            | none => 0
            | some d => (match d.role with | .producer => 0 | .consumer => 4) + 8)) ∧
      (s.notes.queue.length < 256 → s.changes.entries.length < 256 → s.copy.count < 256 →
        c = bytesWord s.notes.queue.length s.changes.entries.length s.copy.count
          ((match s.steering.phase with
            | .opened => 0 | .inFlight _ _ => 1 | .stalled _ _ _ _ => 2) + flag s.lockOpen 2))) ∧
    (∀ r : RingId, exec (.queryRing (requestFor 0x30 [idWord r])) s =
      .next (s.answered 0x30 [idWord r] .done (s.ringWords r))) ∧
    (∀ sl : SlotId, exec (.querySlot (requestFor 0x31 [idWord sl])) s =
      .next (s.answered 0x31 [idWord sl] .done (s.slotWords sl))) ∧
    (∀ a : ApId, exec (.queryAperture (requestFor 0x32 [idWord a])) s =
      .next (s.answered 0x32 [idWord a] .done (s.apertureWords a))) ∧
    (∀ n : Nat, n ≤ 11 → exec (.queryChanges (requestFor 0x33 [numWord n])) s =
      .next (s.answered 0x33 [numWord n] .done
        (numWord (s.changes.entries.length % 256 +
            256 * ((s.changes.entries.drop n).take 7).length + 65536 * (s.changes.nextSeq % 65536)) ::
          ((s.changes.entries.drop n).take 7).flatMap fun e =>
            [ numWord (e.seq % 65536 + 65536 * e.op.kindNumber + 16777216 * e.op.targetNumber),
              numWord (e.expiry % 256), e.op.valueField, e.op.value2Field ]))) ∧
    exec (.queryJobs (requestFor 0x34 [])) s = .next (s.answered 0x34 [] .done s.jobWords)

/-- The words that QUERY_RING, QUERY_SLOT, QUERY_APERTURE and QUERY_JOBS report, field by field (R180,
R181, R182 with the layout of R179, R184), in states that keep the ranges and the placement law. Nothing
but the link changes. -/
def Obligations.QueryWordsHoldTheFields : Prop :=
  ∀ s : State, s.link.phase = .request → s.InRange → s.Placed →
    (∀ r : RingId, ∃ a b c d : Word,
      exec (.queryRing (requestFor 0x30 [idWord r])) s =
        .next (s.answered 0x30 [idWord r] .done
          [ bytesWord (flag (s.ring r).on 0)
              (match (s.ring r).slotSize with | some e => e | none => 0)
              (match (s.ring r).overflow with | .dropNew => 0 | .overwriteOldest => 1)
              (s.ring r).pool,
            numWord (s.ring r).frameCounter,
            bytesWord (idOrFF (s.ring r).producer) (s.ring r).consumers.toNat
              (s.ring r).free.length (s.ring r).ready.length,
            bytesWord (s.ring r).held.length 0 0 0,
            a, b, c, d,
            bytesWord
              (match (s.sched r).state with
                | .idle => 0 | .delay => 1 | .retaining => 2 | .gap => 3 | .armed => 4)
              (match (s.sched r).start with | .command => 0 | .snap => 1)
              (s.sched r).remaining (s.sched r).burstsDone,
            bytesWord (s.sched r).delay (s.sched r).burst (s.sched r).gap (s.sched r).bursts ]) ∧
      ∀ (i k : Nat) (w : Word), i < 4 → k < 4 → [a, b, c, d][i]? = some w →
        Word.byte w (3 - k) = idOrFF (s.ring r).lists[4 * i + k]?) ∧
    (∀ sl : SlotId, ∃ state : Nat,
      exec (.querySlot (requestFor 0x31 [idWord sl])) s =
        .next (s.answered 0x31 [idWord sl] .done
          [ bytesWord state (idOrFF ((s.slot sl).home.map (·.ring)))
              (flag (s.slot sl).written 0 + flag (s.slot sl).faulted 1 + flag (s.slot sl).retained 2 +
                flag (s.slot sl).releaseRequested 3 + flag (s.slot sl).retirePending 4)
              (s.slot sl).jobs,
            (match (s.slot sl).home with | some h => h.base | none => 0),
            numWord (match (s.slot sl).frame with | some n => n | none => 0),
            bytesWord (s.slot sl).holders.toNat (s.slot sl).passedBy.toNat 0 0 ]) ∧
      state ≤ 4 ∧ (state = 0 ↔ (s.slot sl).home = none) ∧ (state = 1 ↔ ∃ r, sl ∈ (s.ring r).free) ∧
      (state = 2 ↔ ∃ r, s.fillingSlot r = some sl) ∧ (state = 3 ↔ ∃ r, sl ∈ (s.ring r).ready) ∧
      (state = 4 ↔ ∃ r, sl ∈ (s.ring r).held)) ∧
    (∀ a : ApId,
      exec (.queryAperture (requestFor 0x32 [idWord a])) s =
        .next (s.answered 0x32 [idWord a] .done
          ((match (s.ap a).config with
            | none => [bytesWord a.val 0 0 0, 0, 0, 0, 0]
            | some c =>
              [ bytesWord a.val c.ring.val (match c.role with | .producer => 0 | .consumer => 1)
                  (match c.line with | .a => 0 | .b => 1 | .noLine => 2),
                c.windowBase,
                bytesWord c.sources.toNat c.divider
                  (match c.pick with | .newest => 0 | .ordered => 1)
                  (match c.onEmpty with | .repeatFrame => 0 | .strict => 1),
                numWord (c.timeout + 65536 * match c.stall with | .wait => 0 | .blank => 1),
                c.fill ]) ++
            [ bytesWord (match (s.ap a).state with | .off => 0 | .unbound => 1 | .bound _ => 2)
                (match (s.ap a).state with | .bound sl => sl.val | _ => 255) (s.ap a).count
                (if (s.ap a).deferred then if s.inFlightThrough a then 1 else 2 else 0),
              (match (s.ap a).config with
                | none => 0
                | some c => bytesWord 1 c.windowSize 0 0) ]))) ∧
    exec (.queryJobs (requestFor 0x34 [])) s =
      .next (s.answered 0x34 [] .done
        (bytesWord s.copy.count s.copy.nextId s.arbiter.share s.arbiter.shareCount ::
          ((match s.copy.active with
            | none => []
            | some j =>
              [ bytesWord j.job.id j.job.ring.val j.job.slot.val
                  (flag j.job.autoRelease 0 + flag true 1 + flag (decide (j.half = .write)) 2 +
                    flag j.cancelled 3 + flag j.granted 4),
                numWord j.job.frame, j.job.dest, numWord j.job.length, numWord j.job.doneBytes ]) ++
            s.copy.queued.flatMap fun j =>
              [ bytesWord j.id j.ring.val j.slot.val (flag j.autoRelease 0), numWord j.frame, j.dest,
                numWord j.length, numWord j.doneBytes ])))

/-- The Notification Queue takes a note of a kind enabled in the mask while it holds fewer than 32 notes,
at its tail; one that finds 32 is discarded and NOTES_LOST becomes yes; one of a masked kind is discarded
and sets nothing (R162, R163). The kinds are numbered 1 to 19 in the order of section 10.2, bit n-1 of the
mask for kind n (R185). ATTN is asserted exactly while the queue holds a note and the enable is yes
(R166). -/
def Obligations.NotesJoinTheQueueAndAssertAttn : Prop :=
  (∀ (s : State) (n : Note),
    (s.notes.mask.getLsbD (n.kind.number - 1) = false → s.raise n = s) ∧
    (s.notes.mask.getLsbD (n.kind.number - 1) = true →
      (s.notes.queue.length < 32 →
        s.raise n = { s with notes := { s.notes with queue := s.notes.queue ++ [n] } }) ∧
      (32 ≤ s.notes.queue.length → s.raise n = { s with notes := { s.notes with lost := true } })) ∧
    (s.raise n).notes = s.notes.push n) ∧
  [NoteKind.framePublished, .frameEmpty, .frameDropped, .producerStarved, .boundaryMerged,
      .consumerTimeout, .accessFault, .memoryFault, .lockExpired, .frameHeld, .retainRefused,
      .scheduleDone, .triggerIgnored, .copyDone, .copyAborted, .copyFailed, .changeApplied,
      .changeRejected, .changeExpired].map NoteKind.number =
    [1, 2, 3, 4, 5, 6, 7, 8, 9, 10, 11, 12, 13, 14, 15, 16, 17, 18, 19] ∧
  ∀ s : State, s.attn = true ↔ s.notes.queue ≠ [] ∧ s.notes.attnEnable = true

/-- READ_NOTES removes up to max notes from the head and returns them oldest first, three words each; it
reports NOTES_LOST in the flags of its response and then clears it (R164, R185). -/
def Obligations.ReadNotesRemovesTheOldest : Prop :=
  ∀ (s : State) (max : Nat), s.link.phase = .request → 1 ≤ max → max ≤ 8 →
    ∃ u, u = State.answered
        { s with notes := { s.notes with queue := s.notes.queue.drop max } } 0x38 [numWord max] .done
        (numWord (s.notes.queue.take max).length ::
          (s.notes.queue.take max).flatMap fun n =>
            [ bytesWord n.kind.number
                (match n.ring with | some r => r.val | none => 0xFF)
                (match n.aperture with | some a => a.val | none => 0xFF)
                (match n.slot with | some sl => sl.val | none => 0xFF),
              numWord (match n.frame with | some f => f | none => 0),
              numWord (n.detail % 65536 +
                65536 * ((match n.tag with | some k => k | none => 0) % 65536)) ]) ∧
      exec (.readNotes (requestFor 0x38 [numWord max])) s =
        .next { u with notes := { u.notes with lost := false } }

/-! ### The A-side port -/

/-- A transaction that overlaps no ON window is passed through unchanged (R30): it is in flight with no
target, presented at the Arbiter, and granted at once if the port is FREE and no COPY claim waits; a
locked one opens the lock window with no opening aperture (R44). -/
def Obligations.OutsideEveryWindowPassesThrough : Prop :=
  ∀ (s : State) (x : Txn), s.PortOpen → s.NonePending → (∀ a, ¬ s.touches x a) →
    ∃ t, exec (.aSideTransaction x) s = .next t ∧ SameRecords s t ∧ t.notes = s.notes ∧
      t.aOut = s.aOut ∧
      t.steering =
        { phase := .inFlight x none, waiting := [], lock := lockAfterAccept s.steering.lock x none } ∧
      t.presented x ∧
      (s.arbiter.port = none → s.arbiter.copyClaim = none →
        t.arbiter.port = some { claimant := .steering, txn := x })

/-- Refused transactions (R31, R32, R161): a straddle, a source not in the aperture's sources and a WRITE
to a consumer are answered FAULT at acceptance with ACCESS_FAULT, and no record changes. The data of a
READ answered so is a free value (log 15). -/
def Obligations.RefusedTransactionsFault : Prop :=
  ∀ (s : State) (x : Txn) (n : Note), s.PortOpen → s.NonePending → 1 ≤ x.beats →
    ((∃ a, s.touches x a ∧ (∀ b, s.touches x b → a ≤ b) ∧ (∀ c, ¬ s.Inside x a c) ∧
        n = { kind := .accessFault, ring := s.ringOf a, aperture := some a
              frame := some x.address.toNat, detail := 1 * 256 + x.source.val }) ∨
      (∃ a c, s.Inside x a c ∧ ApSet.has c.sources x.source = false ∧
        n = { kind := .accessFault, ring := some c.ring, aperture := some a, slot := s.boundSlot a
              frame := some x.address.toNat, detail := 2 * 256 + x.source.val }) ∨
      (∃ a c, s.Inside x a c ∧ ApSet.has c.sources x.source = true ∧ x.kind = .write ∧
        c.role = .consumer ∧
        n = { kind := .accessFault, ring := some c.ring, aperture := some a, slot := s.boundSlot a
              frame := some x.address.toNat, detail := 3 * 256 + x.source.val })) →
    ∃ t d, exec (.aSideTransaction x) s = .next t ∧ SameRecords s t ∧ t.notes = s.notes.push n ∧
      t.aOut = s.aOut ++ [{ source := x.source, kind := x.kind, outcome := .fault, data := d }] ∧
      (x.kind = .write → d = []) ∧ (x.kind = .read → d.length = x.beats) ∧
      t.steering =
        { phase := .opened, waiting := []
          lock := lockAfterResponse (lockAfterAccept s.steering.lock x none) x } ∧
      (s.arbiter.steeringClaim = none → t.arbiter.steeringClaim = none)

/-- Translation (R33, R35): a transaction wholly inside the window of a WRITING producer, or a READ
inside that of a VIEWING consumer, is moved by the distance of the window base to the slot base, recorded
with aperture, ring, slot and frame number, and presented at the Arbiter; a WRITE marks the slot
written. -/
def Obligations.BoundAperturesTranslate : Prop :=
  ∀ (s : State) (x : Txn) (a : ApId) (c : ApConfig) (sl : SlotId),
    s.PortOpen → s.NonePending → s.Inside x a c → ApSet.has c.sources x.source = true →
      (s.ap a).state = .bound sl → (c.role = .producer ∨ x.kind = .read) →
      ∃ t, exec (.aSideTransaction x) s = .next t ∧
        t.steering =
          { phase := .inFlight x
              (some { ap := a, ring := c.ring, slot := sl, frame := (s.slot sl).frame })
            waiting := [], lock := lockAfterAccept s.steering.lock x (some a) } ∧
        t.presented { x with address := s.slotBase sl + (x.address - c.windowBase) } ∧
        (∀ y, t.slot y =
          if y = sl ∧ x.kind = .write then { s.slot y with written := true } else s.slot y) ∧
        t.rings = s.rings ∧ t.apertures = s.apertures ∧ t.notes = s.notes ∧ t.aOut = s.aOut ∧
        t.schedules = s.schedules ∧ t.changes = s.changes ∧ t.link = s.link ∧ t.lines = s.lines

/-- Local answers (R34, R35, R36): a STARVED producer absorbs a WRITE and answers a READ with its fill
pattern, and so does a WAITING consumer under BLANK; byte i of every beat is byte i modulo 4 of the
pattern. Nothing is presented to the Arbiter and no record changes. -/
def Obligations.UnboundAperturesAnswerLocally : Prop :=
  ∀ (s : State) (x : Txn) (a : ApId) (c : ApConfig),
    s.PortOpen → s.NonePending → s.Inside x a c → ApSet.has c.sources x.source = true →
      (s.ap a).state = .unbound →
      (c.role = .producer ∨ (x.kind = .read ∧ c.stall = .blank)) →
      ∃ t d, exec (.aSideTransaction x) s = .next t ∧ SameRecords s t ∧ t.notes = s.notes ∧
        t.aOut = s.aOut ++ [{ source := x.source, kind := x.kind, outcome := .okay, data := d }] ∧
        (x.kind = .write → d = []) ∧
        (x.kind = .read → d.length = x.beats ∧
          ∀ beat ∈ d, ∀ i, i < 8 →
            beat.extractLsb' (8 * i) 8 = c.fill.extractLsb' (8 * (i % 4)) 8) ∧
        t.steering =
          { phase := .opened, waiting := []
            lock := lockAfterResponse (lockAfterAccept s.steering.lock x (some a)) x } ∧
        (s.arbiter.steeringClaim = none → t.arbiter.steeringClaim = none)

/-- A READ inside a WAITING consumer's window under WAIT is stalled with the aperture's timeout, without
a timer for 0, and presents no claim (R39); a transaction presented while one is in progress waits at
the port (R27), behind those already there (log 12). -/
def Obligations.ReadsStallAndTransactionsWait : Prop :=
  (∀ (s : State) (x : Txn) (a : ApId) (c : ApConfig),
    s.Settled → s.PortOpen → s.NonePending → s.Inside x a c →
      ApSet.has c.sources x.source = true → (s.ap a).state = .unbound → c.role = .consumer →
      x.kind = .read → c.stall = .wait →
      exec (.aSideTransaction x) s =
        .next { s with steering :=
          { phase := .stalled x a c.windowBase (if c.timeout = 0 then none else some c.timeout)
            waiting := [], lock := lockAfterAccept s.steering.lock x (some a) } }) ∧
  ∀ (s : State) (x : Txn), s.steering.phase ≠ .opened →
    exec (.aSideTransaction x) s =
      .next { s with steering := { s.steering with waiting := s.steering.waiting ++ [x] } }

/-- The response to a STEERING transaction (R30, R38, R45, R136): it goes to the master unchanged, which
the model takes to hold of the data that comes with a FAULT too (log 16); a FAULT to a translated
transaction raises MEMORY_FAULT, which in the model names the ring recorded at acceptance (log 17), and
marks the slot faulted if it still holds the frame; then a waiting transaction is accepted in the same
event, here one that is passed through. The response that ends the last condition of a pending boundary
runs it in the same event (R55, R73): a producer publishes its written slot and binds, a consumer picks,
and the transaction that waits is decided after that (R136), by the slot the boundary has bound. -/
def Obligations.SteeringResponseCompletes : Prop :=
  (∀ (s : State) (resp : MResponse) (order : List ApId) (x : Txn) (target : Option Target) (g : Grant),
    s.steering.phase = .inFlight x target → s.arbiter.port = some g → g.claimant = .steering →
      s.arbiter.steeringClaim = none → s.NonePending →
      (∀ y rest, s.steering.waiting = y :: rest → ∀ a, ¬ s.touches y a) →
      ∃ t, exec (.steeringResponse resp order) s = .next t ∧
        t.aOut = s.aOut ++
          [{ source := x.source, kind := x.kind, outcome := resp.outcome, data := resp.data }] ∧
        t.rings = s.rings ∧ t.apertures = s.apertures ∧ t.link = s.link ∧ t.changes = s.changes ∧
        (target = none ∨ resp.outcome = .okay → t.slots = s.slots ∧ t.notes = s.notes) ∧
        (∀ tg, target = some tg → resp.outcome = .fault →
          t.notes = s.notes.push
            { kind := .memoryFault, ring := some tg.ring, aperture := some tg.ap
              slot := some tg.slot, frame := tg.frame
              detail := (if x.kind = .read then 0 else 1) * 256 + x.source.val } ∧
          ∀ sl, t.slot sl =
            if sl = tg.slot ∧ (s.slot sl).home.isSome = true ∧ (s.slot sl).frame.isSome = true ∧
                (s.slot sl).frame = tg.frame then
              { s.slot sl with faulted := true }
            else s.slot sl) ∧
        (s.steering.waiting = [] →
          t.steering =
            { phase := .opened, waiting := [], lock := lockAfterResponse s.steering.lock x } ∧
          (∀ y, s.arbiter.copyClaim = some y → lockAfterResponse s.steering.lock x = .closed →
            t.arbiter.port = some { claimant := .copy, txn := y })) ∧
        (∀ y rest, s.steering.waiting = y :: rest →
          t.steering =
            { phase := .inFlight y none, waiting := rest
              lock := lockAfterAccept (lockAfterResponse s.steering.lock x) y none } ∧
          t.presented y)) ∧
  ∀ (s : State) (resp : MResponse) (order : List ApId) (x : Txn) (target : Option Target) (g : Grant)
    (a : ApId) (c : ApConfig) (answer : AResponse) (lock : LockWindow),
    s.steering.phase = .inFlight x target → s.arbiter.port = some g → g.claimant = .steering →
    s.arbiter.steeringClaim = none → s.Placed → s.apOn a = true → (s.ap a).config = some c →
    (s.ap a).deferred = true → (∀ b, b ≠ a → (s.ap b).deferred = false) → s.NoEntriesFor a →
    answer = { source := x.source, kind := x.kind, outcome := resp.outcome, data := resp.data } →
    lock = lockAfterResponse s.steering.lock x → (∀ src n, lock ≠ .opened (some a) src n) →
    (∀ y rest, s.steering.waiting = y :: rest → s.Inside y a c ∧ ApSet.has c.sources y.source = true ∧
      (c.role = .producer ∨ y.kind = .read)) →
    ∃ t, exec (.steeringResponse resp order) s = .next t ∧ t.link = s.link ∧
      (t.ap a).config = some c ∧ (t.ap a).deferred = false ∧
      (c.role = .producer →
        (t.ring c.ring).frameCounter = wrapNext 0xFFFFFFFF (s.ring c.ring).frameCounter ∧
        (∀ sl, (s.ap a).state = .bound sl → (s.slot sl).written = true →
          (t.ring c.ring).ready.getLast? = some sl ∧ (t.slot sl).frame = (s.slot sl).frame ∧
          Raised s t
            { kind := .framePublished, ring := some c.ring, aperture := some a, slot := some sl
              frame := (s.slot sl).frame, detail := if (t.slot sl).retained then 1 else 0 }) ∧
        ∀ z rest, (s.ring c.ring).free = z :: rest →
          (∀ sl, (s.ap a).state = .bound sl → (s.slot sl).written = true) →
            (t.ap a).state = .bound z) ∧
      (c.role = .consumer →
        ((s.ap a).state = .unbound → (t.ap a).state = .unbound) ∧
        ∀ sl next, (s.ap a).state = .bound sl →
          next = (match c.pick with
            | .newest =>
              if (s.ring c.ring).ready.getLast? = some sl then none
              else (s.ring c.ring).ready.getLast?
            | .ordered =>
              (s.ring c.ring).ready.find? fun y => !ApSet.has (s.slot y).passedBy a) →
          (∀ z, next = some z → (t.ap a).state = .bound z) ∧
          (next = none → c.onEmpty = .repeatFrame → (t.ap a).state = .bound sl) ∧
          (next = none → c.onEmpty = .strict → (t.ap a).state = .unbound)) ∧
      (s.steering.waiting = [] →
        t.steering = { phase := .opened, waiting := [], lock := lock } ∧
        t.aOut = s.aOut ++ [answer]) ∧
      ∀ y rest, s.steering.waiting = y :: rest →
        (∀ z, (t.ap a).state = .bound z →
          t.aOut = s.aOut ++ [answer] ∧
          t.steering =
            { phase := .inFlight y
                (some { ap := a, ring := c.ring, slot := z, frame := (t.slot z).frame })
              waiting := rest, lock := lockAfterAccept lock y (some a) } ∧
          t.presented { y with address := s.slotBase z + (y.address - c.windowBase) } ∧
          (y.kind = .write → (t.slot z).written = true)) ∧
        ((t.ap a).state = .unbound → c.role = .producer → y.kind = .write → rest = [] →
          t.aOut =
            s.aOut ++ [answer, { source := y.source, kind := .write, outcome := .okay, data := [] }])

/-- A REFCLK period counts towards the divisor, and the one that reaches it is a tick, which counts down
the two timers of the Steering Unit and returns the count to 0 (R93, R94). A row that comes when the
count does not allow it changes nothing (log 11). A stall timer that has run out answers the read FAULT
with CONSUMER_TIMEOUT, and the aperture stays WAITING (R41); an expiry timer that has run out closes the
lock window with LOCK_EXPIRED, and a COPY claim alone at a FREE port is granted (R45, R136). Before that
the two rows do nothing (log 10). -/
def Obligations.TimersCountDownAndRunOut : Prop :=
  (∀ s : State,
    (s.lines.periods + 1 < s.lines.divisor →
      exec .refclkPeriod s =
        .next { s with lines := { s.lines with periods := s.lines.periods + 1 } } ∧
      exec .tick s = .next s) ∧
    (s.lines.divisor ≤ s.lines.periods + 1 →
      exec .refclkPeriod s = .next s ∧
      ∃ phase lock,
        exec .tick s =
          .next { s with
            lines := { s.lines with periods := 0 }
            steering := { s.steering with phase := phase, lock := lock } } ∧
        (∀ x a base n, s.steering.phase = .stalled x a base (some n) →
          phase = .stalled x a base (some (n - 1))) ∧
        ((∀ x a base n, s.steering.phase ≠ .stalled x a base (some n)) → phase = s.steering.phase) ∧
        (∀ o src n, s.steering.lock = .opened o src (some n) → lock = .opened o src (some (n - 1))) ∧
        ((∀ o src n, s.steering.lock ≠ .opened o src (some n)) → lock = s.steering.lock))) ∧
  (∀ (s : State) (x : Txn) (a : ApId) (base : Addr),
    s.steering.phase = .stalled x a base (some 0) → s.steering.waiting = [] → s.NonePending →
      ∃ t d, exec .stallTimeout s = .next t ∧ SameRecords s t ∧
        t.aOut = s.aOut ++ [{ source := x.source, kind := x.kind, outcome := .fault, data := d }] ∧
        t.steering =
          { phase := .opened, waiting := [], lock := lockAfterResponse s.steering.lock x } ∧
        t.notes = s.notes.push
          { kind := .consumerTimeout, ring := s.ringOf a, aperture := some a
            frame := some x.address.toNat, detail := x.source.val }) ∧
  (∀ s : State, (∀ x a base, s.steering.phase ≠ .stalled x a base (some 0)) →
    exec .stallTimeout s = .next s) ∧
  (∀ (s : State) (o : Option ApId) (src : Tag),
    s.steering.lock = .opened o src (some 0) → s.steering.waiting = [] → s.NonePending →
      ∃ t, exec .lockExpiry s = .next t ∧ SameRecords s t ∧ t.aOut = s.aOut ∧
        t.steering = { s.steering with lock := .closed } ∧
        t.notes = s.notes.push
          { kind := .lockExpired, ring := o.bind s.ringOf, aperture := o, detail := src.val } ∧
        (∀ y, s.arbiter.port = none → s.arbiter.steeringClaim = none →
          s.arbiter.copyClaim = some y →
          t.arbiter.port = some { claimant := .copy, txn := y })) ∧
  ∀ s : State, (∀ o src, s.steering.lock ≠ .opened o src (some 0)) →
    exec .lockExpiry s = .next s

/-- A pending boundary whose conditions have ended runs once and is pending no more (R55, R73): a WAITING
consumer with no change waiting only loses the mark; a STARVED producer with no change waiting and an
IDLE schedule binds the free head for the next frame number (R60, R63). One that cannot go on is left.
The model runs pending boundaries within the event that ends the last condition, so the row finds one
only in states given from outside (log 9). -/
def Obligations.PendingBoundaryRunsOnce : Prop :=
  ∀ (s : State) (a : ApId) (c : ApConfig), (s.ap a).config = some c →
    ((s.apOn a = false ∨ (s.ap a).deferred = false ∨ s.inFlightThrough a = true ∨
        s.lockedThrough a = true) →
      exec (.pendingBoundaryRun a) s = .next s) ∧
    (s.apOn a = true → (s.ap a).deferred = true → s.inFlightThrough a = false →
      s.lockedThrough a = false →
      (∃ t, exec (.pendingBoundaryRun a) s = .next t ∧ (t.ap a).deferred = false) ∧
      ((∀ b, b ≠ a → (s.ap b).deferred = false) → s.steering.waiting = [] →
        s.arbiter.steeringClaim = none → s.arbiter.copyClaim = none →
        (s.ap a).state = .unbound →
        (c.role = .consumer → s.NoEntriesFor a →
          exec (.pendingBoundaryRun a) s = .next (s.setAp a { s.ap a with deferred := false })) ∧
        (∀ sl rest n, c.role = .producer → s.changes.entries = [] → (s.sched c.ring).state = .idle →
          (s.ring c.ring).free = sl :: rest →
          n = (if (s.ring c.ring).frameCounter < 0xFFFFFFFF then
            (s.ring c.ring).frameCounter + 1 else 1) →
          exec (.pendingBoundaryRun a) s =
            .next (((s.setAp a { s.ap a with state := .bound sl, deferred := false }).setRing c.ring
                { s.ring c.ring with free := rest, frameCounter := n }).setSlot sl
              { s.slot sl with
                frame := some n, written := false, faulted := false, holders := 0, passedBy := 0
                retained := false, releaseRequested := false }))))

/-! ### The Arbiter -/

/-- The grant table (R135), row by row. -/
def Obligations.GrantsFollowTheTable : Prop :=
  ∀ (s : State) (steer cpy : State),
    (∀ g, s.arbiter.port = some g → s.arbitrate = s) ∧
    (∀ x n, s.arbiter.port = none → s.arbiter.steeringClaim = some x →
      steer = { s with arbiter :=
        { s.arbiter with
          port := some { claimant := .steering, txn := x }, steeringClaim := none
          shareCount := n } } →
      (s.arbiter.copyClaim = none → n = s.arbiter.shareCount → s.arbitrate = steer) ∧
      (s.arbiter.copyClaim.isSome = true → n = min 15 (s.arbiter.shareCount + 1) →
        (s.lockOpen = true ∨ s.arbiter.share = 0 ∨ s.arbiter.shareCount < s.arbiter.share) →
        s.arbitrate = steer)) ∧
    (∀ y, s.arbiter.port = none → s.arbiter.copyClaim = some y →
      cpy = { s with
        arbiter :=
          { s.arbiter with
            port := some { claimant := .copy, txn := y }, copyClaim := none, shareCount := 0 }
        copy := { s.copy with active := s.copy.active.map fun j => { j with granted := true } } } →
      (s.arbiter.steeringClaim = none → s.lockOpen = false → s.arbitrate = cpy) ∧
      (s.arbiter.steeringClaim = none → s.lockOpen = true → s.arbitrate = s) ∧
      (s.arbiter.steeringClaim.isSome = true → s.lockOpen = false → 1 ≤ s.arbiter.share →
        s.arbiter.share ≤ s.arbiter.shareCount → s.arbitrate = cpy)) ∧
    (s.arbiter.port = none → s.arbiter.steeringClaim = none → s.arbiter.copyClaim = none →
      s.arbitrate = s)

/-! ### Invariants -/

/-- The fields that `State.InRange` and `State.RingsCounted` name stay in the ranges the spec gives them,
and, with the placement law, so do those that `State.RecordsInRange` names, while the three lists of a
ring hold at most 16 slots together. `State.InRange`: the frame and jobs count of a slot (1.1); the slot
size and frame counter of a ring, and a pool of at least 2 while it is ON (1.2, R10); the configuration
and divider count of an aperture (3.1, R90); the numbers of a schedule (R96); jobs (R116) and changes
(R144); the capacities of the three queues, their counters, the Arbiter's share fields, timebase, timers
and staging buffer. `State.RingsCounted`: at most three consumers of a ring (R8, R178), and a pool of 0 to
16, the number of slots assigned to it (1.2). `State.RecordsInRange`: frame, tag and detail of a note
(R160), the frame number recorded in flight (R33), and at most 30 result words (R171). -/
def Obligations.RangesAreKept : Prop :=
  (∀ s t : State, s.InRange → step s = .next t → t.InRange) ∧
  (∀ s t : State, s.RingsCounted → step s = .next t → t.RingsCounted) ∧
  ∀ s t : State, s.Placed → s.InRange → s.RecordsInRange → step s = .next t →
    t.RecordsInRange ∧ ∀ r, (t.ring r).lists.length ≤ 16

/-- The placement law and conservation (R2, R9, R10) with the producer and consumers fields (R8). -/
def Obligations.PlacementIsKept : Prop :=
  ∀ s t : State, s.Placed → step s = .next t → t.Placed

/-- The windows of ON apertures stay disjoint from one another and from every assigned slot's region, and
the regions from one another (R21, R29). -/
def Obligations.WindowsStayApart : Prop :=
  ∀ s t : State, s.Placed → s.WindowsApart → step s = .next t → t.WindowsApart

/-- Every event leaves the two ports at rest and no boundary pending that can go on (R27, R55, R73, R135,
R136), and each claimant with the one claim its work calls for (R38, R121, R134). -/
def Obligations.PortsAndClaimsAreKept : Prop :=
  (∀ s t : State, s.Settled → step s = .next t → t.Settled) ∧
  ∀ s t : State, s.CopyClaims → s.SteeringClaims → step s = .next t →
    t.CopyClaims ∧ t.SteeringClaims

/-- The law on holders (R6), and no READY slot that meets the reclamation condition is left (R12). -/
def Obligations.HoldersAndReclamationAreKept : Prop :=
  ∀ s t : State, s.Placed → s.HoldersLaw → s.PromptlyReclaimed → step s = .next t →
    t.HoldersLaw ∧ t.PromptlyReclaimed

/-- The two queues keep their laws: no seq and no id is in use twice, nor issued while in use (R118,
R145); entries wait only while their targets are active (R145), so that no event leaves a slot FREE with
its retirement waiting (R154); and jobs are counted and hold their slots (R129). That the counters skip
values in use is the model's reading (log 31). A job behind the head has not run (R121). -/
def Obligations.QueuesKeepTheirLaws : Prop :=
  ∀ s t : State, s.Placed → s.QueueLaws → step s = .next t → t.QueueLaws

/-- The state after a power-on reset meets every invariant. -/
def Obligations.ResetMeetsTheInvariants : Prop :=
  State.reset.InRange ∧ State.reset.RingsCounted ∧ State.reset.RecordsInRange ∧ State.reset.Placed ∧
    State.reset.WindowsApart ∧ State.reset.Settled ∧
    State.reset.CopyClaims ∧ State.reset.SteeringClaims ∧ State.reset.HoldersLaw ∧
    State.reset.PromptlyReclaimed ∧ State.reset.QueueLaws
end

