-- ==== Sys2Proof/Laws/Checks.lean ====
section
/-! SUPPORT. The laws of Safety.lean as checks that evaluate, each with the lemma that the check gives the
law. Tests show with them that a concrete state meets the hypotheses of a statement. -/

namespace Sys2Proof.Machine

/-- A property of the value of an option, where it has one. -/
theorem all_of_all {α : Type} {o : Option α} {p : α → Bool} (h : o.all p = true) (x : α)
    (hx : o = some x) : p x = true := by
  subst hx; exact h

/-! ### Placement, holders, reclamation -/

/-- `State.servesAs`, evaluated. -/
def State.servesAsCheck (s : State) (a : ApId) (role : Role) (r : RingId) : Bool :=
  s.apOn a && (s.ap a).config.any fun c => decide (c.role = role ∧ c.ring = r)

theorem servesAs_iff (s : State) (a : ApId) (role : Role) (r : RingId) :
    s.servesAsCheck a role r = true ↔ s.servesAs a role r := by
  unfold State.servesAsCheck State.servesAs
  cases h : (s.ap a).config <;> simp

/-- `State.Placed`, evaluated. -/
def State.placedCheck (s : State) : Bool :=
  decide (∀ r : RingId, ∀ sl ∈ (s.ring r).lists, (s.slot sl).home.map (·.ring) = some r) &&
  decide (∀ r : RingId, (s.ring r).lists.Nodup) &&
  decide (∀ r : RingId, (s.fillingSlot r).all (fun sl =>
    decide ((s.slot sl).home.map (·.ring) = some r) && decide (sl ∉ (s.ring r).lists)) = true) &&
  decide (∀ (r : RingId) (sl : SlotId), (s.slot sl).home.map (·.ring) = some r →
    sl ∈ (s.ring r).lists ∨ s.fillingSlot r = some sl) &&
  decide (∀ (r : RingId) (a : ApId),
    decide ((s.ring r).producer = some a) = s.servesAsCheck a .producer r) &&
  decide (∀ (r : RingId) (a : ApId),
    ApSet.has (s.ring r).consumers a = s.servesAsCheck a .consumer r) &&
  decide (∀ r : RingId,
    (s.ring r).lists.length + (s.fillingSlot r).toList.length = (s.ring r).pool)

theorem placed_of_check {s : State} (h : s.placedCheck = true) : s.Placed := by
  simp only [State.placedCheck, Bool.and_eq_true, decide_eq_true_eq] at h
  obtain ⟨⟨⟨⟨⟨⟨h1, h2⟩, h3⟩, h4⟩, h5⟩, h6⟩, h7⟩ := h
  refine ⟨h1, h2, fun r sl e => ?_, h4, fun r a => ?_, fun r a => ?_, h7⟩
  · simpa using all_of_all (h3 r) sl e
  · rw [← servesAs_iff, ← h5 r a, decide_eq_true_eq]
  · rw [← servesAs_iff, h6 r a]

/-- `State.views`, evaluated. -/
def State.viewsCheck (s : State) (a : ApId) (sl : SlotId) : Bool :=
  decide ((s.ap a).state = .bound sl) && (s.ap a).config.any fun c => decide (c.role = .consumer)

theorem views_iff (s : State) (a : ApId) (sl : SlotId) :
    s.viewsCheck a sl = true ↔ s.views a sl := by
  unfold State.viewsCheck State.views
  cases h : (s.ap a).config <;> simp

/-- `State.HoldersLaw`, evaluated. -/
def State.holdersCheck (s : State) : Bool :=
  decide (∀ (sl : SlotId) (a : ApId), ApSet.has (s.slot sl).holders a = s.viewsCheck a sl) &&
  decide (∀ (sl : SlotId) (a : ApId), s.viewsCheck a sl = true →
    (s.ap a).config.all (fun c => decide (sl ∈ (s.ring c.ring).ready)) = true)

theorem holders_of_check {s : State} (h : s.holdersCheck = true) : s.HoldersLaw := by
  simp only [State.holdersCheck, Bool.and_eq_true, decide_eq_true_eq] at h
  refine ⟨fun sl a => by rw [← views_iff, h.1 sl a], fun sl a c hv hc => ?_⟩
  simpa using all_of_all (h.2 sl a ((views_iff s a sl).2 hv)) c hc

/-- `State.MeetsReclamation`, evaluated. -/
def State.meetsCheck (s : State) (r : RingId) (sl : SlotId) : Bool :=
  decide ((s.slot sl).holders = 0) &&
  decide (∀ a : ApId, ApSet.has (s.ring r).consumers a = true →
    (s.ap a).config.all (fun c =>
      decide (c.pick = .ordered → ApSet.has (s.slot sl).passedBy a = true)) = true) &&
  decide ((s.ring r).ready.getLast? ≠ some sl)

theorem meets_iff (s : State) (r : RingId) (sl : SlotId) :
    s.meetsCheck r sl = true ↔ s.MeetsReclamation r sl := by
  simp only [State.meetsCheck, State.MeetsReclamation, Bool.and_eq_true, decide_eq_true_eq,
    and_assoc]
  refine and_congr_right fun _ => and_congr_left fun _ => ⟨fun h a c ha hc => ?_, fun h a ha => ?_⟩
  · exact of_decide_eq_true (all_of_all (h a ha) c hc)
  · cases hc : (s.ap a).config with
    | none => rfl
    | some c => exact decide_eq_true (h a c ha hc)

/-- `State.PromptlyReclaimed`, evaluated. -/
def State.promptCheck (s : State) : Bool :=
  decide (∀ r : RingId, ∀ sl ∈ (s.ring r).ready, s.meetsCheck r sl = false)

theorem prompt_of_check {s : State} (h : s.promptCheck = true) : s.PromptlyReclaimed := by
  simp only [State.promptCheck, decide_eq_true_eq] at h
  intro r sl hs hm
  rw [← meets_iff, h r sl hs] at hm
  cases hm

/-! ### The ports -/

/-- `State.Settled`, evaluated. -/
def State.settledCheck (s : State) : Bool :=
  decide (s.steering.phase = .opened → s.steering.waiting = []) &&
  decide (s.arbiter.port = none → s.arbiter.steeringClaim = none) &&
  decide (s.arbiter.port = none → s.arbiter.copyClaim.isSome = true → s.lockOpen = true) &&
  decide (∀ a, s.canRun a = false)

theorem settled_of_check {s : State} (h : s.settledCheck = true) : s.Settled := by
  simp only [State.settledCheck, Bool.and_eq_true, decide_eq_true_eq] at h
  exact ⟨h.1.1.1, h.1.1.2, h.1.2, h.2⟩

/-- `State.CopyClaims`, evaluated. -/
def State.copyCheck (s : State) : Bool :=
  match s.copy.active with
  | none   => decide (s.copy.queued = [] ∧ s.arbiter.copyClaim = none)
  | some j =>
    if j.granted then
      decide (s.arbiter.copyClaim = none) && decide (s.arbiter.port.map (·.claimant) = some .copy)
    else s.arbiter.copyClaim.isSome

theorem copyClaims_of_check {s : State} (h : s.copyCheck = true) : s.CopyClaims := by
  unfold State.copyCheck at h
  cases hj : s.copy.active with
  | none =>
    simp only [hj, decide_eq_true_eq] at h
    exact ⟨fun _ => h, fun j e => (by rw [hj] at e; cases e), fun j e => (by rw [hj] at e; cases e)⟩
  | some j =>
    rw [hj] at h
    refine ⟨fun e => (by rw [hj] at e; cases e), fun k e g => ?_, fun k e g => ?_⟩
    · rw [hj] at e; cases e; simpa [g] using h
    · rw [hj] at e; cases e
      simp only [g, if_true, Bool.and_eq_true, decide_eq_true_eq] at h
      refine ⟨h.1, ?_⟩
      cases hp : s.arbiter.port with
      | none => rw [hp] at h; simp at h
      | some x =>
        rw [hp] at h
        obtain ⟨cl, t⟩ := x
        simp only [Option.map_some, Option.some.injEq] at h
        exact ⟨t, by rw [h.2]⟩

/-- `State.SteeringClaims`, evaluated. -/
def State.steeringCheck (s : State) : Bool :=
  (match s.steering.phase with
    | .inFlight _ _ => s.arbiter.steeringClaim.isSome || s.steeringOnPort
    | _ => decide (s.arbiter.steeringClaim = none) && !s.steeringOnPort) &&
  decide (s.arbiter.steeringClaim.isSome = true → s.steeringOnPort = false)

theorem steeringClaims_of_check {s : State} (h : s.steeringCheck = true) : s.SteeringClaims := by
  simp only [State.steeringCheck, Bool.and_eq_true, decide_eq_true_eq] at h
  refine ⟨fun t tg e => ?_, h.2, fun e => ?_⟩
  · have := h.1; rw [e] at this; simpa using this
  · have := h.1
    cases hp : s.steering.phase with
    | inFlight t tg => exact absurd hp (e t tg)
    | opened => rw [hp] at this; simpa using this
    | stalled t a b n => rw [hp] at this; simpa using this

/-- `State.selects`, evaluated. -/
def State.selectsCheck (s : State) (line : FrameLine) (a : ApId) : Bool :=
  s.apOn a && (s.ap a).config.any fun c =>
    decide (c.line = (match line with | .a => LineSel.a | .b => LineSel.b))

theorem selects_iff (s : State) (line : FrameLine) (a : ApId) :
    s.selectsCheck line a = true ↔ s.selects line a := by
  unfold State.selectsCheck State.selects
  cases h : (s.ap a).config <;> cases line <;> simp

/-! ### Windows -/

/-- `State.WindowFree`, evaluated. -/
def State.windowFreeCheck (s : State) (base : Addr) (size : Nat) : Bool :=
  decide (∀ b : ApId, s.apOn b = true → (s.ap b).config.all (fun d =>
    decide (overlaps base.toNat size d.windowBase.toNat (2 ^ d.windowSize) = false)) = true) &&
  decide (∀ sl : SlotId, (s.slot sl).home.all (fun h =>
    decide (overlaps base.toNat size h.base.toNat (s.slotBytes h.ring) = false)) = true)

theorem windowFree_iff (s : State) (base : Addr) (size : Nat) :
    s.windowFreeCheck base size = true ↔ s.WindowFree base size := by
  simp only [State.windowFreeCheck, State.WindowFree, Bool.and_eq_true, decide_eq_true_eq]
  refine and_congr ⟨fun h b d hb hd => ?_, fun h b hb => ?_⟩ ⟨fun h sl k hk => ?_, fun h sl => ?_⟩
  · simpa using all_of_all (h b hb) d hd
  · cases hd : (s.ap b).config with
    | none => rfl
    | some d => simpa using h b d hb hd
  · simpa using all_of_all (h sl) k hk
  · cases hk : (s.slot sl).home with
    | none => rfl
    | some k => simpa using h sl k hk

/-- `State.MoveFree`, evaluated. -/
def State.moveFreeCheck (s : State) (a : ApId) (base : Addr) (size : Nat) : Bool :=
  decide (∀ b : ApId, b ≠ a → s.apOn b = true → (s.ap b).config.all (fun d =>
    decide (overlaps base.toNat size d.windowBase.toNat (2 ^ d.windowSize) = false)) = true) &&
  decide (∀ sl : SlotId, (s.slot sl).home.all (fun h =>
    decide (overlaps base.toNat size h.base.toNat (s.slotBytes h.ring) = false)) = true)

theorem moveFree_iff (s : State) (a : ApId) (base : Addr) (size : Nat) :
    s.moveFreeCheck a base size = true ↔ s.MoveFree a base size := by
  simp only [State.moveFreeCheck, State.MoveFree, Bool.and_eq_true, decide_eq_true_eq]
  refine and_congr ⟨fun h b d n hb hd => ?_, fun h b n hb => ?_⟩ ⟨fun h sl k hk => ?_, fun h sl => ?_⟩
  · simpa using all_of_all (h b n hb) d hd
  · cases hd : (s.ap b).config with
    | none => rfl
    | some d => simpa using h b d n hb hd
  · simpa using all_of_all (h sl) k hk
  · cases hk : (s.slot sl).home with
    | none => rfl
    | some k => simpa using h sl k hk

/-- `State.WindowsApart`, evaluated. -/
def State.apartCheck (s : State) : Bool :=
  decide (∀ a : ApId, (s.ap a).config.all (fun c =>
    decide ((s.ring c.ring).slotSize = some c.windowSize)) = true) &&
  decide (∀ sl : SlotId, (s.slot sl).home.all (fun h => (s.ring h.ring).slotSize.isSome) = true) &&
  decide (∀ a b : ApId, a ≠ b → s.apOn a = true → s.apOn b = true →
    (s.ap a).config.all (fun c => (s.ap b).config.all fun d =>
      decide (overlaps c.windowBase.toNat (2 ^ c.windowSize) d.windowBase.toNat (2 ^ d.windowSize)
        = false)) = true) &&
  decide (∀ (a : ApId) (sl : SlotId), s.apOn a = true →
    (s.ap a).config.all (fun c => (s.slot sl).home.all fun h =>
      decide (overlaps c.windowBase.toNat (2 ^ c.windowSize) h.base.toNat (s.slotBytes h.ring)
        = false)) = true) &&
  decide (∀ sl sm : SlotId, sl ≠ sm → (s.slot sl).home.all (fun h => (s.slot sm).home.all fun k =>
    decide (overlaps h.base.toNat (s.slotBytes h.ring) k.base.toNat (s.slotBytes k.ring)
      = false)) = true)

theorem apart_of_check {s : State} (h : s.apartCheck = true) : s.WindowsApart := by
  simp only [State.apartCheck, Bool.and_eq_true, decide_eq_true_eq] at h
  obtain ⟨⟨⟨⟨h1, h2⟩, h3⟩, h4⟩, h5⟩ := h
  refine ⟨fun a c hc => ?_, fun sl k hk => ?_, fun a b c d n x y hc hd => ?_,
    fun a c sl k x hc hk => ?_, fun sl sm k l n hk hl => ?_⟩
  · simpa using all_of_all (h1 a) c hc
  · exact all_of_all (h2 sl) k hk
  · simpa using all_of_all (all_of_all (h3 a b n x y) c hc) d hd
  · simpa using all_of_all (all_of_all (h4 a sl x) c hc) k hk
  · simpa using all_of_all (all_of_all (h5 sl sm n) k hk) l hl

/-- `State.touches`, evaluated. -/
def State.touchesCheck (s : State) (t : Txn) (a : ApId) : Bool :=
  s.apOn a && (s.ap a).config.any fun c =>
    decide (t.address.toNat < c.windowBase.toNat + 2 ^ c.windowSize ∧
      c.windowBase.toNat < t.address.toNat + min (8 * t.beats) (2 ^ 32 - t.address.toNat))

theorem touches_iff (s : State) (t : Txn) (a : ApId) :
    s.touchesCheck t a = true ↔ s.touches t a := by
  unfold State.touchesCheck State.touches
  cases h : (s.ap a).config <;> simp

/-- `State.Inside`, evaluated. -/
def State.insideCheck (s : State) (t : Txn) (a : ApId) (c : ApConfig) : Bool :=
  s.apOn a && decide ((s.ap a).config = some c) &&
  decide (c.windowBase.toNat ≤ t.address.toNat) &&
  decide (t.address.toNat + 8 * t.beats ≤ c.windowBase.toNat + 2 ^ c.windowSize) &&
  decide (1 ≤ t.beats) && decide (∀ b : ApId, s.touchesCheck t b = true → b = a)

theorem inside_iff (s : State) (t : Txn) (a : ApId) (c : ApConfig) :
    s.insideCheck t a c = true ↔ s.Inside t a c := by
  simp only [State.insideCheck, Bool.and_eq_true, decide_eq_true_eq, touches_iff]
  exact ⟨fun h => ⟨h.1.1.1.1.1, h.1.1.1.1.2, h.1.1.1.2, h.1.1.2, h.1.2, h.2⟩,
    fun h => ⟨⟨⟨⟨⟨h.on, h.config⟩, h.above⟩, h.below⟩, h.some⟩, h.alone⟩⟩

/-! ### The Change Queue, and ranges -/

theorem noEntriesFor_of_check {s : State} {a : ApId}
    (h : (s.changes.entries.all fun e => !e.op.forAperture a) = true) : s.NoEntriesFor a := by
  intro e he x hx
  have := List.all_eq_true.1 h e he
  simp [hx, ChangeOp.forAperture] at this

/-- An entry's target is as R145 has it wait: evaluated. -/
def State.targetCheck (s : State) (op : ChangeOp) : Bool :=
  match op with
  | .aperture a _    => s.apOn a
  | .setOverflow r _ => (s.ring r).producer.isSome
  | .retireSlot sl   =>
    (s.slot sl).home.isSome && decide (∀ r : RingId, sl ∉ (s.ring r).free)

/-- `State.QueueLaws`, evaluated. -/
def State.queueCheck (s : State) : Bool :=
  decide (s.changes.entries.map (·.seq) ++ [s.changes.nextSeq]).Nodup &&
  decide (s.copy.jobs.map (·.id) ++ [s.copy.nextId]).Nodup &&
  decide (∀ e ∈ s.changes.entries, s.targetCheck e.op = true) &&
  decide (∀ sl : SlotId, (s.slot sl).retirePending = true ↔
    ∃ e ∈ s.changes.entries, e.op = .retireSlot sl) &&
  decide (∀ sl : SlotId,
    (s.changes.entries.filter fun e => decide (e.op = .retireSlot sl)).length ≤ 1) &&
  decide (∀ sl : SlotId,
    (s.slot sl).jobs = (s.copy.jobs.filter fun j => decide (j.slot = sl)).length) &&
  decide (∀ j ∈ s.copy.jobs, j.slot ∈ (s.ring j.ring).held) &&
  decide (∀ j ∈ s.copy.queued, j.doneBytes = 0)

theorem queueLaws_of_check {s : State} (h : s.queueCheck = true) : s.QueueLaws := by
  simp only [State.queueCheck, Bool.and_eq_true, decide_eq_true_eq] at h
  obtain ⟨⟨⟨⟨⟨⟨⟨h1, h2⟩, h3⟩, h4⟩, h5⟩, h6⟩, h7⟩, h8⟩ := h
  refine ⟨h1, h2, fun e he a x hx => ?_, fun e he r p hx => ?_, fun e he sl hx => ?_, h4, h5, h6, h7,
    h8⟩
  · simpa [hx, State.targetCheck] using h3 e he
  · simpa [hx, State.targetCheck] using h3 e he
  · simpa [hx, State.targetCheck] using h3 e he

/-- `State.Rejects`, evaluated. -/
def State.rejectsCheck (s : State) (a : ApId) (c : ApConfig) (e : Change) : Bool :=
  decide (e ∈ aheadOfDetach (s.entriesFor a)) &&
  match e.op with
  | .aperture b (.moveWindow base) =>
    decide (b = a) && !s.moveFreeCheck a base (2 ^ c.windowSize)
  | _ => false

theorem rejects_iff (s : State) (a : ApId) (c : ApConfig) (e : Change) :
    s.rejectsCheck a c e = true ↔ s.Rejects a c e := by
  unfold State.rejectsCheck State.Rejects
  simp only [Bool.and_eq_true, decide_eq_true_eq, ← moveFree_iff]
  refine and_congr_right fun _ => ?_
  split
  · next b base h =>
    simp only [h, ChangeOp.aperture.injEq, ApChange.moveWindow.injEq, Bool.and_eq_true,
      decide_eq_true_eq, Bool.not_eq_true', ← Bool.not_eq_true]
    exact ⟨fun x => ⟨base, ⟨x.1, rfl⟩, x.2⟩, fun ⟨_, ⟨x, y⟩, z⟩ => ⟨x, y ▸ z⟩⟩
  · next h =>
    refine ⟨nofun, ?_⟩
    rintro ⟨base, hb, _⟩
    exact (h a base hb).elim

/-- `ApConfig.InRange`, evaluated. -/
def ApConfig.rangeCheck (c : ApConfig) : Bool :=
  decide (1 ≤ c.divider ∧ c.divider ≤ 16) && decide (c.timeout ≤ 65535) && decide (c.sources ≠ 0) &&
    decide (12 ≤ c.windowSize ∧ c.windowSize ≤ 24)

theorem config_of_check {c : ApConfig} (h : c.rangeCheck = true) : c.InRange := by
  simp only [ApConfig.rangeCheck, Bool.and_eq_true, decide_eq_true_eq] at h
  exact ⟨h.1.1.1, h.1.1.2, h.1.2, h.2⟩

/-- `Job.InRange`, evaluated. -/
def Job.rangeCheck (j : Job) : Bool :=
  decide (1 ≤ j.id ∧ j.id ≤ 255) && decide (1 ≤ j.frame ∧ j.frame ≤ 0xFFFFFFFF) &&
    decide (j.dest.toNat % 8 = 0 ∧ j.dest.toNat + j.length ≤ 2 ^ 32) &&
    decide (j.length % 8 = 0 ∧ 8 ≤ j.length ∧ j.length ≤ 2 ^ 24) &&
    decide (j.doneBytes % 8 = 0 ∧ j.doneBytes ≤ j.length)

theorem job_of_check {j : Job} (h : j.rangeCheck = true) : j.InRange := by
  simp only [Job.rangeCheck, Bool.and_eq_true, decide_eq_true_eq] at h
  exact ⟨h.1.1.1.1, h.1.1.1.2, h.1.1.2, h.1.2, h.2⟩

/-- `State.InRange`, evaluated, for a state with no change entry. -/
def State.rangeCheck (s : State) : Bool :=
  decide (∀ sl : SlotId,
    ((s.slot sl).frame.all fun n => decide (1 ≤ n ∧ n ≤ 0xFFFFFFFF)) = true ∧ (s.slot sl).jobs ≤ 4 ∧
    (s.slot sl).jobs ≤ (s.copy.jobs.filter fun j => decide (j.slot = sl)).length) &&
  decide (∀ j ∈ s.copy.jobs, j.rangeCheck = true) &&
  decide (∀ r : RingId, ((s.ring r).slotSize.all fun e => decide (12 ≤ e ∧ e ≤ 24)) = true ∧
    (s.ring r).frameCounter ≤ 0xFFFFFFFF ∧ ((s.ring r).on = true → 2 ≤ (s.ring r).pool)) &&
  decide (∀ a : ApId, (s.ap a).config.all (fun c => c.rangeCheck &&
    (decide ((s.ap a).state = .off) || decide ((s.ap a).count < c.divider))) = true ∧
    (s.ap a).count < 16) &&
  decide (∀ r : RingId, (s.sched r).delay ≤ 255 ∧ (s.sched r).burst ≤ 64 ∧ (s.sched r).gap ≤ 255 ∧
    (s.sched r).bursts ≤ 255 ∧ (s.sched r).remaining ≤ 255 ∧ (s.sched r).burstsDone ≤ 255) &&
  decide (s.changes.entries = [] ∧ 1 ≤ s.changes.nextSeq ∧ s.changes.nextSeq ≤ 65535) &&
  decide (s.copy.count ≤ 4 ∧ 1 ≤ s.copy.nextId ∧ s.copy.nextId ≤ 255 ∧ s.copy.staging.length ≤ 16) &&
  decide (s.arbiter.shareCount ≤ 15 ∧ s.arbiter.share ≤ 15 ∧ s.notes.queue.length ≤ 32) &&
  decide (1 ≤ s.lines.divisor ∧ s.lines.divisor ≤ 1024 ∧ s.lines.periods < s.lines.divisor) &&
  (match s.steering.phase with | .stalled _ _ _ (some n) => decide (n ≤ 65535) | _ => true) &&
  (match s.steering.lock with | .opened _ _ (some n) => decide (n ≤ 64) | _ => true)

theorem inRange_of_check {s : State} (h : s.rangeCheck = true) : s.InRange := by
  simp only [State.rangeCheck, Bool.and_eq_true, decide_eq_true_eq] at h
  obtain ⟨⟨⟨⟨⟨⟨⟨⟨⟨⟨hs, hj⟩, h1⟩, h2⟩, h3⟩, h4⟩, h5⟩, h6⟩, h7⟩, h8⟩, h9⟩ := h
  exact
    { slots := fun sl => ⟨fun n hn => by simpa using all_of_all (hs sl).1 n hn, (hs sl).2.1⟩
      jobs := fun j h => job_of_check (hj j h)
      counted := fun sl => (hs sl).2.2
      rings := fun r => ⟨fun e he => by simpa using all_of_all (h1 r).1 e he, (h1 r).2.1, (h1 r).2.2⟩
      apertures := fun a =>
        ⟨fun c hc => config_of_check (by
            have := all_of_all (h2 a).1 c hc
            simp only [Bool.and_eq_true] at this; exact this.1),
          fun c hc hs => by
            have := all_of_all (h2 a).1 c hc
            simpa [hs] using (Bool.and_eq_true_iff.1 this).2,
          (h2 a).2⟩
      schedules := fun r =>
        ⟨(h3 r).1, (h3 r).2.1, (h3 r).2.2.1, (h3 r).2.2.2.1, (h3 r).2.2.2.2.1, (h3 r).2.2.2.2.2⟩
      entries := fun e he => by rw [h4.1] at he; cases he
      changes := by rw [h4.1]; decide
      nextSeq := h4.2
      jobCount := h5.1
      nextId := ⟨h5.2.1, h5.2.2.1⟩
      staging := h5.2.2.2
      shareCount := h6.1
      share := h6.2.1
      notes := h6.2.2
      divisor := ⟨h7.1, h7.2.1⟩
      periods := h7.2.2
      stallTimer := fun t a b n e => by rw [e] at h8; simpa using h8
      lockTimer := fun o src n e => by rw [e] at h9; simpa using h9 }

/-- `State.RingsCounted`, evaluated. -/
def State.countedCheck (s : State) : Bool :=
  decide (∀ r : RingId,
    (allAps.filter fun a => ApSet.has (s.ring r).consumers a).length ≤ 3 ∧ (s.ring r).pool ≤ 16 ∧
    (s.ring r).pool =
      (allSlots.filter fun sl => decide ((s.slot sl).home.map (·.ring) = some r)).length)

theorem ringsCounted_of_check {s : State} (h : s.countedCheck = true) : s.RingsCounted := by
  simp only [State.countedCheck, decide_eq_true_eq] at h
  exact ⟨fun r => (h r).1, fun r => (h r).2.1, fun r => (h r).2.2⟩

/-- `Note.InRange`, evaluated. -/
def Note.rangeCheck (n : Note) : Bool :=
  (n.frame.all fun f => decide (f ≤ 0xFFFFFFFF ∧ (n.kind.holdsAddress = true ∨ 1 ≤ f))) &&
    decide (n.kind.holdsAddress = true → n.frame.isSome = true) &&
    (n.tag.all fun k => decide (1 ≤ k ∧ k ≤ n.kind.largestTag)) &&
    decide (n.kind.largestTag ≠ 0 → n.tag.isSome = true) && decide (n.detail ≤ 65535)

theorem note_of_check {n : Note} (h : n.rangeCheck = true) : n.InRange := by
  simp only [Note.rangeCheck, Bool.and_eq_true, decide_eq_true_eq] at h
  obtain ⟨⟨⟨⟨h1, h2⟩, h3⟩, h4⟩, h5⟩ := h
  exact ⟨fun f e => by simpa using all_of_all h1 f e, h2,
    fun k e => by simpa using all_of_all h3 k e, h4, h5⟩

/-- `State.RecordsInRange`, evaluated. -/
def State.recordsCheck (s : State) : Bool :=
  decide (∀ n ∈ s.notes.queue, n.rangeCheck = true) &&
  (match s.steering.phase with
   | .inFlight _ (some tg) => tg.frame.all fun f => decide (1 ≤ f ∧ f ≤ 0xFFFFFFFF)
   | _ => true) &&
  s.link.response.all fun x => decide (x.words.length ≤ 30)

theorem recordsInRange_of_check {s : State} (h : s.recordsCheck = true) : s.RecordsInRange := by
  simp only [State.recordsCheck, Bool.and_eq_true, decide_eq_true_eq] at h
  obtain ⟨⟨h1, h2⟩, h3⟩ := h
  refine ⟨fun n hn => note_of_check (h1 n hn), fun t tg f e hf => ?_, fun x e => ?_⟩
  · rw [e] at h2; simpa using all_of_all h2 f hf
  · simpa using all_of_all h3 x e

end Sys2Proof.Machine
end

