-- ==== Sys2Proof/Laws/Counters.lean ====
section
/-! SUPPORT. What a wrapping counter that skips values in use moves to, and what queueing an entry
does, said once (R118, R145). -/

namespace Sys2Proof.Machine

variable (top : Nat) (used : List Nat)

theorem wrapNext_range (n : Nat) (h : 1 ≤ top) : 1 ≤ wrapNext top n ∧ wrapNext top n ≤ top := by
  unfold wrapNext; split <;> omega

/-- Skipping goes some steps on, over values in use only, and stops at one that is not in use unless it
has used up its fuel. -/
theorem skipUsed_steps (fuel n : Nat) :
    ∃ k ≤ fuel, skipUsed top used fuel n = (wrapNext top)^[k] n ∧
      (∀ i < k, (wrapNext top)^[i] n ∈ used) ∧ (skipUsed top used fuel n ∉ used ∨ k = fuel) := by
  induction fuel generalizing n with
  | zero => exact ⟨0, le_refl _, rfl, by simp, .inr rfl⟩
  | succ f ih =>
    by_cases h : n ∈ used
    · obtain ⟨k, hk, e, hi, hu⟩ := ih (wrapNext top n)
      have es : skipUsed top used (f + 1) n = skipUsed top used f (wrapNext top n) := by
        simp [skipUsed, h]
      refine ⟨k + 1, by omega, by rw [es, e, Function.iterate_succ_apply], fun i hlt => ?_, ?_⟩
      · cases i with
        | zero => exact h
        | succ i => rw [Function.iterate_succ_apply]; exact hi i (by omega)
      · rw [es]; exact hu.imp id (by omega)
    · exact ⟨0, by omega, by simp [skipUsed, h], by simp, .inl (by simp [skipUsed, h])⟩

/-- The values of the counter in closed form. -/
theorem wrapNext_iterate {m : Nat} (h : 1 ≤ m ∧ m ≤ top) (k : Nat) :
    (wrapNext top)^[k] m = (m - 1 + k) % top + 1 := by
  induction k with
  | zero => simp [Nat.mod_eq_of_lt (show m - 1 < top by omega)]; omega
  | succ k ih =>
    rw [Function.iterate_succ_apply', ih, wrapNext]
    have hl := Nat.mod_lt (m - 1 + k) (show 0 < top by omega)
    have hs : m - 1 + (k + 1) = (m - 1 + k) + 1 := by omega
    split
    · rename_i hlt
      rw [hs, ← Nat.mod_add_mod (m - 1 + k) top 1, Nat.mod_eq_of_lt hlt]
    · rename_i hge
      have he : (m - 1 + k) % top + 1 = top := by omega
      have : (m - 1 + (k + 1)) % top = 0 := by
        rw [hs, ← Nat.mod_add_mod, he, Nat.mod_self]
      omega

/-- With fewer values in use than the counter has, `nextUnused` moves it to the first that is not. -/
theorem nextUnused_moves (m : Nat) (h : used.length < top) :
    CounterMoves top used m (nextUnused top used m) := by
  have h1 : 1 ≤ top := by omega
  have hw := wrapNext_range top m h1
  obtain ⟨k, hk, e, hi, hu⟩ := skipUsed_steps top used used.length (wrapNext top m)
  have hn : nextUnused top used m = (wrapNext top)^[k] (wrapNext top m) := e
  have hin : nextUnused top used m ∉ used := by
    refine hu.elim id fun hkl hmem => ?_
    have hinj : ((List.range (used.length + 1)).map fun i =>
        (wrapNext top)^[i] (wrapNext top m)).Nodup := by
      refine (List.nodup_map_iff_inj_on List.nodup_range).2 fun a ha b hb hab => ?_
      rw [List.mem_range] at ha hb
      rw [wrapNext_iterate top hw, wrapNext_iterate top hw, Nat.add_right_cancel_iff] at hab
      have := Nat.ModEq.add_left_cancel' (wrapNext top m - 1) (show _ ≡ _ [MOD top] from hab)
      rwa [Nat.ModEq, Nat.mod_eq_of_lt (by omega), Nat.mod_eq_of_lt (by omega)] at this
    have hsub : ((List.range (used.length + 1)).map fun i =>
        (wrapNext top)^[i] (wrapNext top m)) ⊆ used := by
      intro x hx
      obtain ⟨i, hr, rfl⟩ := List.mem_map.1 hx
      rw [List.mem_range] at hr
      by_cases hik : i < k
      · exact hi i hik
      · have : i = k := by omega
        rw [this, ← hn]; exact hmem
    have := (List.subperm_of_subset hinj hsub).length_le
    simp at this
  refine ⟨?_, hin, k, by rw [hn, Function.iterate_succ_apply], fun i hlt => ?_⟩
  · rw [hn, wrapNext_iterate top hw]
    have := Nat.mod_lt (wrapNext top m - 1 + k) (show 0 < top by omega)
    omega
  · rw [Function.iterate_succ_apply]; exact hi i hlt

/-- The counter advances by 1, and from its top to 1, unless that value is in use (R118, R145). -/
theorem nextUnused_of_unused (m : Nat) (h : wrapNext top m ∉ used) :
    nextUnused top used m = wrapNext top m := by
  unfold nextUnused
  cases used with
  | nil => rfl
  | cons x xs => simp_all [skipUsed]

/-! ### The Change Queue (R145) -/

/-- Queueing an entry, said once: it joins the tail under the next seq, and the counter moves on. -/
theorem queueChange_changes (s : State) (op : ChangeOp) (expiry : Nat)
    (h : s.changes.entries.length < 12) :
    ∃ n, s.SeqMoves n ∧ (s.queueChange op expiry).changes = s.queued op expiry n := by
  refine ⟨_, ?_, rfl⟩
  have := nextUnused_moves 65535 (s.changes.entries.map (·.seq) ++ [s.changes.nextSeq])
    s.changes.nextSeq (by simp; omega)
  simpa [State.SeqMoves] using this

/-- The entry queued holds a seq that no other entry holds, and so does the counter after it. -/
theorem queueChange_seqs (s : State) (op : ChangeOp) (expiry : Nat)
    (h : s.changes.entries.length < 12)
    (hn : (s.changes.entries.map (·.seq) ++ [s.changes.nextSeq]).Nodup) :
    ((s.queueChange op expiry).changes.entries.map (·.seq) ++
      [(s.queueChange op expiry).changes.nextSeq]).Nodup := by
  obtain ⟨n, hm, e⟩ := queueChange_changes s op expiry h
  rw [e]
  simp only [State.queued, List.map_append, List.map_cons, List.map_nil]
  rw [List.nodup_append]
  exact ⟨hn, List.nodup_singleton n, fun a ha b hb e => hm.unused (by
    rw [List.mem_singleton] at hb; rw [← hb, ← e]; exact ha)⟩

/-- The entries that stay when one leaves are entries that waited, in their order. -/
theorem removeChange_sublist (s : State) (e : Change) :
    (s.removeChange e).changes.entries.Sublist s.changes.entries := List.erase_sublist

end Sys2Proof.Machine
end

