-- ==== Sys2Proof/Laws/State.lean ====
section
/-! SUPPORT. The small lemmas of the state: for each named update, what it leaves of every field, and
reading a record after writing one. All by unfolding once, so that no later proof unfolds an update. -/

namespace Sys2Proof.Machine

variable (s : State)

/-! ### Writing records -/

@[simp] theorem setSlot_pending (i : SlotId) (x : Slot) : (s.setSlot i x).pending = s.pending := rfl
@[simp] theorem setSlot_link (i : SlotId) (x : Slot) : (s.setSlot i x).link = s.link := rfl
@[simp] theorem setSlot_lines (i : SlotId) (x : Slot) : (s.setSlot i x).lines = s.lines := rfl
@[simp] theorem setSlot_rings (i : SlotId) (x : Slot) : (s.setSlot i x).rings = s.rings := rfl
@[simp] theorem setSlot_ring (i : SlotId) (x : Slot) (j : RingId) :
    (s.setSlot i x).ring j = s.ring j := rfl
@[simp] theorem setSlot_apertures (i : SlotId) (x : Slot) :
    (s.setSlot i x).apertures = s.apertures := rfl
@[simp] theorem setSlot_ap (i : SlotId) (x : Slot) (j : ApId) : (s.setSlot i x).ap j = s.ap j := rfl
@[simp] theorem setSlot_schedules (i : SlotId) (x : Slot) :
    (s.setSlot i x).schedules = s.schedules := rfl
@[simp] theorem setSlot_sched (i : SlotId) (x : Slot) (j : RingId) :
    (s.setSlot i x).sched j = s.sched j := rfl
@[simp] theorem setSlot_steering (i : SlotId) (x : Slot) :
    (s.setSlot i x).steering = s.steering := rfl
@[simp] theorem setSlot_arbiter (i : SlotId) (x : Slot) : (s.setSlot i x).arbiter = s.arbiter := rfl
@[simp] theorem setSlot_copy (i : SlotId) (x : Slot) : (s.setSlot i x).copy = s.copy := rfl
@[simp] theorem setSlot_changes (i : SlotId) (x : Slot) : (s.setSlot i x).changes = s.changes := rfl
@[simp] theorem setSlot_notes (i : SlotId) (x : Slot) : (s.setSlot i x).notes = s.notes := rfl
@[simp] theorem setSlot_aOut (i : SlotId) (x : Slot) : (s.setSlot i x).aOut = s.aOut := rfl
@[simp] theorem setSlot_freeReads (i : SlotId) (x : Slot) :
    (s.setSlot i x).freeReads = s.freeReads := rfl

@[simp] theorem setRing_pending (i : RingId) (x : Ring) : (s.setRing i x).pending = s.pending := rfl
@[simp] theorem setRing_link (i : RingId) (x : Ring) : (s.setRing i x).link = s.link := rfl
@[simp] theorem setRing_lines (i : RingId) (x : Ring) : (s.setRing i x).lines = s.lines := rfl
@[simp] theorem setRing_slots (i : RingId) (x : Ring) : (s.setRing i x).slots = s.slots := rfl
@[simp] theorem setRing_slot (i : RingId) (x : Ring) (j : SlotId) :
    (s.setRing i x).slot j = s.slot j := rfl
@[simp] theorem setRing_apertures (i : RingId) (x : Ring) :
    (s.setRing i x).apertures = s.apertures := rfl
@[simp] theorem setRing_ap (i : RingId) (x : Ring) (j : ApId) : (s.setRing i x).ap j = s.ap j := rfl
@[simp] theorem setRing_schedules (i : RingId) (x : Ring) :
    (s.setRing i x).schedules = s.schedules := rfl
@[simp] theorem setRing_sched (i : RingId) (x : Ring) (j : RingId) :
    (s.setRing i x).sched j = s.sched j := rfl
@[simp] theorem setRing_steering (i : RingId) (x : Ring) :
    (s.setRing i x).steering = s.steering := rfl
@[simp] theorem setRing_arbiter (i : RingId) (x : Ring) : (s.setRing i x).arbiter = s.arbiter := rfl
@[simp] theorem setRing_copy (i : RingId) (x : Ring) : (s.setRing i x).copy = s.copy := rfl
@[simp] theorem setRing_changes (i : RingId) (x : Ring) : (s.setRing i x).changes = s.changes := rfl
@[simp] theorem setRing_notes (i : RingId) (x : Ring) : (s.setRing i x).notes = s.notes := rfl
@[simp] theorem setRing_aOut (i : RingId) (x : Ring) : (s.setRing i x).aOut = s.aOut := rfl
@[simp] theorem setRing_freeReads (i : RingId) (x : Ring) :
    (s.setRing i x).freeReads = s.freeReads := rfl

@[simp] theorem setAp_pending (i : ApId) (x : Aperture) : (s.setAp i x).pending = s.pending := rfl
@[simp] theorem setAp_link (i : ApId) (x : Aperture) : (s.setAp i x).link = s.link := rfl
@[simp] theorem setAp_lines (i : ApId) (x : Aperture) : (s.setAp i x).lines = s.lines := rfl
@[simp] theorem setAp_slots (i : ApId) (x : Aperture) : (s.setAp i x).slots = s.slots := rfl
@[simp] theorem setAp_slot (i : ApId) (x : Aperture) (j : SlotId) :
    (s.setAp i x).slot j = s.slot j := rfl
@[simp] theorem setAp_rings (i : ApId) (x : Aperture) : (s.setAp i x).rings = s.rings := rfl
@[simp] theorem setAp_ring (i : ApId) (x : Aperture) (j : RingId) :
    (s.setAp i x).ring j = s.ring j := rfl
@[simp] theorem setAp_schedules (i : ApId) (x : Aperture) :
    (s.setAp i x).schedules = s.schedules := rfl
@[simp] theorem setAp_sched (i : ApId) (x : Aperture) (j : RingId) :
    (s.setAp i x).sched j = s.sched j := rfl
@[simp] theorem setAp_steering (i : ApId) (x : Aperture) :
    (s.setAp i x).steering = s.steering := rfl
@[simp] theorem setAp_arbiter (i : ApId) (x : Aperture) : (s.setAp i x).arbiter = s.arbiter := rfl
@[simp] theorem setAp_copy (i : ApId) (x : Aperture) : (s.setAp i x).copy = s.copy := rfl
@[simp] theorem setAp_changes (i : ApId) (x : Aperture) : (s.setAp i x).changes = s.changes := rfl
@[simp] theorem setAp_notes (i : ApId) (x : Aperture) : (s.setAp i x).notes = s.notes := rfl
@[simp] theorem setAp_aOut (i : ApId) (x : Aperture) : (s.setAp i x).aOut = s.aOut := rfl
@[simp] theorem setAp_freeReads (i : ApId) (x : Aperture) :
    (s.setAp i x).freeReads = s.freeReads := rfl

@[simp] theorem setSched_pending (i : RingId) (x : Schedule) :
    (s.setSched i x).pending = s.pending := rfl
@[simp] theorem setSched_link (i : RingId) (x : Schedule) : (s.setSched i x).link = s.link := rfl
@[simp] theorem setSched_lines (i : RingId) (x : Schedule) : (s.setSched i x).lines = s.lines := rfl
@[simp] theorem setSched_slots (i : RingId) (x : Schedule) : (s.setSched i x).slots = s.slots := rfl
@[simp] theorem setSched_slot (i : RingId) (x : Schedule) (j : SlotId) :
    (s.setSched i x).slot j = s.slot j := rfl
@[simp] theorem setSched_rings (i : RingId) (x : Schedule) : (s.setSched i x).rings = s.rings := rfl
@[simp] theorem setSched_ring (i : RingId) (x : Schedule) (j : RingId) :
    (s.setSched i x).ring j = s.ring j := rfl
@[simp] theorem setSched_apertures (i : RingId) (x : Schedule) :
    (s.setSched i x).apertures = s.apertures := rfl
@[simp] theorem setSched_ap (i : RingId) (x : Schedule) (j : ApId) :
    (s.setSched i x).ap j = s.ap j := rfl
@[simp] theorem setSched_steering (i : RingId) (x : Schedule) :
    (s.setSched i x).steering = s.steering := rfl
@[simp] theorem setSched_arbiter (i : RingId) (x : Schedule) :
    (s.setSched i x).arbiter = s.arbiter := rfl
@[simp] theorem setSched_copy (i : RingId) (x : Schedule) : (s.setSched i x).copy = s.copy := rfl
@[simp] theorem setSched_changes (i : RingId) (x : Schedule) :
    (s.setSched i x).changes = s.changes := rfl
@[simp] theorem setSched_notes (i : RingId) (x : Schedule) : (s.setSched i x).notes = s.notes := rfl
@[simp] theorem setSched_aOut (i : RingId) (x : Schedule) : (s.setSched i x).aOut = s.aOut := rfl
@[simp] theorem setSched_freeReads (i : RingId) (x : Schedule) :
    (s.setSched i x).freeReads = s.freeReads := rfl

@[simp] theorem setApState_pending (a : ApId) (x : ApState) :
    (s.setApState a x).pending = s.pending := rfl
@[simp] theorem setApState_link (a : ApId) (x : ApState) : (s.setApState a x).link = s.link := rfl
@[simp] theorem setApState_lines (a : ApId) (x : ApState) :
    (s.setApState a x).lines = s.lines := rfl
@[simp] theorem setApState_slots (a : ApId) (x : ApState) :
    (s.setApState a x).slots = s.slots := rfl
@[simp] theorem setApState_slot (a : ApId) (x : ApState) (j : SlotId) :
    (s.setApState a x).slot j = s.slot j := rfl
@[simp] theorem setApState_rings (a : ApId) (x : ApState) :
    (s.setApState a x).rings = s.rings := rfl
@[simp] theorem setApState_ring (a : ApId) (x : ApState) (j : RingId) :
    (s.setApState a x).ring j = s.ring j := rfl
@[simp] theorem setApState_schedules (a : ApId) (x : ApState) :
    (s.setApState a x).schedules = s.schedules := rfl
@[simp] theorem setApState_sched (a : ApId) (x : ApState) (j : RingId) :
    (s.setApState a x).sched j = s.sched j := rfl
@[simp] theorem setApState_steering (a : ApId) (x : ApState) :
    (s.setApState a x).steering = s.steering := rfl
@[simp] theorem setApState_arbiter (a : ApId) (x : ApState) :
    (s.setApState a x).arbiter = s.arbiter := rfl
@[simp] theorem setApState_copy (a : ApId) (x : ApState) : (s.setApState a x).copy = s.copy := rfl
@[simp] theorem setApState_changes (a : ApId) (x : ApState) :
    (s.setApState a x).changes = s.changes := rfl
@[simp] theorem setApState_notes (a : ApId) (x : ApState) :
    (s.setApState a x).notes = s.notes := rfl
@[simp] theorem setApState_aOut (a : ApId) (x : ApState) : (s.setApState a x).aOut = s.aOut := rfl
@[simp] theorem setApState_freeReads (a : ApId) (x : ApState) :
    (s.setApState a x).freeReads = s.freeReads := rfl

/-! ### Raising notes -/

@[simp] theorem raise_pending (n : Note) : (s.raise n).pending = s.pending := rfl
@[simp] theorem raise_link (n : Note) : (s.raise n).link = s.link := rfl
@[simp] theorem raise_lines (n : Note) : (s.raise n).lines = s.lines := rfl
@[simp] theorem raise_slots (n : Note) : (s.raise n).slots = s.slots := rfl
@[simp] theorem raise_slot (n : Note) (j : SlotId) : (s.raise n).slot j = s.slot j := rfl
@[simp] theorem raise_rings (n : Note) : (s.raise n).rings = s.rings := rfl
@[simp] theorem raise_ring (n : Note) (j : RingId) : (s.raise n).ring j = s.ring j := rfl
@[simp] theorem raise_apertures (n : Note) : (s.raise n).apertures = s.apertures := rfl
@[simp] theorem raise_ap (n : Note) (j : ApId) : (s.raise n).ap j = s.ap j := rfl
@[simp] theorem raise_schedules (n : Note) : (s.raise n).schedules = s.schedules := rfl
@[simp] theorem raise_sched (n : Note) (j : RingId) : (s.raise n).sched j = s.sched j := rfl
@[simp] theorem raise_steering (n : Note) : (s.raise n).steering = s.steering := rfl
@[simp] theorem raise_arbiter (n : Note) : (s.raise n).arbiter = s.arbiter := rfl
@[simp] theorem raise_copy (n : Note) : (s.raise n).copy = s.copy := rfl
@[simp] theorem raise_changes (n : Note) : (s.raise n).changes = s.changes := rfl
@[simp] theorem raise_aOut (n : Note) : (s.raise n).aOut = s.aOut := rfl
@[simp] theorem raise_freeReads (n : Note) : (s.raise n).freeReads = s.freeReads := rfl

/-! ### The Change Queue -/

@[simp] theorem queueChange_pending (op : ChangeOp) (k : Nat) :
    (s.queueChange op k).pending = s.pending := rfl
@[simp] theorem queueChange_link (op : ChangeOp) (k : Nat) :
    (s.queueChange op k).link = s.link := rfl
@[simp] theorem queueChange_lines (op : ChangeOp) (k : Nat) :
    (s.queueChange op k).lines = s.lines := rfl
@[simp] theorem queueChange_slots (op : ChangeOp) (k : Nat) :
    (s.queueChange op k).slots = s.slots := rfl
@[simp] theorem queueChange_slot (op : ChangeOp) (k : Nat) (j : SlotId) :
    (s.queueChange op k).slot j = s.slot j := rfl
@[simp] theorem queueChange_rings (op : ChangeOp) (k : Nat) :
    (s.queueChange op k).rings = s.rings := rfl
@[simp] theorem queueChange_ring (op : ChangeOp) (k : Nat) (j : RingId) :
    (s.queueChange op k).ring j = s.ring j := rfl
@[simp] theorem queueChange_apertures (op : ChangeOp) (k : Nat) :
    (s.queueChange op k).apertures = s.apertures := rfl
@[simp] theorem queueChange_ap (op : ChangeOp) (k : Nat) (j : ApId) :
    (s.queueChange op k).ap j = s.ap j := rfl
@[simp] theorem queueChange_schedules (op : ChangeOp) (k : Nat) :
    (s.queueChange op k).schedules = s.schedules := rfl
@[simp] theorem queueChange_sched (op : ChangeOp) (k : Nat) (j : RingId) :
    (s.queueChange op k).sched j = s.sched j := rfl
@[simp] theorem queueChange_steering (op : ChangeOp) (k : Nat) :
    (s.queueChange op k).steering = s.steering := rfl
@[simp] theorem queueChange_arbiter (op : ChangeOp) (k : Nat) :
    (s.queueChange op k).arbiter = s.arbiter := rfl
@[simp] theorem queueChange_copy (op : ChangeOp) (k : Nat) :
    (s.queueChange op k).copy = s.copy := rfl
@[simp] theorem queueChange_notes (op : ChangeOp) (k : Nat) :
    (s.queueChange op k).notes = s.notes := rfl
@[simp] theorem queueChange_aOut (op : ChangeOp) (k : Nat) :
    (s.queueChange op k).aOut = s.aOut := rfl
@[simp] theorem queueChange_freeReads (op : ChangeOp) (k : Nat) :
    (s.queueChange op k).freeReads = s.freeReads := rfl

@[simp] theorem removeChange_pending (e : Change) : (s.removeChange e).pending = s.pending := rfl
@[simp] theorem removeChange_link (e : Change) : (s.removeChange e).link = s.link := rfl
@[simp] theorem removeChange_lines (e : Change) : (s.removeChange e).lines = s.lines := rfl
@[simp] theorem removeChange_slots (e : Change) : (s.removeChange e).slots = s.slots := rfl
@[simp] theorem removeChange_slot (e : Change) (j : SlotId) :
    (s.removeChange e).slot j = s.slot j := rfl
@[simp] theorem removeChange_rings (e : Change) : (s.removeChange e).rings = s.rings := rfl
@[simp] theorem removeChange_ring (e : Change) (j : RingId) :
    (s.removeChange e).ring j = s.ring j := rfl
@[simp] theorem removeChange_apertures (e : Change) :
    (s.removeChange e).apertures = s.apertures := rfl
@[simp] theorem removeChange_ap (e : Change) (j : ApId) : (s.removeChange e).ap j = s.ap j := rfl
@[simp] theorem removeChange_schedules (e : Change) :
    (s.removeChange e).schedules = s.schedules := rfl
@[simp] theorem removeChange_sched (e : Change) (j : RingId) :
    (s.removeChange e).sched j = s.sched j := rfl
@[simp] theorem removeChange_steering (e : Change) : (s.removeChange e).steering = s.steering := rfl
@[simp] theorem removeChange_arbiter (e : Change) : (s.removeChange e).arbiter = s.arbiter := rfl
@[simp] theorem removeChange_copy (e : Change) : (s.removeChange e).copy = s.copy := rfl
@[simp] theorem removeChange_notes (e : Change) : (s.removeChange e).notes = s.notes := rfl
@[simp] theorem removeChange_aOut (e : Change) : (s.removeChange e).aOut = s.aOut := rfl
@[simp] theorem removeChange_freeReads (e : Change) :
    (s.removeChange e).freeReads = s.freeReads := rfl

/-! ### The ports -/

@[simp] theorem respond_pending (t : Txn) (o : BusOutcome) (d : List Beat) :
    (s.respond t o d).pending = s.pending := rfl
@[simp] theorem respond_link (t : Txn) (o : BusOutcome) (d : List Beat) :
    (s.respond t o d).link = s.link := rfl
@[simp] theorem respond_lines (t : Txn) (o : BusOutcome) (d : List Beat) :
    (s.respond t o d).lines = s.lines := rfl
@[simp] theorem respond_slots (t : Txn) (o : BusOutcome) (d : List Beat) :
    (s.respond t o d).slots = s.slots := rfl
@[simp] theorem respond_slot (t : Txn) (o : BusOutcome) (d : List Beat) (j : SlotId) :
    (s.respond t o d).slot j = s.slot j := rfl
@[simp] theorem respond_rings (t : Txn) (o : BusOutcome) (d : List Beat) :
    (s.respond t o d).rings = s.rings := rfl
@[simp] theorem respond_ring (t : Txn) (o : BusOutcome) (d : List Beat) (j : RingId) :
    (s.respond t o d).ring j = s.ring j := rfl
@[simp] theorem respond_apertures (t : Txn) (o : BusOutcome) (d : List Beat) :
    (s.respond t o d).apertures = s.apertures := rfl
@[simp] theorem respond_ap (t : Txn) (o : BusOutcome) (d : List Beat) (j : ApId) :
    (s.respond t o d).ap j = s.ap j := rfl
@[simp] theorem respond_schedules (t : Txn) (o : BusOutcome) (d : List Beat) :
    (s.respond t o d).schedules = s.schedules := rfl
@[simp] theorem respond_sched (t : Txn) (o : BusOutcome) (d : List Beat) (j : RingId) :
    (s.respond t o d).sched j = s.sched j := rfl
@[simp] theorem respond_steering (t : Txn) (o : BusOutcome) (d : List Beat) :
    (s.respond t o d).steering = s.steering := rfl
@[simp] theorem respond_arbiter (t : Txn) (o : BusOutcome) (d : List Beat) :
    (s.respond t o d).arbiter = s.arbiter := rfl
@[simp] theorem respond_copy (t : Txn) (o : BusOutcome) (d : List Beat) :
    (s.respond t o d).copy = s.copy := rfl
@[simp] theorem respond_changes (t : Txn) (o : BusOutcome) (d : List Beat) :
    (s.respond t o d).changes = s.changes := rfl
@[simp] theorem respond_notes (t : Txn) (o : BusOutcome) (d : List Beat) :
    (s.respond t o d).notes = s.notes := rfl
@[simp] theorem respond_freeReads (t : Txn) (o : BusOutcome) (d : List Beat) :
    (s.respond t o d).freeReads = s.freeReads := rfl

@[simp] theorem forward_pending (t m : Txn) (g : Option Target) :
    (s.forward t m g).pending = s.pending := rfl
@[simp] theorem forward_link (t m : Txn) (g : Option Target) :
    (s.forward t m g).link = s.link := rfl
@[simp] theorem forward_lines (t m : Txn) (g : Option Target) :
    (s.forward t m g).lines = s.lines := rfl
@[simp] theorem forward_slots (t m : Txn) (g : Option Target) :
    (s.forward t m g).slots = s.slots := rfl
@[simp] theorem forward_slot (t m : Txn) (g : Option Target) (j : SlotId) :
    (s.forward t m g).slot j = s.slot j := rfl
@[simp] theorem forward_rings (t m : Txn) (g : Option Target) :
    (s.forward t m g).rings = s.rings := rfl
@[simp] theorem forward_ring (t m : Txn) (g : Option Target) (j : RingId) :
    (s.forward t m g).ring j = s.ring j := rfl
@[simp] theorem forward_apertures (t m : Txn) (g : Option Target) :
    (s.forward t m g).apertures = s.apertures := rfl
@[simp] theorem forward_ap (t m : Txn) (g : Option Target) (j : ApId) :
    (s.forward t m g).ap j = s.ap j := rfl
@[simp] theorem forward_schedules (t m : Txn) (g : Option Target) :
    (s.forward t m g).schedules = s.schedules := rfl
@[simp] theorem forward_sched (t m : Txn) (g : Option Target) (j : RingId) :
    (s.forward t m g).sched j = s.sched j := rfl
@[simp] theorem forward_copy (t m : Txn) (g : Option Target) :
    (s.forward t m g).copy = s.copy := rfl
@[simp] theorem forward_changes (t m : Txn) (g : Option Target) :
    (s.forward t m g).changes = s.changes := rfl
@[simp] theorem forward_notes (t m : Txn) (g : Option Target) :
    (s.forward t m g).notes = s.notes := rfl
@[simp] theorem forward_aOut (t m : Txn) (g : Option Target) :
    (s.forward t m g).aOut = s.aOut := rfl
@[simp] theorem forward_freeReads (t m : Txn) (g : Option Target) :
    (s.forward t m g).freeReads = s.freeReads := rfl

@[simp] theorem grantSteering_pending (t : Txn) (k : Nat) :
    (s.grantSteering t k).pending = s.pending := rfl
@[simp] theorem grantSteering_link (t : Txn) (k : Nat) : (s.grantSteering t k).link = s.link := rfl
@[simp] theorem grantSteering_lines (t : Txn) (k : Nat) :
    (s.grantSteering t k).lines = s.lines := rfl
@[simp] theorem grantSteering_slots (t : Txn) (k : Nat) :
    (s.grantSteering t k).slots = s.slots := rfl
@[simp] theorem grantSteering_slot (t : Txn) (k : Nat) (j : SlotId) :
    (s.grantSteering t k).slot j = s.slot j := rfl
@[simp] theorem grantSteering_rings (t : Txn) (k : Nat) :
    (s.grantSteering t k).rings = s.rings := rfl
@[simp] theorem grantSteering_ring (t : Txn) (k : Nat) (j : RingId) :
    (s.grantSteering t k).ring j = s.ring j := rfl
@[simp] theorem grantSteering_apertures (t : Txn) (k : Nat) :
    (s.grantSteering t k).apertures = s.apertures := rfl
@[simp] theorem grantSteering_ap (t : Txn) (k : Nat) (j : ApId) :
    (s.grantSteering t k).ap j = s.ap j := rfl
@[simp] theorem grantSteering_schedules (t : Txn) (k : Nat) :
    (s.grantSteering t k).schedules = s.schedules := rfl
@[simp] theorem grantSteering_sched (t : Txn) (k : Nat) (j : RingId) :
    (s.grantSteering t k).sched j = s.sched j := rfl
@[simp] theorem grantSteering_steering (t : Txn) (k : Nat) :
    (s.grantSteering t k).steering = s.steering := rfl
@[simp] theorem grantSteering_copy (t : Txn) (k : Nat) : (s.grantSteering t k).copy = s.copy := rfl
@[simp] theorem grantSteering_changes (t : Txn) (k : Nat) :
    (s.grantSteering t k).changes = s.changes := rfl
@[simp] theorem grantSteering_notes (t : Txn) (k : Nat) :
    (s.grantSteering t k).notes = s.notes := rfl
@[simp] theorem grantSteering_aOut (t : Txn) (k : Nat) : (s.grantSteering t k).aOut = s.aOut := rfl
@[simp] theorem grantSteering_freeReads (t : Txn) (k : Nat) :
    (s.grantSteering t k).freeReads = s.freeReads := rfl

@[simp] theorem grantCopy_pending (t : Txn) : (s.grantCopy t).pending = s.pending := rfl
@[simp] theorem grantCopy_link (t : Txn) : (s.grantCopy t).link = s.link := rfl
@[simp] theorem grantCopy_lines (t : Txn) : (s.grantCopy t).lines = s.lines := rfl
@[simp] theorem grantCopy_slots (t : Txn) : (s.grantCopy t).slots = s.slots := rfl
@[simp] theorem grantCopy_slot (t : Txn) (j : SlotId) : (s.grantCopy t).slot j = s.slot j := rfl
@[simp] theorem grantCopy_rings (t : Txn) : (s.grantCopy t).rings = s.rings := rfl
@[simp] theorem grantCopy_ring (t : Txn) (j : RingId) : (s.grantCopy t).ring j = s.ring j := rfl
@[simp] theorem grantCopy_apertures (t : Txn) : (s.grantCopy t).apertures = s.apertures := rfl
@[simp] theorem grantCopy_ap (t : Txn) (j : ApId) : (s.grantCopy t).ap j = s.ap j := rfl
@[simp] theorem grantCopy_schedules (t : Txn) : (s.grantCopy t).schedules = s.schedules := rfl
@[simp] theorem grantCopy_sched (t : Txn) (j : RingId) : (s.grantCopy t).sched j = s.sched j := rfl
@[simp] theorem grantCopy_steering (t : Txn) : (s.grantCopy t).steering = s.steering := rfl
@[simp] theorem grantCopy_changes (t : Txn) : (s.grantCopy t).changes = s.changes := rfl
@[simp] theorem grantCopy_notes (t : Txn) : (s.grantCopy t).notes = s.notes := rfl
@[simp] theorem grantCopy_aOut (t : Txn) : (s.grantCopy t).aOut = s.aOut := rfl
@[simp] theorem grantCopy_freeReads (t : Txn) : (s.grantCopy t).freeReads = s.freeReads := rfl

@[simp] theorem answer_pending (t : Txn) (o : BusOutcome) (d : List Beat) :
    (s.answer t o d).pending = s.pending := rfl
@[simp] theorem answer_link (t : Txn) (o : BusOutcome) (d : List Beat) :
    (s.answer t o d).link = s.link := rfl
@[simp] theorem answer_lines (t : Txn) (o : BusOutcome) (d : List Beat) :
    (s.answer t o d).lines = s.lines := rfl
@[simp] theorem answer_slots (t : Txn) (o : BusOutcome) (d : List Beat) :
    (s.answer t o d).slots = s.slots := rfl
@[simp] theorem answer_slot (t : Txn) (o : BusOutcome) (d : List Beat) (j : SlotId) :
    (s.answer t o d).slot j = s.slot j := rfl
@[simp] theorem answer_rings (t : Txn) (o : BusOutcome) (d : List Beat) :
    (s.answer t o d).rings = s.rings := rfl
@[simp] theorem answer_ring (t : Txn) (o : BusOutcome) (d : List Beat) (j : RingId) :
    (s.answer t o d).ring j = s.ring j := rfl
@[simp] theorem answer_apertures (t : Txn) (o : BusOutcome) (d : List Beat) :
    (s.answer t o d).apertures = s.apertures := rfl
@[simp] theorem answer_ap (t : Txn) (o : BusOutcome) (d : List Beat) (j : ApId) :
    (s.answer t o d).ap j = s.ap j := rfl
@[simp] theorem answer_schedules (t : Txn) (o : BusOutcome) (d : List Beat) :
    (s.answer t o d).schedules = s.schedules := rfl
@[simp] theorem answer_sched (t : Txn) (o : BusOutcome) (d : List Beat) (j : RingId) :
    (s.answer t o d).sched j = s.sched j := rfl
@[simp] theorem answer_arbiter (t : Txn) (o : BusOutcome) (d : List Beat) :
    (s.answer t o d).arbiter = s.arbiter := rfl
@[simp] theorem answer_copy (t : Txn) (o : BusOutcome) (d : List Beat) :
    (s.answer t o d).copy = s.copy := rfl
@[simp] theorem answer_changes (t : Txn) (o : BusOutcome) (d : List Beat) :
    (s.answer t o d).changes = s.changes := rfl
@[simp] theorem answer_notes (t : Txn) (o : BusOutcome) (d : List Beat) :
    (s.answer t o d).notes = s.notes := rfl
@[simp] theorem answer_freeReads (t : Txn) (o : BusOutcome) (d : List Beat) :
    (s.answer t o d).freeReads = s.freeReads := rfl

/-! ### The link -/

@[simp] theorem reply_pending (x : Status) (ws : List Word) :
    (s.reply x ws).pending = s.pending := rfl
@[simp] theorem reply_lines (x : Status) (ws : List Word) : (s.reply x ws).lines = s.lines := rfl
@[simp] theorem reply_slots (x : Status) (ws : List Word) : (s.reply x ws).slots = s.slots := rfl
@[simp] theorem reply_slot (x : Status) (ws : List Word) (j : SlotId) :
    (s.reply x ws).slot j = s.slot j := rfl
@[simp] theorem reply_rings (x : Status) (ws : List Word) : (s.reply x ws).rings = s.rings := rfl
@[simp] theorem reply_ring (x : Status) (ws : List Word) (j : RingId) :
    (s.reply x ws).ring j = s.ring j := rfl
@[simp] theorem reply_apertures (x : Status) (ws : List Word) :
    (s.reply x ws).apertures = s.apertures := rfl
@[simp] theorem reply_ap (x : Status) (ws : List Word) (j : ApId) :
    (s.reply x ws).ap j = s.ap j := rfl
@[simp] theorem reply_schedules (x : Status) (ws : List Word) :
    (s.reply x ws).schedules = s.schedules := rfl
@[simp] theorem reply_sched (x : Status) (ws : List Word) (j : RingId) :
    (s.reply x ws).sched j = s.sched j := rfl
@[simp] theorem reply_steering (x : Status) (ws : List Word) :
    (s.reply x ws).steering = s.steering := rfl
@[simp] theorem reply_arbiter (x : Status) (ws : List Word) :
    (s.reply x ws).arbiter = s.arbiter := rfl
@[simp] theorem reply_copy (x : Status) (ws : List Word) : (s.reply x ws).copy = s.copy := rfl
@[simp] theorem reply_changes (x : Status) (ws : List Word) :
    (s.reply x ws).changes = s.changes := rfl
@[simp] theorem reply_notes (x : Status) (ws : List Word) : (s.reply x ws).notes = s.notes := rfl
@[simp] theorem reply_aOut (x : Status) (ws : List Word) : (s.reply x ws).aOut = s.aOut := rfl
@[simp] theorem reply_freeReads (x : Status) (ws : List Word) :
    (s.reply x ws).freeReads = s.freeReads := rfl

@[simp] theorem received_pending (bs : List Byte) : (s.received bs).pending = s.pending := rfl
@[simp] theorem received_lines (bs : List Byte) : (s.received bs).lines = s.lines := rfl
@[simp] theorem received_slots (bs : List Byte) : (s.received bs).slots = s.slots := rfl
@[simp] theorem received_slot (bs : List Byte) (j : SlotId) :
    (s.received bs).slot j = s.slot j := rfl
@[simp] theorem received_rings (bs : List Byte) : (s.received bs).rings = s.rings := rfl
@[simp] theorem received_ring (bs : List Byte) (j : RingId) :
    (s.received bs).ring j = s.ring j := rfl
@[simp] theorem received_apertures (bs : List Byte) : (s.received bs).apertures = s.apertures := rfl
@[simp] theorem received_ap (bs : List Byte) (j : ApId) : (s.received bs).ap j = s.ap j := rfl
@[simp] theorem received_schedules (bs : List Byte) : (s.received bs).schedules = s.schedules := rfl
@[simp] theorem received_sched (bs : List Byte) (j : RingId) :
    (s.received bs).sched j = s.sched j := rfl
@[simp] theorem received_steering (bs : List Byte) : (s.received bs).steering = s.steering := rfl
@[simp] theorem received_arbiter (bs : List Byte) : (s.received bs).arbiter = s.arbiter := rfl
@[simp] theorem received_copy (bs : List Byte) : (s.received bs).copy = s.copy := rfl
@[simp] theorem received_changes (bs : List Byte) : (s.received bs).changes = s.changes := rfl
@[simp] theorem received_notes (bs : List Byte) : (s.received bs).notes = s.notes := rfl
@[simp] theorem received_aOut (bs : List Byte) : (s.received bs).aOut = s.aOut := rfl
@[simp] theorem received_freeReads (bs : List Byte) : (s.received bs).freeReads = s.freeReads := rfl

/-! ### The lock window -/

@[simp] theorem lockAccept_pending (t : Txn) (o : Option ApId) :
    (s.lockAccept t o).pending = s.pending := rfl
@[simp] theorem lockAccept_link (t : Txn) (o : Option ApId) :
    (s.lockAccept t o).link = s.link := rfl
@[simp] theorem lockAccept_lines (t : Txn) (o : Option ApId) :
    (s.lockAccept t o).lines = s.lines := rfl
@[simp] theorem lockAccept_slots (t : Txn) (o : Option ApId) :
    (s.lockAccept t o).slots = s.slots := rfl
@[simp] theorem lockAccept_slot (t : Txn) (o : Option ApId) (j : SlotId) :
    (s.lockAccept t o).slot j = s.slot j := rfl
@[simp] theorem lockAccept_rings (t : Txn) (o : Option ApId) :
    (s.lockAccept t o).rings = s.rings := rfl
@[simp] theorem lockAccept_ring (t : Txn) (o : Option ApId) (j : RingId) :
    (s.lockAccept t o).ring j = s.ring j := rfl
@[simp] theorem lockAccept_apertures (t : Txn) (o : Option ApId) :
    (s.lockAccept t o).apertures = s.apertures := rfl
@[simp] theorem lockAccept_ap (t : Txn) (o : Option ApId) (j : ApId) :
    (s.lockAccept t o).ap j = s.ap j := rfl
@[simp] theorem lockAccept_schedules (t : Txn) (o : Option ApId) :
    (s.lockAccept t o).schedules = s.schedules := rfl
@[simp] theorem lockAccept_sched (t : Txn) (o : Option ApId) (j : RingId) :
    (s.lockAccept t o).sched j = s.sched j := rfl
@[simp] theorem lockAccept_arbiter (t : Txn) (o : Option ApId) :
    (s.lockAccept t o).arbiter = s.arbiter := rfl
@[simp] theorem lockAccept_copy (t : Txn) (o : Option ApId) :
    (s.lockAccept t o).copy = s.copy := rfl
@[simp] theorem lockAccept_changes (t : Txn) (o : Option ApId) :
    (s.lockAccept t o).changes = s.changes := rfl
@[simp] theorem lockAccept_notes (t : Txn) (o : Option ApId) :
    (s.lockAccept t o).notes = s.notes := rfl
@[simp] theorem lockAccept_aOut (t : Txn) (o : Option ApId) :
    (s.lockAccept t o).aOut = s.aOut := rfl
@[simp] theorem lockAccept_freeReads (t : Txn) (o : Option ApId) :
    (s.lockAccept t o).freeReads = s.freeReads := rfl

/-! ### Reading a record after writing one -/

@[simp] theorem setSlot_slot_self (i : SlotId) (x : Slot) : (s.setSlot i x).slot i = x := by
  simp [State.setSlot, State.slot]

theorem setSlot_slot (i j : SlotId) (x : Slot) :
    (s.setSlot i x).slot j = if i = j then x else s.slot j := by
  simp [State.setSlot, State.slot, Vector.getElem_set, Fin.ext_iff]

theorem setSlot_slot_ne {i j : SlotId} (x : Slot) (h : i ≠ j) : (s.setSlot i x).slot j = s.slot j := by
  simp [setSlot_slot, h]

@[simp] theorem setRing_ring_self (i : RingId) (x : Ring) : (s.setRing i x).ring i = x := by
  simp [State.setRing, State.ring]

theorem setRing_ring (i j : RingId) (x : Ring) :
    (s.setRing i x).ring j = if i = j then x else s.ring j := by
  simp [State.setRing, State.ring, Vector.getElem_set, Fin.ext_iff]

theorem setRing_ring_ne {i j : RingId} (x : Ring) (h : i ≠ j) : (s.setRing i x).ring j = s.ring j := by
  simp [setRing_ring, h]

@[simp] theorem setAp_ap_self (i : ApId) (x : Aperture) : (s.setAp i x).ap i = x := by
  simp [State.setAp, State.ap]

theorem setAp_ap (i j : ApId) (x : Aperture) :
    (s.setAp i x).ap j = if i = j then x else s.ap j := by
  simp [State.setAp, State.ap, Vector.getElem_set, Fin.ext_iff]

theorem setAp_ap_ne {i j : ApId} (x : Aperture) (h : i ≠ j) : (s.setAp i x).ap j = s.ap j := by
  simp [setAp_ap, h]

@[simp] theorem setSched_sched_self (i : RingId) (x : Schedule) : (s.setSched i x).sched i = x := by
  simp [State.setSched, State.sched]

theorem setSched_sched (i j : RingId) (x : Schedule) :
    (s.setSched i x).sched j = if i = j then x else s.sched j := by
  simp [State.setSched, State.sched, Vector.getElem_set, Fin.ext_iff]

theorem setSched_sched_ne {i j : RingId} (x : Schedule) (h : i ≠ j) : (s.setSched i x).sched j = s.sched j := by
  simp [setSched_sched, h]

@[simp] theorem setApState_ap_self (a : ApId) (x : ApState) :
    (s.setApState a x).ap a = { s.ap a with state := x } := by simp [State.setApState]

theorem setApState_ap (a b : ApId) (x : ApState) :
    (s.setApState a x).ap b = if a = b then { s.ap a with state := x } else s.ap b := by
  simp [State.setApState, setAp_ap]

theorem setApState_ap_ne {a b : ApId} (x : ApState) (h : a ≠ b) :
    (s.setApState a x).ap b = s.ap b := by simp [setApState_ap, h]

@[simp] theorem setApState_config (a b : ApId) (x : ApState) :
    ((s.setApState a x).ap b).config = (s.ap b).config := by
  rw [setApState_ap]; split <;> simp_all

/-! ### What an update does change -/

@[simp] theorem raise_notes (n : Note) : (s.raise n).notes = s.notes.push n := rfl

@[simp] theorem queueChange_entries (op : ChangeOp) (k : Nat) :
    (s.queueChange op k).changes.entries =
      s.changes.entries ++ [{ seq := s.changes.nextSeq, op := op, expiry := k }] := rfl

@[simp] theorem queueChange_nextSeq (op : ChangeOp) (k : Nat) :
    (s.queueChange op k).changes.nextSeq =
      nextUnused 65535 (s.changes.entries.map (·.seq) ++ [s.changes.nextSeq]) s.changes.nextSeq := by
  simp [State.queueChange]

@[simp] theorem removeChange_entries (e : Change) :
    (s.removeChange e).changes.entries = s.changes.entries.erase e := rfl

@[simp] theorem removeChange_nextSeq (e : Change) :
    (s.removeChange e).changes.nextSeq = s.changes.nextSeq := rfl

@[simp] theorem respond_aOut (t : Txn) (o : BusOutcome) (d : List Beat) :
    (s.respond t o d).aOut =
      s.aOut ++ [{ source := t.source, kind := t.kind, outcome := o, data := d }] := rfl

@[simp] theorem answer_aOut (t : Txn) (o : BusOutcome) (d : List Beat) :
    (s.answer t o d).aOut =
      s.aOut ++ [{ source := t.source, kind := t.kind, outcome := o, data := d }] := rfl

@[simp] theorem answer_phase (t : Txn) (o : BusOutcome) (d : List Beat) :
    (s.answer t o d).steering.phase = .opened := rfl

@[simp] theorem answer_waiting (t : Txn) (o : BusOutcome) (d : List Beat) :
    (s.answer t o d).steering.waiting = s.steering.waiting := rfl

@[simp] theorem answer_lock (t : Txn) (o : BusOutcome) (d : List Beat) :
    (s.answer t o d).steering.lock = s.steering.lock.complete t.lock := rfl

@[simp] theorem forward_phase (t m : Txn) (g : Option Target) :
    (s.forward t m g).steering.phase = .inFlight t g := rfl

@[simp] theorem forward_waiting (t m : Txn) (g : Option Target) :
    (s.forward t m g).steering.waiting = s.steering.waiting := rfl

@[simp] theorem forward_lock (t m : Txn) (g : Option Target) :
    (s.forward t m g).steering.lock = s.steering.lock := rfl

@[simp] theorem forward_arbiter (t m : Txn) (g : Option Target) :
    (s.forward t m g).arbiter = { s.arbiter with steeringClaim := some m } := rfl

@[simp] theorem lockAccept_phase (t : Txn) (o : Option ApId) :
    (s.lockAccept t o).steering.phase = s.steering.phase := rfl

@[simp] theorem lockAccept_waiting (t : Txn) (o : Option ApId) :
    (s.lockAccept t o).steering.waiting = s.steering.waiting := rfl

@[simp] theorem lockAccept_lock (t : Txn) (o : Option ApId) :
    (s.lockAccept t o).steering.lock = s.steering.lock.accept t o := rfl

@[simp] theorem received_request (bs : List Byte) : (s.received bs).link.request = bs := rfl

@[simp] theorem received_phase (bs : List Byte) : (s.received bs).link.phase = s.link.phase := rfl

@[simp] theorem reply_phase (x : Status) (ws : List Word) :
    (s.reply x ws).link.phase = .answer := rfl

@[simp] theorem reply_response (x : Status) (ws : List Word) :
    (s.reply x ws).link.response = some { status := x, flags := s.flagsByte, words := ws } := rfl

@[simp] theorem received_flagsByte (bs : List Byte) : (s.received bs).flagsByte = s.flagsByte := rfl

/-! ### The state after reset -/

@[simp] theorem reset_slot (i : SlotId) : State.reset.slot i = Slot.unassigned := by
  simp [State.reset, State.powerOn, State.slot]

@[simp] theorem reset_ring (i : RingId) : State.reset.ring i = Ring.atReset := by
  simp [State.reset, State.powerOn, State.ring]

@[simp] theorem reset_ap (i : ApId) : State.reset.ap i = Aperture.atReset := by
  simp [State.reset, State.powerOn, State.ap]

@[simp] theorem reset_sched (i : RingId) : State.reset.sched i = Schedule.atReset := by
  simp [State.reset, State.powerOn, State.sched]

end Sys2Proof.Machine
end

