-- ==== Sys2Proof/Laws/Link.lean ====
section
/-! SUPPORT. What the management link can do with a request, said once: the four outcomes of
`takeCommand`, the balance of requests and responses, and the words, bytes and bits they are made
of. -/

namespace Sys2Proof.Machine

/-! ### Check bytes (R169, R171) -/

theorem foldl_add_eq (bs : List Byte) (a : Byte) : bs.foldl (· + ·) a = a + byteSum bs := by
  unfold byteSum
  induction bs generalizing a with
  | nil => simp
  | cons b bs ih => rw [List.foldl_cons, List.foldl_cons, ih, ih (0 + b)]; simp [BitVec.add_assoc]

theorem byteSum_append (xs ys : List Byte) : byteSum (xs ++ ys) = byteSum xs + byteSum ys := by
  rw [byteSum, List.foldl_append, foldl_add_eq]; rfl

/-- The negated sum as a last byte makes the whole sum 0. -/
theorem byteSum_balanced (bs : List Byte) : byteSum (bs ++ [- byteSum bs]) = 0 := by
  rw [byteSum_append]
  simp [byteSum]

/-- A request with the check byte of `requestFor` balances. -/
@[simp] theorem requestFor_balanced (code : Byte) (args : List Word) :
    requestBalanced code (requestFor code args) = true := by
  have h := byteSum_balanced ([code, BitVec.ofNat 8 args.length] ++ args.flatMap Word.bytes)
  exact decide_eq_true h

@[simp] theorem requestFor_args (code : Byte) (args : List Word) :
    (requestFor code args).args = args := rfl

/-! ### Words, bytes and bits (R168, R169, R171) -/

/-- Four bytes make the word that they are the bytes of. -/
theorem word_of_bytes (w : Word) :
    (BitVec.ofNat 8 (Word.byte w 3) ++ BitVec.ofNat 8 (Word.byte w 2) ++
      BitVec.ofNat 8 (Word.byte w 1) ++ BitVec.ofNat 8 (Word.byte w 0) : BitVec 32) = w := by
  apply BitVec.eq_of_toNat_eq
  have := w.isLt
  simp only [BitVec.toNat_append, BitVec.toNat_ofNat, Word.byte]
  rw [← Nat.shiftLeft_add_eq_or_of_lt (by omega), ← Nat.shiftLeft_add_eq_or_of_lt (by omega),
    ← Nat.shiftLeft_add_eq_or_of_lt (by omega)]
  simp only [Nat.shiftLeft_eq]
  omega

/-- The bytes of the word that four bytes make. -/
theorem bytes_of_word (b3 b2 b1 b0 : Byte) :
    Word.bytes (b3 ++ b2 ++ b1 ++ b0) = [b3, b2, b1, b0] := by
  have h3 := b3.isLt
  have h2 := b2.isLt
  have h1 := b1.isLt
  have h0 := b0.isLt
  have e : (b3 ++ b2 ++ b1 ++ b0 : BitVec 32).toNat =
      ((b3.toNat * 256 + b2.toNat) * 256 + b1.toNat) * 256 + b0.toNat := by
    simp only [BitVec.toNat_append]
    rw [← Nat.shiftLeft_add_eq_or_of_lt (by omega), ← Nat.shiftLeft_add_eq_or_of_lt (by omega),
      ← Nat.shiftLeft_add_eq_or_of_lt (by omega)]
    simp only [Nat.shiftLeft_eq]
  simp only [Word.bytes, Word.byte, e, List.cons.injEq, and_true]
  refine ⟨?_, ?_, ?_, ?_⟩ <;> apply BitVec.eq_of_toNat_eq <;> simp only [BitVec.toNat_ofNat] <;>
    omega

@[simp] theorem length_flatMap_bytes (ws : List Word) :
    (ws.flatMap Word.bytes).length = 4 * ws.length := by
  induction ws with
  | nil => rfl
  | cons w ws ih =>
    simp only [List.flatMap_cons, List.length_append, ih, Word.bytes, List.length_cons,
      List.length_nil]
    omega

/-- `wordsOf` reads the bytes of words, -/
@[simp] theorem wordsOf_bytes (ws : List Word) : wordsOf (ws.flatMap Word.bytes) = some ws := by
  induction ws with
  | nil => rfl
  | cons w ws ih =>
    show wordsOf (Word.bytes w ++ ws.flatMap Word.bytes) = _
    simp only [Word.bytes, List.cons_append, List.nil_append, wordsOf, ih, Option.map_some]
    rw [word_of_bytes]

/-- and nothing else. -/
theorem bytes_of_wordsOf (bs : List Byte) (ws : List Word) (h : wordsOf bs = some ws) :
    bs = ws.flatMap Word.bytes := by
  induction bs using wordsOf.induct generalizing ws with
  | case1 => simp only [wordsOf, Option.some.injEq] at h; subst h; rfl
  | case2 b3 b2 b1 b0 rest ih =>
    simp only [wordsOf, Option.map_eq_some_iff] at h
    obtain ⟨ys, hy, rfl⟩ := h
    rw [List.flatMap_cons, bytes_of_word, ← ih ys hy]; rfl
  | case3 x h1 h2 => simp [wordsOf] at h

theorem byteOf_bits : ∀ b : Byte,
    byteOf (b.getLsbD 7) (b.getLsbD 6) (b.getLsbD 5) (b.getLsbD 4) (b.getLsbD 3) (b.getLsbD 2)
      (b.getLsbD 1) (b.getLsbD 0) = b := by decide

/-- The bits of bytes make the bytes. -/
@[simp] theorem bytesOf_bits (bytes : List Byte) : bytesOf (bytes.flatMap Byte.bits) = bytes := by
  induction bytes with
  | nil => rfl
  | cons b bs ih =>
    show bytesOf (Byte.bits b ++ bs.flatMap Byte.bits) = _
    simp only [Byte.bits, List.cons_append, List.nil_append, bytesOf, byteOf_bits, ih]

/-! ### The outcomes of a request (R168 to R171) -/

section
variable {α : Type} (s : State) (code : Byte) (parse : List Word → Option α) (req : Request)
  (act : State → α → Answer)

/-- Outside REQUEST nothing is a request. -/
theorem takeCommand_outside (h : s.link.phase ≠ .request) :
    s.takeCommand code parse req act = s := by
  simp [State.takeCommand, h]

/-- A request that does not balance is answered BAD_CHECK and changes only the link. -/
theorem takeCommand_badCheck (h : s.link.phase = .request) (hn : req.args.length ≤ 6)
    (hb : requestBalanced code req = false) :
    s.takeCommand code parse req act = s.answeredBytes (requestBytes code req) .badCheck [] := by
  have : ¬ 6 < req.args.length := by omega
  simp [State.takeCommand, h, this, hb, State.answeredBytes, State.reply, State.received,
    State.flagsByte]

/-- A balanced request whose arguments fail the checks of R170 is answered BAD_ARG and changes only
the link. -/
theorem takeCommand_badArg (h : s.link.phase = .request) (hn : req.args.length ≤ 6)
    (hb : requestBalanced code req = true) (hp : parse req.args = none) :
    s.takeCommand code parse req act = s.answeredBytes (requestBytes code req) .badArg [] := by
  have : ¬ 6 < req.args.length := by omega
  simp [State.takeCommand, h, this, hb, hp, State.answeredBytes, State.reply, State.received,
    State.flagsByte]

/-- A request that passes the checks is taken: its block acts on the part, and the response is built
from what the block answers. -/
theorem takeCommand_taken (h : s.link.phase = .request) (hn : req.args.length ≤ 6)
    (hb : requestBalanced code req = true) {x : α} (hp : parse req.args = some x) :
    s.takeCommand code parse req act =
      ((act (s.received (requestBytes code req)) x).state.reply
        (act (s.received (requestBytes code req)) x).status
        (act (s.received (requestBytes code req)) x).words).clearing
        (act (s.received (requestBytes code req)) x).clears := by
  have : ¬ 6 < req.args.length := by omega
  simp [State.takeCommand, h, this, hb, hp]

end

/-- A refusal by the owning block leaves everything but the link as it was. -/
theorem answered_of_deny (s : State) (code : Byte) (args : List Word) (x : Status) :
    (((s.received (requestBytes code (requestFor code args))).deny x).state.reply x []) =
      s.answered code args x [] := rfl

end Sys2Proof.Machine
end

