-- ==== Sys2Proof/Laws/Ops.lean ====
section
/-! SUPPORT. What each shared operation can do, said once: notes, moves between the lists, retirement,
the grant, the bind and the lock window. -/

namespace Sys2Proof.Machine

variable (s : State)

/-! ### Notes (R162, R163) -/

/-- The three outcomes of raising a note. -/
theorem push_cases (q : NoteQueue) (n : Note) :
    (q.enabled n.kind = false ∧ q.push n = q) ∨
    (q.enabled n.kind = true ∧ q.queue.length < 32 ∧
      q.push n = { q with queue := q.queue ++ [n] }) ∨
    (q.enabled n.kind = true ∧ 32 ≤ q.queue.length ∧ q.push n = { q with lost := true }) := by
  unfold NoteQueue.push Config.noteCapacity
  cases h : q.enabled n.kind
  · simp
  · by_cases hl : q.queue.length < 32 <;> simp [hl]; omega

@[simp] theorem push_mask (q : NoteQueue) (n : Note) : (q.push n).mask = q.mask := by
  rcases push_cases q n with ⟨_, h⟩ | ⟨_, _, h⟩ | ⟨_, _, h⟩ <;> rw [h]

@[simp] theorem push_attnEnable (q : NoteQueue) (n : Note) :
    (q.push n).attnEnable = q.attnEnable := by
  rcases push_cases q n with ⟨_, h⟩ | ⟨_, _, h⟩ | ⟨_, _, h⟩ <;> rw [h]

/-- A queue within its capacity stays so. -/
theorem push_length_le (q : NoteQueue) (n : Note) (h : q.queue.length ≤ 32) :
    (q.push n).queue.length ≤ 32 := by
  rcases push_cases q n with ⟨_, e⟩ | ⟨_, hl, e⟩ | ⟨_, _, e⟩ <;> rw [e]
  · exact h
  · simpa using hl
  · exact h

/-! ### Moves between the lists (R3, R9) -/

@[simp] theorem joinFreeTail_ring_self (r : RingId) (sl : SlotId) :
    (s.joinFreeTail r sl).ring r = { s.ring r with free := (s.ring r).free ++ [sl] } := by
  simp [State.joinFreeTail]

theorem joinFreeTail_ring_ne {r q : RingId} (sl : SlotId) (h : r ≠ q) :
    (s.joinFreeTail r sl).ring q = s.ring q := by
  simp [State.joinFreeTail, setRing_ring_ne, h]

theorem joinFreeTail_slot (r : RingId) (sl x : SlotId) :
    (s.joinFreeTail r sl).slot x = if sl = x then (s.slot sl).freed else s.slot x := by
  simp [State.joinFreeTail, setSlot_slot]

@[simp] theorem joinFreeHead_ring_self (r : RingId) (sl : SlotId) :
    (s.joinFreeHead r sl).ring r = { s.ring r with free := sl :: (s.ring r).free } := by
  simp [State.joinFreeHead]

theorem joinFreeHead_slot (r : RingId) (sl x : SlotId) :
    (s.joinFreeHead r sl).slot x = if sl = x then (s.slot sl).freed else s.slot x := by
  simp [State.joinFreeHead, setSlot_slot]

@[simp] theorem leaveReady_ring_self (r : RingId) (sl : SlotId) :
    (s.leaveReady r sl).ring r = { s.ring r with ready := (s.ring r).ready.erase sl } := by
  simp [State.leaveReady]

@[simp] theorem leaveReady_slot (r : RingId) (sl x : SlotId) :
    (s.leaveReady r sl).slot x = s.slot x := rfl

@[simp] theorem leaveHeld_ring_self (r : RingId) (sl : SlotId) :
    (s.leaveHeld r sl).ring r = { s.ring r with held := (s.ring r).held.erase sl } := by
  simp [State.leaveHeld]

@[simp] theorem leaveHeld_slot (r : RingId) (sl x : SlotId) :
    (s.leaveHeld r sl).slot x = s.slot x := rfl

@[simp] theorem joinHeld_ring_self (r : RingId) (sl : SlotId) :
    (s.joinHeld r sl).ring r = { s.ring r with held := (s.ring r).held ++ [sl] } := by
  simp [State.joinHeld]

@[simp] theorem joinHeld_slot (r : RingId) (sl x : SlotId) :
    (s.joinHeld r sl).slot x = s.slot x := rfl

/-- A slot that leaves the ready list goes to the held tail if it is retained and to the free tail
otherwise (R12). -/
theorem dropReady_ring_self (r : RingId) (sl : SlotId) :
    (s.dropReady r sl).ring r =
      if (s.slot sl).retained then
        { s.ring r with
          ready := (s.ring r).ready.erase sl, held := (s.ring r).held ++ [sl] }
      else
        { s.ring r with
          ready := (s.ring r).ready.erase sl, free := (s.ring r).free ++ [sl] } := by
  unfold State.dropReady
  split <;> simp

@[simp] theorem dropReady_ready (r : RingId) (sl : SlotId) :
    ((s.dropReady r sl).ring r).ready = (s.ring r).ready.erase sl := by
  rw [dropReady_ring_self]; split <;> rfl

@[simp] theorem freeHeld_ring_self (r : RingId) (sl : SlotId) :
    (s.freeHeld r sl).ring r =
      { s.ring r with
        held := (s.ring r).held.erase sl, free := (s.ring r).free ++ [sl] } := by
  simp [State.freeHeld]

/-! ### Retirement (R23, R154) -/

/-- Retiring an assigned slot: it is UNASSIGNED, and its ring's free list and pool lose it. -/
theorem retire_of_home {sl : SlotId} {h : Home} (hh : (s.slot sl).home = some h) :
    s.retire sl =
      (s.setRing h.ring { s.ring h.ring with
        free := (s.ring h.ring).free.erase sl, pool := (s.ring h.ring).pool - 1 }).setSlot sl
        Slot.unassigned := by
  simp [State.retire, hh]

/-- With no retirement waiting on it, a slot that becomes FREE stays as it is. -/
theorem applyRetirement_of_none {sl : SlotId} (h : s.waitingRetirement sl = none) :
    s.applyRetirement sl = s := by
  simp [State.applyRetirement, h]

/-! ### The grant (R135) -/

/-- The grant decision leaves the Arbiter alone, grants STEERING or grants COPY, and then the port was
FREE and the claim granted was waiting. -/
theorem arbitrate_cases :
    s.arbitrate = s ∨
    (∃ t k, s.arbiter.port = none ∧ s.arbiter.steeringClaim = some t ∧
      (k = s.arbiter.shareCount ∨ k = min 15 (s.arbiter.shareCount + 1)) ∧
      s.arbitrate = s.grantSteering t k) ∨
    (∃ t, s.arbiter.port = none ∧ s.arbiter.copyClaim = some t ∧ s.lockOpen = false ∧
      s.arbitrate = s.grantCopy t) := by
  unfold State.arbitrate State.copyWins
  rcases hp : s.arbiter.port with _ | g <;> rcases hs : s.arbiter.steeringClaim with _ | t <;>
    rcases hc : s.arbiter.copyClaim with _ | c <;> cases hl : s.lockOpen <;> simp
  · split
    · rename_i h; exact .inr (.inr fun g => absurd (g h.1) (by omega))
    · rename_i h; exact .inr (.inl (.inr fun a b => absurd ⟨a, b⟩ h))

/-- After a grant decision the port is FREE only with no claim waiting, or with a COPY claim alone
behind an open lock window. -/
theorem arbitrate_settles (h : s.arbitrate.arbiter.port = none) :
    s.arbitrate.arbiter.steeringClaim = none ∧
      (s.arbitrate.arbiter.copyClaim = none ∨ s.arbitrate.lockOpen = true) := by
  revert h
  unfold State.arbitrate State.copyWins
  rcases hp : s.arbiter.port with _ | g <;> rcases hs : s.arbiter.steeringClaim with _ | t <;>
    rcases hc : s.arbiter.copyClaim with _ | c <;> cases hl : s.lockOpen <;>
    simp [hp, hs, hc, hl, State.grantSteering, State.grantCopy]
  · split <;> simp

/-! ### The bind (R63 to R65) -/

@[simp] theorem advanceFrame_ring_self (r : RingId) :
    (s.advanceFrame r).ring r =
      { s.ring r with frameCounter := wrapNext 0xFFFFFFFF (s.ring r).frameCounter } := by
  simp [State.advanceFrame]

/-- A bind takes the free head, steals a READY slot, or starves. -/
theorem bind_cases (a : ApId) (r : RingId) :
    (∃ sl rest, (s.ring r).free = sl :: rest ∧
      s.bind a r =
        ((s.advanceFrame r).setRing r { (s.advanceFrame r).ring r with free := rest }).fill a sl
          (wrapNext 0xFFFFFFFF (s.ring r).frameCounter)) ∨
    (∃ sl, (s.ring r).free = [] ∧ (s.ring r).overflow = .overwriteOldest ∧
      (s.ring r).ready.find? ((s.advanceFrame r).stealable r) = some sl ∧
      s.bind a r =
        (s.advanceFrame r).steal a r sl (wrapNext 0xFFFFFFFF (s.ring r).frameCounter)) ∨
    (∃ d, (s.ring r).free = [] ∧
      s.bind a r =
        (s.advanceFrame r).starve a r (wrapNext 0xFFFFFFFF (s.ring r).frameCounter) d) := by
  unfold State.bind
  simp only [advanceFrame_ring_self]
  rcases hf : (s.ring r).free with _ | ⟨sl, rest⟩
  · rcases ho : (s.ring r).overflow with _ | _
    · exact .inr (.inr ⟨0, rfl, rfl⟩)
    · rcases hq : (s.ring r).ready.find? ((s.advanceFrame r).stealable r) with _ | sl
      · exact .inr (.inr ⟨1, rfl, by simp⟩)
      · exact .inr (.inl ⟨sl, rfl, rfl, rfl, by simp⟩)
  · exact .inl ⟨sl, rest, rfl, rfl⟩

/-- The frame counter never exceeds its top (R11). -/
theorem wrapNext_le {top n : Nat} (h : 1 ≤ top) : wrapNext top n ≤ top := by
  unfold wrapNext; split <;> omega

/-- A wrapping counter never issues 0 (R11, R118, R145). -/
theorem wrapNext_pos (top n : Nat) : 1 ≤ wrapNext top n := by
  unfold wrapNext; split <;> omega

/-! ### The lock window (R44, R45) -/

/-- A window that a completion leaves open is the locked transaction's own, with its timer started. -/
theorem complete_opened {w : LockWindow} {lock : Bool} {o : Option ApId} {src : Tag}
    {x : Option Nat} (h : w.complete lock = .opened o src x) :
    lock = true ∧ x = some 64 ∧ ∃ y, w = .opened o src y := by
  cases w <;> cases lock <;> simp_all [LockWindow.complete, Config.lockTicks]

end Sys2Proof.Machine
end

