-- ==== Sys2Proof/Tests/Slice0.lean ====
section
/-! SUPPORT. Tests of the model: the well-formedness checks refuse an ill-formed term each; one step of
each command on small states, with the results the spec gives; and for each statement of Obligations.lean
a state and operands that meet its hypotheses, clause by clause (`witness_…`). -/

open Sys2Proof Sys2Proof.Machine

set_option maxRecDepth 20000

namespace Sys2Proof.Tests

/-! ### States to test on -/

/-- What the tests read of an outcome: the state, if there is one. -/
def nextOf (o : Host.Outcome State Fault Refusal) : Option State :=
  match o with
  | .next t => some t
  | _ => none

/-- A part whose link takes a request. -/
def asked (s : State) : State := { s with link := { s.link with selLow := true, phase := .request } }

/-- The part after a power-on reset, in REQUEST. -/
def fresh : State := asked State.reset

/-- A response being sent. -/
def answering : State := State.answered fresh 0x09 [2] .done []

/-- The three frame lines low. -/
def levels : LineLevels := { frameA := false, frameB := false, snap := false }

/-- A configuration in ring 0: source 0, divider 1, fill pattern 0x04030201, NEWEST, REPEAT, WAIT. -/
def config (role : Role) (base : Addr) : ApConfig :=
  { ring := 0, role := role, windowBase := base, windowSize := 12, sources := 1, line := .a
    divider := 1, fill := 0x04030201, pick := .newest, onEmpty := .repeatFrame, stall := .wait
    timeout := 5 }

/-- A slot of ring 0 at 0x10000000 plus 0x1000 times its number. -/
def slotOf (i : Nat) : Slot :=
  { Slot.unassigned with home := some { ring := 0, base := BitVec.ofNat 32 (0x10000000 + i * 4096) } }

/-- Ring 0 has a slot size and, if asked, the slots 0 to 3, all FREE. -/
def ringOff : State :=
  ((((fresh.setRing 0
    { Ring.atReset with slotSize := some 12, free := [0, 1, 2, 3], pool := 4 }).setSlot 0
      (slotOf 0)).setSlot 1 (slotOf 1)).setSlot 2 (slotOf 2)).setSlot 3 (slotOf 3)

/-- The same, ON. -/
def ringOn : State := ringOff.setRing 0 { ringOff.ring 0 with on := true }

/-- The producer and consumer configurations of the tests. -/
def pc : ApConfig := config .producer 0x80000000
def cc : ApConfig := config .consumer 0x80001000
def oc : ApConfig := { config .consumer 0x80002000 with pick := .ordered }

/-- Ring 0 at work: the producer 0 WRITING slot 0 (frame 4), slots 1 and 2 READY (frames 2, 3), slot 3
HELD (frame 1), slot 4 FREE; consumer 1 (NEWEST) VIEWING slot 1, consumer 2 (ORDERED) WAITING. -/
def work : State :=
  (((((((((((asked State.reset).setRing 0
    { on := true, slotSize := some 12, overflow := .overwriteOldest, frameCounter := 4, free := [4]
      ready := [1, 2], held := [3], producer := some 0, consumers := 6, pool := 5 }).setSlot 0
    { slotOf 0 with frame := some 4 }).setSlot 1
    { slotOf 1 with frame := some 2, written := true, holders := 2, passedBy := 4 }).setSlot 2
    { slotOf 2 with frame := some 3, written := true, passedBy := 4 }).setSlot 3
    { slotOf 3 with frame := some 1, written := true, retained := true }).setSlot 4
    (slotOf 4)).setAp 0 { config := some pc, state := .bound 0, count := 0, deferred := false }).setAp 1
    { config := some cc, state := .bound 1, count := 0, deferred := false }).setAp 2
    { config := some oc, state := .unbound, count := 0, deferred := false }).setAp 3
    { config := some { config .consumer 0x80003000 with pick := .ordered }, state := .off, count := 0
      deferred := false })

/-- The same with the slot of the producer written. -/
def written : State := work.setSlot 0 { work.slot 0 with written := true }

/-- The same with an entry waiting. -/
def State.withEntry (s : State) (op : ChangeOp) (expiry : Nat) : State :=
  { s with changes := { entries := [{ seq := 1, op := op, expiry := expiry }], nextSeq := 2 } }

/-- The same with a full Change Queue. -/
def State.full (s : State) : State :=
  { s with changes :=
    { entries := (List.range 12).map fun i =>
        { seq := i + 1, op := .aperture 1 (.setDivider 2), expiry := 0 }
      nextSeq := 13 } }

/-- The slot of the producer written and the schedule RETAINING, with 1 + 1 of the pool of 5 set aside,
and with 1 + 2. -/
def retaining : State :=
  (written.setSched 0 { Schedule.atReset with state := .retaining }).setSlot 1
    { written.slot 1 with retained := true }
def guarded : State := retaining.setSlot 2 { retaining.slot 2 with retained := true }

/-- Transactions of one beat. -/
def rd (address : Addr) : Txn :=
  { source := 0, kind := .read, address := address, beats := 1, masks := [], data := [], lock := false }
def wr (address : Addr) : Txn :=
  { source := 0, kind := .write, address := address, beats := 1, masks := [0xFF], data := [7]
    lock := false }

/-- A transaction through the producer's aperture in flight and on the port. -/
def flying : State :=
  { written with
    steering :=
      { phase := .inFlight (wr 0x80000008) (some { ap := 0, ring := 0, slot := 0, frame := some 4 })
        waiting := [], lock := .closed }
    arbiter := { Arbiter.atReset with port := some { claimant := .steering, txn := wr 0x10000008 } } }

/-- The lock window held through the producer's aperture, its expiry timer at `n`. -/
def locked (n : Nat) : State :=
  { written with steering :=
    { phase := .opened, waiting := [], lock := .opened (some 0) 0 (some n) } }

/-- A read stalled on consumer 2, its stall timer at `n`. -/
def stalled (n : Nat) : State :=
  { work with steering :=
    { phase := .stalled (rd 0x80002000) 2 0x80002000 (some n), waiting := [], lock := .closed } }

/-- The same with the slot of the producer written. -/
def stalledAtPublish : State :=
  (stalled 3).setSlot 0 { (stalled 3).slot 0 with written := true }

/-- A copy job of the held slot. -/
def job : Job :=
  { id := 1, ring := 0, slot := 3, frame := 1, dest := 0x90000000, length := 8, autoRelease := true
    doneBytes := 0 }

/-- The job ACTIVE, its claim on the port in this half, for a frame of this length. -/
def copying (half : Half) (length : Nat) : State :=
  { work.setSlot 3 { work.slot 3 with jobs := 1 } with
    copy :=
      { active := some
          { job := { job with length := length }, half := half, cancelled := false, granted := true }
        queued := [], nextId := 2, staging := [] }
    arbiter :=
      { Arbiter.atReset with
        port := some
          { claimant := .copy
            txn :=
              { source := 7
                kind := match half with | .read => .read | .write => .write
                address := 0x10003000, beats := min 16 (length / 8), masks := [], data := []
                lock := false } } } }

/-- The job's claim waiting behind a transaction on the port. -/
def claiming : State :=
  { copying .read 8 with
    copy := { (copying .read 8).copy with
      active := some { job := { job with length := 8 }, half := .read, cancelled := false
                       granted := false } }
    arbiter := { flying.arbiter with copyClaim := some (rd 0x10003000) } }

/-- A second job QUEUED behind the ACTIVE one. -/
def queueing : State :=
  { copying .read 8 with copy :=
    { (copying .read 8).copy with queued := [{ job with id := 255 }] } }

/-- A response with one beat of data. -/
def okay : MResponse := { outcome := .okay, data := [9] }
def faulty : MResponse := { outcome := .fault, data := [] }

/-! ### Well-formedness: one ill-formed term for each check -/

theorem test_wf_refuses_address :
    Instr.wf (.aSideTransaction { rd 4 with address := 4 }) = false := by decide
theorem test_wf_refuses_no_beats :
    Instr.wf (.aSideTransaction { rd 8 with beats := 0 }) = false := by decide
theorem test_wf_refuses_seventeen_beats :
    Instr.wf (.aSideTransaction { rd 8 with beats := 17 }) = false := by decide
theorem test_wf_refuses_masked_read :
    Instr.wf (.aSideTransaction { rd 8 with masks := [0] }) = false := by decide
theorem test_wf_refuses_write_data_on_read :
    Instr.wf (.aSideTransaction { rd 8 with data := [0] }) = false := by decide
theorem test_wf_refuses_missing_mask :
    Instr.wf (.aSideTransaction { wr 8 with masks := [] }) = false := by decide
theorem test_wf_refuses_missing_data :
    Instr.wf (.aSideTransaction { wr 8 with data := [] }) = false := by decide
theorem test_wf_takes_a_write : Instr.wf (.aSideTransaction (wr 8)) = true := by decide
theorem test_wf_refuses_long_response :
    Instr.wf (.copyReadResponse { outcome := .okay, data := List.replicate 17 0 }) = false := by decide
theorem test_wf_refuses_repeated_order :
    Instr.wf (.boundaryEvent .a true [1, 1]) = false := by decide
theorem test_wf_refuses_seven_arguments :
    Instr.wf (.snap { args := List.replicate 7 0, check := 0 }) = false := by decide
theorem test_wf_refuses_known_code :
    Instr.wf (.badCommand 0x09 { args := [], check := 0 }) = false := by decide
theorem test_wf_refuses_count_six : Instr.wf (.excessArgumentCount 0x09 6) = false := by decide
theorem test_wf_refuses_long_request : Instr.wf (.selRise 216) = false := by decide

/-! ### The link: the bytes of 11.6, the phases of R168 to R173 -/

/-- The request of RING_ON for ring 2 ends in check byte 0xF4 (11.6). -/
theorem test_request_bytes_ring_on :
    requestBytes 0x09 (requestFor 0x09 [2]) = [0x09, 1, 0, 0, 0, 2, 0xF4] := by decide
/-- SLOT_RETIRE of slot 3, expiry 0, ends in 0xEE, and QUERY_SLOT of slot 3 in 0xCB (11.6). -/
theorem test_request_checks :
    (requestFor 0x0D [3, 0]).check = 0xEE ∧ (requestFor 0x31 [3]).check = 0xCB := by decide
/-- The responses of 11.6: DONE with RESET_SEEN, and QUEUED with seq 7. -/
theorem test_response_bytes :
    Response.bytes { status := .done, flags := 0x10, words := [] } = [0x00, 0x10, 0x00, 0xF0] ∧
      Response.bytes { status := .queued, flags := 0x10, words := [7] } =
        [0x01, 0x10, 0x01, 0, 0, 0, 7, 0xE7] := by decide

/-- The three requests of 11.6, read from their bytes. -/
theorem test_requests_are_read :
    readRequest levels [] [0x09, 1, 0, 0, 0, 2, 0xF4] = some (.ringOn { args := [2], check := 0xF4 }) ∧
      readRequest levels [] [0x0D, 2, 0, 0, 0, 3, 0, 0, 0, 0, 0xEE] =
        some (.slotRetire { args := [3, 0], check := 0xEE }) ∧
      readRequest levels [] [0x31, 1, 0, 0, 0, 3, 0xCB] =
        some (.querySlot { args := [3], check := 0xCB }) := by decide
/-- Most significant bit first (R168): RING_ON with a count of 7 ends at the count (R169), and a request
short of its check byte has not ended. -/
theorem test_request_bits :
    readRequestBits levels [] [false, false, false, false, true, false, false, true,
      false, false, false, false, false, true, true, true] = some (.excessArgumentCount 0x09 7) ∧
      readRequest levels [] [0x09, 1, 0, 0, 0, 2] = none := by decide
/-- SDO after the RING_ON of 11.6, with two idle bytes: 0xFF twice, 0x00, 0x10, 0x00, 0xF0, and then idle
bytes (R171); the second byte of the response, 0x10, has its bit 3 periods in. -/
theorem test_sdo_bytes :
    (List.range 8).map (answering.link.sdoByte 2) = [0xFF, 0xFF, 0x00, 0x10, 0x00, 0xF0, 0xFF, 0xFF] ∧
      (List.range 8).map (fun k => answering.link.sdoBit 2 (24 + k)) =
        [false, false, false, true, false, false, false, false] ∧
      fresh.link.sdoByte 2 2 = 0xFF := by decide

/-- The ring of the exchange of 11.6: ring 2 OFF with a slot size and a pool of 3. -/
def ring2 : State :=
  fresh.setRing 2 { Ring.atReset with slotSize := some 12, pool := 3 }

/-- "the command is taken, and ring 2 becomes ON"; the response is DONE, 0x10, no words (11.6). -/
theorem test_ring_on_exchange :
    ((nextOf (exec (.ringOn { args := [2], check := 0xF4 }) ring2)).map fun t =>
      ((t.ring 2).on, t.link.response)) =
      some (true, some { status := .done, flags := 0x10, words := [] }) := by decide
/-- A wrong check byte is answered BAD_CHECK and turns nothing ON. -/
theorem test_ring_on_bad_check :
    ((nextOf (exec (.ringOn { args := [2], check := 0xF5 }) ring2)).map fun t =>
      ((t.ring 2).on, t.link.response.map (·.status))) = some (false, some .badCheck) := by decide
theorem test_sel_fall :
    (nextOf (exec .selFall State.reset)).map (·.link.phase) = some .request := by decide
/-- A request cut short after a bit makes TRUNCATED yes (R172). -/
theorem test_sel_rise_truncates :
    (nextOf (exec (.selRise 1) fresh)).map (fun t => (t.link.phase, t.link.truncated)) =
      some (.idle, true) := by decide
/-- "Had the driver raised SEL …, the next response would have shown flags 0x14" (11.6). -/
theorem test_flags_truncated :
    ({ fresh with link := { fresh.link with truncated := true } }).flagsByte = 0x14 := by decide
/-- SEL rises before the response's check byte: RESPONSE_LOST becomes yes (11.6). -/
theorem test_sel_rise_loses_response :
    (nextOf (exec (.selRise 0) { fresh with link := { fresh.link with phase := .answer } })).map
      (·.link.responseLost) = some true := by decide
/-- A response that showed RESPONSE_LOST clears it when it is complete (R173). -/
theorem test_response_complete_clears :
    (nextOf (exec .responseComplete
      { fresh with link :=
        { fresh.link with
          phase := .answer, responseLost := true, truncated := true
          response := some { status := .done, flags := 0x18, words := [] } } })).map
      (fun t => (t.link.phase, t.link.responseLost, t.link.truncated)) =
      some (.spent, false, true) := by decide
theorem test_excess_count :
    (nextOf (exec (.excessArgumentCount 0x09 7) fresh)).map (·.link.response.map (·.status)) =
      some (some .badArg) := by decide
theorem test_bad_command :
    (nextOf (exec (.badCommand 0x07 (requestFor 0x07 [])) fresh)).map
      (·.link.response.map (·.status)) = some (some .badCommand) := by decide

/-! ### Part commands -/

/-- SUMMARY reports RESET_SEEN in its flags and then clears it (R176). -/
theorem test_summary_clears_reset_seen :
    (nextOf (exec (.summary (requestFor 0x01 [])) fresh)).map
      (fun t => (t.link.resetSeen, t.link.response.map (·.flags))) = some (false, some 0x10) := by
  decide
/-- Word 1 of SUMMARY: ring 0 ON with a pool of 5 (R176). -/
theorem test_summary_word_1 :
    (nextOf (exec (.summary (requestFor 0x01 [])) work)).map
      (fun t => t.link.response.bind (·.words[1]?)) = some (some 11) := by decide
theorem test_reset_core :
    (nextOf (exec (.resetCore (requestFor 0x02 []) { frameA := true, frameB := false, snap := false })
      work)).map (fun t => ((t.ring 0).on, (t.slot 3).home, t.lines.levelA)) =
      some (false, none, true) := by decide
/-- A read stalled at RESET_CORE is answered FAULT (R43). -/
theorem test_reset_core_stalled :
    (nextOf (exec (.resetCore (requestFor 0x02 []) { frameA := false, frameB := false, snap := false })
      (stalled 3))).map (fun t => t.aOut.map (·.outcome)) = some [.fault] := by decide
theorem test_timebase :
    (nextOf (exec (.timebase (requestFor 0x03 [1024])) fresh)).map (·.lines.divisor) = some 1024 := by
  decide
/-- A divisor of 1025 is out of range (R175). -/
theorem test_timebase_range :
    (nextOf (exec (.timebase (requestFor 0x03 [1025])) fresh)).map
      (fun t => (t.lines.divisor, t.link.response.map (·.status))) = some (1, some .badArg) := by decide
theorem test_line_setup :
    (nextOf (exec (.lineSetup (requestFor 0x04 [2, 1])) fresh)).map
      (fun t => (t.lines.edgeA, t.lines.edgeSnap)) = some (.falling, .rising) := by decide
/-- A producer boundary publishes the written slot; frame 3, passed by the ORDERED consumer and no longer
the newest, is reclaimed; the bind takes the free head (R58, R12, R63). -/
theorem test_boundary_publishes :
    (nextOf (exec (.boundary (requestFor 0x05 [0]) []) written)).map
      (fun t => ((t.ring 0).ready, (t.ap 0).state, (t.slot 4).frame)) =
      some ([1, 0], .bound 4, some 5) := by decide
/-- The read stalled on the consumer that a publish serves goes to the slot it acquires (R40, R81). -/
theorem test_stalled_read_is_forwarded :
    let t := State.acquireAtPublish 0 (stalledAtPublish.toReady 0 0 0) 2
    (t.ap 2).state = .bound 0 ∧ t.arbiter.steeringClaim.map (·.address) = some 0x10000000 := by decide
/-- With 2 of a pool of 5 set aside the slot to publish is retained; with 3 it is not (R104). -/
theorem test_pool_guard :
    [retaining, guarded].map (fun s => ((s.decideRetain 0 0 0).slot 0).retained) = [true, false] := by
  decide
/-- A boundary to an OFF aperture is refused (R88). -/
theorem test_boundary_off :
    (nextOf (exec (.boundary (requestFor 0x05 [3]) []) work)).map
      (·.link.response.map (·.status)) = some (some .wrongState) := by decide

/-- A schedule of ring 0 that waits for a trigger. -/
def armed : State :=
  work.setSched 0 { Schedule.atReset with delay := 3, burst := 2, start := .snap, state := .armed }

theorem test_snap_starts :
    (nextOf (exec (.snap (requestFor 0x06 [])) armed)).map
      (fun t => ((t.sched 0).state, (t.sched 0).remaining)) = some (.delay, 3) := by decide
theorem test_snap_edge_ignored :
    (nextOf (exec (.snapEdge false)
      { armed.setSched 0 { armed.sched 0 with state := .gap } with
        lines := { armed.lines with levelSnap := true } })).map (·.notes.queue) =
      some [{ kind := .triggerIgnored, ring := some 0, detail := 3 }] := by decide

/-! ### Rings and slots -/

theorem test_ring_setup :
    (nextOf (exec (.ringSetup (requestFor 0x08 [1, 24, 1])) fresh)).map
      (fun t => ((t.ring 1).slotSize, (t.ring 1).overflow)) = some (some 24, .overwriteOldest) := by
  decide
/-- Another slot size on a ring with slots is CONFLICT (R16). -/
theorem test_ring_setup_conflict :
    (nextOf (exec (.ringSetup (requestFor 0x08 [0, 13, 0])) ringOff)).map
      (fun t => ((t.ring 0).slotSize, t.link.response.map (·.status))) =
      some (some 12, some .conflict) := by decide

/-- The ring of `work` with its apertures OFF and frame 3 retained. -/
def quiet : State :=
  ((((work.setRing 0
      { work.ring 0 with free := [4, 0], producer := none, consumers := 0, frameCounter := 4 }).setSlot 0
      (slotOf 0)).setAp 0 { config := some pc, state := .off, count := 0, deferred := false }).setAp 1
      { config := some cc, state := .off, count := 0, deferred := false }).setAp 2
      { config := some oc, state := .off, count := 0, deferred := false }

def quietKept : State :=
  (quiet.setSlot 1 { slotOf 1 with frame := some 2, written := true }).setSlot 2
    { slotOf 2 with frame := some 3, written := true, retained := true }

/-- RING_OFF keeps the retained READY slot and frees the other (R18). -/
theorem test_ring_off :
    (nextOf (exec (.ringOff (requestFor 0x0A [0])) quietKept)).map
      (fun t => ((t.ring 0).on, (t.ring 0).free, (t.ring 0).held, (t.slot 1).frame)) =
      some (false, [4, 0, 1], [3, 2], none) := by decide
theorem test_ring_off_refused :
    (nextOf (exec (.ringOff (requestFor 0x0A [0])) work)).map
      (fun t => ((t.ring 0).on, t.link.response.map (·.status))) = some (true, some .wrongState) := by
  decide
/-- RING_FLUSH with keep_held no frees held and READY slots; a VIEWING consumer is WAITING (R19, R20). -/
theorem test_ring_flush :
    (nextOf (exec (.ringFlush (requestFor 0x0B [0, 0])) work)).map
      (fun t => ((t.ring 0).ready, (t.ring 0).held, (t.ap 1).state, (t.ap 0).state)) =
      some ([], [], .unbound, .bound 0) := by decide
theorem test_slot_assign :
    (nextOf (exec (.slotAssign (requestFor 0x0C [5, 0, 0x10005000])) work)).map
      (fun t => ((t.ring 0).free, (t.ring 0).pool, (t.slot 5).home.map (·.base))) =
      some ([4, 5], 6, some 0x10005000) := by decide
/-- A region over an ON window is CONFLICT (R21). -/
theorem test_slot_assign_conflict :
    (nextOf (exec (.slotAssign (requestFor 0x0C [5, 0, 0x80001000])) work)).map
      (fun t => ((t.ring 0).pool, t.link.response.map (·.status))) = some (5, some .conflict) := by
  decide
theorem test_slot_retire_free :
    (nextOf (exec (.slotRetire (requestFor 0x0D [4, 0])) work)).map
      (fun t => ((t.ring 0).free, (t.ring 0).pool, (t.slot 4).home)) = some ([], 4, none) := by decide
/-- A READY slot's retirement is queued under the next seq, 7, which is the result (11.6). -/
theorem test_slot_retire_queued :
    (nextOf (exec (.slotRetire { args := [3, 0], check := 0xEE })
      { work with changes := { work.changes with nextSeq := 7 } })).map
      (fun t => ((t.slot 3).retirePending, t.changes.entries, t.link.response)) =
      some (true, [{ seq := 7, op := .retireSlot 3, expiry := 0 }],
        some { status := .queued, flags := 0x10, words := [7] }) := by decide

/-! ### Apertures and changes -/

theorem test_aperture_setup :
    (nextOf (exec (.apertureSetup (requestFor 0x10 (configWords 5 (some pc)))) ringOff)).map
      (fun t => (t.ap 5)) = some { config := some pc, state := .off, count := 0, deferred := false } := by
  decide
/-- The window base must be a multiple of the slot size (R49). -/
theorem test_aperture_setup_base :
    (nextOf (exec (.apertureSetup (requestFor 0x10
      (configWords 5 (some { pc with windowBase := 0x80000800 })))) ringOff)).map
      (·.link.response.map (·.status)) = some (some .badArg) := by decide
/-- An ORDERED consumer turned ON acquires the newest frame and passes the older ones (R69). -/
theorem test_aperture_on_consumer :
    (nextOf (exec (.apertureOn (requestFor 0x11 [3])) work)).map
      (fun t => ((t.ap 3).state, (t.slot 1).passedBy, (t.slot 2).holders, (t.ring 0).consumers)) =
      some (.bound 2, 12, 8, 14) := by decide
/-- A second producer is CONFLICT (R178). -/
theorem test_aperture_on_conflict :
    (nextOf (exec (.apertureOn (requestFor 0x11 [3]))
      (work.setAp 3
        { config := some (config .producer 0x80003000), state := .off, count := 0
          deferred := false }))).map (·.link.response.map (·.status)) = some (some .conflict) := by decide
theorem test_aperture_off_queued :
    (nextOf (exec (.apertureOff (requestFor 0x12 [1, 9])) work)).map
      (fun t => (t.apOn 1, t.changes.entries)) =
      some (true, [{ seq := 1, op := .aperture 1 .detach, expiry := 9 }]) := by decide
/-- The counters follow their last value with 1, and go past a value in use (R118, R145, log 31). -/
theorem test_counters_skip :
    nextUnused 65535 [65535] 65535 = 1 ∧ nextUnused 65535 [1, 65535] 65535 = 2 ∧
      nextUnused 255 [7] 7 = 8 ∧ nextUnused 255 [8, 9, 7] 7 = 10 := by decide
/-- Entries for an aperture, with one for its ring and one for another aperture among them. -/
def several (s : State) (a : ApId) : State :=
  { s with changes :=
    { entries :=
        [{ seq := 1, op := .setOverflow 0 .dropNew, expiry := 0 },
         { seq := 2, op := .aperture a (.setPick .newest .strict), expiry := 0 },
         { seq := 3, op := .aperture 1 (.setDivider 2), expiry := 0 },
         { seq := 4, op := .aperture a (.setDivider 7), expiry := 4 },
         { seq := 5, op := .aperture a (.moveWindow 0x80001000), expiry := 0 },
         { seq := 6, op := .aperture a (.setDivider 9), expiry := 0 }]
      nextSeq := 7 } }

/-- "A WAITING consumer with a SET_PICK and a MOVE_WINDOW queued on it ends OFF with the new pick and the
new window" (R147), and of two SET_DIVIDER entries the second value stays (R149). -/
theorem test_aperture_off_waiting :
    (nextOf (exec (.apertureOff (requestFor 0x12 [2, 0])) (several work 2))).map
      (fun t => ((t.ap 2).state, t.changes.entries.map (·.seq), (t.ap 2).config)) =
      some (.off, [1, 3], some
        { oc with pick := .newest, onEmpty := .strict, windowBase := 0x80001000, divider := 9 }) := by
  decide
theorem test_aperture_modify_queued :
    (nextOf (exec (.apertureModify (requestFor 0x13 [1, 5, 0, 3, 0])) work)).map
      (fun t => (t.changes.entries, (t.ap 1).config.map (·.divider))) =
      some ([{ seq := 1, op := .aperture 1 (.setDivider 3), expiry := 0 }], some 1) := by decide
theorem test_aperture_modify_off :
    (nextOf (exec (.apertureModify (requestFor 0x13 [3, 5, 0, 3, 0])) work)).map
      (fun t => (t.changes.entries, (t.ap 3).config.map (·.divider))) = some ([], some 3) := by decide
theorem test_set_overflow_queued :
    (nextOf (exec (.setOverflow (requestFor 0x14 [0, 0, 0])) work)).map
      (fun t => ((t.ring 0).overflow, t.changes.entries.length)) = some (.overwriteOldest, 1) := by decide
theorem test_set_overflow_at_once :
    (nextOf (exec (.setOverflow (requestFor 0x14 [1, 1, 0])) work)).map
      (fun t => ((t.ring 1).overflow, t.changes.entries.length)) = some (.overwriteOldest, 0) := by decide
/-- The result of CANCEL_CHANGE is the kind, 8, and the target, slot 3 (R174). -/
theorem test_cancel_change :
    (nextOf (exec (.cancelChange (requestFor 0x18 [1]))
      (State.withEntry (work.setSlot 3 { work.slot 3 with retirePending := true }) (.retireSlot 3) 0))).map
      (fun t => ((t.slot 3).retirePending, t.changes.entries, t.link.response.map (·.words))) =
      some (false, [], some [0x0308]) := by decide

/-! ### Retention -/

theorem test_schedule_setup :
    (nextOf (exec (.scheduleSetup (requestFor 0x20 [0, 3, 64, 2, 1, 1])) work)).map (·.sched 0) =
      some { delay := 3, burst := 64, gap := 2, bursts := 1, start := .snap, state := .idle
             remaining := 0, burstsDone := 0 } := by decide
/-- A burst of 65 is out of range (R175). -/
theorem test_schedule_setup_range :
    (nextOf (exec (.scheduleSetup (requestFor 0x20 [0, 3, 65, 2, 1, 1])) work)).map
      (·.link.response.map (·.status)) = some (some .badArg) := by decide
theorem test_schedule_start :
    (nextOf (exec (.scheduleStart (requestFor 0x21 [0]))
      (work.setSched 0 { Schedule.atReset with burst := 3, burstsDone := 9 }))).map
      (fun t => ((t.sched 0).state, (t.sched 0).remaining, (t.sched 0).burstsDone)) =
      some (.retaining, 3, 0) := by decide
theorem test_schedule_stop :
    (nextOf (exec (.scheduleStop (requestFor 0x22 [0])) armed)).map
      (fun t => ((t.sched 0).state, t.notes.queue)) =
      some (.idle, [{ kind := .scheduleDone, ring := some 0, detail := 2 }]) := by decide
theorem test_release_oldest :
    (nextOf (exec (.release (requestFor 0x23 [0, 0, 0])) work)).map
      (fun t => ((t.ring 0).free, (t.ring 0).held, (t.slot 3).frame, t.link.response.map (·.words))) =
      some ([4, 3], [], none, some [1]) := by decide
/-- RELEASE FRAME of a held frame with a job is BUSY with result 0 (R112). -/
theorem test_release_frame_busy :
    (nextOf (exec (.release (requestFor 0x23 [0, 1, 1]))
      (work.setSlot 3 { work.slot 3 with jobs := 1 }))).map
      (fun t => ((t.ring 0).held, t.link.response.map fun r => (r.status, r.words))) =
      some ([3], some (.busy, [0])) := by decide

/-! ### Copy-out -/

/-- COPY of the held frame presents the first read at the slot's base and is granted (R122, R135). -/
theorem test_copy :
    (nextOf (exec (.copy (requestFor 0x28 [0, 1, 0x90000000, 4096, 0])) work)).map
      (fun t => ((t.slot 3).jobs, t.link.response.map (·.words),
        t.arbiter.port.map fun g => (g.claimant, g.txn.address, g.txn.beats))) =
      some (1, some [1], some (.copy, 0x10003000, 16)) := by decide
/-- A READY frame is NO_ENTRY (R119). -/
theorem test_copy_no_entry :
    (nextOf (exec (.copy (requestFor 0x28 [0, 2, 0x90000000, 8, 0])) work)).map
      (·.link.response.map (·.status)) = some (some .noEntry) := by decide
theorem test_copy_cancel_granted :
    (nextOf (exec (.copyCancel (requestFor 0x29 [1])) (copying .read 8))).map
      (fun t => t.copy.active.map (·.cancelled)) = some (some true) := by decide
theorem test_copy_share :
    (nextOf (exec (.copyShare (requestFor 0x2A [0])) fresh)).map (·.arbiter.share) = some 0 := by decide
/-- The data read goes out with the write claim for the destination (R123). -/
theorem test_copy_read_response :
    (nextOf (exec (.copyReadResponse okay) (copying .read 8))).map
      (fun t => t.arbiter.port.map fun g => (g.txn.kind, g.txn.address, g.txn.masks, g.txn.data)) =
      some (some (.write, 0x90000000, [0xFF], [9])) := by decide
theorem test_copy_read_fault :
    (nextOf (exec (.copyReadResponse faulty) (copying .read 8))).map
      (fun t => ((t.slot 3).jobs, t.notes.queue)) =
      some (0, [{ kind := .copyFailed, ring := some 0, slot := some 3, frame := some 1, tag := some 1
                  detail := 1 }]) := by decide
/-- The end of an auto_release job frees its slot, and COPY_DONE says so (R125, R15). -/
theorem test_copy_write_done :
    (nextOf (exec (.copyWriteResponse .okay) (copying .write 8))).map
      (fun t => ((t.ring 0).free, (t.ring 0).held, t.notes.queue)) =
      some ([4, 3], [],
        [{ kind := .copyDone, ring := some 0, slot := some 3, frame := some 1, tag := some 1
           detail := 1 }]) := by decide
theorem test_copy_write_goes_on :
    (nextOf (exec (.copyWriteResponse .okay) (copying .write 136))).map
      (fun t => (t.copy.active.map (·.job.doneBytes),
        t.arbiter.port.map fun g => (g.txn.kind, g.txn.address, g.txn.beats))) =
      some (some 128, some (.read, 0x10003080, 1)) := by decide

/-! ### Queries and notes -/

/-- QUERY_RING: ON, exponent 12, OVERWRITE_OLDEST, pool 5; producer 0, consumers 1 and 2, one free, two
ready; the lists 4, 1, 2, 3 (R180). -/
theorem test_query_ring :
    (nextOf (exec (.queryRing (requestFor 0x30 [0])) work)).map
      (fun t => t.link.response.map fun r => (r.words[0]?, r.words[2]?, r.words[4]?, r.words[5]?)) =
      some (some (some 0x05010C01, some 0x02010600, some 0x04010203, some 0xFFFFFFFF)) := by decide
/-- QUERY_SLOT of the held slot 3: state 4, ring 0, written and retained (R181). -/
theorem test_query_slot :
    (nextOf (exec (.querySlot { args := [3], check := 0xCB }) work)).map
      (fun t => t.link.response.bind (·.words[0]?)) = some (some 0x00050004) := by decide
/-- QUERY_APERTURE of the producer: its state WRITING, slot 0, count 0, nothing pending (R182). -/
theorem test_query_aperture :
    (nextOf (exec (.queryAperture (requestFor 0x32 [0])) work)).map
      (fun t => t.link.response.bind (·.words[5]?)) = some (some 0x00000002) := by decide
/-- One entry of one; next seq 2; seq 1, kind 8, target 3 (R183). -/
theorem test_query_changes :
    (nextOf (exec (.queryChanges (requestFor 0x33 [0])) (State.withEntry work (.retireSlot 3) 0))).map
      (fun t => t.link.response.map fun r => (r.words[0]?, r.words[1]?, r.words.length)) =
      some (some (some 0x00020101, some 0x03080001, 5)) := by decide
theorem test_query_jobs :
    (nextOf (exec (.queryJobs (requestFor 0x34 [])) (copying .read 8))).map
      (fun t => t.link.response.map (·.status)) = some (some .done) := by decide

/-- Two notes waiting. -/
def noted : State :=
  { work with notes :=
    { work.notes with
      lost := true
      queue :=
        [{ kind := .frameHeld, ring := some 0, slot := some 3, frame := some 1 },
         { kind := .scheduleDone, ring := some 0, detail := 2 }] } }

/-- A queue of `n` notes. -/
def crowdedNotes (n : Nat) : State :=
  { work with notes :=
    { work.notes with queue := List.replicate n { kind := .frameHeld, ring := some 0 } } }

/-- READ_NOTES returns FRAME_HELD (10) of ring 0 and slot 3, removes it and clears NOTES_LOST (R164,
R185). -/
theorem test_read_notes :
    (nextOf (exec (.readNotes (requestFor 0x38 [1])) noted)).map
      (fun t => (t.notes.queue.length, t.notes.lost, t.link.response.map (·.words))) =
      some (1, false, some [1, 0x03FF000A, 1, 0]) := by decide
/-- A 32nd note joins the queue; a 33rd is lost; a masked one is neither (R162, R163). -/
theorem test_notes_overflow :
    [(31, NoteKind.frameHeld), (32, .frameHeld), (32, .framePublished)].map (fun x =>
      let t := (crowdedNotes x.1).raise { kind := x.2 }
      (t.notes.queue.length, t.notes.lost)) = [(32, false), (32, true), (32, false)] := by decide
/-- ATTN: notes and the enable (R166). -/
theorem test_attn :
    noted.attn = true ∧ work.attn = false ∧
      ({ noted with notes := { noted.notes with attnEnable := false } } : State).attn = false := by decide
theorem test_note_mask :
    (nextOf (exec (.noteMask (requestFor 0x39 [0x7FFFF, 0])) fresh)).map
      (fun t => (t.notes.mask, t.notes.attnEnable)) = some (0x7FFFF, false) := by decide

/-! ### Pins and clock -/

theorem test_power_on :
    (nextOf (exec (.powerOnReset { frameA := false, frameB := true, snap := false } true) work)).map
      (fun t => (t.lines.levelB, t.link.selLow, (t.ring 0).pool)) = some (true, true, 0) := by decide
/-- A falling edge of FRAMEA is a boundary for the three apertures that select line A (R89). -/
theorem test_boundary_event :
    (nextOf (exec (.boundaryEvent .a false [])
      { written with lines := { written.lines with levelA := true } })).map
      (fun t => (t.lines.levelA, (t.ap 0).state, (t.ap 1).state)) =
      some (false, .bound 4, .bound 0) := by decide
theorem test_boundary_event_rising :
    (nextOf (exec (.boundaryEvent .a true []) written)).map
      (fun t => (t.lines.levelA, (t.ap 0).state)) = some (true, .bound 0) := by decide
theorem test_pending_boundary_run :
    (nextOf (exec (.pendingBoundaryRun 0) (written.setAp 0 { written.ap 0 with deferred := true }))).map
      (fun t => ((t.ap 0).deferred, (t.ring 0).ready)) = some (false, [1, 0]) := by decide
theorem test_refclk_period :
    (nextOf (exec .refclkPeriod { fresh with lines := { fresh.lines with divisor := 3, periods := 1 } })).map
      (·.lines.periods) = some 2 := by decide
theorem test_tick :
    (nextOf (exec .tick (stalled 5))).map (·.steering.phase) =
      some (.stalled (rd 0x80002000) 2 0x80002000 (some 4)) := by decide
theorem test_stall_timeout :
    (nextOf (exec .stallTimeout (stalled 0))).map
      (fun t => (t.steering.phase, (t.ap 2).state, t.notes.queue)) =
      some (.opened, .unbound,
        [{ kind := .consumerTimeout, ring := some 0, aperture := some 2, frame := some 0x80002000
           detail := 0 }]) := by decide
theorem test_lock_expiry :
    (nextOf (exec .lockExpiry (locked 0))).map (fun t => (t.steering.lock, t.notes.queue)) =
      some (.closed, [{ kind := .lockExpired, ring := some 0, aperture := some 0, detail := 0 }]) := by
  decide

/-! ### Buses -/

/-- A write to the producer's window goes to its slot's region and marks it written (R33). -/
theorem test_a_side_translated :
    (nextOf (exec (.aSideTransaction (wr 0x80000008)) work)).map
      (fun t => ((t.slot 0).written, t.arbiter.port.map (·.txn.address))) =
      some (true, some 0x10000008) := by decide
/-- A write to a consumer is answered FAULT with ACCESS_FAULT, cause ROLE (R32). -/
theorem test_a_side_role :
    (nextOf (exec (.aSideTransaction (wr 0x80001000)) work)).map
      (fun t => (t.aOut.map (·.outcome), t.notes.queue)) =
      some ([.fault],
        [{ kind := .accessFault, ring := some 0, aperture := some 1, slot := some 1
           frame := some 0x80001000, detail := 0x300 }]) := by decide
/-- Memory's FAULT to a translated write marks the slot faulted (R38). -/
theorem test_steering_response_fault :
    (nextOf (exec (.steeringResponse faulty []) flying)).map
      (fun t => ((t.slot 0).faulted, t.aOut.map (·.outcome), t.notes.queue)) =
      some (true, [.fault],
        [{ kind := .memoryFault, ring := some 0, aperture := some 0, slot := some 0, frame := some 4
           detail := 0x100 }]) := by decide
/-- The response that lets a pending boundary go on: frame 4 is published before the transaction that
waits is accepted, which goes to the slot bound for frame 5 (R55, R136). -/
theorem test_steering_response_okay :
    (nextOf (exec (.steeringResponse okay [])
      { flying.setAp 0 { flying.ap 0 with deferred := true } with
        steering := { flying.steering with waiting := [wr 0x80000010] } })).map
      (fun t => ((t.ring 0).ready, (t.slot 4).frame, t.arbiter.port.map (·.txn.address),
        t.aOut.map (·.data))) = some ([1, 0], some 5, some 0x10004010, [[9]]) := by decide

/-! ### The queue -/

theorem test_step_takes_the_front :
    (nextOf (step { State.reset with pending := [.selFall, .tick] })).map
      (fun t => (t.link.phase, t.pending)) = some (.request, [.tick]) := by decide
theorem test_step_idles : nextOf (step State.reset) = some State.reset := by decide

/-! ### Hypotheses that concrete states meet -/

theorem actsNow_of {s : State} {a : ApId} {c : ApConfig}
    (h : s.apOn a = true ∧ (s.ap a).config = some c ∧ (s.ap a).count + 1 = c.divider ∧
      (s.ap a).deferred = false ∧ s.inFlightThrough a = false ∧ s.lockedThrough a = false) :
    s.ActsNow a c :=
  ⟨h.1, h.2.1, h.2.2.1, h.2.2.2.1, h.2.2.2.2.1, h.2.2.2.2.2⟩

theorem not_windowFree {s : State} {base : Addr} {size : Nat}
    (h : s.windowFreeCheck base size = false) : ¬ s.WindowFree base size := by
  rw [← windowFree_iff, h]; simp

theorem not_moveFree {s : State} {a : ApId} {base : Addr} {size : Nat}
    (h : s.moveFreeCheck a base size = false) : ¬ s.MoveFree a base size := by
  rw [← moveFree_iff, h]; simp

theorem not_touches {s : State} {t : Txn} (h : ∀ a, s.touchesCheck t a = false) (a : ApId) :
    ¬ s.touches t a := by
  rw [← touches_iff, h a]; simp

theorem noRetirements_of {s : State}
    (h : (s.changes.entries.all fun e => match e.op with | .retireSlot _ => false | _ => true) = true) :
    s.NoRetirements := by
  intro e he sl hs
  have := List.all_eq_true.1 h e he
  simp [hs] at this

theorem not_selects {s : State} {line : FrameLine} {a : ApId}
    (h : s.selectsCheck line a = false) : ¬ s.selects line a := by
  rw [← selects_iff, h]; simp

/-- The rejected entries that a statement names are a function: this one. -/
theorem rejected_exists (s : State) (a : ApId) (c : ApConfig) :
    ∃ rejected : Change → Bool, ∀ e, rejected e = true ↔ s.Rejects a c e :=
  ⟨s.rejectsCheck a c, rejects_iff s a c⟩

/-- The part with these entries waiting, oldest first, each with its expiry. -/
def queue (s : State) (es : List (ChangeOp × Nat)) : State :=
  { s with changes :=
    { entries := es.zipIdx.map fun x => { seq := x.2 + 1, op := x.1.1, expiry := x.1.2 }
      nextSeq := es.length + 1 } }

/-! ### Witnesses: the machine, the link, lines and clock -/

theorem witness_StepTakesTheFront : State.reset.pending = [] := by decide

theorem witness_ResetCoreResetsTheBlocks :
    (flying.link.phase = .request ∧ flying.arbiter.port.isSome = true ∧
      flying.steering.phase =
        .inFlight (wr 0x80000008) (some { ap := 0, ring := 0, slot := 0, frame := some 4 })) ∧
    ((stalled 3).link.phase = .request ∧
      (stalled 3).steering.phase = .stalled (rd 0x80002000) 2 0x80002000 (some 3) ∧
      (stalled 3).steering.waiting = []) ∧
    (fresh.link.phase = .request ∧ fresh.steering.phase = .opened ∧ fresh.steering.waiting = []) := by
  decide

theorem witness_ExchangesFollowThePhases :
    State.reset.link.selLow = false ∧ fresh.link.selLow = true ∧
      (answering.link.phase = .answer ∧
        answering.link.response = some { status := .done, flags := 0x10, words := [] }) ∧
      State.reset.link.phase ≠ .answer := by decide

theorem witness_ExchangesFollowThePhases_rise :
    fresh.link.phase = .request ∧ answering.link.phase = .answer ∧
      State.reset.link.phase = .idle ∧
      ({ fresh with link := { fresh.link with phase := .spent } } : State).link.phase = .spent ∧
      0 < 1 := by decide

theorem witness_RequestsSpellTheirCommands :
    (Instr.linkCommand (.ringOn (requestFor 0x09 [2])) = some (0x09, requestFor 0x09 [2]) ∧
      (∀ q l, Instr.ringOn (requestFor 0x09 [2]) = .resetCore q l → l = levels) ∧
      ∀ q o, Instr.ringOn (requestFor 0x09 [2]) = .boundary q o → o = []) ∧
    (∀ q l, Instr.resetCore (requestFor 0x02 []) levels = .resetCore q l → l = levels) ∧
    (∀ q o, Instr.boundary (requestFor 0x05 [0]) [] = .boundary q o → o = []) ∧
    (commandCodes.contains (0x07 : Byte) = false ∧ commandCodes.contains (0xFF : Byte) = false ∧
      (requestFor 0x07 [0, 0, 0, 0, 0, 0]).args.length ≤ 6) ∧
    (6 < (7 : Byte).toNat ∧ 6 < (255 : Byte).toNat) ∧
    ((readRequest levels [] [0x09, 1, 0, 0, 0, 2, 0xF4]).isSome = true ∧ [(0 : Byte)] ≠ []) ∧
    readRequest levels [] [0x09, 7] = some (.excessArgumentCount 0x09 7) :=
  ⟨⟨rfl, nofun, nofun⟩, fun _ _ h => by cases h; rfl, fun _ _ h => by cases h; rfl, by decide,
    by decide, by decide, by decide⟩

theorem witness_UnreadableRequestsAreRefused :
    fresh.link.phase = .request ∧ (6 < (7 : Byte).toNat ∧ 6 < (255 : Byte).toNat) ∧
    (Instr.linkCommand (.ringOn { args := [2], check := 0 }) =
        some (0x09, { args := [2], check := 0 }) ∧
      byteSum (requestBytes 0x09 { args := [2], check := 0 }) ≠ 0) ∧
    (Instr.linkCommand (.ringOn (requestFor 0x09 [4])) = some (0x09, requestFor 0x09 [4]) ∧
      byteSum (requestBytes 0x09 (requestFor 0x09 [4])) = 0 ∧
      argsInRange (0x09 : Byte).toNat ((requestFor 0x09 [4]).args.map (·.toNat)) = false) ∧
    (commandCodes.contains (0x07 : Byte) = false ∧ commandCodes.contains (0xFF : Byte) = false ∧
      (requestFor 0x07 [0, 0, 0, 0, 0, 0]).args.length ≤ 6) ∧
    State.reset.link.phase ≠ .request := by decide

theorem witness_ResponseBytesAreFramed :
    ((List.replicate 30 (0 : Word)).length ≤ 30 ∧ (List.replicate 30 (0 : Word))[29]? = some 0) ∧
    fresh.link.phase ≠ .answer ∧
    (answering.link.phase = .answer ∧
      answering.link.response = some { status := .done, flags := 0x10, words := [] }) ∧
    Response.bytes { status := .done, flags := 0x10, words := [] } = [0x00, 0x10, 0x00, 0xF0] := by
  decide

theorem witness_RefusalChangesOnlyTheLink :
    ∃ t r, Instr.linkCommand (.ringOn (requestFor 0x09 [0])) = some (0x09, requestFor 0x09 [0]) ∧
      fresh.link.phase = .request ∧ exec (.ringOn (requestFor 0x09 [0])) fresh = .next t ∧
      t.link.response = some r ∧ r.status ≠ .done ∧ r.status ≠ .queued :=
  ⟨_, { status := .wrongState, flags := 0x10, words := [] }, rfl, rfl, rfl, by decide, by decide,
    by decide⟩

theorem witness_SettingsChangeByTheirCommandsAlone :
    fresh.link.phase = .request ∧ (1 ≤ 1 ∧ 1 ≤ 1024) ∧ (1 ≤ 1024 ∧ 1024 ≤ 1024) ∧ 15 ≤ 15 := by decide

theorem witness_SettingsChangeByTheirCommandsAlone_others :
    ∃ t, exec .tick fresh = .next t ∧ (∀ req levels, Instr.tick ≠ .resetCore req levels) ∧
      (∀ levels selLow, Instr.tick ≠ .powerOnReset levels selLow) ∧
      (∀ req, Instr.tick ≠ .noteMask req) ∧ (∀ req, Instr.tick ≠ .copyShare req) ∧
      (∀ req, Instr.tick ≠ .timebase req) ∧ (∀ req, Instr.tick ≠ .lineSetup req) :=
  ⟨_, rfl, nofun, nofun, nofun, nofun, nofun, nofun⟩

/-- A divisor of 2 with no period counted, and with one. -/
def halfway (n : Nat) : State := { fresh with lines := { fresh.lines with divisor := 2, periods := n } }

theorem witness_TimersCountDownAndRunOut :
    (halfway 0).lines.periods + 1 < (halfway 0).lines.divisor ∧
    (halfway 1).lines.divisor ≤ (halfway 1).lines.periods + 1 ∧
    ((stalled 1).lines.divisor ≤ (stalled 1).lines.periods + 1 ∧
      (stalled 1).steering.phase = .stalled (rd 0x80002000) 2 0x80002000 (some 1)) ∧
    ((locked 64).lines.divisor ≤ (locked 64).lines.periods + 1 ∧
      (locked 64).steering.lock = .opened (some 0) 0 (some 64)) := by decide

theorem witness_TimersCountDownAndRunOut_without :
    (∀ x a base n, fresh.steering.phase ≠ .stalled x a base (some n)) ∧
      ∀ o src n, fresh.steering.lock ≠ .opened o src (some n) :=
  ⟨(fun x a base n h => nomatch (show SteeringPhase.opened = .stalled x a base (some n) from h)),
    (fun o src n h => nomatch (show LockWindow.closed = .opened o src (some n) from h))⟩

theorem witness_SnapEventActsOnEverySchedule :
    fresh.link.phase = .request ∧
      (Edge.falling.isActive true false = true ∧ Edge.falling.isActive false false = false) := by decide

/-- The ring at work with its producer alone. -/
def solo : State :=
  ((work.setRing 0 { work.ring 0 with consumers := 0 }).setAp 1
    { config := some cc, state := .off, count := 0, deferred := false }).setAp 2
    { config := some oc, state := .off, count := 0, deferred := false }

theorem witness_BoundaryCommandActsAsAnEdge :
    fresh.link.phase = .request ∧
    (∃ (target : Word) (lines : Lines), target = (match FrameLine.b with | .a => 8 | .b => 9) ∧
      true = (match FrameLine.b with
        | .a => fresh.lines.edgeA.isActive true false
        | .b => ({ fresh.lines with levelB := true }).edgeB.isActive true false) ∧
      lines = { fresh.lines with levelB := false }) ∧
    (false = fresh.lines.edgeA.isActive fresh.lines.levelA true) ∧
    (∀ b, ¬ fresh.selects .a b) ∧
    (solo.link.phase = .request ∧ solo.selects .a 0 ∧ ∀ b, b ≠ 0 → ¬ solo.selects .a b) :=
  ⟨by decide, ⟨9, _, by decide, by decide, rfl⟩, by decide,
    fun b => not_selects ((by decide : ∀ b : ApId, fresh.selectsCheck .a b = false) b), by decide,
    (selects_iff _ _ _).1 (by decide),
    fun b n => not_selects ((by decide : ∀ b : ApId, b ≠ 0 → solo.selectsCheck .a b = false) b n)⟩

/-- Three apertures that select line A, the consumers first in the operand. -/
theorem witness_BoundaryCommandActsAsAnEdge_several :
    written.link.phase = .request ∧ (∀ a ∈ ([0, 1, 2] : List ApId), written.selects .a a) ∧
      ([2, 1] : List ApId).eraseDups ++ allAps.filter (fun a => decide (a ∉ ([2, 1] : List ApId))) =
        [2, 1, 0, 3, 4, 5, 6, 7] :=
  ⟨by decide, fun a h => (selects_iff _ _ _).1
    ((by decide : ∀ a ∈ ([0, 1, 2] : List ApId), written.selectsCheck .a a = true) a h), by decide⟩

/-! ### Witnesses: boundaries -/

/-- The producer counts two boundaries to act. -/
def everySecond : State :=
  work.setAp 0 { work.ap 0 with config := some { pc with divider := 2 } }

/-- A boundary pending behind the transaction in flight. -/
def waitingBoundary : State := flying.setAp 0 { flying.ap 0 with deferred := true }

theorem witness_BoundariesCountDeferAndMerge :
    (work.link.phase = .request ∧ work.apOn 3 = false) ∧
    (everySecond.Settled ∧ everySecond.apOn 0 = true ∧
      (everySecond.ap 0).config = some { pc with divider := 2 } ∧ (everySecond.ap 0).count + 1 ≠ 2) ∧
    (flying.Settled ∧ flying.apOn 0 = true ∧ (flying.ap 0).config = some pc ∧
      (flying.ap 0).count + 1 = pc.divider ∧ (flying.ap 0).deferred = false ∧
      flying.inFlightThrough 0 = true) ∧
    ((locked 5).Settled ∧ (locked 5).apOn 0 = true ∧ ((locked 5).ap 0).config = some pc ∧
      ((locked 5).ap 0).count + 1 = pc.divider ∧ (locked 5).lockedThrough 0 = true) ∧
    (waitingBoundary.Settled ∧ waitingBoundary.apOn 0 = true ∧
      (waitingBoundary.ap 0).config = some pc ∧ (waitingBoundary.ap 0).count + 1 = pc.divider ∧
      (waitingBoundary.ap 0).deferred = true) :=
  ⟨by decide, ⟨settled_of_check (by decide), by decide, by decide, by decide⟩,
    ⟨settled_of_check (by decide), by decide, by decide, by decide, by decide, by decide⟩,
    ⟨settled_of_check (by decide), by decide, by decide, by decide, by decide⟩,
    ⟨settled_of_check (by decide), by decide, by decide, by decide, by decide⟩⟩

theorem witness_BoundaryPublishesTheWrittenSlot :
    written.link.phase = .request ∧ written.Settled ∧ written.Placed ∧ written.ActsNow 0 pc ∧
      pc.role = .producer ∧ (written.ap 0).state = .bound 0 ∧ (written.slot 0).written = true ∧
      (written.slot 0).retained = false ∧ (∀ e ∈ written.changes.entries, e.op ≠ .aperture 0 .detach) :=
  ⟨by decide, settled_of_check (by decide), placed_of_check (by decide), actsNow_of (by decide),
    by decide, by decide, by decide, by decide, by decide⟩

/-- The same with a DETACH of the producer waiting. -/
def leaving : State := State.withEntry written (.aperture 0 .detach) 0

theorem witness_BoundaryPublishesTheWrittenSlot_detach :
    leaving.link.phase = .request ∧ leaving.Settled ∧ leaving.Placed ∧ leaving.ActsNow 0 pc ∧
      (leaving.slot 0).written = true ∧ (leaving.slot 0).retained = false ∧
      leaving.changes.entries = [{ seq := 1, op := .aperture 0 .detach, expiry := 0 }] :=
  ⟨by decide, settled_of_check (by decide), placed_of_check (by decide), actsNow_of (by decide),
    by decide, by decide, by decide⟩

/-- The pool guard at its boundary: 2 set aside of a pool of 5 pass it, and 3 do not. -/
theorem witness_BoundaryPublishesTheWrittenSlot_retaining :
    ∀ s ∈ [(retaining, 2), (guarded, 3)],
      s.1.link.phase = .request ∧ s.1.Settled ∧ s.1.Placed ∧ s.1.ActsNow 0 pc ∧
        (s.1.slot 0).written = true ∧ (s.1.slot 0).retained = false ∧
        (s.1.sched 0).state = .retaining ∧ (s.1.ring 0).pool = 5 ∧
        (s.1.ring 0).held.length +
          ((s.1.ring 0).ready.filter fun x => (s.1.slot x).retained).length = s.2 := by
  intro s h
  simp only [List.mem_cons, List.not_mem_nil, or_false] at h
  rcases h with rfl | rfl <;>
    exact ⟨by decide, settled_of_check (by decide), placed_of_check (by decide),
      actsNow_of (by decide), by decide, by decide, by decide, by decide, by decide⟩

/-- A READY slot that the publish reclaims: unheld, passed, and older than the slot published; with its
frame retained and without. -/
def passing (keep : Bool) : State := written.setSlot 2 { written.slot 2 with retained := keep }

theorem passed_by_ordered : ∀ b : ApId, ApSet.has (written.ring 0).consumers b = true →
    (written.ap b).config.map (·.pick) = some .ordered → ApSet.has (written.slot 2).passedBy b = true := by
  decide

theorem witness_BoundaryPublishesTheWrittenSlot_reclaimed (keep : Bool) :
    (passing keep).link.phase = .request ∧ (passing keep).Settled ∧ (passing keep).Placed ∧
      (passing keep).ActsNow 0 pc ∧ ((passing keep).ap 0).state = .bound 0 ∧
      ((passing keep).slot 0).written = true ∧ ((passing keep).slot 0).retained = false ∧
      (passing keep).NoRetirements ∧ 2 ∈ ((passing keep).ring 0).ready ∧
      ((passing keep).slot 2).retained = keep ∧ ((passing keep).slot 2).holders = 0 := by
  cases keep <;>
    exact ⟨by decide, settled_of_check (by decide), placed_of_check (by decide),
      actsNow_of (by decide), by decide, by decide, by decide, noRetirements_of (by decide),
      by decide, by decide, by decide⟩

/-- Consumer 1 VIEWING the newest slot, under REPEAT and under STRICT; consumer 2, ORDERED, VIEWING slot 1
with slot 2 not passed. -/
def upToDate (onEmpty : OnEmpty) : State :=
  ((work.setAp 1
    { work.ap 1 with config := some { cc with onEmpty := onEmpty }, state := .bound 2 }).setSlot 1
    { work.slot 1 with holders := 0 }).setSlot 2 { work.slot 2 with holders := 2 }
def behind : State :=
  ((work.setAp 2 { work.ap 2 with state := .bound 1 }).setSlot 1
    { work.slot 1 with holders := 6 }).setSlot 2 { work.slot 2 with passedBy := 0 }

/-- The written slot with an empty free list: the ORDERED consumer WAITING, or VIEWING slot 1, so that the
publish reclaims neither READY slot; under this policy. -/
def cramped (viewing : Bool) (policy : Overflow) : State :=
  (((((if viewing then behind else work).setRing 0
    { work.ring 0 with free := [], overflow := policy, pool := 4 }).setSlot 4 Slot.unassigned).setSlot 2
    { work.slot 2 with passedBy := 0 }).setSlot 0 { work.slot 0 with written := true })

/-- A READY slot that a bind after the publish of a slot can steal (R64), evaluated. -/
def stealable (s : State) (r : RingId) (sl y : SlotId) : Bool :=
  decide ((s.slot y).holders = 0 ∧ (s.slot y).retained = false ∧ y ≠ sl) &&
  decide (∀ b : ApId, ApSet.has (s.ring r).consumers b = true → ((s.ap b).config.all fun d =>
    decide (d.pick = .ordered → (s.ap b).state = .unbound →
      ((s.ring r).ready ++ [sl]).find? (fun x => !ApSet.has (s.slot x).passedBy b) ≠ some y)) = true)

theorem stealable_iff (s : State) (r : RingId) (sl y : SlotId) :
    stealable s r sl y = true ↔
      (s.slot y).holders = 0 ∧ (s.slot y).retained = false ∧ y ≠ sl ∧
      ∀ b d, ApSet.has (s.ring r).consumers b = true → (s.ap b).config = some d →
        d.pick = .ordered → (s.ap b).state = .unbound →
          ((s.ring r).ready ++ [sl]).find? (fun x => !ApSet.has (s.slot x).passedBy b) ≠ some y := by
  simp only [stealable, Bool.and_eq_true, decide_eq_true_eq, and_assoc]
  refine and_congr_right fun _ => and_congr_right fun _ => and_congr_right fun _ =>
    ⟨fun h b d hb hd => ?_, fun h b hb => ?_⟩
  · exact of_decide_eq_true (all_of_all (h b hb) d hd)
  · cases hd : (s.ap b).config with
    | none => rfl
    | some d => exact decide_eq_true (h b d hb hd)

/-- The bind that follows a publish with the free list empty: slot 2 stolen; and STARVED, under DROP_NEW,
and under OVERWRITE_OLDEST with slot 2 acquired at the publish. -/
theorem witness_BoundaryPublishesTheWrittenSlot_empty :
    (∀ viewing policy,
      (cramped viewing policy).link.phase = .request ∧ (cramped viewing policy).Settled ∧
        (cramped viewing policy).Placed ∧ (cramped viewing policy).ActsNow 0 pc ∧
        ((cramped viewing policy).ap 0).state = .bound 0 ∧
        ((cramped viewing policy).slot 0).written = true ∧
        ((cramped viewing policy).slot 0).retained = false ∧ (cramped viewing policy).NoRetirements ∧
        ((cramped viewing policy).ring 0).free = [] ∧
        ∀ y ∈ ((cramped viewing policy).ring 0).ready, ((cramped viewing policy).slot y).holders ≠ 0 ∨
          ApSet.has ((cramped viewing policy).ring 0).consumers 2 = true ∧
            ((cramped viewing policy).ap 2).config = some oc ∧
            ApSet.has ((cramped viewing policy).slot y).passedBy 2 = false) ∧
    ([1, 2, 0].find? (stealable (cramped true .overwriteOldest) 0 0) = some 2 ∧
      ((cramped true .overwriteOldest).ring 0).overflow = .overwriteOldest) ∧
    ([1, 2, 0].find? (stealable (cramped false .overwriteOldest) 0 0) = none ∧
      ((cramped false .overwriteOldest).ring 0).overflow = .overwriteOldest) ∧
    ((cramped true .dropNew).ring 0).overflow = .dropNew := by
  refine ⟨fun viewing policy => ?_, by decide, by decide, by decide⟩
  cases viewing <;> cases policy <;>
    exact ⟨by decide, settled_of_check (by decide), placed_of_check (by decide),
      actsNow_of (by decide), by decide, by decide, by decide, noRetirements_of (by decide),
      by decide, by decide⟩

/-- The same with the second consumer NEWEST. -/
def twoNewest : State := written.setAp 2 { written.ap 2 with config := some { oc with pick := .newest } }

theorem witness_WaitingConsumersAcquireAtPublish :
    (written.link.phase = .request ∧ written.Settled ∧ written.Placed ∧ written.ActsNow 0 pc ∧
      pc.role = .producer ∧ (written.ap 0).state = .bound 0 ∧ (written.slot 0).written = true ∧
      (written.slot 0).passedBy = 0) ∧
    ((written.ap 2).config = some oc ∧ oc.role = .consumer ∧ oc.ring = pc.ring ∧
      written.apOn 2 = true ∧ (written.ap 2).state = .unbound ∧ oc.pick = .ordered) ∧
    ((written.ap 1).config = some cc ∧ written.apOn 1 = true ∧ (written.ap 1).state = .bound 1) :=
  ⟨⟨by decide, settled_of_check (by decide), placed_of_check (by decide), actsNow_of (by decide),
    by decide, by decide, by decide, by decide⟩, by decide, by decide⟩

theorem witness_WaitingConsumersAcquireAtPublish_newest :
    twoNewest.link.phase = .request ∧ twoNewest.Settled ∧ twoNewest.Placed ∧ twoNewest.ActsNow 0 pc ∧
      (twoNewest.ap 0).state = .bound 0 ∧ (twoNewest.slot 0).written = true ∧
      (twoNewest.slot 0).passedBy = 0 ∧ (twoNewest.ap 2).config = some { oc with pick := .newest } ∧
      twoNewest.apOn 2 = true ∧ (twoNewest.ap 2).state = .unbound :=
  ⟨by decide, settled_of_check (by decide), placed_of_check (by decide), actsNow_of (by decide),
    by decide, by decide, by decide, by decide, by decide, by decide⟩

theorem witness_WaitingConsumersAcquireAtPublish_stalled :
    stalledAtPublish.link.phase = .request ∧ stalledAtPublish.Settled ∧ stalledAtPublish.Placed ∧
      stalledAtPublish.ActsNow 0 pc ∧ (stalledAtPublish.ap 0).state = .bound 0 ∧
      (stalledAtPublish.slot 0).written = true ∧ (stalledAtPublish.slot 0).passedBy = 0 ∧
      (stalledAtPublish.ap 2).config = some oc ∧ stalledAtPublish.apOn 2 = true ∧
      (stalledAtPublish.ap 2).state = .unbound ∧
      stalledAtPublish.steering.phase = .stalled (rd 0x80002000) 2 0x80002000 (some 3) ∧
      takeThrough 0 ((stalledAtPublish.ring 0).ready ++ [0]) = [1, 2, 0] :=
  ⟨by decide, settled_of_check (by decide), placed_of_check (by decide), actsNow_of (by decide),
    by decide, by decide, by decide, by decide, by decide, by decide, by decide, by decide⟩

theorem witness_EmptyBoundaryRebindsTheSlot :
    work.link.phase = .request ∧ work.Settled ∧ work.ActsNow 0 pc ∧ pc.role = .producer ∧
      (work.ap 0).state = .bound 0 ∧ (work.slot 0).written = false ∧ work.changes.entries = [] ∧
      (work.sched pc.ring).state = .idle :=
  ⟨by decide, settled_of_check (by decide), actsNow_of (by decide), by decide, by decide, by decide,
    by decide, by decide⟩

/-- Schedules at the boundary values of the clauses: IDLE, ARMED, DELAY and GAP with 1 and 2 left, an open
burst, a burst with 2 left, and the end of a burst with the last burst done, with a gap, and without. -/
def schedules : List Schedule :=
  [Schedule.atReset, { Schedule.atReset with start := .snap, state := .armed },
   { Schedule.atReset with delay := 2, burst := 2, state := .delay, remaining := 1 },
   { Schedule.atReset with delay := 2, burst := 2, state := .delay, remaining := 2 },
   { Schedule.atReset with gap := 2, burst := 2, state := .gap, remaining := 1 },
   { Schedule.atReset with gap := 2, burst := 2, state := .gap, remaining := 2 },
   { Schedule.atReset with state := .retaining },
   { Schedule.atReset with burst := 2, state := .retaining, remaining := 2 },
   { Schedule.atReset with burst := 2, bursts := 1, state := .retaining, remaining := 1 },
   { Schedule.atReset with burst := 2, gap := 1, state := .retaining, remaining := 1 },
   { Schedule.atReset with burst := 2, state := .retaining, remaining := 1 }]

theorem schedules_settled : ∀ x ∈ schedules, (written.setSched 0 x).settledCheck = true := by decide
theorem schedules_act : ∀ x ∈ schedules,
    (written.setSched 0 x).link.phase = .request ∧ (written.setSched 0 x).sched 0 = x ∧
    (written.setSched 0 x).apOn 0 = true ∧ ((written.setSched 0 x).ap 0).config = some pc ∧
      ((written.setSched 0 x).ap 0).count + 1 = pc.divider ∧
      ((written.setSched 0 x).ap 0).deferred = false ∧
      (written.setSched 0 x).inFlightThrough 0 = false ∧
      (written.setSched 0 x).lockedThrough 0 = false := by decide

theorem witness_ScheduleCountsProducerBoundaries (x : Schedule) (h : x ∈ schedules) :
    (written.setSched 0 x).link.phase = .request ∧ (written.setSched 0 x).Settled ∧
      (written.setSched 0 x).ActsNow 0 pc ∧ (written.setSched 0 x).sched 0 = x :=
  ⟨(schedules_act x h).1, settled_of_check (schedules_settled x h),
    actsNow_of (schedules_act x h).2.2, (schedules_act x h).2.1⟩

theorem witness_ConsumerBoundaryPicks :
    (work.link.phase = .request ∧ work.Settled ∧ work.ActsNow 2 oc ∧ oc.role = .consumer ∧
      work.NoEntriesFor 2 ∧ (work.ap 2).state = .unbound) ∧
    (work.ActsNow 1 cc ∧ work.NoEntriesFor 1 ∧ (work.ap 1).state = .bound 1 ∧
      (work.ring 0).ready.getLast? = some 2) ∧
    ((upToDate .repeatFrame).Settled ∧ (upToDate .repeatFrame).ActsNow 1 cc ∧
      ((upToDate .repeatFrame).ap 1).state = .bound 2 ∧
      ((upToDate .repeatFrame).ring 0).ready.getLast? = some 2) ∧
    ((upToDate .strict).Settled ∧ (upToDate .strict).ActsNow 1 { cc with onEmpty := .strict } ∧
      ((upToDate .strict).ap 1).state = .bound 2) ∧
    (behind.Settled ∧ behind.Placed ∧ behind.ActsNow 2 oc ∧ (behind.ap 2).state = .bound 1 ∧
      (behind.ring 0).ready.find? (fun x => !ApSet.has (behind.slot x).passedBy 2) = some 2) :=
  ⟨⟨by decide, settled_of_check (by decide), actsNow_of (by decide), by decide,
      noEntriesFor_of_check (by decide), by decide⟩,
    ⟨actsNow_of (by decide), noEntriesFor_of_check (by decide), by decide, by decide⟩,
    ⟨settled_of_check (by decide), actsNow_of (by decide), by decide, by decide⟩,
    ⟨settled_of_check (by decide), actsNow_of (by decide), by decide⟩,
    ⟨settled_of_check (by decide), placed_of_check (by decide), actsNow_of (by decide), by decide,
      by decide⟩⟩

/-- Consumer 1 moves from slot 1 to slot 2; slot 1 is then unheld, passed and not the newest. Under STRICT
it gives slot 2 up where slot 1 is not passed. -/
theorem witness_ConsumerBoundaryPicks_reclaimed :
    (work.Placed ∧ work.PromptlyReclaimed ∧ work.NoRetirements ∧ 1 ∈ (work.ring 0).ready ∧
      (work.ring 0).ready.getLast? ≠ some 1 ∧ ApSet.erase (work.slot 1).holders 1 = 0 ∧
      ApSet.has (work.slot 1).passedBy 2 = true) ∧
    ∃ s : State, s.link.phase = .request ∧ s.Settled ∧ s.Placed ∧ s.PromptlyReclaimed ∧
      s.ActsNow 1 { cc with onEmpty := .strict } ∧ s.NoEntriesFor 1 ∧ (s.ap 1).state = .bound 2 ∧
      (s.ring 0).ready.getLast? = some 2 :=
  ⟨⟨placed_of_check (by decide), prompt_of_check (by decide), noRetirements_of (by decide),
      by decide, by decide, by decide, by decide⟩,
    (upToDate .strict).setSlot 1 { (upToDate .strict).slot 1 with passedBy := 0 }, by decide,
    settled_of_check (by decide), placed_of_check (by decide), prompt_of_check (by decide),
    actsNow_of (by decide), noEntriesFor_of_check (by decide), by decide, by decide⟩

/-! ### Witnesses: rings and slots -/

theorem witness_RingSetupAndOn :
    fresh.link.phase = .request ∧ (12 ≤ 12 ∧ 12 ≤ 24) ∧ (12 ≤ 24 ∧ 24 ≤ 24) ∧
    (ringOn.ring 0).on = true ∧
    ((ringOff.ring 0).on = false ∧ (ringOff.ring 0).slotSize = some 12 ∧ 12 ≠ 13 ∧
      (ringOff.ring 0).pool ≠ 0) ∧
    ((fresh.ring 0).on = false ∧ (fresh.ring 0).slotSize = none) ∧
    ((ringOff.ring 0).slotSize.isSome = true ∧ 2 ≤ (ringOff.ring 0).pool) := by decide

theorem none_on_quiet : ∀ b : ApId, quietKept.apOn b = true → False := by decide

theorem witness_RingOffEmptiesTheReadyList :
    ((fresh.ring 0).on = false ∧ work.apOn 0 = true ∧ (work.ap 0).config = some pc ∧ pc.ring = 0) ∧
    (quietKept.link.phase = .request ∧ (quietKept.ring 0).on = true ∧
      (∀ a c, quietKept.apOn a = true → (quietKept.ap a).config = some c → c.ring ≠ 0) ∧
      quietKept.NoRetirements ∧ quietKept.Placed ∧
      (2 ∈ (quietKept.ring 0).ready ∧ (quietKept.slot 2).retained = true) ∧
      (quietKept.setSched 0 { Schedule.atReset with state := .gap }).sched 0 ≠ Schedule.atReset) :=
  ⟨by decide, by decide, by decide, fun a _ h => (none_on_quiet a h).elim,
    noRetirements_of (by decide), placed_of_check (by decide), by decide, by decide⟩

theorem witness_RingFlushEmptiesTheRing :
    work.link.phase = .request ∧ work.NoRetirements ∧ work.Placed ∧ work.HoldersLaw ∧
      (ApSet.has (work.ring 0).consumers 1 = true ∧ ApSet.has (work.ring 0).consumers 0 = false) ∧
      (2 ∈ (quietKept.ring 0).ready ∧ (quietKept.slot 2).retained = true) :=
  ⟨by decide, noRetirements_of (by decide), placed_of_check (by decide), holders_of_check (by decide),
    by decide, by decide⟩

/-- The job of the held slot ACTIVE with its claim on the port, or waiting, and another QUEUED. -/
def flushing (granted : Bool) : State :=
  { copying .read 8 with
    copy :=
      { active := some { job := job, half := .read, cancelled := false, granted := granted }
        queued := [{ job with id := 2 }], nextId := 3, staging := [] } }

theorem witness_RingFlushEmptiesTheRing_jobs :
    ∀ granted, (flushing granted).link.phase = .request ∧ (flushing granted).NoRetirements ∧
      (flushing granted).Placed ∧ (flushing granted).HoldersLaw ∧
      (flushing granted).copy.active.map (fun j => (j.job.ring, j.granted)) = some (0, granted) ∧
      ((flushing granted).copy.queued.map (·.ring)) = [0] ∧ 3 ∈ ((flushing granted).ring 0).held := by
  intro granted
  cases granted <;>
    exact ⟨by decide, noRetirements_of (by decide), placed_of_check (by decide),
      holders_of_check (by decide), by decide, by decide, by decide⟩

theorem witness_SlotAssignChecksAndActs :
    work.link.phase = .request ∧
    ((work.slot 0).home.isSome = true ∧ (work.ring 1).slotSize = none) ∧
    ((work.slot 5).home = none ∧ (work.ring 0).slotSize = some 12 ∧
      (0x10005008 : Addr).toNat % 2 ^ 12 ≠ 0) ∧
    ((0x80000000 : Addr).toNat % 2 ^ 12 = 0 ∧ ¬ work.WindowFree 0x80000000 (2 ^ 12)) ∧
    ((0x10005000 : Addr).toNat % 2 ^ 12 = 0 ∧ work.WindowFree 0x10005000 (2 ^ 12)) :=
  ⟨by decide, by decide, by decide, ⟨by decide, not_windowFree (by decide)⟩,
    ⟨by decide, (windowFree_iff _ _ _).1 (by decide)⟩⟩

theorem witness_SlotRetireActsOrQueues :
    work.link.phase = .request ∧ (0 ≤ 255 ∧ 255 ≤ 255) ∧ (work.slot 5).home = none ∧
    ((work.slot 4).home.isSome = true ∧ (work.slot 4).retirePending = false ∧
      2 < (work.ring 0).pool ∧ 4 ∈ (work.ring 0).free) ∧
    (3 ∉ (work.ring 0).free ∧ work.changes.entries.length < 12) ∧
    (3 ∉ ((State.full work).ring 0).free ∧ 12 ≤ (State.full work).changes.entries.length) ∧
    (∃ t : State, (t.ring 0).on = true ∧ (t.ring 0).pool ≤ 2 ∧ (t.slot 4).home.isSome = true) :=
  ⟨by decide, by decide, by decide, by decide, by decide, by decide,
    ⟨work.setRing 0 { work.ring 0 with pool := 2 }, by decide⟩⟩

/-! ### Witnesses: apertures and changes -/

theorem pc_inRange : pc.InRange := config_of_check (by decide)

theorem witness_ApertureSetupAndOnCheckInOrder :
    work.link.phase = .request ∧ pc.InRange ∧
    (work.apOn 0 = true ∧ (fresh.ring pc.ring).slotSize = none) ∧
    (work.apOn 5 = false ∧ (work.ring pc.ring).slotSize = some 12 ∧
      pc.windowBase.toNat % 2 ^ 12 = 0) ∧
    ({ pc with windowBase := 0x80000800 } : ApConfig).windowBase.toNat % 2 ^ 12 ≠ 0 :=
  ⟨by decide, pc_inRange, by decide, by decide, by decide⟩

/-- A producer for ring 0 set up on aperture 3, and one whose window is the producer's. -/
def second : State :=
  work.setAp 3
    { config := some (config .producer 0x80003000), state := .off, count := 0, deferred := false }
def overlapping : State :=
  work.setAp 3
    { config := some (config .consumer 0x80000000), state := .off, count := 0, deferred := false }

theorem witness_ApertureSetupAndOnCheckInOrder_on :
    (work.link.phase = .request ∧ work.apOn 0 = true ∧ (work.ap 5).config = none) ∧
    (quiet.apOn 0 = false ∧ (quiet.ap 0).config = some pc ∧
      ((quiet.setRing 0 { quiet.ring 0 with on := false }).ring pc.ring).on = false) ∧
    ((second.ap 3).config = some (config .producer 0x80003000) ∧ second.apOn 3 = false ∧
      (second.ring 0).on = true ∧ (second.ring 0).producer.isSome = true) ∧
    (3 ≤ (allAps.filter fun b => ApSet.has (0x0E : ApSet) b).length) ∧
    ((overlapping.ap 3).config = some (config .consumer 0x80000000) ∧ overlapping.apOn 3 = false ∧
      ¬ overlapping.WindowFree 0x80000000 (2 ^ 12)) :=
  ⟨by decide, by decide, by decide, by decide, by decide, by decide, not_windowFree (by decide)⟩

/-- The ring without its producer: with a free slot, and without one under each policy. -/
def starting (free : List SlotId) (policy : Overflow) : State :=
  quiet.setRing 0 { quiet.ring 0 with free := free, overflow := policy }

theorem witness_ProducerOnBinds :
    (∀ free ∈ [[4, 0], []], ∀ policy ∈ [Overflow.dropNew, .overwriteOldest],
      (starting free policy).link.phase = .request ∧ (starting free policy).apOn 0 = false ∧
      ((starting free policy).ap 0).config = some pc ∧ pc.role = .producer ∧
      ((starting free policy).ring 0).on = true ∧ ((starting free policy).ring 0).producer = none ∧
      (starting free policy).windowFreeCheck 0x80000000 (2 ^ 12) = true) ∧
    ((starting [4, 0] .dropNew).ring 0).free = 4 :: [0] ∧
    (((starting [] .overwriteOldest).ring 0).ready.find? (fun x =>
      decide (((starting [] .overwriteOldest).slot x).holders = 0 ∧
        ((starting [] .overwriteOldest).slot x).retained = false ∧
        ((starting [] .overwriteOldest).ring 0).ready.getLast? ≠ some x)) = none) := by decide

/-- The same with slot 1 let go, so that a bind can take it. -/
def stealing : State :=
  (starting [] .overwriteOldest).setSlot 1 { slotOf 1 with frame := some 2, written := true }

theorem witness_ProducerOnBinds_steal :
    (stealing.ring 0).free = [] ∧ (stealing.ring 0).overflow = .overwriteOldest ∧
      (stealing.ring 0).ready.find? (fun x =>
        decide ((stealing.slot x).holders = 0 ∧ (stealing.slot x).retained = false ∧
          (stealing.ring 0).ready.getLast? ≠ some x)) = some 1 := by decide

theorem witness_ProducerOnBinds_starved :
    ∀ x ∈ ((starting [] .overwriteOldest).ring 0).ready,
      ((starting [] .overwriteOldest).slot x).holders ≠ 0 ∨
        ((starting [] .overwriteOldest).slot x).retained = true ∨
        ((starting [] .overwriteOldest).ring 0).ready.getLast? = some x := by decide

theorem witness_ConsumerOnAcquiresTheNewest :
    (work.link.phase = .request ∧ work.apOn 3 = false ∧
      (work.ap 3).config = some { config .consumer 0x80003000 with pick := .ordered } ∧
      (work.ring 0).on = true ∧ work.WindowFree 0x80003000 (2 ^ 12) ∧ work.Placed ∧
      (allAps.filter fun b => ApSet.has (work.ring 0).consumers b).length < 3 ∧
      work.PromptlyReclaimed ∧ (work.ring 0).ready.getLast? = some 2) ∧
    ∃ t : State, t.Placed ∧ t.PromptlyReclaimed ∧ (t.ring 0).ready = [] ∧ (t.ring 0).on = true ∧
      t.link.phase = .request ∧ t.apOn 1 = false ∧ (t.ap 1).config = some cc ∧
      t.WindowFree 0x80001000 (2 ^ 12) :=
  ⟨⟨by decide, by decide, by decide, by decide, (windowFree_iff _ _ _).1 (by decide),
      placed_of_check (by decide), by decide, prompt_of_check (by decide), by decide⟩,
    ⟨ringOn.setAp 1 { config := some cc, state := .off, count := 0, deferred := false },
      placed_of_check (by decide), prompt_of_check (by decide), by decide, by decide, by decide,
      by decide, by decide, (windowFree_iff _ _ _).1 (by decide)⟩⟩

/-- A STARVED producer. -/
def starved : State := work.setAp 0 { work.ap 0 with state := .unbound }

theorem witness_ApertureOffActsOrQueues :
    (work.link.phase = .request ∧ (work.ap 3).state = .off ∧ 255 ≤ 255) ∧
    ((work.ap 1).state = .bound 1 ∧ work.changes.entries.length < 12 ∧
      12 ≤ (State.full work).changes.entries.length ∧ ((State.full work).ap 1).state = .bound 1) ∧
    ((starved.ap 0).state = .unbound ∧ (starved.ap 0).config = some pc ∧ starved.entriesFor 0 = [] ∧
      pc.role = .producer ∧ starved.entriesForRing 0 = []) ∧
    (((several starved 0).ap 0).state = .unbound ∧ ((several starved 0).ap 0).config = some pc ∧
      ((several starved 0).entriesFor 0).map (·.seq) = [2, 4, 5, 6] ∧
      ((several starved 0).entriesForRing 0).map (·.seq) = [1]) ∧
    (((stalled 3).ap 2).state = .unbound ∧ ((stalled 3).ap 2).config = some oc ∧
      oc.role = .consumer ∧ (stalled 3).Settled ∧ (stalled 3).NonePending ∧
      (stalled 3).steering.waiting = [] ∧ oc.pick = .ordered ∧ (stalled 3).Placed ∧
      (stalled 3).NoRetirements ∧
      (stalled 3).steering.phase = .stalled (rd 0x80002000) 2 0x80002000 (some 3)) ∧
    ((several twoNewest 2).Settled ∧ (several twoNewest 2).NonePending ∧
      ((several twoNewest 2).ap 2).state = .unbound ∧
      (several twoNewest 2).steering.waiting = [] ∧
      ((several twoNewest 2).entriesFor 2).map (·.seq) = [2, 4, 5, 6] ∧
      ∀ x base timer, (several twoNewest 2).steering.phase ≠ .stalled x 2 base timer) :=
  ⟨by decide, by decide, by decide, by decide,
    ⟨by decide, by decide, by decide, settled_of_check (by decide),
      (by unfold State.NonePending; decide), by decide, by decide, placed_of_check (by decide),
      noRetirements_of (by decide), by decide⟩,
    ⟨settled_of_check (by decide), (by unfold State.NonePending; decide), by decide, by decide,
      by decide,
      fun x base timer h => nomatch (show SteeringPhase.opened = .stalled x 2 base timer from h)⟩⟩

/-- A WAITING consumer with its own boundary pending for the lock window. -/
theorem witness_ApertureOffActsOrQueues_pending :
    ∃ s : State, s.link.phase = .request ∧ (s.ap 2).state = .unbound ∧ (s.ap 2).config = some oc ∧
      s.Settled ∧ (s.ap 2).deferred = true ∧ (∀ b : ApId, b ≠ 2 → (s.ap b).deferred = false) ∧
      s.steering.waiting = [] :=
  ⟨{ work.setAp 2 { work.ap 2 with deferred := true } with
      steering := { work.steering with lock := .opened (some 2) 0 (some 5) } },
    by decide, by decide, by decide, settled_of_check (by decide), by decide, by decide, by decide⟩

/-- An ORDERED consumer turning OFF leaves slots to reclaim that it alone had not passed. -/
theorem witness_ApertureOffActsOrQueues_reclaimed :
    ∃ s : State, s.link.phase = .request ∧ (s.ap 2).state = .unbound ∧ (s.ap 2).config = some oc ∧
      s.Settled ∧ s.NonePending ∧ s.steering.waiting = [] ∧ s.Placed ∧ s.NoRetirements ∧
      1 ∈ (s.ring 0).ready ∧ (s.slot 1).holders = 0 ∧ ApSet.has (s.slot 1).passedBy 2 = false ∧
      ∀ b : ApId, b ≠ 2 → ApSet.has (s.ring 0).consumers b = true →
        (s.ap b).config.map (·.pick) ≠ some .ordered :=
  ⟨(upToDate .strict).setSlot 1 { (upToDate .strict).slot 1 with passedBy := 0 }, by decide, by decide,
    by decide, settled_of_check (by decide), by unfold State.NonePending; decide, by decide,
    placed_of_check (by decide), noRetirements_of (by decide), by decide, by decide, by decide,
    by decide⟩

/-- The changes of APERTURE_MODIFY at boundary values of their fields. -/
theorem witness_ModifyCommandsActOrQueue :
    work.link.phase = .request ∧
    (ApChange.InRange (.moveWindow 0x80005000) ∧ ApChange.InRange (.setSources 255) ∧
      ApChange.InRange (.setPick .ordered .strict) ∧ ApChange.InRange (.setStall .blank 65535 0) ∧
      ApChange.InRange (.setDivider 16) ∧ ApChange.moveWindow 0x80005000 ≠ .detach) ∧
    (work.ap 5).config = none ∧
    ((work.ap 3).config.isSome = true ∧ work.apOn 3 = false) ∧
    (0x80005008 : Addr).toNat % work.slotBytes 0 ≠ 0 ∧
    ((work.ap 0).config = some pc ∧ work.apOn 0 = true ∧
      (0x80005000 : Addr).toNat % work.slotBytes 0 = 0 ∧ work.MoveFree 0 0x80005000 (2 ^ 12) ∧
      work.MoveFree 0 0x80000000 (2 ^ 12)) ∧
    ¬ work.MoveFree 0 0x80001000 (2 ^ 12) ∧
    (12 ≤ (State.full work).changes.entries.length ∧ work.changes.entries.length < 12) ∧
    ((work.ring 1).producer = none ∧ (work.ring 0).producer.isSome = true ∧
      ((State.full work).ring 0).producer.isSome = true) :=
  ⟨by decide, ⟨trivial, by unfold ApChange.InRange; decide, trivial,
      by unfold ApChange.InRange; decide, by unfold ApChange.InRange; decide, nofun⟩,
    by decide, by decide, by decide,
    ⟨by decide, by decide, by decide, (moveFree_iff _ _ _ _).1 (by decide),
      (moveFree_iff _ _ _ _).1 (by decide)⟩,
    not_moveFree (by decide), by decide, by decide⟩

/-- What the states below share for the boundary of an aperture. -/
structure Acts (s : State) (a : ApId) (c : ApConfig) : Prop where
  request : s.link.phase = .request
  settled : s.Settled
  acts    : s.ActsNow a c
  seqs    : (s.changes.entries.map (·.seq)).Nodup

theorem acts_of {s : State} {a : ApId} {c : ApConfig} (h : s.settledCheck = true)
    (k : s.link.phase = .request ∧ s.apOn a = true ∧ (s.ap a).config = some c ∧
      (s.ap a).count + 1 = c.divider ∧ (s.ap a).deferred = false ∧ s.inFlightThrough a = false ∧
      s.lockedThrough a = false)
    (n : (s.changes.entries.map (·.seq)).Nodup) : Acts s a c :=
  ⟨k.1, settled_of_check h, actsNow_of k.2, n⟩

/-- Four entries of the WAITING consumer 2 among others, one of them a MOVE_WINDOW into the window of
consumer 1. -/
def fourOfSix : State :=
  queue work
    [(.aperture 2 (.setDivider 3), 0), (.setOverflow 0 .dropNew, 0),
     (.aperture 2 (.moveWindow 0x80001000), 0), (.aperture 1 (.setSources 255), 0),
     (.aperture 2 (.setPick .ordered .strict), 0), (.aperture 2 (.setDivider 16), 0)]

theorem witness_ConsumerBoundaryAppliesItsChange :
    Acts fourOfSix 2 oc ∧ oc.role = .consumer ∧ fourOfSix.NoRetirements ∧ fourOfSix.Placed ∧
    (fourOfSix.ap 2).state = .unbound ∧
    (fourOfSix.entriesFor 2).map (·.seq) = [1, 3, 5, 6] ∧
    (fourOfSix.entriesFor 2).map (fourOfSix.rejectsCheck 2 oc) = [false, true, false, false] ∧
    (∀ e ∈ fourOfSix.entriesFor 2, e.isDetach = false) ∧
    (∀ e ∈ fourOfSix.entriesFor 2, ∀ p oe, e.op = .aperture 2 (.setPick p oe) → p = oc.pick) := by
  refine ⟨acts_of (by decide) (by decide) (by decide), by decide, noRetirements_of (by decide),
    placed_of_check (by decide), by decide, by decide, by decide, by decide, fun e h p oe => ?_⟩
  have l : fourOfSix.entriesFor 2 =
    [⟨1, .aperture 2 (.setDivider 3), 0⟩, ⟨3, .aperture 2 (.moveWindow 0x80001000), 0⟩,
     ⟨5, .aperture 2 (.setPick .ordered .strict), 0⟩, ⟨6, .aperture 2 (.setDivider 16), 0⟩] := by decide
  rw [l] at h
  simp only [List.mem_cons, List.not_mem_nil, or_false] at h
  rcases h with rfl | rfl | rfl | rfl <;> simp [oc]
  exact fun h _ => h.symm

/-- Changes of pick: the VIEWING consumer 1 made ORDERED, with slot 2 to move to and, VIEWING the newest,
with none; the ORDERED consumer 2 made NEWEST, and made NEWEST and ORDERED again, WAITING and VIEWING. -/
theorem witness_ConsumerBoundaryAppliesItsChange_pick :
    (∀ s ∈ [work, upToDate .repeatFrame],
      Acts (queue s [(.aperture 1 (.setPick .ordered .strict), 0), (.aperture 1 (.setDivider 2), 0)])
          1 cc ∧
        s.Placed ∧ s.HoldersLaw) ∧
    ((work.ap 1).state = .bound 1 ∧ takeThrough 1 (work.ring 0).ready = [1]) ∧
    (((upToDate .repeatFrame).ap 1).state = .bound 2 ∧
      takeThrough 2 ((upToDate .repeatFrame).ring 0).ready = [1, 2]) ∧
    (∀ s ∈ [work, behind],
      ∀ es ∈ ([[(.aperture 2 (.setPick .newest .strict), 0)],
          [(.aperture 2 (.setPick .newest .strict), 0), (.aperture 2 (.setPick .ordered .strict), 0)]]
            : List (List (ChangeOp × Nat))),
        Acts (queue s es) 2 oc ∧ (queue s es).NoRetirements ∧ s.Placed ∧ s.HoldersLaw) ∧
    ((work.ap 2).state = .unbound ∧ (behind.ap 2).state = .bound 1) := by
  refine ⟨fun s h => ?_, by decide, by decide, fun s h es k => ?_, by decide⟩
  · simp only [List.mem_cons, List.not_mem_nil, or_false] at h
    rcases h with rfl | rfl <;>
      exact ⟨acts_of (by decide) (by decide) (by decide), placed_of_check (by decide),
        holders_of_check (by decide)⟩
  · simp only [List.mem_cons, List.not_mem_nil, or_false] at h k
    rcases h with rfl | rfl <;> rcases k with rfl | rfl <;>
      exact ⟨acts_of (by decide) (by decide) (by decide), noRetirements_of (by decide),
        placed_of_check (by decide), holders_of_check (by decide)⟩

/-- An entry, a DETACH and a MOVE_WINDOW behind it that no check refuses: for a VIEWING consumer, a WAITING
one with a read stalled on it, and a WAITING NEWEST one. -/
def detaching (s : State) (a : ApId) : State :=
  queue s [(.aperture a (.setDivider 2), 0), (.aperture a .detach, 0),
    (.aperture a (.moveWindow 0x80000000), 0), (.setOverflow 0 .dropNew, 0)]

theorem witness_ConsumerBoundaryAppliesItsChange_detach :
    (∀ s ∈ [(work, (1 : ApId), cc), (stalled 3, 2, oc), (twoNewest, 2, { oc with pick := .newest })],
      Acts (detaching s.1 s.2.1) s.2.1 s.2.2 ∧ (detaching s.1 s.2.1).NoRetirements ∧
        (detaching s.1 s.2.1).NonePending ∧ (detaching s.1 s.2.1).steering.waiting = [] ∧
        ((detaching s.1 s.2.1).entriesFor s.2.1).map (·.isDetach) = [false, true, false] ∧
        ((detaching s.1 s.2.1).entriesFor s.2.1).map ((detaching s.1 s.2.1).rejectsCheck s.2.1 s.2.2) =
          [false, false, false]) ∧
    ((work.ap 1).state = .bound 1 ∧ (twoNewest.ap 2).state = .unbound ∧
      (stalled 3).steering.phase = .stalled (rd 0x80002000) 2 0x80002000 (some 3)) ∧
    ∀ w base timer, work.steering.phase ≠ .stalled w 1 base timer := by
  refine ⟨fun s h => ?_, by decide,
    fun w base timer h => nomatch (show SteeringPhase.opened = .stalled w 1 base timer from h)⟩
  simp only [List.mem_cons, List.not_mem_nil, or_false] at h
  rcases h with rfl | rfl | rfl <;>
    exact ⟨acts_of (by decide) (by decide) (by decide), noRetirements_of (by decide),
      by unfold State.NonePending; decide, by decide, by decide, by decide⟩

/-- A STARVED producer with a slot to bind and a slot in ring 1. -/
def starvedBeside : State :=
  (((starved.setRing 0 { starved.ring 0 with free := [4, 0] }).setSlot 0 (slotOf 0)).setRing 1
    { Ring.atReset with slotSize := some 12, held := [9], pool := 1 }).setSlot 9
    { Slot.unassigned with home := some { ring := 1, base := 0x20000000 } }

/-- Entries of the producer, its ring, a consumer, and slots of two rings in one queue; one MOVE_WINDOW is
in the way, and two entries have one boundary left. With `detach`, a DETACH stands among them. -/
def mixed (s : State) (detach : Bool) : State :=
  queue s
    ([(.setOverflow 0 .dropNew, 0), (.aperture 0 (.setDivider 2), 0),
      (.aperture 1 (.setSources 7), 1), (.aperture 0 (.moveWindow 0x80001000), 0),
      (.retireSlot 3, 1)] ++ (if detach then [(.aperture 0 .detach, 0)] else []) ++
     [(.aperture 0 (.moveWindow 0x80001000), 0), (.retireSlot 9, 255), (.aperture 2 (.setSources 7), 2),
      (.aperture 0 (.setDivider 16), 0), (.setOverflow 0 .overwriteOldest, 0)])

theorem witness_ProducerBoundaryWalksTheChanges :
    (∀ detach,
      Acts (mixed starvedBeside detach) 0 pc ∧ (mixed starvedBeside detach).Placed ∧
        ((mixed starvedBeside detach).changes.entries.filterMap fun e =>
          match e.op with | .retireSlot sl => some sl | _ => none) = [3, 9] ∧
        3 ∈ ((mixed starvedBeside detach).ring 0).held ∧
        ((mixed starvedBeside detach).slot 9).home.map (·.ring) = some 1 ∧
        ((mixed starvedBeside detach).ap 0).state = .unbound ∧
        ((mixed starvedBeside detach).sched 0).state = .idle ∧
        ((mixed starvedBeside detach).ring 0).free ≠ [] ∧
        ((mixed starvedBeside detach).entriesFor 0).any (·.isDetach) = detach) ∧
    ((mixed starvedBeside false).entriesFor 0).map ((mixed starvedBeside false).rejectsCheck 0 pc) =
      [false, true, true, false] ∧
    ((mixed starvedBeside true).entriesFor 0).map ((mixed starvedBeside true).rejectsCheck 0 pc) =
      [false, true, false, false, false] := by
  refine ⟨fun detach => ?_, by decide, by decide⟩
  cases detach <;>
    exact ⟨acts_of (by decide) (by decide) (by decide), placed_of_check (by decide), by decide,
      by decide, by decide, by decide, by decide, by decide, by decide⟩

/-- The same with the retirement of a slot waiting. -/
def retires (s : State) (sl : SlotId) : State :=
  State.withEntry (s.setSlot sl { s.slot sl with retirePending := true }) (.retireSlot sl) 0

/-- Slots with a retirement waiting that a boundary leaves out of the free list: one HELD, the one it
publishes, and READY ones: one with a holder, one retained, one not passed by the ORDERED consumer, and one
at a boundary that publishes nothing. -/
theorem witness_ProducerBoundaryWalksTheChanges_ready :
    ((written.slot 1).holders ≠ 0 ∧ ApSet.has (written.ring 0).consumers 2 = true ∧
      (written.ap 2).config = some oc ∧ oc.pick = .ordered ∧ ApSet.has (0 : ApSet) 2 = false ∧
      (work.slot 0).written = false ∧ (written.slot 0).written = true ∧ 3 ∈ (written.ring 0).held) ∧
    ∀ s ∈ [(retires written 3, (3 : SlotId)), (retires written 0, 0), (retires written 1, 1),
        (retires (written.setSlot 2 { written.slot 2 with retained := true }) 2, 2),
        (retires (written.setSlot 2 { written.slot 2 with passedBy := 0 }) 2, 2),
        (retires work 2, 2)],
      Acts s.1 0 pc ∧ s.1.Placed ∧ s.1.changes.entries.map (·.op) = [.retireSlot s.2] ∧
        s.1.StaysOut 0 pc.ring s.2 := by
  refine ⟨by decide, fun s h => ?_⟩
  simp only [List.mem_cons, List.not_mem_nil, or_false] at h
  rcases h with rfl | rfl | rfl | rfl | rfl | rfl <;>
    refine ⟨acts_of (by decide) (by decide) (by decide), placed_of_check (by decide), by decide, ?_⟩
  · exact .inl (by decide)
  · exact .inr (.inl (by decide))
  · exact .inr (.inr ⟨by decide, .inl (by decide)⟩)
  · exact .inr (.inr ⟨by decide, .inr (.inl (by decide))⟩)
  · exact .inr (.inr ⟨by decide, .inr (.inr (.inl ⟨2, oc, by decide⟩))⟩)
  · refine .inr (.inr ⟨by decide, .inr (.inr (.inr fun x hx => ?_))⟩)
    obtain rfl : (0 : SlotId) = x := by
      have : ((retires work 2).ap 0).state = .bound 0 := by decide
      rw [this] at hx; exact ApState.bound.inj hx
    decide

/-- A RETIRE_SLOT waiting on the held slot, between two other entries. -/
def retiring (pool : Nat) : State :=
  queue (work.setRing 0 { work.ring 0 with pool := pool })
    [(.aperture 1 (.setDivider 2), 0), (.retireSlot 3, 0), (.setOverflow 0 .dropNew, 0)]

theorem witness_RetirementAppliesToTheFreedSlot :
    ∀ pool ∈ [2, 3],
      (retiring pool).link.phase = .request ∧ ((retiring pool).ring 0).held.head? = some 3 ∧
      ((1 : Word) ≠ 0 ∧ ((retiring pool).ring 0).held.find? (fun x =>
        decide (((retiring pool).slot x).frame = some (1 : Word).toNat)) = some 3) ∧
      ((retiring pool).slot 3).jobs = 0 ∧
      ((retiring pool).slot 3).home = some { ring := 0, base := 0x10003000 } ∧
      3 ∉ ((retiring pool).ring 0).free ∧
      (retiring pool).changes.entries =
        [{ seq := 1, op := .aperture 1 (.setDivider 2), expiry := 0 }] ++
          { seq := 2, op := .retireSlot 3, expiry := 0 } ::
          [{ seq := 3, op := .setOverflow 0 .dropNew, expiry := 0 }] ∧
      ((retiring pool).ring 0).pool = pool := by decide

/-- Ring 0 ON with slots 1 and 2 READY, slot 1 `retained` or not, its apertures OFF; the pool is 2, or 3
with slot 3 HELD. -/
def small (held : List SlotId) (kept : Bool) : State :=
  (((((quiet.setRing 0
    { quiet.ring 0 with free := [], ready := [1, 2], held := held, pool := 2 + held.length }).setSlot 0
    Slot.unassigned).setSlot 1
    { slotOf 1 with frame := some 2, written := true, retained := kept }).setSlot 2
    { slotOf 2 with frame := some 3, written := true }).setSlot 3
    (if held = [] then Slot.unassigned
      else { slotOf 3 with frame := some 1, written := true, retained := true })).setSlot 4
    Slot.unassigned

theorem onlyRetires_of {s : State} {r : RingId} {sl : SlotId} {e : Change}
    (h : s.changes.entries = [e] ∧ e.op = .retireSlot sl ∧ (s.slot sl).home.map (·.ring) = some r) :
    s.OnlyRetires r sl e := h

/-- The entry that waits in these states. -/
def retirement (sl : SlotId) : Change := { seq := 1, op := .retireSlot sl, expiry := 0 }

/-- RELEASE FRAME of the READY slot 1, at the pool floor and above it; RING_OFF and RING_FLUSH of it; and
RING_FLUSH of the HELD slot 3. -/
theorem witness_RetirementAppliesToTheFreedSlot_commands :
    (∀ held ∈ ([[], [3]] : List (List SlotId)),
      ((retires (small held true) 1).link.phase = .request ∧ (retires (small held true) 1).Placed ∧
        (retires (small held true) 1).OnlyRetires 0 1 (retirement 1) ∧
        (∀ y ∈ ((retires (small held true) 1).ring 0).held,
          ((retires (small held true) 1).slot y).frame ≠ some 2) ∧
        ((retires (small held true) 1).ring 0).ready.find? (fun y =>
          decide (((retires (small held true) 1).slot y).frame = some 2 ∧
            ((retires (small held true) 1).slot y).retained = true)) = some 1 ∧
        (retires (small held true) 1).MeetsReclamation 0 1) ∧
      ((retires (small held false) 1).Placed ∧
        (retires (small held false) 1).OnlyRetires 0 1 (retirement 1) ∧
        1 ∈ ((retires (small held false) 1).ring 0).ready ∧
        ((retires (small held false) 1).slot 1).retained = false ∧
        ((retires (small held false) 1).ring 0).on = true ∧
        ∀ a c, (retires (small held false) 1).apOn a = true →
          ((retires (small held false) 1).ap a).config = some c → c.ring ≠ 0)) ∧
    ((retires (small [3] false) 3).Placed ∧
      (retires (small [3] false) 3).OnlyRetires 0 3 (retirement 3) ∧
      3 ∈ ((retires (small [3] false) 3).ring 0).held ∧
      ((retires (small [3] false) 3).slot 3).jobs = 0) := by
  refine ⟨fun held h => ?_, placed_of_check (by decide), onlyRetires_of (by decide), by decide,
    by decide⟩
  simp only [List.mem_cons, List.not_mem_nil, or_false] at h
  rcases h with rfl | rfl <;>
    exact ⟨⟨by decide, placed_of_check (by decide), onlyRetires_of (by decide), by decide, by decide,
        (meets_iff _ _ _).1 (by decide)⟩,
      placed_of_check (by decide), onlyRetires_of (by decide), by decide, by decide, by decide,
      fun a _ x => absurd x ((by decide : ∀ b : ApId,
        (retires (small _ false) 1).apOn b ≠ true) a)⟩

/-- Retirements waiting on the slots 1 and 2. -/
def retiresBoth (s : State) : State :=
  queue ((s.setSlot 1 { s.slot 1 with retirePending := true }).setSlot 2
    { s.slot 2 with retirePending := true }) [(.retireSlot 1, 0), (.retireSlot 2, 0)]

/-- A ring with a pool of 3, its slots 1 to 3 HELD, the last with a copy job. -/
def hoard : State :=
  { (((small [3] true).setRing 0
      { (small [3] true).ring 0 with ready := [], held := [1, 2, 3] }).setSlot 3
      { (small [3] true).slot 3 with jobs := 1 }) with
    copy := (copying .read 8).copy }

/-- Two retirements that one command meets: RELEASE ALL, RING_OFF and RING_FLUSH. Of a pool of 3 the first
is retired, and the second then rejected; after RING_OFF none is. -/
theorem witness_RetirementAppliesToTheFreedSlot_several :
    ((retiresBoth hoard).link.phase = .request ∧ (retiresBoth hoard).Placed ∧
      (retiresBoth hoard).QueueLaws ∧ ((retiresBoth hoard).ring 0).held ≠ [] ∧
      ((retiresBoth hoard).ring 0).held.filter
        (fun x => decide (((retiresBoth hoard).slot x).jobs = 0)) = [1, 2] ∧
      retiredOf ((retiresBoth hoard).ring 0).on (retiresBoth hoard).retires
        ((retiresBoth hoard).ring 0).pool [1, 2] = [1]) ∧
    ((retiresBoth (small [3] false)).link.phase = .request ∧
      (retiresBoth (small [3] false)).Placed ∧ (retiresBoth (small [3] false)).QueueLaws ∧
      ((retiresBoth (small [3] false)).ring 0).on = true ∧
      (∀ a c, (retiresBoth (small [3] false)).apOn a = true →
        ((retiresBoth (small [3] false)).ap a).config = some c → c.ring ≠ 0) ∧
      ((retiresBoth (small [3] false)).ring 0).ready.filter
        (fun x => !((retiresBoth (small [3] false)).slot x).retained) = [1, 2] ∧
      [1, 2].filter (retiresBoth (small [3] false)).retires = [1, 2] ∧
      (retiresBoth (small [3] false)).copy.jobs = [] ∧
      ∀ freed ∈ ([[1, 2], [1, 2, 3]] : List (List SlotId)),
        retiredOf ((retiresBoth (small [3] false)).ring 0).on (retiresBoth (small [3] false)).retires
          ((retiresBoth (small [3] false)).ring 0).pool freed = [1]) :=
  ⟨⟨by decide, placed_of_check (by decide), queueLaws_of_check (by decide), by decide, by decide,
      by decide⟩,
    by decide, placed_of_check (by decide), queueLaws_of_check (by decide), by decide,
    fun a _ x => absurd x ((by decide : ∀ b : ApId,
      (retiresBoth (small [3] false)).apOn b ≠ true) a),
    by decide, by decide, by decide, by decide⟩

/-- A producer WRITING slot 0, unwritten, in a ring of two slots. -/
def pair : State :=
  ((((work.setRing 0 { work.ring 0 with free := [4], ready := [], held := [], pool := 2 }).setSlot 1
    Slot.unassigned).setSlot 2 Slot.unassigned).setSlot 3 Slot.unassigned).setAp 1
    { work.ap 1 with state := .unbound }

/-- A producer with slot 0 written, in a ring of three slots whose READY slots 1 and 2 the publish
reclaims. -/
def crowdedReady : State :=
  ((((written.setRing 0 { written.ring 0 with free := [], held := [], pool := 3 }).setSlot 1
    { written.slot 1 with holders := 0 }).setSlot 3 Slot.unassigned).setSlot 4 Slot.unassigned).setAp 1
    { written.ap 1 with state := .unbound }

/-- Two slots with a retirement that one publish frees, the second at the pool floor that the first leaves;
and a slot that a consumer leaves behind, with another retirement in the queue. -/
theorem witness_RetirementAppliesAtBoundariesAndJobEnds_several :
    (Acts (retiresBoth crowdedReady) 0 pc ∧ (retiresBoth crowdedReady).Placed ∧
      (retiresBoth crowdedReady).QueueLaws ∧ pc.role = .producer ∧
      ((retiresBoth crowdedReady).ap 0).state = .bound 0 ∧
      ((retiresBoth crowdedReady).slot 0).written = true ∧
      ((retiresBoth crowdedReady).ring 0).ready = [1, 2] ∧
      (∀ y ∈ ([1, 2] : List SlotId), ((retiresBoth crowdedReady).slot y).holders = 0 ∧
        ((retiresBoth crowdedReady).slot y).retained = false ∧
        ∀ b d, ApSet.has ((retiresBoth crowdedReady).ring 0).consumers b = true →
          ((retiresBoth crowdedReady).ap b).config = some d → d.pick = .ordered →
          ApSet.has ((retiresBoth crowdedReady).slot y).passedBy b = true) ∧
      retiredOf ((retiresBoth crowdedReady).ring 0).on (retiresBoth crowdedReady).retires
        ((retiresBoth crowdedReady).ring 0).pool [1, 2] = [1]) ∧
    (Acts (retiresBoth work) 1 cc ∧ (retiresBoth work).Placed ∧ (retiresBoth work).QueueLaws ∧
      (retiresBoth work).NoEntriesFor 1 ∧ (retiresBoth work).PromptlyReclaimed ∧
      cc.role = .consumer ∧ cc.pick = .newest ∧ ((retiresBoth work).ap 1).state = .bound 1 ∧
      ((retiresBoth work).ring 0).ready = [1, 2] ∧ (2 : SlotId) ≠ 1 ∧
      ((retiresBoth work).slot 1).retained = false ∧
      ApSet.erase ((retiresBoth work).slot 1).holders 1 = 0 ∧
      ApSet.has ((retiresBoth work).slot 1).passedBy 2 = true ∧
      retiredOf ((retiresBoth work).ring 0).on (retiresBoth work).retires
        ((retiresBoth work).ring 0).pool [1] = [1]) := by
  refine ⟨⟨acts_of (by decide) (by decide) (by decide), placed_of_check (by decide),
      queueLaws_of_check (by decide), by decide, by decide, by decide, by decide,
      fun y h => ⟨?_, ?_, fun b d hb hd hp => ?_⟩, by decide⟩,
    acts_of (by decide) (by decide) (by decide), placed_of_check (by decide),
    queueLaws_of_check (by decide), noEntriesFor_of_check (by decide), prompt_of_check (by decide),
    by decide, by decide, by decide, by decide, by decide, by decide, by decide, by decide, by decide⟩
  · revert y; decide
  · revert y; decide
  · have := (by decide : ∀ y ∈ ([1, 2] : List SlotId), ∀ b : ApId,
      ApSet.has ((retiresBoth crowdedReady).ring 0).consumers b = true →
      ((retiresBoth crowdedReady).ap b).config.all (fun d => decide (d.pick = .ordered →
        ApSet.has ((retiresBoth crowdedReady).slot y).passedBy b = true)) = true) y h b hb
    exact of_decide_eq_true (all_of_all this d hd) hp

/-- The empty return of slot 0, at the pool floor and above it; reclamation of slot 2 at a publish, and of
slot 1 as its consumer moves on. -/
theorem witness_RetirementAppliesAtBoundariesAndJobEnds :
    (∀ s ∈ [(retires pair 0), (retires work 0)],
      s.link.phase = .request ∧ s.Placed ∧ s.OnlyRetires 0 0 (retirement 0) ∧ s.Settled ∧
        s.ActsNow 0 pc ∧ pc.ring = 0 ∧ (s.ap 0).state = .bound 0 ∧ (s.slot 0).written = false) ∧
    ((pair.ring 0).pool = 2 ∧ (work.ring 0).pool = 5) ∧
    ((retires written 2).Placed ∧ (retires written 2).OnlyRetires 0 2 (retirement 2) ∧
      (retires written 2).Settled ∧ (retires written 2).ActsNow 0 pc ∧
      2 ∈ ((retires written 2).ring 0).ready ∧ ((retires written 2).slot 2).retained = false ∧
      (∀ b d, ApSet.has ((retires written 2).ring 0).consumers b = true →
        ((retires written 2).ap b).config = some d → d.pick = .ordered →
        ApSet.has ((retires written 2).slot 2).passedBy b = true) ∧
      ((retires written 2).slot 0).written = true ∧ ((retires written 2).slot 2).holders = 0) ∧
    ((retires work 1).Placed ∧ (retires work 1).OnlyRetires 0 1 (retirement 1) ∧
      (retires work 1).Settled ∧ (retires work 1).ActsNow 1 cc ∧ cc.pick = .newest ∧
      1 ∈ ((retires work 1).ring 0).ready ∧ ((retires work 1).slot 1).retained = false ∧
      ((retires work 1).ap 1).state = .bound 1 ∧
      ((retires work 1).ring 0).ready.getLast? = some 2 ∧
      ApSet.erase ((retires work 1).slot 1).holders 1 = 0) := by
  have passed : ∀ b d, ApSet.has ((retires written 2).ring 0).consumers b = true →
      ((retires written 2).ap b).config = some d → d.pick = .ordered →
      ApSet.has ((retires written 2).slot 2).passedBy b = true := by
    intro b d hb hd hp
    have := (by decide : ∀ b : ApId, ApSet.has ((retires written 2).ring 0).consumers b = true →
      ((retires written 2).ap b).config.all (fun d => decide (d.pick = .ordered →
        ApSet.has ((retires written 2).slot 2).passedBy b = true)) = true) b hb
    exact of_decide_eq_true (all_of_all this d hd) hp
  refine ⟨fun s h => ?_, by decide,
    ⟨placed_of_check (by decide), onlyRetires_of (by decide), settled_of_check (by decide),
      actsNow_of (by decide), by decide, by decide, passed, by decide, by decide⟩,
    placed_of_check (by decide), onlyRetires_of (by decide), settled_of_check (by decide),
      actsNow_of (by decide), by decide, by decide, by decide, by decide, by decide, by decide⟩
  simp only [List.mem_cons, List.not_mem_nil, or_false] at h
  rcases h with rfl | rfl <;>
    exact ⟨by decide, placed_of_check (by decide), onlyRetires_of (by decide),
      settled_of_check (by decide), actsNow_of (by decide), by decide, by decide, by decide⟩

/-- The same with the release of the held slot requested. -/
def requested (s : State) : State :=
  s.setSlot 3 { s.slot 3 with releaseRequested := true }

/-- The end of the ACTIVE job: at a FAULT to its read, at the OKAY that makes it DONE (which releases the
slot), and by COPY_CANCEL while its claim waits; and the end of a QUEUED one. -/
theorem witness_RetirementAppliesAtBoundariesAndJobEnds_jobs :
    (∀ s ∈ [(retires (requested (copying .read 8)) 3), (retires (copying .write 8) 3)],
      s.Placed ∧ s.OnlyRetires 0 3 (retirement 3) ∧
        s.copy.active.map (fun j => (j.granted, j.job.ring, j.job.slot)) = some (true, 0, 3) ∧
        s.arbiter.port.map (·.claimant) = some .copy) ∧
    (retires (requested (copying .read 8)) 3).FreesAtEnd job true ∧
    (retires (requested (copying .read 8)) 3).slot 3 =
      { (retires (copying .read 8) 3).slot 3 with releaseRequested := true } ∧
    ((retires (copying .write 8) 3).FreesAtEnd job (false || job.autoRelease) ∧
      8 ≤ 0 + 8 * min 16 ((8 - 0) / 8)) ∧
    ((retires (requested claiming) 3).link.phase = .request ∧ (retires (requested claiming) 3).Placed ∧
      (retires (requested claiming) 3).OnlyRetires 0 3 (retirement 3) ∧
      (retires (requested claiming) 3).copy.active.map (fun j => (j.job, j.granted)) =
        some (job, false) ∧
      (retires (requested claiming) 3).FreesAtEnd job true) ∧
    ((retires (requested queueing) 3).Placed ∧
      (retires (requested queueing) 3).OnlyRetires 0 3 (retirement 3) ∧
      (retires (requested queueing) 3).copy.queued.find? (fun y => decide (y.id = 255)) =
        some { job with id := 255 } ∧
      (retires (requested queueing) 3).FreesAtEnd { job with id := 255 } true) := by
  refine ⟨fun s h => ?_, by unfold State.FreesAtEnd; decide, by decide,
    ⟨by unfold State.FreesAtEnd; decide, by decide⟩,
    ⟨by decide, placed_of_check (by decide), onlyRetires_of (by decide), by decide,
      by unfold State.FreesAtEnd; decide⟩,
    placed_of_check (by decide), onlyRetires_of (by decide), by decide,
    by unfold State.FreesAtEnd; decide⟩
  simp only [List.mem_cons, List.not_mem_nil, or_false] at h
  rcases h with rfl | rfl <;>
    exact ⟨placed_of_check (by decide), onlyRetires_of (by decide), by decide, by decide⟩

theorem witness_CancelChangeRemovesTheEntry :
    work.link.phase = .request ∧ 65535 ≤ 65535 ∧ (∀ e ∈ work.changes.entries, e.seq ≠ 7) ∧
    ((State.withEntry work (.retireSlot 3) 0).changes.entries =
        [] ++ { seq := 1, op := .retireSlot 3, expiry := 0 } :: [] ∧
      ∀ x ∈ ([] : List Change) ++ [], x.seq ≠ 1) := by decide

/-! ### Witnesses: schedules, RELEASE, copy-out -/

theorem witness_ScheduleCommandsFollowTheState :
    work.link.phase = .request ∧ (255 ≤ 255 ∧ 64 ≤ 64) ∧ (work.sched 0).state = .idle ∧
      (armed.link.phase = .request ∧ (armed.sched 0).state ≠ .idle) := by decide

theorem witness_ReleaseOldestAndAll :
    work.link.phase = .request ∧ work.NoRetirements ∧ (work.ring 0).held.Nodup ∧
      (work.ring 1).held = [] ∧ ((work.ring 0).held = 3 :: [] ∧ (work.slot 3).jobs = 0) ∧
      0 < ((copying .read 8).slot 3).jobs :=
  ⟨by decide, noRetirements_of (by decide), by decide, by decide, by decide, by decide⟩

/-- A retained READY slot: one that no longer has a reason to stay, and one that is the newest. -/
def kept (sl : SlotId) : State :=
  (work.setSlot 1 { work.slot 1 with holders := 0 }).setSlot sl
    { work.slot sl with holders := 0, retained := true }

theorem witness_ReleaseFrameFreesOrUnretains :
    work.link.phase = .request ∧ work.NoRetirements ∧ work.Placed ∧ 4294967295 ≤ 0xFFFFFFFF ∧
    (kept 1).Placed ∧ (kept 2).Placed ∧
    ((work.ring 0).held.find? (fun x => decide ((work.slot x).frame = some 1)) = some 3 ∧
      (work.slot 3).jobs = 0 ∧ 0 < ((copying .read 8).slot 3).jobs) ∧
    ((∀ sl ∈ ((kept 1).ring 0).held, ((kept 1).slot sl).frame ≠ some 2) ∧
      ((kept 1).ring 0).ready.find? (fun x =>
        decide (((kept 1).slot x).frame = some 2 ∧ ((kept 1).slot x).retained = true)) = some 1 ∧
      (kept 1).MeetsReclamation 0 1) ∧
    ((∀ sl ∈ ((kept 2).ring 0).held, ((kept 2).slot sl).frame ≠ some 3) ∧
      ((kept 2).ring 0).ready.find? (fun x =>
        decide (((kept 2).slot x).frame = some 3 ∧ ((kept 2).slot x).retained = true)) = some 2 ∧
      ¬ (kept 2).MeetsReclamation 0 2) ∧
    (∀ sl ∈ (work.ring 0).ready, (work.slot sl).frame ≠ some 9 ∨ (work.slot sl).retained = false) :=
  ⟨by decide, noRetirements_of (by decide), placed_of_check (by decide), by decide,
    placed_of_check (by decide), placed_of_check (by decide), by decide,
    ⟨by decide, by decide, (meets_iff _ _ _).1 (by decide)⟩,
    ⟨by decide, by decide, fun h => absurd ((meets_iff _ _ _).2 h) (by decide)⟩, by decide⟩

/-- Four jobs in the copy queue. -/
def crowded : State :=
  { copying .read 8 with copy := { (copying .read 8).copy with queued := [job, job, job] } }

theorem witness_CopyChecksAndSubmits :
    work.link.phase = .request ∧ (0x90000000 : Addr).toNat % 8 = 0 ∧
    (∀ sl ∈ (work.ring 0).held, (work.slot sl).frame ≠ some 2) ∧
    (work.ring 0).held.find? (fun x => decide ((work.slot x).frame = some 1)) = some 3 ∧
    (12 % 8 ≠ 0 ∧ 0 < 8 ∧ work.slotBytes 0 < 4104 ∧ 2 ^ 32 < (0xFFFFFFF8 : Addr).toNat + 16) ∧
    (4096 % 8 = 0 ∧ 8 ≤ 4096 ∧ 4096 ≤ work.slotBytes 0 ∧ (0x90000000 : Addr).toNat + 4096 ≤ 2 ^ 32) ∧
    ¬ work.WindowFree 0x80000000 8 ∧ work.WindowFree 0x90000000 4096 ∧
    crowded.WindowFree 0x90000000 8 ∧ 4 ≤ crowded.copy.count ∧
    ((copying .read 8).copy.count < 4 ∧ (copying .read 8).copy.active.isSome = true) ∧
    (work.copy.count < 4 ∧ work.copy.active = none) :=
  ⟨by decide, by decide, by decide, by decide, by decide, by decide, not_windowFree (by decide),
    (windowFree_iff _ _ _).1 (by decide), (windowFree_iff _ _ _).1 (by decide), by decide, by decide,
    by decide⟩

theorem witness_CopyCancelEndsTheJob :
    ((copying .read 8).link.phase = .request ∧ (copying .read 8).CopyClaims ∧
      (copying .read 8).NoRetirements ∧ 255 ≤ 255 ∧
      (copying .read 8).copy.active.map (fun j => (j.job.id, j.granted)) = some (1, true) ∧
      (copying .read 8).copy.queued = []) ∧
    (claiming.CopyClaims ∧ claiming.NoRetirements ∧
      claiming.copy.active.map (fun j => (j.job.id, j.granted)) = some (1, false)) ∧
    (queueing.CopyClaims ∧ queueing.NoRetirements ∧
      queueing.copy.queued.find? (fun x => decide (x.id = 255)) = some { job with id := 255 }) :=
  ⟨⟨by decide, copyClaims_of_check (by decide), noRetirements_of (by decide), by decide, by decide,
      by decide⟩,
    ⟨copyClaims_of_check (by decide), noRetirements_of (by decide), by decide⟩,
    ⟨copyClaims_of_check (by decide), noRetirements_of (by decide), by decide⟩⟩

/-- A job of ring 1 QUEUED behind the ACTIVE one: the ACTIVE one ends, by COPY_CANCEL or RING_FLUSH while
its claim waits, and by the response to its claim. -/
def nextJob : Job := { job with id := 2, ring := 1, slot := 9, length := 4096 }
def before (s : State) : State := { s with copy := { s.copy with queued := [nextJob], nextId := 3 } }

theorem witness_CopyCancelEndsTheJob_next :
    ((before claiming).link.phase = .request ∧ (before claiming).CopyClaims ∧
      (before claiming).NoRetirements ∧
      (before claiming).copy.active.map (fun j => (j.job.id, j.granted, j.job.ring)) =
        some (1, false, 0) ∧
      (before claiming).Placed ∧ (before claiming).copy.queued.head? = some nextJob ∧
      ((before claiming).copy.queued.filter fun x => decide (x.ring ≠ 0)).head? = some nextJob) ∧
    ∀ half, (before (copying half 8)).NoRetirements ∧
      (before (copying half 8)).copy.active.map (fun j => (j.granted, j.cancelled)) =
        some (true, false) ∧
      (before (copying half 8)).arbiter.port.map (fun g => (g.claimant, g.txn.kind)) =
        some (.copy, match half with | .read => .read | .write => .write) ∧
      (before (copying half 8)).copy.queued.head? = some nextJob := by
  refine ⟨⟨by decide, copyClaims_of_check (by decide), noRetirements_of (by decide), by decide,
    placed_of_check (by decide), by decide, by decide⟩, fun half => ?_⟩
  cases half <;> exact ⟨noRetirements_of (by decide), by decide, by decide, by decide⟩

/-- A granted job that a COPY_CANCEL has marked, and a claim that RESET_CORE has orphaned. -/
def marked (half : Half) : State :=
  { copying half 8 with copy := { (copying half 8).copy with
    active := (copying half 8).copy.active.map fun j => { j with cancelled := true } } }
def orphaned (half : Half) : State := { copying half 8 with copy := CopyEngine.atReset }

/-- An orphaned claim on the port with a new job's claim waiting behind it. -/
def orphanedBefore (half : Half) : State :=
  { copying half 8 with
    copy := claiming.copy
    arbiter := { (copying half 8).arbiter with copyClaim := some (rd 0x10003000) } }

theorem witness_CopyReadResponseGoesOn_behind :
    (orphanedBefore .read).NoRetirements ∧
      (orphanedBefore .read).arbiter.port.map (fun g => (g.claimant, g.txn.kind)) =
        some (.copy, .read) ∧
      (orphanedBefore .read).copy.active.map (·.granted) = some false ∧
      (orphanedBefore .read).arbiter.copyClaim = some (rd 0x10003000) :=
  ⟨noRetirements_of (by decide), by decide, by decide, by decide⟩

theorem witness_CopyReadResponseGoesOn :
    (copying .read 8).NoRetirements ∧
    (∀ s ∈ [copying .read 8, marked .read, orphaned .read],
      s.arbiter.port.map (fun g => (g.claimant, g.txn.kind)) = some (.copy, .read)) ∧
    (copying .read 8).copy.active.map (fun j => (j.granted, j.cancelled)) = some (true, false) ∧
    (marked .read).copy.active.map (fun j => (j.granted, j.cancelled)) = some (true, true) ∧
    (orphaned .read).copy.active = none ∧ okay.outcome = .okay ∧ faulty.outcome = .fault :=
  ⟨noRetirements_of (by decide), by decide, by decide, by decide, by decide, by decide, by decide⟩

theorem witness_CopyWriteResponseGoesOn_behind :
    (orphanedBefore .write).NoRetirements ∧
      (orphanedBefore .write).arbiter.port.map (fun g => (g.claimant, g.txn.kind)) =
        some (.copy, .write) ∧
      (orphanedBefore .write).copy.active.map (·.granted) = some false ∧
      (orphanedBefore .write).arbiter.copyClaim = some (rd 0x10003000) :=
  ⟨noRetirements_of (by decide), by decide, by decide, by decide⟩

theorem witness_CopyWriteResponseGoesOn :
    (copying .write 8).NoRetirements ∧
    (∀ s ∈ [copying .write 8, copying .write 136, marked .write, orphaned .write],
      s.arbiter.port.map (fun g => (g.claimant, g.txn.kind)) = some (.copy, .write)) ∧
    (0 + 8 * min 16 ((136 - 0) / 8) < 136 ∧ 8 ≤ 0 + 8 * min 16 ((8 - 0) / 8)) ∧
    (copying .write 136).copy.active.map (fun j => (j.granted, j.cancelled, j.job.length)) =
      some (true, false, 136) ∧
    (copying .write 8).FreesAtEnd job true ∧ ¬ (copying .write 8).FreesAtEnd job false ∧
    (marked .write).copy.active.map (·.cancelled) = some true ∧
    (orphaned .write).copy.active = none :=
  ⟨noRetirements_of (by decide), by decide, by decide, by decide,
    by unfold State.FreesAtEnd; decide, by unfold State.FreesAtEnd; decide, by decide, by decide⟩

/-! ### Witnesses: reading the part -/

theorem witness_QueriesReportWithoutChange :
    work.link.phase = .request ∧ 11 ≤ 11 ∧ (∀ r, (work.ring r).pool < 32) ∧
      work.notes.queue.length < 256 ∧ work.changes.entries.length < 256 ∧ work.copy.count < 256 := by
  decide

theorem witness_QueryWordsHoldTheFields :
    (work.link.phase = .request ∧ work.InRange ∧ work.Placed) ∧
    ((copying .read 8).link.phase = .request ∧ (copying .read 8).InRange ∧
      (copying .read 8).Placed ∧ (copying .read 8).copy.active.map (·.job.id) = some 1) :=
  ⟨⟨by decide, inRange_of_check (by decide), placed_of_check (by decide)⟩,
    ⟨by decide, inRange_of_check (by decide), placed_of_check (by decide), by decide⟩⟩

theorem witness_NotesJoinTheQueueAndAssertAttn :
    work.notes.mask.getLsbD (NoteKind.framePublished.number - 1) = false ∧
    (work.notes.mask.getLsbD (NoteKind.frameHeld.number - 1) = true ∧
      (crowdedNotes 31).notes.queue.length < 32 ∧ 32 ≤ (crowdedNotes 32).notes.queue.length) := by decide

theorem witness_ReadNotesRemovesTheOldest :
    noted.link.phase = .request ∧ (1 ≤ 1 ∧ 1 ≤ 8) ∧ (1 ≤ 8 ∧ 8 ≤ 8) := by decide

/-! ### Witnesses: the A-side port and the Arbiter -/

theorem work_open : work.PortOpen := ⟨by decide, by decide⟩
theorem work_none_pending : work.NonePending := by unfold State.NonePending; decide

theorem witness_OutsideEveryWindowPassesThrough :
    work.PortOpen ∧ work.NonePending ∧ (∀ a, ¬ work.touches (rd 0xFFFFFFF8) a) ∧
      work.arbiter.port = none ∧ work.arbiter.copyClaim = none :=
  ⟨work_open, work_none_pending, not_touches (by decide), by decide, by decide⟩

/-- A transaction that begins in the producer's window and ends in the next one. -/
def across : Txn := { rd 0x80000FF8 with beats := 2 }

theorem witness_RefusedTransactionsFault :
    work.PortOpen ∧ work.NonePending ∧ 1 ≤ across.beats ∧
    (work.touches across 0 ∧ (∀ b, work.touches across b → (0 : ApId) ≤ b) ∧
      ∀ c, ¬ work.Inside across 0 c) ∧
    (work.Inside { rd 0x80000000 with source := 7 } 0 pc ∧ ApSet.has pc.sources 7 = false) ∧
    (work.Inside (wr 0x80001FF8) 1 cc ∧ ApSet.has cc.sources 0 = true ∧ cc.role = .consumer) :=
  ⟨work_open, work_none_pending, by decide,
    ⟨(touches_iff _ _ _).1 (by decide), fun b _ => Nat.zero_le b.val,
      fun _ h => absurd (h.alone 1 ((touches_iff _ _ _).1 (by decide))) (by decide)⟩,
    ⟨(inside_iff _ _ _ _).1 (by decide), by decide⟩,
    ⟨(inside_iff _ _ _ _).1 (by decide), by decide, by decide⟩⟩

theorem witness_BoundAperturesTranslate :
    work.PortOpen ∧ work.NonePending ∧
    (work.Inside (wr 0x80000FF8) 0 pc ∧ ApSet.has pc.sources 0 = true ∧ (work.ap 0).state = .bound 0 ∧
      pc.role = .producer) ∧
    (work.Inside (rd 0x80001000) 1 cc ∧ ApSet.has cc.sources 0 = true ∧ (work.ap 1).state = .bound 1 ∧
      (rd 0x80001000).kind = .read) :=
  ⟨work_open, work_none_pending, ⟨(inside_iff _ _ _ _).1 (by decide), by decide, by decide, by decide⟩,
    ⟨(inside_iff _ _ _ _).1 (by decide), by decide, by decide, by decide⟩⟩

/-- Consumer 2 under BLANK. -/
def blank : State := work.setAp 2 { work.ap 2 with config := some { oc with stall := .blank } }

theorem witness_UnboundAperturesAnswerLocally :
    (starved.PortOpen ∧ starved.NonePending ∧ starved.Inside (rd 0x80000000) 0 pc ∧
      ApSet.has pc.sources 0 = true ∧ (starved.ap 0).state = .unbound ∧ pc.role = .producer) ∧
    (blank.PortOpen ∧ blank.NonePending ∧
      blank.Inside (rd 0x80002000) 2 { oc with stall := .blank } ∧
      (blank.ap 2).state = .unbound ∧ (rd 0x80002000).kind = .read) :=
  ⟨⟨⟨by decide, by decide⟩, by unfold State.NonePending; decide,
      (inside_iff _ _ _ _).1 (by decide), by decide, by decide, by decide⟩,
    ⟨⟨by decide, by decide⟩, by unfold State.NonePending; decide,
      (inside_iff _ _ _ _).1 (by decide), by decide, by decide⟩⟩

theorem witness_ReadsStallAndTransactionsWait :
    (work.Settled ∧ work.PortOpen ∧ work.NonePending ∧ work.Inside (rd 0x80002000) 2 oc ∧
      ApSet.has oc.sources 0 = true ∧ (work.ap 2).state = .unbound ∧ oc.role = .consumer ∧
      (rd 0x80002000).kind = .read ∧ oc.stall = .wait) ∧
    flying.steering.phase ≠ .opened :=
  ⟨⟨settled_of_check (by decide), work_open, work_none_pending, (inside_iff _ _ _ _).1 (by decide),
    by decide, by decide, by decide, by decide, by decide⟩, by decide⟩

/-- The same with a transaction waiting behind the one in flight. -/
def followed : State :=
  { flying with steering := { flying.steering with waiting := [rd 0xFFFFFFF8] } }

theorem witness_SteeringResponseCompletes :
    (flying.steering.phase =
        .inFlight (wr 0x80000008) (some { ap := 0, ring := 0, slot := 0, frame := some 4 }) ∧
      flying.arbiter.port = some { claimant := .steering, txn := wr 0x10000008 } ∧
      flying.arbiter.steeringClaim = none ∧ flying.NonePending ∧ flying.steering.waiting = []) ∧
    (followed.steering.waiting = rd 0xFFFFFFF8 :: [] ∧ followed.NonePending ∧
      ∀ a, ¬ followed.touches (rd 0xFFFFFFF8) a) ∧
    (lockAfterResponse flying.steering.lock (wr 0x80000008) = .closed) :=
  ⟨⟨by decide, by decide, by decide, by unfold State.NonePending; decide, by decide⟩,
    ⟨by decide, by unfold State.NonePending; decide, not_touches (by decide)⟩, by decide⟩

/-- The response ends the last condition of the producer's pending boundary, with a WRITE to its window
waiting; and that of a VIEWING consumer whose read is in flight, with another read of it waiting. -/
def behindTheWrite : State :=
  { waitingBoundary with steering := { flying.steering with waiting := [wr 0x80000010] } }
def behindTheRead : State :=
  { flying.setAp 1 { flying.ap 1 with deferred := true } with
    steering :=
      { phase := .inFlight (rd 0x80001000) (some { ap := 1, ring := 0, slot := 1, frame := some 2 })
        waiting := [rd 0x80001008], lock := .closed } }

theorem witness_SteeringResponseCompletes_pending :
    (behindTheWrite.steering.phase =
        .inFlight (wr 0x80000008) (some { ap := 0, ring := 0, slot := 0, frame := some 4 }) ∧
      behindTheWrite.arbiter.port = some { claimant := .steering, txn := wr 0x10000008 } ∧
      behindTheWrite.arbiter.steeringClaim = none ∧ behindTheWrite.Placed ∧
      behindTheWrite.apOn 0 = true ∧ (behindTheWrite.ap 0).config = some pc ∧
      (behindTheWrite.ap 0).deferred = true ∧
      (∀ b : ApId, b ≠ 0 → (behindTheWrite.ap b).deferred = false) ∧ behindTheWrite.NoEntriesFor 0 ∧
      lockAfterResponse behindTheWrite.steering.lock (wr 0x80000008) = .closed ∧
      (behindTheWrite.ap 0).state = .bound 0 ∧ (behindTheWrite.slot 0).written = true ∧
      (behindTheWrite.ring 0).free = [4] ∧ behindTheWrite.Inside (wr 0x80000010) 0 pc ∧
      ApSet.has pc.sources 0 = true) ∧
    (behindTheRead.arbiter.port = some { claimant := .steering, txn := wr 0x10000008 } ∧
      behindTheRead.Placed ∧ behindTheRead.apOn 1 = true ∧ (behindTheRead.ap 1).config = some cc ∧
      (behindTheRead.ap 1).deferred = true ∧
      (∀ b : ApId, b ≠ 1 → (behindTheRead.ap b).deferred = false) ∧ behindTheRead.NoEntriesFor 1 ∧
      (behindTheRead.ap 1).state = .bound 1 ∧ (behindTheRead.ring 0).ready.getLast? = some 2 ∧
      behindTheRead.Inside (rd 0x80001008) 1 cc ∧ ApSet.has cc.sources 0 = true) :=
  ⟨⟨by decide, by decide, by decide, placed_of_check (by decide), by decide, by decide, by decide,
      by decide, noEntriesFor_of_check (by decide), by decide, by decide, by decide, by decide,
      (inside_iff _ _ _ _).1 (by decide), by decide⟩,
    ⟨by decide, placed_of_check (by decide), by decide, by decide, by decide, by decide,
      noEntriesFor_of_check (by decide), by decide, by decide, (inside_iff _ _ _ _).1 (by decide),
      by decide⟩⟩

theorem witness_TimersCountDownAndRunOut_out :
    ((stalled 0).steering.phase = .stalled (rd 0x80002000) 2 0x80002000 (some 0) ∧
      (stalled 0).steering.waiting = [] ∧ (stalled 0).NonePending) ∧
    (∀ x a base, (stalled 1).steering.phase ≠ .stalled x a base (some 0)) ∧
    ((locked 0).steering.lock = .opened (some 0) 0 (some 0) ∧ (locked 0).steering.waiting = [] ∧
      (locked 0).NonePending) ∧
    (∀ o src, (locked 1).steering.lock ≠ .opened o src (some 0)) :=
  ⟨⟨by decide, by decide, by unfold State.NonePending; decide⟩,
    (fun x a base h =>
      nomatch (show SteeringPhase.stalled (rd 0x80002000) 2 0x80002000 (some 1) =
        .stalled x a base (some 0) from h)),
    ⟨by decide, by decide, by unfold State.NonePending; decide⟩,
    (fun o src h =>
      nomatch (show LockWindow.opened (some 0) 0 (some 1) = .opened o src (some 0) from h))⟩

/-- A boundary pending with nothing to hold it, of the WAITING consumer and of a STARVED producer. -/
def heldBack (s : State) (a : ApId) : State := s.setAp a { s.ap a with deferred := true }

theorem witness_PendingBoundaryRunsOnce :
    ((work.ap 0).config = some pc ∧ (work.ap 0).deferred = false) ∧
    (((heldBack work 2).ap 2).config = some oc ∧ (heldBack work 2).apOn 2 = true ∧
      ((heldBack work 2).ap 2).deferred = true ∧ (heldBack work 2).inFlightThrough 2 = false ∧
      (heldBack work 2).lockedThrough 2 = false ∧
      (∀ b : ApId, b ≠ 2 → ((heldBack work 2).ap b).deferred = false) ∧
      (heldBack work 2).steering.waiting = [] ∧ ((heldBack work 2).ap 2).state = .unbound) ∧
    (heldBack work 2).NoEntriesFor 2 ∧
    (((heldBack starved 0).ap 0).state = .unbound ∧ (heldBack starved 0).changes.entries = [] ∧
      ((heldBack starved 0).sched 0).state = .idle ∧ ((heldBack starved 0).ring 0).free = 4 :: [] ∧
      (∀ b : ApId, b ≠ 0 → ((heldBack starved 0).ap b).deferred = false)) :=
  ⟨by decide, by decide, noEntriesFor_of_check (by decide), by decide⟩

/-- The Arbiter of `work` with claims waiting. -/
def claims (steering copy : Bool) (share count : Nat) (lock : LockWindow) : State :=
  { work with
    steering := { work.steering with lock := lock }
    arbiter :=
      { port := none
        steeringClaim := if steering then some (rd 8) else none
        copyClaim := if copy then some (rd 16) else none
        share := share, shareCount := count } }

theorem witness_GrantsFollowTheTable :
    flying.arbiter.port.isSome = true ∧
    ((claims true false 4 4 .closed).arbiter.steeringClaim = some (rd 8) ∧
      (claims true false 4 4 .closed).arbiter.copyClaim = none) ∧
    ((claims true true 4 3 .closed).arbiter.copyClaim.isSome = true ∧
      (claims true true 4 3 .closed).arbiter.shareCount < (claims true true 4 3 .closed).arbiter.share) ∧
    (claims true true 0 15 .closed).arbiter.share = 0 ∧
    (claims true true 4 15 (.opened none 0 none)).lockOpen = true ∧
    ((claims false true 4 0 .closed).arbiter.steeringClaim = none ∧
      (claims false true 4 0 .closed).lockOpen = false) ∧
    (claims false true 4 0 (.opened none 0 none)).lockOpen = true ∧
    ((claims true true 4 4 .closed).lockOpen = false ∧
      1 ≤ (claims true true 4 4 .closed).arbiter.share ∧
      (claims true true 4 4 .closed).arbiter.share ≤
        (claims true true 4 4 .closed).arbiter.shareCount) ∧
    work.arbiter.port = none := by decide

/-! ### Witnesses: the invariants, with a step that does something -/

/-- The ring at work with a transaction in front of its queue. -/
def busy : State := { work with pending := [.aSideTransaction (wr 0x80000008)] }

/-- A job of two pairs ACTIVE, with the response to its first write to come. -/
def copyingBusy : State := { copying .write 136 with pending := [.copyWriteResponse .okay] }

/-- A transaction in flight, with a note of each sort and a response recorded, and a FAULT from memory to
come. -/
def recording : State :=
  { flying with
    link := { flying.link with response := some { status := .done, flags := 0, words := [5] } }
    notes :=
      { noted.notes with
        queue := noted.notes.queue ++
          [{ kind := .accessFault, ring := some 0, aperture := some 1, frame := some 0, detail := 770 },
           { kind := .copyDone, ring := some 0, slot := some 3, frame := some 1, tag := some 255 },
           { kind := .changeApplied, ring := some 0, tag := some 65535, detail := 7 }] }
    pending := [.steeringResponse { outcome := .fault, data := [] } []] }

theorem witness_RangesAreKept :
    (busy.InRange ∧ ∃ t, step busy = .next t) ∧ copyingBusy.InRange ∧ ∃ t, step copyingBusy = .next t :=
  ⟨⟨inRange_of_check (by decide), _, rfl⟩, inRange_of_check (by decide), _, rfl⟩
theorem witness_RangesAreKept_rings : busy.RingsCounted ∧ ∃ t, step busy = .next t :=
  ⟨ringsCounted_of_check (by decide), _, rfl⟩
theorem witness_RangesAreKept_records :
    recording.Placed ∧ recording.InRange ∧ recording.RecordsInRange ∧ ∃ t, step recording = .next t :=
  ⟨placed_of_check (by decide), inRange_of_check (by decide), recordsInRange_of_check (by decide), _, rfl⟩
theorem witness_PlacementIsKept : busy.Placed ∧ ∃ t, step busy = .next t :=
  ⟨placed_of_check (by decide), _, rfl⟩
theorem witness_WindowsStayApart : busy.Placed ∧ busy.WindowsApart ∧ ∃ t, step busy = .next t :=
  ⟨placed_of_check (by decide), apart_of_check (by decide), _, rfl⟩
theorem witness_PortsAndClaimsAreKept : busy.Settled ∧ ∃ t, step busy = .next t :=
  ⟨settled_of_check (by decide), _, rfl⟩
theorem witness_PortsAndClaimsAreKept_claims :
    busy.CopyClaims ∧ busy.SteeringClaims ∧ ∃ t, step busy = .next t :=
  ⟨copyClaims_of_check (by decide), steeringClaims_of_check (by decide), _, rfl⟩
/-- A job ACTIVE for a slot whose retirement waits, with an event to come. -/
def retiringBusy : State :=
  { (retires (copying .read 8) 3) with pending := [.copyReadResponse okay] }

theorem witness_QueuesKeepTheirLaws :
    retiringBusy.Placed ∧ retiringBusy.QueueLaws ∧ ∃ t, step retiringBusy = .next t :=
  ⟨placed_of_check (by decide), queueLaws_of_check (by decide), _, rfl⟩
theorem witness_HoldersAndReclamationAreKept :
    busy.Placed ∧ busy.HoldersLaw ∧ busy.PromptlyReclaimed ∧ ∃ t, step busy = .next t :=
  ⟨placed_of_check (by decide), holders_of_check (by decide), prompt_of_check (by decide), _, rfl⟩

end Sys2Proof.Tests
end

section
/-! PROOFS of the family "slots, rings and the frame lists" (R16, R17, R21). First what serves every
command of the link: the argument words read back, and the answer to a request that passes the checks.
Then one equation per outcome of RING_SETUP, RING_ON and SLOT_ASSIGN, and the statements settled from
them. -/

namespace Sys2Proof.Machine

/-! ### Argument words read back (R175) -/

theorem toNat_numWord {n : Nat} (h : n < 2 ^ 32) : (numWord n).toNat = n :=
  (BitVec.toNat_ofNat n 32).trans (Nat.mod_eq_of_lt h)

theorem readFin_idWord {n : Nat} (i : Fin n) (h : n ≤ 2 ^ 32) : readFin n (idWord i) = some i := by
  have hi : (idWord i).toNat = i.val := toNat_numWord (i.isLt.trans_le h)
  simp [readFin, hi]

theorem readRange_numWord {lo hi n : Nat} (hlo : lo ≤ n) (hhi : n ≤ hi) (h : hi < 2 ^ 32) :
    readRange lo hi (numWord n) = some n := by
  simp [readRange, toNat_numWord (hhi.trans_lt h), hlo, hhi]

theorem readOverflow_word (o : Overflow) :
    readOverflow (if o = .dropNew then 0 else 1) = some o := by
  cases o <;> rfl

theorem argsRing_idWord (r : RingId) : argsRing [idWord r] = some r :=
  readFin_idWord r (by decide)

theorem argsRingSetup_words (r : RingId) {e : Nat} (o : Overflow) (hlo : 12 ≤ e) (hhi : e ≤ 24) :
    argsRingSetup [idWord r, numWord e, if o = .dropNew then 0 else 1] = some (r, e, o) := by
  simp only [argsRingSetup, readFin_idWord r (by decide), readRange_numWord hlo hhi (by decide),
    readOverflow_word, Option.bind_eq_bind, Option.bind_some]

theorem argsSlotAssign_words (sl : SlotId) (r : RingId) (base : Addr) :
    argsSlotAssign [idWord sl, idWord r, base] = some (sl, r, base) := by
  simp [argsSlotAssign, readFin_idWord sl, readFin_idWord r]

/-! ### The answer to a request that passes the checks (R170, R171) -/

section
variable {α : Type} {s t : State} {code : Byte} {args : List Word} {parse : List Word → Option α}
  {x : α} {act : State → α → Answer}

/-- A request that the owning block refuses changes only the link. -/
theorem takeCommand_denied {status : Status} (h : s.link.phase = .request) (hn : args.length ≤ 6)
    (hp : parse args = some x)
    (ha : act (s.received (requestBytes code (requestFor code args))) x =
      (s.received (requestBytes code (requestFor code args))).deny status) :
    s.takeCommand code parse (requestFor code args) act = s.answered code args status [] := by
  rw [takeCommand_taken s code parse _ act h hn (requestFor_balanced code args) hp, ha]
  rfl

/-- A request that the owning block accepts with no result words leaves the part that the block
leaves, with DONE in the link. -/
theorem takeCommand_done (h : s.link.phase = .request) (hn : args.length ≤ 6)
    (hp : parse args = some x)
    (ha : act (s.received (requestBytes code (requestFor code args))) x =
      (t.received (requestBytes code (requestFor code args))).done) :
    s.takeCommand code parse (requestFor code args) act = t.answered code args .done [] := by
  rw [takeCommand_taken s code parse _ act h hn (requestFor_balanced code args) hp, ha]
  rfl

end

/-! ### Writing a record twice -/

/-- Of two writes of one slot record the second stays. -/
@[simp] theorem setSlot_setSlot (s : State) (i : SlotId) (x y : Slot) :
    (s.setSlot i x).setSlot i y = s.setSlot i y := by
  simp [State.setSlot]

/-- Of two writes of one ring record the second stays. -/
@[simp] theorem setRing_setRing (s : State) (i : RingId) (x y : Ring) :
    (s.setRing i x).setRing i y = s.setRing i y := by
  simp [State.setRing]

/-! ### The apertures of a ring and the regions in use -/

theorem mem_allAps : ∀ a : ApId, a ∈ allAps := by decide

theorem mem_allSlots : ∀ sl : SlotId, sl ∈ allSlots := by decide

theorem ringOf_eq_some_iff (s : State) (a : ApId) (r : RingId) :
    s.ringOf a = some r ↔ ∃ c, (s.ap a).config = some c ∧ c.ring = r :=
  Option.map_eq_some_iff

theorem anySetUpFor_iff (s : State) (r : RingId) :
    s.anySetUpFor r = true ↔ ∃ a c, (s.ap a).config = some c ∧ c.ring = r := by
  simp [State.anySetUpFor, mem_allAps, ringOf_eq_some_iff]

theorem sizeConflict_iff (s : State) (r : RingId) (e : Nat) :
    s.sizeConflict r e = true ↔
      (∃ f, (s.ring r).slotSize = some f ∧ f ≠ e) ∧
        ((s.ring r).pool ≠ 0 ∨ ∃ a c, (s.ap a).config = some c ∧ c.ring = r) := by
  rw [← anySetUpFor_iff]
  cases h : (s.ring r).slotSize <;> simp [State.sizeConflict, h]

theorem slotBytes_of_slotSize {s : State} {r : RingId} {e : Nat}
    (h : (s.ring r).slotSize = some e) : s.slotBytes r = 2 ^ e := by
  simp [State.slotBytes, h]

theorem overlapsSlot_eq_false_iff (s : State) (start len : Nat) :
    s.overlapsSlot start len = false ↔
      ∀ sl h, (s.slot sl).home = some h →
        overlaps start len h.base.toNat (s.slotBytes h.ring) = false := by
  simp only [State.overlapsSlot, List.any_eq_false, mem_allSlots, true_implies]
  refine forall_congr' fun sl => ?_
  cases (s.slot sl).home <;> simp

theorem windowsHit_eq_nil_iff (s : State) (start len : Nat) :
    s.windowsHit start len = [] ↔
      ∀ b d, s.apOn b = true → (s.ap b).config = some d →
        overlaps start len d.windowBase.toNat (2 ^ d.windowSize) = false := by
  simp only [State.windowsHit, List.filter_eq_nil_iff, mem_allAps, true_implies]
  refine forall_congr' fun b => ?_
  cases (s.ap b).config <;> simp [ApConfig.overlapsWindow]

/-- The check of R21 is the freedom of R178. -/
theorem regionTaken_eq_false_iff (s : State) (base : Addr) (size : Nat) :
    s.regionTaken base.toNat size = false ↔ s.WindowFree base size := by
  rw [State.WindowFree, ← windowsHit_eq_nil_iff, ← overlapsSlot_eq_false_iff, State.regionTaken,
    Bool.or_eq_false_iff, Bool.not_eq_false', List.isEmpty_iff, and_comm]

/-! ### RING_SETUP (R16) -/

section
variable {s : State} {r : RingId} {e : Nat} {o : Overflow}

theorem exec_ringSetup (req : Request) (s : State) :
    exec (.ringSetup req) s = .next (s.takeCommand 0x08 argsRingSetup req actRingSetup) := rfl

theorem actRingSetup_of_on (hon : (s.ring r).on = true) :
    actRingSetup s (r, e, o) = s.deny .wrongState := by
  simp [actRingSetup, hon]

theorem actRingSetup_of_conflict (hon : (s.ring r).on = false) (hc : s.sizeConflict r e = true) :
    actRingSetup s (r, e, o) = s.deny .conflict := by
  simp [actRingSetup, hon, hc]

theorem actRingSetup_of_fits (hon : (s.ring r).on = false) (hc : s.sizeConflict r e = false) :
    actRingSetup s (r, e, o) =
      (s.setRing r { s.ring r with slotSize := some e, overflow := o }).done := by
  simp [actRingSetup, hon, hc]

/-- The size fits where it is the ring's own, or where neither slot nor aperture depends on it. -/
theorem sizeConflict_eq_false
    (h : (∀ f, (s.ring r).slotSize = some f → f = e) ∨
      ((s.ring r).pool = 0 ∧ ∀ a c, (s.ap a).config = some c → c.ring ≠ r)) :
    s.sizeConflict r e = false := by
  rw [Bool.eq_false_iff, Ne, sizeConflict_iff]
  rintro ⟨⟨f, hf, hne⟩, hused⟩
  rcases h with hsame | ⟨hpool, hap⟩
  · exact hne (hsame f hf)
  · rcases hused with hp | ⟨a, c, hc, hr⟩
    · exact hp hpool
    · exact hap a c hc hr

end

/-! ### RING_ON (R17) -/

section
variable {s : State} {r : RingId}

theorem exec_ringOn (req : Request) (s : State) :
    exec (.ringOn req) s = .next (s.takeCommand 0x09 argsRing req actRingOn) := rfl

theorem actRingOn_of_ready (hoff : (s.ring r).on = false) (hsize : (s.ring r).slotSize.isSome = true)
    (hpool : 2 ≤ (s.ring r).pool) :
    actRingOn s r = (s.setRing r { s.ring r with on := true }).done := by
  simp [actRingOn, hoff, hsize, hpool]

theorem actRingOn_of_not_ready
    (h : (s.ring r).on = true ∨ (s.ring r).slotSize = none ∨ (s.ring r).pool < 2) :
    actRingOn s r = s.deny .wrongState := by
  rcases h with hon | hsize | hpool
  · simp [actRingOn, hon]
  · simp [actRingOn, hsize]
  · simp [actRingOn, hpool]

end

/-- Settles O19: the checks of each command decide which of its equations holds, and the link answers
with what the block answers. -/
theorem ringSetupAndOn : Obligations.RingSetupAndOn := by
  intro s r hreq
  refine ⟨?_, fun hoff hsize hpool => ?_, fun hbad => ?_⟩
  · rintro e o args hlo hhi rfl
    have hp := argsRingSetup_words r o hlo hhi
    refine ⟨fun hon => ?_, fun hoff hother hused => ?_, fun hoff hfits => ?_⟩ <;>
      rw [exec_ringSetup]
    · exact congrArg _ (takeCommand_denied hreq (by simp) hp (actRingSetup_of_on hon))
    · have hc := (sizeConflict_iff s r e).2 ⟨hother, hused⟩
      exact congrArg _ (takeCommand_denied hreq (by simp) hp (actRingSetup_of_conflict hoff hc))
    · have hc := sizeConflict_eq_false hfits
      exact congrArg _ (takeCommand_done hreq (by simp) hp (actRingSetup_of_fits hoff hc))
  · rw [exec_ringOn]
    exact congrArg _ (takeCommand_done hreq (by simp) (argsRing_idWord r)
      (actRingOn_of_ready hoff hsize hpool))
  · rw [exec_ringOn]
    exact congrArg _ (takeCommand_denied hreq (by simp) (argsRing_idWord r)
      (actRingOn_of_not_ready hbad))

/-! ### SLOT_ASSIGN (R21) -/

/-- What an assignment leaves: one slot record and one ring record written. -/
theorem assignSlot_eq (s : State) (sl : SlotId) (r : RingId) (base : Addr) :
    s.assignSlot sl r base =
      (s.setSlot sl { Slot.unassigned with home := some { ring := r, base := base } }).setRing r
        { s.ring r with free := (s.ring r).free ++ [sl], pool := (s.ring r).pool + 1 } := by
  simp [State.assignSlot, State.joinFreeTail, Slot.freed, Slot.unassigned]

section
variable {s : State} {sl : SlotId} {r : RingId} {base : Addr} {e : Nat}

theorem exec_slotAssign (req : Request) (s : State) :
    exec (.slotAssign req) s = .next (s.takeCommand 0x0C argsSlotAssign req actSlotAssign) := rfl

theorem actSlotAssign_of_wrongState
    (h : (s.slot sl).home.isSome = true ∨ (s.ring r).slotSize = none) :
    actSlotAssign s (sl, r, base) = s.deny .wrongState := by
  rcases h with hhome | hsize
  · simp [actSlotAssign, hhome]
  · simp [actSlotAssign, hsize]

/-- Past the first two checks, the base and the region decide. -/
theorem actSlotAssign_of_sized (hhome : (s.slot sl).home = none)
    (hsize : (s.ring r).slotSize = some e) :
    actSlotAssign s (sl, r, base) =
      if base.toNat % 2 ^ e ≠ 0 then s.deny .badArg
      else if s.regionTaken base.toNat (2 ^ e) then s.deny .conflict
      else (s.assignSlot sl r base).done := by
  simp [actSlotAssign, hhome, hsize, slotBytes_of_slotSize hsize]

theorem actSlotAssign_of_misaligned (hhome : (s.slot sl).home = none)
    (hsize : (s.ring r).slotSize = some e) (hbase : base.toNat % 2 ^ e ≠ 0) :
    actSlotAssign s (sl, r, base) = s.deny .badArg := by
  rw [actSlotAssign_of_sized hhome hsize, if_pos hbase]

theorem actSlotAssign_of_taken (hhome : (s.slot sl).home = none)
    (hsize : (s.ring r).slotSize = some e) (hbase : base.toNat % 2 ^ e = 0)
    (htaken : ¬ s.WindowFree base (2 ^ e)) :
    actSlotAssign s (sl, r, base) = s.deny .conflict := by
  rw [← regionTaken_eq_false_iff, Bool.not_eq_false] at htaken
  rw [actSlotAssign_of_sized hhome hsize, if_neg (not_not.2 hbase), if_pos htaken]

theorem actSlotAssign_of_free (hhome : (s.slot sl).home = none)
    (hsize : (s.ring r).slotSize = some e) (hbase : base.toNat % 2 ^ e = 0)
    (hfree : s.WindowFree base (2 ^ e)) :
    actSlotAssign s (sl, r, base) =
      ((s.setSlot sl { Slot.unassigned with home := some { ring := r, base := base } }).setRing r
        { s.ring r with free := (s.ring r).free ++ [sl], pool := (s.ring r).pool + 1 }).done := by
  rw [← regionTaken_eq_false_iff] at hfree
  rw [actSlotAssign_of_sized hhome hsize, if_neg (not_not.2 hbase), hfree,
    if_neg Bool.false_ne_true, assignSlot_eq]

end

/-- Settles O22: the four checks in their order, each with its own answer. -/
theorem slotAssignChecksAndActs : Obligations.SlotAssignChecksAndActs := by
  rintro s sl r base args hreq rfl
  have hp := argsSlotAssign_words sl r base
  refine ⟨fun hbad => ?_, fun e hhome hsize =>
    ⟨fun hbase => ?_, fun hbase htaken => ?_, fun hbase hfree => ?_⟩⟩ <;> rw [exec_slotAssign]
  · exact congrArg _ (takeCommand_denied hreq (by simp) hp (actSlotAssign_of_wrongState hbad))
  · exact congrArg _ (takeCommand_denied hreq (by simp) hp
      (actSlotAssign_of_misaligned hhome hsize hbase))
  · exact congrArg _ (takeCommand_denied hreq (by simp) hp
      (actSlotAssign_of_taken hhome hsize hbase htaken))
  · exact congrArg _ (takeCommand_done hreq (by simp) hp
      (actSlotAssign_of_free hhome hsize hbase hfree))

end Sys2Proof.Machine
end

section
/-! PROOFS of the family "retention schedules" (R98, R99, R102, R111, R113). First what the link answers
with result words, and what a run of held slots that go free leaves of the part. Then one equation per
outcome of the schedule commands and of RELEASE, and the statements settled from them. -/

namespace Sys2Proof.Machine

/-! ### An answer with result words (R171) -/

/-- What the owning block answers stands in the link, beside the part that the block leaves. -/
theorem takeCommand_answered {α : Type} {s t : State} {code : Byte} {args : List Word}
    {parse : List Word → Option α} {x : α} {act : State → α → Answer} {status : Status}
    {words : List Word} (h : s.link.phase = .request) (hn : args.length ≤ 6)
    (hp : parse args = some x)
    (ha : act (s.received (requestBytes code (requestFor code args))) x =
      { state := t.received (requestBytes code (requestFor code args)), status := status,
        words := words }) :
    s.takeCommand code parse (requestFor code args) act = t.answered code args status words := by
  rw [takeCommand_taken s code parse _ act h hn (requestFor_balanced code args) hp, ha]
  rfl

/-! ### Held slots that go free (R15, R110) -/

section
variable (s : State) (r : RingId) (sl : SlotId) (sls : List SlotId)

theorem freeHeld_eq :
    s.freeHeld r sl =
      (s.setRing r { s.ring r with
        held := (s.ring r).held.erase sl, free := (s.ring r).free ++ [sl] }).setSlot sl
        (s.slot sl).freed := by
  simp [State.freeHeld, State.joinFreeTail, State.leaveHeld, State.setSlot, State.setRing,
    State.ring, State.slot]

theorem freeHeld_ring_ne {q : RingId} (h : r ≠ q) : (s.freeHeld r sl).ring q = s.ring q := by
  simp [freeHeld_eq, setRing_ring_ne, h]

theorem freeHeld_slot (x : SlotId) :
    (s.freeHeld r sl).slot x = if sl = x then (s.slot sl).freed else s.slot x := by
  simp [freeHeld_eq, setSlot_slot]

theorem foldl_freeHeld_ring_self :
    (sls.foldl (fun t sl => t.freeHeld r sl) s).ring r =
      { s.ring r with held := (s.ring r).held.diff sls, free := (s.ring r).free ++ sls } := by
  induction sls generalizing s with
  | nil => simp
  | cons sl sls ih => simp [ih]

theorem foldl_freeHeld_ring_ne {q : RingId} (h : r ≠ q) :
    (sls.foldl (fun t sl => t.freeHeld r sl) s).ring q = s.ring q := by
  induction sls generalizing s with
  | nil => rfl
  | cons sl sls ih => rw [List.foldl_cons, ih, freeHeld_ring_ne s r sl h]

theorem foldl_freeHeld_slot (x : SlotId) :
    (sls.foldl (fun t sl => t.freeHeld r sl) s).slot x =
      if x ∈ sls then (s.slot x).freed else s.slot x := by
  induction sls generalizing s with
  | nil => simp
  | cons sl sls ih =>
    rw [List.foldl_cons, ih, freeHeld_slot]
    by_cases hx : sl = x
    · subst hx; simp [Slot.freed]
    · simp [hx, Ne.symm hx]

/-- Held slots that go free change nothing but the slot and ring records. -/
theorem foldl_freeHeld_frame :
    { sls.foldl (fun t sl => t.freeHeld r sl) s with rings := s.rings, slots := s.slots } = s := by
  induction sls generalizing s with
  | nil => rfl
  | cons sl sls ih =>
    exact congrArg (fun u : State => { u with rings := s.rings, slots := s.slots })
      (ih (s.freeHeld r sl))

theorem foldl_freeHeld_changes :
    (sls.foldl (fun t sl => t.freeHeld r sl) s).changes = s.changes :=
  (congrArg State.changes (foldl_freeHeld_frame s r sls) :)

/-- Held slots go free alike whatever request the link has received. -/
theorem foldl_freeHeld_received (bs : List Byte) :
    sls.foldl (fun t sl => t.freeHeld r sl) (s.received bs) =
      (sls.foldl (fun t sl => t.freeHeld r sl) s).received bs := by
  induction sls generalizing s with
  | nil => rfl
  | cons sl sls ih => exact ih (s.freeHeld r sl)

end

/-! ### No retirement waits (R154) -/

section
variable {s : State}

theorem waitingRetirement_of_noRetirements (h : s.NoRetirements) (sl : SlotId) :
    s.waitingRetirement sl = none :=
  List.find?_eq_none.2 fun e he => by simpa using h e he sl

theorem applyRetirements_of_noRetirements (h : s.NoRetirements) (sls : List SlotId) :
    s.applyRetirements sls = s := by
  induction sls with
  | nil => rfl
  | cons sl sls ih =>
    rw [State.applyRetirements, List.foldl_cons,
      applyRetirement_of_none s (waitingRetirement_of_noRetirements h sl)]
    exact ih

end

/-! ### SCHEDULE_SETUP, SCHEDULE_START and SCHEDULE_STOP (R98, R99, R102) -/

section
variable {s : State} {r : RingId} {x : ScheduleArgs}

theorem exec_scheduleSetup (req : Request) (s : State) :
    exec (.scheduleSetup req) s =
      .next (s.takeCommand 0x20 argsScheduleSetup req actScheduleSetup) := rfl

theorem exec_scheduleStart (req : Request) (s : State) :
    exec (.scheduleStart req) s = .next (s.takeCommand 0x21 argsRing req actScheduleStart) := rfl

theorem exec_scheduleStop (req : Request) (s : State) :
    exec (.scheduleStop req) s = .next (s.takeCommand 0x22 argsRing req actScheduleStop) := rfl

theorem readStart_word (start : StartBy) :
    readStart (if start = .command then 0 else 1) = some start := by
  cases start <;> rfl

theorem argsScheduleSetup_words (r : RingId) {d n g b : Nat} (start : StartBy) (hd : d ≤ 255)
    (hn : n ≤ 64) (hg : g ≤ 255) (hb : b ≤ 255) :
    argsScheduleSetup [idWord r, numWord d, numWord n, numWord g, numWord b,
        if start = .command then 0 else 1] =
      some { ring := r, delay := d, burst := n, gap := g, bursts := b, start := start } := by
  have read {hi k : Nat} (hk : k ≤ hi) (hhi : hi < 2 ^ 32) : readRange 0 hi (numWord k) = some k :=
    readRange_numWord (Nat.zero_le k) hk hhi
  simp only [argsScheduleSetup, readFin_idWord r (by decide), read hd (by decide),
    read hn (by decide), read hg (by decide), read hb (by decide), readStart_word,
    Option.bind_eq_bind, Option.bind_some]

theorem actScheduleSetup_of_busy (h : (s.sched x.ring).state ≠ .idle) :
    actScheduleSetup s x = s.deny .busy :=
  if_neg h

theorem actScheduleSetup_of_idle (h : (s.sched x.ring).state = .idle) :
    actScheduleSetup s x =
      (s.setSched x.ring { s.sched x.ring with
        delay := x.delay, burst := x.burst, gap := x.gap, bursts := x.bursts,
        start := x.start }).done :=
  if_pos h

theorem actScheduleStart_of_busy (h : (s.sched r).state ≠ .idle) :
    actScheduleStart s r = s.deny .busy :=
  if_neg h

theorem actScheduleStart_of_idle (h : (s.sched r).state = .idle) :
    actScheduleStart s r = (s.setSched r (s.sched r).started).done :=
  if_pos h

/-- The start parameter and D decide the first state of a started schedule (R99). -/
theorem started_eq (x : Schedule) :
    x.started =
      if x.start = .snap then { x with burstsDone := 0, state := .armed, remaining := 0 }
      else if 0 < x.delay then
        { x with burstsDone := 0, state := .delay, remaining := x.delay }
      else { x with burstsDone := 0, state := .retaining, remaining := x.burst } := by
  cases hs : x.start with
  | command => simp [Schedule.started, Schedule.run, hs]
  | snap => simp [Schedule.started, hs]

theorem stopSchedule_of_idle (h : (s.sched r).state = .idle) : s.stopSchedule r = s :=
  if_pos h

theorem stopSchedule_of_not_idle (h : (s.sched r).state ≠ .idle) :
    s.stopSchedule r =
      (s.setSched r (s.sched r).stopped).raise
        { kind := .scheduleDone, ring := some r, detail := 2 } :=
  if_neg h

end

/-- Settles O34: the state of the schedule decides which equation of each command holds, and the link
answers with what the scheduler answers. -/
theorem scheduleCommandsFollowTheState : Obligations.ScheduleCommandsFollowTheState := by
  intro s r hreq
  have hring := argsRing_idWord r
  refine ⟨?_, fun hbusy => ?_, fun hidle => ?_, fun hidle => ?_, fun hbusy => ?_⟩
  · rintro d n g b start args hd hn hg hb rfl
    have hp := argsScheduleSetup_words r start hd hn hg hb
    refine ⟨fun hbusy => ?_, fun hidle => ?_⟩ <;> rw [exec_scheduleSetup]
    · exact congrArg _ (takeCommand_denied hreq (by simp) hp (actScheduleSetup_of_busy hbusy))
    · exact congrArg _ (takeCommand_done hreq (by simp) hp (actScheduleSetup_of_idle hidle))
  · rw [exec_scheduleStart]
    exact congrArg _ (takeCommand_denied hreq (by simp) hring (actScheduleStart_of_busy hbusy))
  · rw [exec_scheduleStart, ← started_eq]
    exact congrArg _ (takeCommand_done hreq (by simp) hring (actScheduleStart_of_idle hidle))
  · rw [exec_scheduleStop]
    exact congrArg _ (takeCommand_done hreq (by simp) hring
      (congrArg State.done (stopSchedule_of_idle hidle)))
  · rw [exec_scheduleStop]
    exact congrArg _ (takeCommand_done hreq (by simp) hring
      (congrArg State.done (stopSchedule_of_not_idle hbusy)))

/-! ### RELEASE OLDEST and RELEASE ALL (R111, R113) -/

section
variable {s : State} {r : RingId} {sl : SlotId} {rest : List SlotId}

theorem exec_release (req : Request) (s : State) :
    exec (.release req) s = .next (s.takeCommand 0x23 argsRelease req actRelease) := rfl

theorem argsRelease_oldest (r : RingId) (f : Word) :
    argsRelease [idWord r, 0, f] = some (r, .oldest) := by
  simp [argsRelease, readFin_idWord r]

theorem argsRelease_all (r : RingId) (f : Word) :
    argsRelease [idWord r, 2, f] = some (r, .all) := by
  simp [argsRelease, readFin_idWord r]

theorem releaseHeld_of_noRetirements (h : s.NoRetirements) (r : RingId) (sl : SlotId) :
    s.releaseHeld r sl = s.freeHeld r sl :=
  applyRetirement_of_none _ (waitingRetirement_of_noRetirements h sl)

theorem releaseOldest_of_empty (h : (s.ring r).held = []) :
    releaseOldest s r = s.deny .noEntry := by
  simp [releaseOldest, h]

/-- A head without jobs goes free, and the slots behind it stay held. -/
theorem releaseOldest_of_idle (hno : s.NoRetirements) (h : (s.ring r).held = sl :: rest)
    (hjobs : (s.slot sl).jobs = 0) :
    releaseOldest s r =
      ((s.setRing r { s.ring r with held := rest, free := (s.ring r).free ++ [sl] }).setSlot sl
        (s.slot sl).freed).doneWith [1] := by
  simp [releaseOldest, h, hjobs, releaseHeld_of_noRetirements hno, freeHeld_eq]

/-- Behind a busy head no slot is looked at. -/
theorem releaseOldest_of_busy (h : (s.ring r).held = sl :: rest) (hjobs : 0 < (s.slot sl).jobs) :
    releaseOldest s r = s.busyZero := by
  simp [releaseOldest, h, hjobs.ne']

theorem releaseAll_of_empty (h : (s.ring r).held = []) : releaseAll s r = s.deny .noEntry := by
  simp [releaseAll, h]

/-- The held slots of a ring without jobs, in held-list order. -/
def State.idleHeld (s : State) (r : RingId) : List SlotId :=
  (s.ring r).held.filter fun x => decide ((s.slot x).jobs = 0)

/-- The held slots of a ring with jobs, in held-list order. -/
def State.busyHeld (s : State) (r : RingId) : List SlotId :=
  (s.ring r).held.filter fun x => decide ((s.slot x).jobs ≠ 0)

theorem length_held_sub_idleHeld (s : State) (r : RingId) :
    (s.ring r).held.length - (s.idleHeld r).length = (s.busyHeld r).length := by
  have h := List.length_eq_length_filter_add (l := (s.ring r).held)
    fun x => decide ((s.slot x).jobs = 0)
  simp only [State.idleHeld, State.busyHeld, ne_eq, decide_not]
  omega

/-- Of a held list that names no slot twice, the busy slots stay. -/
theorem held_diff_idleHeld (h : (s.ring r).held.Nodup) :
    (s.ring r).held.diff (s.idleHeld r) = s.busyHeld r := by
  rw [h.sdiff_eq_filter, State.busyHeld]
  refine List.filter_congr fun x hx => ?_
  simp [State.idleHeld, hx]

/-- The held slots without jobs go free one after the other. -/
theorem releaseAll_of_held (hno : s.NoRetirements) (h : (s.ring r).held = sl :: rest) :
    releaseAll s r =
      ((s.idleHeld r).foldl (fun t sl => t.freeHeld r sl) s).doneWith
        [numWord (s.idleHeld r).length, numWord (s.busyHeld r).length] := by
  have hfreed : ((s.idleHeld r).foldl (fun t sl => t.freeHeld r sl) s).NoRetirements := by
    rwa [State.NoRetirements, foldl_freeHeld_changes]
  rw [← length_held_sub_idleHeld, ← applyRetirements_of_noRetirements hfreed (s.idleHeld r)]
  simp only [releaseAll, h, State.idleHeld, numWord]

end

/-- Settles O35: OLDEST goes by the head of the held list; ALL is a run over the idle held slots, whose
effect the lemmas on such a run give. -/
theorem releaseOldestAndAll : Obligations.ReleaseOldestAndAll := by
  intro s r f hreq hno hnodup
  have hold := argsRelease_oldest r f
  have hall := argsRelease_all r f
  refine ⟨fun hempty => ⟨?_, ?_⟩, fun sl rest hheld => ⟨fun hjobs => ?_, fun hjobs => ?_, ?_⟩⟩
  · rw [exec_release]
    exact congrArg _ (takeCommand_denied hreq (by simp) hold (releaseOldest_of_empty hempty))
  · rw [exec_release]
    exact congrArg _ (takeCommand_denied hreq (by simp) hall (releaseAll_of_empty hempty))
  · rw [exec_release]
    exact congrArg _ (takeCommand_answered hreq (by simp) hold
      (releaseOldest_of_idle hno hheld hjobs))
  · rw [exec_release]
    exact congrArg _ (takeCommand_answered hreq (by simp) hold (releaseOldest_of_busy hheld hjobs))
  · rintro idle busy rfl rfl
    refine ⟨State.answered ((s.idleHeld r).foldl (fun t sl => t.freeHeld r sl) s) 0x23
      [idWord r, 2, f] .done [numWord (s.idleHeld r).length, numWord (s.busyHeld r).length],
      ?_, ⟨rfl, _, rfl, rfl, rfl⟩, ?_, fun q hq => ?_, fun x => ?_, ?_⟩
    · rw [exec_release]
      refine congrArg _ (takeCommand_answered hreq (by simp) hall ?_)
      rw [← foldl_freeHeld_received]
      exact releaseAll_of_held hno hheld
    · refine (foldl_freeHeld_ring_self s r (s.idleHeld r)).trans ?_
      rw [held_diff_idleHeld hnodup]
      rfl
    · exact foldl_freeHeld_ring_ne s r (s.idleHeld r) hq.symm
    · exact foldl_freeHeld_slot s r (s.idleHeld r) x
    · exact congrArg (fun u : State => { u with link := s.link })
        (foldl_freeHeld_frame s r (s.idleHeld r))

end Sys2Proof.Machine
end

section
/-! PROOFS of the family "M-side port arbitration" (R135). One equation per row of the grant table, and
the statement settled from them. -/

namespace Sys2Proof.Machine

/-! ### The rows of the grant table (R135) -/

section
variable {s : State} {g : Grant} {x y : Txn}

theorem copyWins_iff :
    s.copyWins = true ↔
      s.lockOpen = false ∧ 1 ≤ s.arbiter.share ∧ s.arbiter.share ≤ s.arbiter.shareCount := by
  simp [State.copyWins, and_assoc]

theorem arbitrate_of_busy (hport : s.arbiter.port = some g) : s.arbitrate = s := by
  simp [State.arbitrate, hport]

theorem arbitrate_of_noClaim (hport : s.arbiter.port = none)
    (hsteer : s.arbiter.steeringClaim = none) (hcopy : s.arbiter.copyClaim = none) :
    s.arbitrate = s := by
  simp [State.arbitrate, hport, hsteer, hcopy]

theorem arbitrate_of_steeringAlone (hport : s.arbiter.port = none)
    (hsteer : s.arbiter.steeringClaim = some x) (hcopy : s.arbiter.copyClaim = none) :
    s.arbitrate = s.grantSteering x s.arbiter.shareCount := by
  simp [State.arbitrate, hport, hsteer, hcopy]

theorem arbitrate_of_copyAlone (hport : s.arbiter.port = none)
    (hsteer : s.arbiter.steeringClaim = none) (hcopy : s.arbiter.copyClaim = some y) :
    s.arbitrate = if s.lockOpen then s else s.grantCopy y := by
  simp [State.arbitrate, hport, hsteer, hcopy]

theorem arbitrate_of_bothClaims (hport : s.arbiter.port = none)
    (hsteer : s.arbiter.steeringClaim = some x) (hcopy : s.arbiter.copyClaim = some y) :
    s.arbitrate =
      if s.copyWins then s.grantCopy y
      else s.grantSteering x (min 15 (s.arbiter.shareCount + 1)) := by
  simp [State.arbitrate, hport, hsteer, hcopy]

end

/-- Settles O53: each row of the table is the equation for the claims it names; between two claims
`copyWins_iff` decides. -/
theorem grantsFollowTheTable : Obligations.GrantsFollowTheTable := by
  refine fun s steer cpy => ⟨fun g hport => arbitrate_of_busy hport, ?steering, ?copy,
    arbitrate_of_noClaim⟩
  case steering =>
    rintro x n hport hsteer rfl
    refine ⟨?alone, ?both⟩
    case alone =>
      rintro hcopy rfl
      exact arbitrate_of_steeringAlone hport hsteer hcopy
    case both =>
      rintro hsome rfl hloses
      obtain ⟨y, hcopy⟩ := Option.isSome_iff_exists.mp hsome
      have hwins : ¬ s.copyWins = true := by
        rw [copyWins_iff]
        rintro ⟨hclosed, hshare, hreached⟩
        rcases hloses with hopen | hzero | hbelow
        · simp [hclosed] at hopen
        · omega
        · omega
      exact (arbitrate_of_bothClaims hport hsteer hcopy).trans (if_neg hwins)
  case copy =>
    rintro y hport hcopy rfl
    refine ⟨fun hsteer hclosed => ?closed, fun hsteer hopen => ?opened,
      fun hsome hclosed hshare hreached => ?both⟩
    case closed =>
      exact (arbitrate_of_copyAlone hport hsteer hcopy).trans (if_neg (by simp [hclosed]))
    case opened => exact (arbitrate_of_copyAlone hport hsteer hcopy).trans (if_pos hopen)
    case both =>
      obtain ⟨x, hsteer⟩ := Option.isSome_iff_exists.mp hsome
      have hwins : s.copyWins = true := copyWins_iff.mpr ⟨hclosed, hshare, hreached⟩
      exact (arbitrate_of_bothClaims hport hsteer hcopy).trans (if_pos hwins)

end Sys2Proof.Machine
end

section
/-! PROOFS of the family "management link and commands" (R180, R181, R182, R184). First the words of a
response: bytes and halves that fit are packed as they are. Then where a slot stands by the placement law,
and the words of each query, read off the records. -/

namespace Sys2Proof.Machine

/-! ### Words packed from their fields (section 11.4) -/

theorem packWord_eq_bytesWord {b0 b1 b2 b3 : Nat} (h0 : b0 < 256) (h1 : b1 < 256) (h2 : b2 < 256)
    (h3 : b3 < 256) : packWord b0 b1 b2 b3 = bytesWord b0 b1 b2 b3 := by
  simp only [packWord, bytesWord, Nat.mod_eq_of_lt h0, Nat.mod_eq_of_lt h1, Nat.mod_eq_of_lt h2,
    Nat.mod_eq_of_lt h3]

theorem packHalves_eq_numWord {lo hi : Nat} (hlo : lo < 65536) (hhi : hi < 65536) :
    packHalves lo hi = numWord (lo + 65536 * hi) := by
  simp only [packHalves, numWord, Nat.mod_eq_of_lt hlo, Nat.mod_eq_of_lt hhi]

/-- The bytes of a packed word are the bytes it was packed from. -/
theorem byte_packWord (b0 b1 b2 b3 : Nat) {k : Nat} (hk : k < 4) :
    Word.byte (packWord b0 b1 b2 b3) k = [b0, b1, b2, b3][k] % 256 := by
  simp only [Word.byte, packWord, BitVec.toNat_ofNat]
  interval_cases k <;> simp <;> omega

theorem bit_le (b : Bool) : bit b ≤ 1 := by cases b <;> decide

theorem flag_eq (b : Bool) (n : Nat) : flag b n = 2 ^ n * bit b := by cases b <;> simp [flag, bit]

theorem bit_lt (b : Bool) : bit b < 256 := (bit_le b).trans_lt (by decide)

theorem bit_eq_flag (b : Bool) : bit b = flag b 0 := by simp [flag_eq]

theorem idByte_eq_idOrFF {n : Nat} (i : Option (Fin n)) : idByte i = idOrFF i := by
  cases i <;> rfl

theorem idOrFF_lt {n : Nat} (h : n ≤ 256) (i : Option (Fin n)) : idOrFF i < 256 := by
  cases i with
  | none => exact (by decide : 255 < 256)
  | some x => exact x.isLt.trans_le h

/-- An optional number in a field: 0 stands for absent (section 11.4). -/
def numOrZero : Option Nat → Nat
  | some n => n
  | none   => 0

theorem getD_zero (o : Option Nat) : o.getD 0 = numOrZero o := by cases o <;> rfl

/-- An id fits a byte. -/
theorem val_lt_byte {n : Nat} (h : n ≤ 256) (i : Fin n) : i.val < 256 := i.isLt.trans_le h

/-! ### Every code fits its field (section 11.4) -/

theorem Overflow.code_lt (x : Overflow) : x.code < 256 := by cases x <;> decide
theorem StartBy.code_lt (x : StartBy) : x.code < 256 := by cases x <;> decide
theorem SchedState.code_lt (x : SchedState) : x.code < 256 := by cases x <;> decide
theorem SlotState.code_le (x : SlotState) : x.code ≤ 4 := by cases x <;> decide
theorem Role.code_lt (x : Role) : x.code < 256 := by cases x <;> decide
theorem LineSel.code_lt (x : LineSel) : x.code < 256 := by cases x <;> decide
theorem Pick.code_lt (x : Pick) : x.code < 256 := by cases x <;> decide
theorem OnEmpty.code_lt (x : OnEmpty) : x.code < 256 := by cases x <;> decide
theorem StallPolicy.code_lt (x : StallPolicy) : x.code < 65536 := by cases x <;> decide
theorem ApState.code_lt (x : ApState) : x.code < 256 := by cases x <;> simp [ApState.code]

theorem SlotState.code_inj {x y : SlotState} : x.code = y.code ↔ x = y := by
  cases x <;> cases y <;> decide

/-! ### The answers of the queries (R180 to R182, R184) -/

section
variable {s : State} (h : s.link.phase = .request)
include h

theorem exec_queryRing_taken (r : RingId) :
    exec (.queryRing (requestFor 0x30 [idWord r])) s =
      .next (s.answered 0x30 [idWord r] .done (s.ringWords r)) :=
  congrArg _ (takeCommand_answered h (by simp) (argsRing_idWord r) rfl)

theorem exec_querySlot_taken (sl : SlotId) :
    exec (.querySlot (requestFor 0x31 [idWord sl])) s =
      .next (s.answered 0x31 [idWord sl] .done (s.slotWords sl)) :=
  congrArg _ (takeCommand_answered h (by simp) (readFin_idWord sl (by decide)) rfl)

theorem exec_queryAperture_taken (a : ApId) :
    exec (.queryAperture (requestFor 0x32 [idWord a])) s =
      .next (s.answered 0x32 [idWord a] .done (s.apertureWords a)) :=
  congrArg _ (takeCommand_answered h (by simp) (readFin_idWord a (by decide)) rfl)

theorem exec_queryJobs_taken :
    exec (.queryJobs (requestFor 0x34 [])) s = .next (s.answered 0x34 [] .done s.jobWords) :=
  congrArg _ (takeCommand_answered (x := ()) h (by simp) rfl rfl)

end

/-! ### QUERY_RING (R180) -/

/-- The list area holds the ids of the three lists one after the other, and 0xFF behind them. -/
theorem getD_listArea (x : Ring) {n : Nat} (hn : n < 16) :
    x.listArea.getD n 0xFF = idOrFF x.lists[n]? := by
  simp only [Ring.listArea, Ring.lists, List.getD_eq_getElem?_getD, List.getElem?_take_of_lt hn]
  rcases lt_or_ge n (x.free ++ x.ready ++ x.held).length with hlt | hge
  · rw [List.getElem?_append_left (by rwa [List.length_map]), List.getElem?_map,
      List.getElem?_eq_getElem hlt]
    rfl
  · rw [List.getElem?_append_right (by rwa [List.length_map]), List.getElem?_eq_none hge,
      List.getElem?_replicate]
    split <;> rfl

/-- The first of the four bytes of a word of the list area is the most significant one. -/
theorem byte_areaWord (x : Ring) {i k : Nat} (hk : k < 4) (hi : i + 3 < 16) :
    Word.byte (x.areaWord i) (3 - k) = idOrFF x.lists[i + k]? := by
  have hbyte : Word.byte (x.areaWord i) (3 - k) = x.listArea.getD (i + k) 0xFF % 256 := by
    rw [Ring.areaWord, byte_packWord _ _ _ _ (by omega)]
    interval_cases k <;> rfl
  rw [hbyte, getD_listArea x (by omega), Nat.mod_eq_of_lt (idOrFF_lt (by decide) _)]

/-- The words of the list area, one after the other. -/
theorem eq_areaWord_of_getElem? (x : Ring) {i : Nat} {w : Word}
    (h : [x.areaWord 0, x.areaWord 4, x.areaWord 8, x.areaWord 12][i]? = some w) :
    w = x.areaWord (4 * i) := by
  have harea : [x.areaWord 0, x.areaWord 4, x.areaWord 8, x.areaWord 12] =
      (List.range 4).map fun i => x.areaWord (4 * i) := rfl
  rw [harea, List.getElem?_map, Option.map_eq_some_iff] at h
  obtain ⟨j, hj, rfl⟩ := h
  rw [List.getElem?_eq_some_iff] at hj
  obtain ⟨hlt, rfl⟩ := hj
  rw [List.getElem_range]

section
variable {s : State} (hrange : s.InRange) (hplaced : s.Placed)

theorem Ring.length_lists (x : Ring) :
    x.lists.length = x.free.length + x.ready.length + x.held.length := by
  simp [Ring.lists, Nat.add_assoc]

include hplaced in
theorem length_lists_le (r : RingId) : (s.ring r).lists.length ≤ 16 :=
  (hplaced.once r).length_le_card

include hplaced in
/-- The places of a ring, which its pool counts, are its lists and its FILLING slot. -/
theorem pool_le (r : RingId) : (s.ring r).pool ≤ 17 := by
  have hlists := length_lists_le hplaced r
  have hfill : (s.fillingSlot r).toList.length ≤ 1 := Option.length_toList_le
  have := hplaced.conserved r
  omega

include hrange hplaced in
/-- The ten words of a ring, from its record and its schedule. -/
theorem ringWords_eq (r : RingId) :
    s.ringWords r =
      [ bytesWord (flag (s.ring r).on 0) (numOrZero (s.ring r).slotSize) (s.ring r).overflow.code
          (s.ring r).pool,
        numWord (s.ring r).frameCounter,
        bytesWord (idOrFF (s.ring r).producer) (s.ring r).consumers.toNat (s.ring r).free.length
          (s.ring r).ready.length,
        bytesWord (s.ring r).held.length 0 0 0,
        (s.ring r).areaWord 0, (s.ring r).areaWord 4, (s.ring r).areaWord 8,
        (s.ring r).areaWord 12,
        bytesWord (s.sched r).state.code (s.sched r).start.code (s.sched r).remaining
          (s.sched r).burstsDone,
        bytesWord (s.sched r).delay (s.sched r).burst (s.sched r).gap (s.sched r).bursts ] := by
  have hsize : numOrZero (s.ring r).slotSize < 256 := by
    cases he : (s.ring r).slotSize with
    | none => exact (by decide : 0 < 256)
    | some e => exact ((hrange.rings r).slotSize e he).2.trans_lt (by decide)
  have hlists := length_lists_le hplaced r
  have hpool := pool_le hplaced r
  rw [Ring.length_lists] at hlists
  obtain ⟨hdelay, hburst, hgap, hbursts, hremaining, hdone⟩ := hrange.schedules r
  simp only [State.ringWords, idByte_eq_idOrFF, getD_zero]
  rw [packWord_eq_bytesWord (bit_lt _) hsize (Overflow.code_lt _) (by omega),
    packWord_eq_bytesWord (idOrFF_lt (by decide) _) (BitVec.isLt _) (by omega) (by omega),
    packWord_eq_bytesWord (b0 := (s.ring r).held.length) (by omega) (by decide) (by decide)
      (by decide),
    packWord_eq_bytesWord (SchedState.code_lt _) (StartBy.code_lt _) (by omega) (by omega),
    packWord_eq_bytesWord (b0 := (s.sched r).delay) (by omega) (by omega) (by omega) (by omega),
    bit_eq_flag]
  rfl

end

/-! ### QUERY_SLOT (R181) -/

/-- The place that each of the five slot states names (R2, R9). -/
def State.standsAt (s : State) (sl : SlotId) : SlotState → Prop
  | .unassigned => (s.slot sl).home = none
  | .free       => ∃ r, sl ∈ (s.ring r).free
  | .filling    => ∃ r, s.fillingSlot r = some sl
  | .ready      => ∃ r, sl ∈ (s.ring r).ready
  | .held       => ∃ r, sl ∈ (s.ring r).held

section
variable {s : State} {sl : SlotId} {r : RingId}

theorem slotState_of_home_none (h : (s.slot sl).home = none) : s.slotState sl = .unassigned := by
  simp [State.slotState, h]

theorem slotState_of_home (h : (s.slot sl).home.map (·.ring) = some r) :
    s.slotState sl =
      if sl ∈ (s.ring r).free then .free
      else if sl ∈ (s.ring r).ready then .ready
      else if sl ∈ (s.ring r).held then .held
      else .filling := by
  obtain ⟨x, hx, rfl⟩ := Option.map_eq_some_iff.1 h
  simp [State.slotState, hx]

theorem Ring.mem_lists {x : Ring} : sl ∈ x.lists ↔ sl ∈ x.free ∨ sl ∈ x.ready ∨ sl ∈ x.held := by
  simp [Ring.lists]

/-- A slot is in at most one of the three lists. -/
theorem Ring.lists_disjoint {x : Ring} (h : x.lists.Nodup) :
    (sl ∈ x.ready → sl ∉ x.free) ∧ (sl ∈ x.held → sl ∉ x.free ∧ sl ∉ x.ready) := by
  have hheld := List.disjoint_of_nodup_append h
  have hready := List.disjoint_of_nodup_append (List.Nodup.of_append_left h)
  exact ⟨fun hm hf => hready hf hm, fun hm =>
    ⟨fun hf => hheld (List.mem_append_left _ hf) hm, fun hr => hheld (List.mem_append_right _ hr) hm⟩⟩

/-- A slot that stands at a place has the state that names it. -/
theorem slotState_of_standsAt (hp : s.Placed) {st : SlotState} (h : s.standsAt sl st) :
    s.slotState sl = st := by
  cases st with
  | unassigned => exact slotState_of_home_none h
  | free =>
    obtain ⟨r, hm⟩ := h
    rw [slotState_of_home (hp.listed r sl (Ring.mem_lists.2 (.inl hm))), if_pos hm]
  | filling =>
    obtain ⟨r, hf⟩ := h
    obtain ⟨hhome, hnot⟩ := hp.filling r sl hf
    simp only [Ring.mem_lists, not_or] at hnot
    obtain ⟨hfree, hready, hheld⟩ := hnot
    rw [slotState_of_home hhome, if_neg hfree, if_neg hready, if_neg hheld]
  | ready =>
    obtain ⟨r, hm⟩ := h
    rw [slotState_of_home (hp.listed r sl (Ring.mem_lists.2 (.inr (.inl hm)))),
      if_neg ((Ring.lists_disjoint (hp.once r)).1 hm), if_pos hm]
  | held =>
    obtain ⟨r, hm⟩ := h
    obtain ⟨hfree, hready⟩ := (Ring.lists_disjoint (hp.once r)).2 hm
    rw [slotState_of_home (hp.listed r sl (Ring.mem_lists.2 (.inr (.inr hm)))), if_neg hfree,
      if_neg hready, if_pos hm]

/-- Every slot stands at a place. -/
theorem exists_standsAt (hp : s.Placed) (sl : SlotId) : ∃ st, s.standsAt sl st := by
  cases hh : (s.slot sl).home with
  | none => exact ⟨.unassigned, hh⟩
  | some x =>
    rcases hp.somewhere x.ring sl (by rw [hh]; rfl) with hm | hf
    · rcases Ring.mem_lists.1 hm with hm | hm | hm
      · exact ⟨.free, _, hm⟩
      · exact ⟨.ready, _, hm⟩
      · exact ⟨.held, _, hm⟩
    · exact ⟨.filling, _, hf⟩

/-- The reported state of a slot is the code of its place. -/
theorem code_slotState_iff (hp : s.Placed) (sl : SlotId) (st : SlotState) :
    (s.slotState sl).code = st.code ↔ s.standsAt sl st := by
  rw [SlotState.code_inj]
  refine ⟨?_, slotState_of_standsAt hp⟩
  rintro rfl
  obtain ⟨st, hst⟩ := exists_standsAt hp sl
  rwa [slotState_of_standsAt hp hst]

end

/-- The four words of a slot, from its place and its record. -/
theorem slotWords_eq {s : State} {sl : SlotId} (hjobs : (s.slot sl).jobs ≤ 4) :
    s.slotWords sl =
      [ bytesWord (s.slotState sl).code (idOrFF ((s.slot sl).home.map (·.ring)))
          (flag (s.slot sl).written 0 + flag (s.slot sl).faulted 1 + flag (s.slot sl).retained 2 +
            flag (s.slot sl).releaseRequested 3 + flag (s.slot sl).retirePending 4)
          (s.slot sl).jobs,
        s.slotBase sl, numWord (numOrZero (s.slot sl).frame),
        bytesWord (s.slot sl).holders.toNat (s.slot sl).passedBy.toNat 0 0 ] := by
  have hwritten := bit_le (s.slot sl).written
  have hfaulted := bit_le (s.slot sl).faulted
  have hretained := bit_le (s.slot sl).retained
  have hrelease := bit_le (s.slot sl).releaseRequested
  have hretire := bit_le (s.slot sl).retirePending
  simp only [State.slotWords, idByte_eq_idOrFF, getD_zero]
  rw [packWord_eq_bytesWord ((SlotState.code_le _).trans_lt (by decide)) (idOrFF_lt (by decide) _)
      (by omega) (by omega),
    packWord_eq_bytesWord (BitVec.isLt _) (BitVec.isLt _) (by decide) (by decide)]
  simp only [flag_eq, Nat.reducePow, one_mul]
  rfl

/-! ### QUERY_APERTURE (R179, R182) -/

/-- The configuration words of an aperture that is set up, in the layout of APERTURE_SETUP. -/
theorem configWords_some {c : ApConfig} (h : c.InRange) (a : ApId) :
    configWords a (some c) =
      [ bytesWord a.val c.ring.val c.role.code c.line.code,
        c.windowBase,
        bytesWord c.sources.toNat c.divider c.pick.code c.onEmpty.code,
        numWord (c.timeout + 65536 * c.stall.code),
        c.fill ] := by
  have hdivider := h.divider.2
  have htimeout := h.timeout
  rw [configWords,
    packWord_eq_bytesWord (val_lt_byte (by decide) a) (val_lt_byte (by decide) _)
      (Role.code_lt _) (LineSel.code_lt _),
    packWord_eq_bytesWord (BitVec.isLt _) (by omega) (Pick.code_lt _) (OnEmpty.code_lt _),
    packHalves_eq_numWord (by omega) (StallPolicy.code_lt _)]

theorem configWords_none (a : ApId) : configWords a none = [bytesWord a.val 0 0 0, 0, 0, 0, 0] := by
  rw [configWords, packWord_eq_bytesWord (val_lt_byte (by decide) a) (by decide) (by decide)
    (by decide)]

/-- The byte of the bound slot: its id, 0xFF where there is none. -/
def ApState.slotByte : ApState → Nat
  | .bound sl => sl.val
  | _         => 255

/-- The byte of the deferred boundary: a pending one shows its reason (R55). -/
def State.deferredByte (s : State) (a : ApId) : Nat :=
  if (s.ap a).deferred then if s.inFlightThrough a then 1 else 2 else 0

/-- The code of a deferral, 0 for none. -/
def deferCode : Option DeferReason → Nat
  | none   => 0
  | some d => d.code

/-- The window size of an aperture that is set up, 0 for one that is not. -/
def windowByte : Option ApConfig → Nat
  | none   => 0
  | some c => c.windowSize

/-- Word 6: 0 for an aperture that is not set up, otherwise a 1 with the window size. -/
def setUpWord : Option ApConfig → Word
  | none   => 0
  | some c => bytesWord 1 c.windowSize 0 0

section
variable (s : State) (a : ApId)

theorem idByte_boundSlot : idByte (s.boundSlot a) = (s.ap a).state.slotByte := by
  unfold State.boundSlot
  cases (s.ap a).state <;> rfl

theorem ApState.slotByte_lt (x : ApState) : x.slotByte < 256 := by
  cases x with
  | off => decide
  | unbound => decide
  | bound sl => exact val_lt_byte (by decide) sl

theorem deferCode_deferredReason : deferCode (s.deferredReason a) = s.deferredByte a := by
  unfold State.deferredReason State.deferReasonNow State.deferredByte
  cases (s.ap a).deferred <;> cases s.inFlightThrough a <;> rfl

theorem deferredByte_lt : s.deferredByte a < 256 := by
  unfold State.deferredByte
  cases (s.ap a).deferred <;> cases s.inFlightThrough a <;> decide

variable {s a}

theorem packWord_setUp (h : ∀ c, (s.ap a).config = some c → c.InRange) :
    packWord (bit (s.ap a).config.isSome) (windowByte (s.ap a).config) 0 0 =
      setUpWord (s.ap a).config := by
  cases hc : (s.ap a).config with
  | none => rfl
  | some c =>
    have hsize := (h c hc).windowSize.2
    exact packWord_eq_bytesWord (bit_lt true) (show c.windowSize < 256 by omega) (by decide) (by decide)

/-- The seven words of an aperture, from its configuration and its run-time state. -/
theorem apertureWords_eq (h : (s.ap a).InRange) :
    s.apertureWords a =
      configWords a (s.ap a).config ++
        [ bytesWord (s.ap a).state.code (s.ap a).state.slotByte (s.ap a).count (s.deferredByte a),
          setUpWord (s.ap a).config ] := by
  have hcount := h.most
  have hwords : s.apertureWords a =
      configWords a (s.ap a).config ++
        [ packWord (s.ap a).state.code (idByte (s.boundSlot a)) (s.ap a).count
            (deferCode (s.deferredReason a)),
          packWord (bit (s.ap a).config.isSome) (windowByte (s.ap a).config) 0 0 ] := by
    unfold State.apertureWords deferCode windowByte
    rfl
  rw [hwords, idByte_boundSlot, deferCode_deferredReason, packWord_setUp h.config,
    packWord_eq_bytesWord (ApState.code_lt _) (ApState.slotByte_lt _) (by omega)
      (deferredByte_lt s a)]

end

/-! ### QUERY_JOBS (R184) -/

/-- The five words of a job in range, with its flag bits. -/
theorem Job.words_eq {j : Job} (h : j.InRange) {flags : Nat} (hflags : flags < 32) :
    j.words flags =
      [ bytesWord j.id j.ring.val j.slot.val (flag j.autoRelease 0 + flags), numWord j.frame, j.dest,
        numWord j.length, numWord j.doneBytes ] := by
  have hid := h.id.2
  have hauto := bit_le j.autoRelease
  rw [Job.words, packWord_eq_bytesWord (by omega) (val_lt_byte (by decide) _)
    (val_lt_byte (by decide) _) (by omega), bit_eq_flag]
  rfl

theorem flagBits_eq (j : ActiveJob) :
    j.flagBits =
      flag true 1 + flag (decide (j.half = .write)) 2 + flag j.cancelled 3 + flag j.granted 4 := by
  simp [ActiveJob.flagBits, flag_eq, bit]

theorem flagBits_lt (j : ActiveJob) : j.flagBits < 32 := by
  have hhalf := bit_le (decide (j.half = .write))
  have hcancelled := bit_le j.cancelled
  have hgranted := bit_le j.granted
  unfold ActiveJob.flagBits
  omega

section
variable {s : State} (hrange : s.InRange)
include hrange

theorem activeWords_eq {j : ActiveJob} (hj : s.copy.active = some j) :
    j.job.words j.flagBits =
      [ bytesWord j.job.id j.job.ring.val j.job.slot.val
          (flag j.job.autoRelease 0 + flag true 1 + flag (decide (j.half = .write)) 2 +
            flag j.cancelled 3 + flag j.granted 4),
        numWord j.job.frame, j.job.dest, numWord j.job.length, numWord j.job.doneBytes ] := by
  have hmem : j.job ∈ s.copy.jobs := by simp [CopyEngine.jobs, hj]
  rw [Job.words_eq (hrange.jobs _ hmem) (flagBits_lt j), flagBits_eq]
  simp only [Nat.add_assoc]

theorem queuedWords_eq :
    (s.copy.queued.flatMap fun j => j.words 0) =
      s.copy.queued.flatMap fun j =>
        [ bytesWord j.id j.ring.val j.slot.val (flag j.autoRelease 0), numWord j.frame, j.dest,
          numWord j.length, numWord j.doneBytes ] := by
  refine List.flatMap_congr fun j hj => ?_
  have hmem : j ∈ s.copy.jobs := List.mem_append_right _ hj
  exact Job.words_eq (hrange.jobs j hmem) (by decide)

theorem jobHeader_eq :
    packWord s.copy.count s.copy.nextId s.arbiter.share s.arbiter.shareCount =
      bytesWord s.copy.count s.copy.nextId s.arbiter.share s.arbiter.shareCount := by
  have hcount := hrange.jobCount
  have hid := hrange.nextId.2
  have hshare := hrange.share
  have hshareCount := hrange.shareCount
  exact packWord_eq_bytesWord (by omega) (by omega) (by omega) (by omega)

end

/-- Settles O42: each query answers with the model's words, and in range every field stands in its word
as it is; the state of a slot is the code of its place. What is unfolded at the end of a case are the
codes, whose tables the statement writes out. -/
theorem queryWordsHoldTheFields : Obligations.QueryWordsHoldTheFields := by
  intro s hreq hrange hplaced
  refine ⟨fun r => ?ring, fun sl => ?slot, fun a => ?aperture, ?jobs⟩
  case ring =>
    refine ⟨(s.ring r).areaWord 0, (s.ring r).areaWord 4, (s.ring r).areaWord 8,
      (s.ring r).areaWord 12, ?_, fun i k w hi hk hw => ?_⟩
    · rw [exec_queryRing_taken hreq, ringWords_eq hrange hplaced]
      unfold numOrZero Overflow.code SchedState.code StartBy.code
      rfl
    · rw [eq_areaWord_of_getElem? _ hw, byte_areaWord _ hk (by omega)]
  case slot =>
    have hstate := code_slotState_iff hplaced sl
    refine ⟨(s.slotState sl).code, ?_, SlotState.code_le _, hstate .unassigned, hstate .free,
      hstate .filling, hstate .ready, hstate .held⟩
    rw [exec_querySlot_taken hreq, slotWords_eq (hrange.slots sl).jobs]
    unfold State.slotBase numOrZero
    rfl
  case aperture =>
    have hap := hrange.apertures a
    rw [exec_queryAperture_taken hreq, apertureWords_eq hap]
    cases hc : (s.ap a).config with
    | none =>
      rw [configWords_none]
      unfold ApState.code ApState.slotByte State.deferredByte
      rfl
    | some c =>
      rw [configWords_some (hap.config c hc)]
      unfold Role.code LineSel.code Pick.code OnEmpty.code StallPolicy.code
      unfold ApState.code ApState.slotByte State.deferredByte
      rfl
  case jobs =>
    rw [exec_queryJobs_taken hreq, State.jobWords, jobHeader_eq hrange, queuedWords_eq hrange]
    cases hj : s.copy.active with
    | none => rfl
    | some j =>
      simp only [Option.toList_some, List.flatMap_cons, List.flatMap_nil, List.append_nil,
        activeWords_eq hrange hj]

end Sys2Proof.Machine
end

section
/-! PROOFS: what an event can do to the part, said once. Every event but the two resets and the four
setting commands is a run of small moves, each one effect of the spec with the facts that hold where it
happens (`Move`). An invariant is then proved by one case for each move. A note of what a run has still
to do (`Ghost`) stands beside the state: between the moves of one event a slot may have gone free before
its retirement applies (R154), a READY slot may be waiting for its reclamation check (R13), an aperture may
be OFF before its entries have applied (R153), and the engine may be between two jobs (R121). -/

namespace Sys2Proof.Machine

/-- What a run of moves may lean on, and what it leaves alone. It may lean on the placement law, the ranges
of the fields and of the records, and the seqs: an invariant that is kept without the placement law, say, is
proved over the moves of `placed := False`. A `still` run makes no boundary pending and no transaction wait,
a `calm` one leaves the Steering Unit alone, an `idle` one the Arbiter, and a `plain` one takes no note out of
its queue, sets no aperture up, turns none ON and leaves the line that each selects. -/
structure Laws where
  placed   : Prop
  ranged   : Prop
  recorded : Prop
  unique   : Prop
  still    : Prop
  calm     : Prop
  idle     : Prop
  plain    : Prop

/-- A run that leans on no law and may do anything. -/
def Laws.none : Laws :=
  { placed := False, ranged := False, recorded := False, unique := False, still := False, calm := False
    idle := False, plain := False }

/-- A run that may do anything. -/
def Laws.Free (L : Laws) : Prop := ¬ L.calm ∧ ¬ L.still ∧ ¬ L.idle ∧ ¬ L.plain

theorem moving_none : Fact (¬ Laws.none.calm) := ⟨id⟩

theorem working_none : Fact (¬ Laws.none.idle) := ⟨id⟩

theorem stirring_none : Fact (¬ Laws.none.still) := ⟨id⟩

theorem opening_none : Fact (¬ Laws.none.plain) := ⟨id⟩

/-- The laws that a run may lean on hold of the state. -/
structure State.Obeys (s : State) (L : Laws) : Prop where
  placed   : L.placed → s.Placed
  ranged   : L.ranged → s.InRange
  recorded : L.placed → L.ranged → L.recorded → s.RecordsInRange
  unique   : L.unique → (s.changes.entries.map (·.seq) ++ [s.changes.nextSeq]).Nodup

/-- What the rest of an event has still to do.

* `due`: slots that have joined a free list and whose retirement, if one waits, has not yet applied.
* `unchecked`: READY slots, each with its ring, that may meet the reclamation condition.
* `offAp`, `offRing`: the aperture and the ring whose entries have still to apply, since the aperture has
  turned OFF and the ring has lost its producer.
* `ending`: the ACTIVE job has left the engine and the next has not become ACTIVE. -/
structure Ghost where
  due       : List SlotId := []
  unchecked : List (RingId × SlotId) := []
  offAp     : Option ApId := none
  offRing   : Option RingId := none
  ending    : Bool := false

/-- Nothing is left to do. -/
def Ghost.rest : Ghost := {}

/-- No transaction is in flight. -/
def State.grounded (s : State) : Prop := ∀ t tg, s.steering.phase ≠ .inFlight t tg

/-- A frame number, from 1 to the top of the counter (R11). -/
def frameOk (n : Nat) : Prop := 1 ≤ n ∧ n ≤ 0xFFFFFFFF

/-- Moves that leave slots, rings, apertures and the Change Queue alone: notes, link, lines, schedules, the
two ports and the copy engine at work on its job. -/
inductive PortMove (L : Laws) (s : State) : State → Prop where
  | raise (n : Note) (range : L.placed → L.ranged → L.recorded → n.InRange) : PortMove L s (s.raise n)
  | notes (x : NoteQueue) (queue : x.queue.Sublist s.notes.queue) (mask : x.mask = s.notes.mask)
      (attn : x.attnEnable = s.notes.attnEnable) (whole : L.plain → x.queue = s.notes.queue) : PortMove L s { s with notes := x }
  | link (x : Link) (range : ∀ r, x.response = some r → s.link.response = some r ∨
      (L.placed → L.ranged → L.recorded → r.words.length ≤ 30)) : PortMove L s { s with link := x }
  | lines (x : Lines) (divisor : x.divisor = s.lines.divisor) (edgeA : x.edgeA = s.lines.edgeA)
      (edgeB : x.edgeB = s.lines.edgeB) (edgeSnap : x.edgeSnap = s.lines.edgeSnap)
      (periods : x.periods ≤ s.lines.periods ∨ x.periods < x.divisor) :
      PortMove L s { s with lines := x }
  | sched (r : RingId) (x : Schedule) (range : L.ranged → x.InRange) : PortMove L s (s.setSched r x)
  | tick [moving : Fact (¬ L.calm)] : PortMove L s { s with steering :=
      { s.steering with phase := s.steering.phase.tick, lock := s.steering.lock.tick } }
  | waiting (ts : List Txn) [moving : Fact (¬ L.calm)]
      [stirring : Fact (¬ L.still)] : PortMove L s { s with steering := { s.steering with waiting := ts } }
  | lock (w : LockWindow) (range : ∀ o src n, w = .opened o src (some n) → n ≤ 64)
      [moving : Fact (¬ L.calm)] :
      PortMove L s { s with steering := { s.steering with lock := w } }
  | forward (t m : Txn) (tg : Option Target) (grounded : s.grounded)
      (range : L.ranged → ∀ x f, tg = some x → x.frame = some f → frameOk f)
      [moving : Fact (¬ L.calm)] [working : Fact (¬ L.idle)] :
      PortMove L s (s.forward t m tg)
  | answer (t : Txn) (o : BusOutcome) (d : List Beat) (grounded : s.grounded)
      [moving : Fact (¬ L.calm)] :
      PortMove L s (s.answer t o d)
  | stall (t : Txn) (a : ApId) (base : Addr) (timer : Option Nat) (grounded : s.grounded)
      (range : L.ranged → ∀ n, timer = some n → n ≤ 65535) [moving : Fact (¬ L.calm)] :
      PortMove L s { s with steering := { s.steering with phase := .stalled t a base timer } }
  | complete (t : Txn) (tg : Option Target) (o : BusOutcome) (d : List Beat)
      (flying : s.steering.phase = .inFlight t tg) (onPort : s.steeringOnPort = true)
      [moving : Fact (¬ L.calm)] [working : Fact (¬ L.idle)] :
      PortMove L s (s.freePort.answer t o d)
  | freeRead : PortMove L s { s with freeReads := s.freeReads + 1 }
  | grantSteering (t : Txn) (k : Nat) (port : s.arbiter.port = none)
      (claim : s.arbiter.steeringClaim = some t)
      (count : k = s.arbiter.shareCount ∨ k = min 15 (s.arbiter.shareCount + 1))
      [working : Fact (¬ L.idle)] :
      PortMove L s (s.grantSteering t k)
  | grantCopy (t : Txn) (port : s.arbiter.port = none) (claim : s.arbiter.copyClaim = some t)
      [working : Fact (¬ L.idle)] :
      PortMove L s (s.grantCopy t)
  | discard (kind : TxnKind) (onPort : s.copyOnPort kind = true) (orphan : s.jobOnPort = none)
      [working : Fact (¬ L.idle)] :
      PortMove L s s.freePort
  | cancelMark (j : ActiveJob) (active : s.copy.active = some j) :
      PortMove L s { s with copy := { s.copy with active := some { j with cancelled := true } } }
  | readOn (kind : TxnKind) (j : ActiveJob) (data : List Beat) (onPort : s.copyOnPort kind = true)
      (active : s.copy.active = some j) (granted : j.granted = true)
      [working : Fact (¬ L.idle)] :
      PortMove L s
        ({ s.freePort with copy := { s.copy with staging := data } }.presentWrite j.job)
  | writeOn (kind : TxnKind) (j : ActiveJob) (onPort : s.copyOnPort kind = true)
      (active : s.copy.active = some j) (granted : j.granted = true)
      (more : ¬ (Job.advanced j.job).length ≤ (Job.advanced j.job).doneBytes)
      [working : Fact (¬ L.idle)] :
      PortMove L s (s.freePort.presentRead (Job.advanced j.job))

/-- No consumer of the ring is VIEWING the slot: it has no holders, or every consumer of the ring is
unbound. -/
def State.noViewer (s : State) (r : RingId) (sl : SlotId) : Prop :=
  (s.slot sl).holders = 0 ∨
    ∀ a c, (s.ap a).config = some c → c.role = .consumer → c.ring = r → ∀ x, (s.ap a).state ≠ .bound x

/-- A consumer or producer of a ring that is ON without a slot. -/
def State.idleAs (s : State) (a : ApId) (role : Role) (r : RingId) : Prop :=
  (s.ap a).state = .unbound ∧ ∃ c, (s.ap a).config = some c ∧ c.role = role ∧ c.ring = r

/-- The producer of a ring is WRITING a slot. -/
def State.writes (s : State) (a : ApId) (r : RingId) (sl : SlotId) : Prop :=
  (s.ap a).state = .bound sl ∧ ∃ c, (s.ap a).config = some c ∧ c.role = .producer ∧ c.ring = r

/-- A job joins the copy queue: the slot's count goes up and the counter moves on (R118, R120). -/
def State.enrol (s : State) (j : Job) : State :=
  { s.setSlot j.slot { s.slot j.slot with jobs := (s.slot j.slot).jobs + 1 } with
    copy := { s.copy with
      nextId := nextUnused 255 (s.copy.ids ++ [s.copy.nextId]) s.copy.nextId } }

/-- A job that may join the copy queue: it has the next id, has not run, and its slot is held. -/
structure State.MayEnter (s : State) (L : Laws) (j : Job) : Prop where
  id    : j.id = s.copy.nextId
  held  : j.slot ∈ (s.ring j.ring).held
  fresh : j.doneBytes = 0
  range : L.ranged → j.InRange
  space : s.copy.count < 4

/-- The ready list of a ring, each slot with the ring. -/
def State.readyPairs (s : State) (r : RingId) : List (RingId × SlotId) := (s.ring r).ready.map (r, ·)

/-- What is left to do may be stated anew: what is no longer named has been done. -/
structure Ghost.Restated (L : Laws) (s : State) (g h : Ghost) : Prop where
  due       : L.placed → ∀ e ∈ s.changes.entries, ∀ x, e.op = .retireSlot x → x ∈ g.due → x ∈ h.due
  unchecked : L.placed → ∀ r, ∀ x ∈ (s.ring r).ready, (r, x) ∈ g.unchecked → s.MeetsReclamation r x →
    (r, x) ∈ h.unchecked
  offAp     : ∀ e ∈ s.changes.entries, ∀ a x, e.op = .aperture a x → g.offAp = some a →
    h.offAp = some a
  offRing   : ∀ e ∈ s.changes.entries, ∀ r o, e.op = .setOverflow r o → g.offRing = some r →
    h.offRing = some r
  ending    : h.ending = g.ending

/-- The divider count of an aperture may be `n` under the configuration `c`. -/
def countOk (on : Bool) (c : Option ApConfig) (n : Nat) : Prop :=
  n < 16 ∧ ∀ d, c = some d → on = true → n < d.divider

/-- One move of an event, on the state and on what is left to do. -/
inductive Move (L : Laws) (s : State) (g : Ghost) : State → Ghost → Prop where
  /-- A move outside the records. -/
  | port {t : State} (h : PortMove L s t) : Move L s g t g
  /-- What is left to do is stated anew. -/
  | restate (h : Ghost) (done : Ghost.Restated L s g h) : Move L s g s h
  -- slot records
  | marks (sl : SlotId) (written faulted retained release : Bool) :
      Move L s g (s.setSlot sl
        { s.slot sl with written := written, faulted := faulted, retained := retained,
                         releaseRequested := release }) g
  | pass (r : RingId) (sl : SlotId) (a : ApId) (ready : L.placed → sl ∈ (s.ring r).ready) :
      Move L s g (s.setSlot sl { s.slot sl with passedBy := ApSet.insert (s.slot sl).passedBy a })
        { g with unchecked := (r, sl) :: g.unchecked }
  | unpass (sl : SlotId) (a : ApId) :
      Move L s g (s.setSlot sl { s.slot sl with passedBy := ApSet.erase (s.slot sl).passedBy a }) g
  -- aperture records
  | count (a : ApId) (n : Nat) (deferred : Bool)
      (range : L.ranged → countOk (s.apOn a) (s.ap a).config n)
      (stirring : L.still → deferred = true → (s.ap a).deferred = true) :
      Move L s g (s.setAp a { s.ap a with count := n, deferred := deferred }) g
  | configure (a : ApId) (c d : ApConfig) (n : Nat) (u : List (RingId × SlotId))
      (config : (s.ap a).config = some c) (ring : d.ring = c.ring) (role : d.role = c.role)
      (size : d.windowSize = c.windowSize) (range : L.ranged → d.InRange)
      (count : L.ranged → countOk (s.apOn a) (some d) n)
      (window : s.apOn a = true → d.windowBase = c.windowBase ∨
        s.MoveFree a d.windowBase (2 ^ d.windowSize))
      (pick : s.apOn a = true → c.role = .consumer → c.pick = .ordered → d.pick = .newest →
        ∀ p ∈ s.readyPairs c.ring, p ∈ u) (line : L.plain → d.line = c.line) :
      Move L s g (s.setAp a { s.ap a with config := some d, count := n })
        { g with unchecked := u ++ g.unchecked }
  | setUp (a : ApId) (c : ApConfig) (off : s.apOn a = false)
      (size : (s.ring c.ring).slotSize = some c.windowSize) (range : L.ranged → c.InRange)
      [opening : Fact (¬ L.plain)] :
      Move L s g (s.setConfig a c) g
  -- producers
  | toReady (a : ApId) (r : RingId) (sl : SlotId) (writes : s.writes a r sl) :
      Move L s g
        ((s.setApState a .unbound).setRing r { s.ring r with ready := (s.ring r).ready ++ [sl] })
        { g with unchecked := s.readyPairs r ++ g.unchecked }
  | returnHead (a : ApId) (r : RingId) (sl : SlotId) (writes : s.writes a r sl) :
      Move L s g ((s.setApState a .unbound).joinFreeHead r sl) { g with due := sl :: g.due }
  | advance (r : RingId) : Move L s g (s.advanceFrame r) g
  | takeFree (a : ApId) (r : RingId) (sl : SlotId) (rest : List SlotId) (n : Nat)
      (free : (s.ring r).free = sl :: rest) (on : s.apOn a = true)
      (idle : L.placed → s.idleAs a .producer r) (frame : frameOk n) :
      Move L s g ((s.setRing r { s.ring r with free := rest }).fill a sl n) g
  | steal (a : ApId) (r : RingId) (sl : SlotId) (n : Nat) (ready : sl ∈ (s.ring r).ready)
      (holders : (s.slot sl).holders = 0) (on : s.apOn a = true)
      (idle : L.placed → s.idleAs a .producer r) (frame : frameOk n) :
      Move L s g ((s.leaveReady r sl).fill a sl n) g
  | unbind (a : ApId) (on : s.apOn a = true) (idle : L.placed → (s.ap a).state = .unbound) :
      Move L s g (s.setApState a .unbound) g
  | producerOn (a : ApId) (c : ApConfig) (off : s.apOn a = false)
      (config : (s.ap a).config = some c) (role : c.role = .producer)
      (none : (s.ring c.ring).producer = none) (window : s.windowTaken c = false)
      [opening : Fact (¬ L.plain)] :
      Move L s g ((s.setRing c.ring { s.ring c.ring with producer := some a }).freshOn a) g
  | producerOff (a : ApId) (r : RingId) (idle : L.placed → s.idleAs a .producer r)
      (onlyAp : g.offAp = none ∨ g.offAp = some a) (onlyRing : g.offRing = none ∨ g.offRing = some r) :
      Move L s g (s.producerOff a r) { g with offAp := some a, offRing := some r }
  -- consumers
  | acquire (a : ApId) (r : RingId) (sl : SlotId) (state : (s.ap a).state = .unbound)
      (idle : L.placed → s.idleAs a .consumer r)
      (ready : sl ∈ (s.ring r).ready) :
      Move L s g
        ((s.setSlot sl { s.slot sl with holders := ApSet.insert (s.slot sl).holders a }).setApState a
          (.bound sl)) g
  | release (a : ApId) (c : ApConfig) (sl : SlotId) (bound : (s.ap a).state = .bound sl)
      (config : L.placed → (s.ap a).config = some c ∧ c.role = .consumer) :
      Move L s g
        ((s.setSlot sl { s.slot sl with holders := ApSet.erase (s.slot sl).holders a }).setApState a
          .unbound) { g with unchecked := (c.ring, sl) :: g.unchecked }
  | consumerOn (a : ApId) (c : ApConfig) (off : s.apOn a = false)
      (config : (s.ap a).config = some c) (role : c.role = .consumer)
      (few : ApSet.size (s.ring c.ring).consumers < 3) (window : s.windowTaken c = false)
      [opening : Fact (¬ L.plain)] :
      Move L s g ((s.setRing c.ring { s.ring c.ring with
        consumers := ApSet.insert (s.ring c.ring).consumers a }).freshOn a) g
  | consumerOff (a : ApId) (c : ApConfig) (u : List (RingId × SlotId)) (state : (s.ap a).state = .unbound)
      (config : (s.ap a).config = some c) (role : c.role = .consumer)
      (pick : c.pick = .ordered → ∀ p ∈ s.readyPairs c.ring, p ∈ u)
      (onlyAp : g.offAp = none ∨ g.offAp = some a) :
      Move L s g
        ((s.setAp a { s.ap a with state := .off, deferred := false }).setRing c.ring
          { s.ring c.ring with consumers := ApSet.erase (s.ring c.ring).consumers a })
        { g with offAp := some a, unchecked := u ++ g.unchecked }
  -- slots between the lists
  | toHeld (r : RingId) (sl : SlotId) (ready : L.placed → sl ∈ (s.ring r).ready)
      (viewer : L.placed → s.noViewer r sl) :
      Move L s g ((s.leaveReady r sl).setRing r
        { (s.leaveReady r sl).ring r with held := ((s.leaveReady r sl).ring r).held ++ [sl] }) g
  | toFree (r : RingId) (sl : SlotId) (ready : L.placed → sl ∈ (s.ring r).ready)
      (viewer : L.placed → s.noViewer r sl) :
      Move L s g ((s.leaveReady r sl).joinFreeTail r sl) { g with due := sl :: g.due }
  | freeHeld (r : RingId) (sl : SlotId) (held : L.placed → sl ∈ (s.ring r).held)
      (jobs : (s.slot sl).jobs = 0) :
      Move L s g (s.freeHeld r sl) { g with due := sl :: g.due }
  | settle (sl : SlotId)
      (free : L.placed → ∃ h, (s.slot sl).home = some h ∧ sl ∈ (s.ring h.ring).free) :
      Move L s g (s.applyRetirement sl) { g with due := g.due.filter (· ≠ sl) }
  | retireNow (sl : SlotId) (h : Home) (home : (s.slot sl).home = some h)
      (free : sl ∈ (s.ring h.ring).free) (pending : (s.slot sl).retirePending = false)
      (floor : ¬ ((s.ring h.ring).on = true ∧ (s.ring h.ring).pool ≤ 2)) : Move L s g (s.retire sl) g
  | assign (sl : SlotId) (r : RingId) (base : Addr) (home : (s.slot sl).home = none)
      (size : (s.ring r).slotSize.isSome = true)
      (region : s.WindowFree base (s.slotBytes r)) : Move L s g (s.assignSlot sl r base) g
  -- ring records
  | size (r : RingId) (e : Nat) (o : Overflow) (range : 12 ≤ e ∧ e ≤ 24)
      (fits : s.sizeConflict r e = false) :
      Move L s g (s.setRing r { s.ring r with slotSize := some e, overflow := o }) g
  | overflow (r : RingId) (o : Overflow) :
      Move L s g (s.setRing r { s.ring r with overflow := o }) g
  | power (r : RingId) (on : Bool) (pool : on = true → 2 ≤ (s.ring r).pool) :
      Move L s g (s.setRing r { s.ring r with on := on }) g
  -- the Change Queue
  | dropEntry (e : Change) (mem : ∀ x, e.op = .retireSlot x → L.unique → e ∈ s.changes.entries) :
      Move L s g ((s.removeChange e).clearRetirePending e.op) g
  | countDown (e : Change) (n : Nat) (expiry : n ≤ e.expiry) :
      Move L s g { s with changes := { s.changes with
        entries := s.changes.entries.map fun x => if x = e then { x with expiry := n } else x } } g
  | queueEntry (op : ChangeOp) (k : Nat) (space : s.changes.entries.length < 12) (expiry : k ≤ 255)
      (args : ∀ a x, op = .aperture a x → ApChange.InRange x)
      (target : s.targetCheck op = true) (slot : ∀ x, op ≠ .retireSlot x) :
      Move L s g (s.queueChange op k) g
  | queueRetire (sl : SlotId) (k : Nat) (space : s.changes.entries.length < 12) (expiry : k ≤ 255)
      (pending : (s.slot sl).retirePending = false)
      (home : (s.slot sl).home.isSome = true) (free : L.placed → ∀ r, sl ∉ (s.ring r).free) :
      Move L s g
        ((s.setSlot sl { s.slot sl with retirePending := true }).queueChange (.retireSlot sl) k) g
  -- the copy queue
  | startJob (j : Job) (idle : s.copy.active = none) (enter : s.MayEnter L j)
      [working : Fact (¬ L.idle)] :
      Move L s g ((s.enrol j).presentRead j) g
  | queueJob (j : Job) (busy : s.copy.active ≠ none) (enter : s.MayEnter L j) :
      Move L s g { s.enrol j with copy := { (s.enrol j).copy with queued := (s.enrol j).copy.queued ++ [j] } }
        g
  | dropActive (j : ActiveJob) (active : s.copy.active = some j)
      (port : j.granted = true → ∃ kind, s.copyOnPort kind = true)
      [working : Fact (¬ L.idle)] :
      Move L s g ((if j.granted then s.freePort else s).clearActive.dropJobCount j.job.slot)
        { g with ending := true }
  | dropQueued (j : Job) (queued : j ∈ s.copy.queued) :
      Move L s g ({ s with copy := { s.copy with queued := s.copy.queued.erase j } }.dropJobCount j.slot)
        g
  | activateNext (idle : s.copy.active = none) (ending : g.ending = true)
      [working : Fact (¬ L.idle)] :
      Move L s g s.activateNext { g with ending := false }

/-- A run of moves. -/
inductive Moves (L : Laws) (s : State) (g : Ghost) : State → Ghost → Prop where
  | refl : Moves L s g s g
  | tail {t u : State} {h k : Ghost} (run : Moves L s g t h) (move : Move L t h u k) :
      Moves L s g u k

theorem Move.single {L : Laws} {s t : State} {g h : Ghost} (m : Move L s g t h) : Moves L s g t h :=
  .tail .refl m

theorem PortMove.single {L : Laws} {s t : State} {g : Ghost} (m : PortMove L s t) :
    Moves L s g t g :=
  (Move.port m).single

theorem Moves.trans {L : Laws} {s t u : State} {g h k : Ghost} (m : Moves L s g t h)
    (n : Moves L t h u k) : Moves L s g u k := by
  induction n with
  | refl => exact m
  | tail _ move ih => exact .tail ih move

/-- A property of the state and of what is left to do that every move keeps is kept by every run. -/
theorem Moves.keeps {L : Laws} {P : State → Ghost → Prop}
    (step : ∀ {s t g h}, P s g → Move L s g t h → P t h) {s t : State} {g h : Ghost}
    (m : Moves L s g t h) (hs : P s g) : P t h := by
  induction m with
  | refl => exact hs
  | tail _ move ih => exact step ih move

end Sys2Proof.Machine
end

section
/-! PROOFS: what every move leaves alone, and the invariants that each move keeps: ranges (O54). -/

namespace Sys2Proof.Machine

/-! ### What no move touches -/

/-- The queue of commands, the kind mask and ATTN enable, the share setting, the divisor and the active
edges, which only the resets and the setting commands change. -/
structure SameSettings (s t : State) : Prop where
  pending  : t.pending = s.pending
  mask     : t.notes.mask = s.notes.mask
  attn     : t.notes.attnEnable = s.notes.attnEnable
  share    : t.arbiter.share = s.arbiter.share
  divisor  : t.lines.divisor = s.lines.divisor
  edgeA    : t.lines.edgeA = s.lines.edgeA
  edgeB    : t.lines.edgeB = s.lines.edgeB
  edgeSnap : t.lines.edgeSnap = s.lines.edgeSnap

theorem SameSettings.refl (s : State) : SameSettings s s := ⟨rfl, rfl, rfl, rfl, rfl, rfl, rfl, rfl⟩

theorem SameSettings.trans {s t u : State} (h : SameSettings s t) (k : SameSettings t u) :
    SameSettings s u :=
  ⟨k.pending.trans h.pending, k.mask.trans h.mask, k.attn.trans h.attn, k.share.trans h.share,
    k.divisor.trans h.divisor, k.edgeA.trans h.edgeA, k.edgeB.trans h.edgeB,
    k.edgeSnap.trans h.edgeSnap⟩

/-- The records and the Change Queue, which a move of the ports leaves alone. -/
structure SameBooks (s t : State) : Prop where
  slots     : t.slots = s.slots
  rings     : t.rings = s.rings
  apertures : t.apertures = s.apertures
  changes   : t.changes = s.changes

section
variable {L : Laws} {s t : State}

theorem PortMove.books (h : PortMove L s t) : SameBooks s t := by
  cases h <;> exact ⟨rfl, rfl, rfl, rfl⟩

theorem PortMove.settings (h : PortMove L s t) : SameSettings s t := by
  cases h with
  | raise n _ => exact ⟨rfl, push_mask _ _, push_attnEnable _ _, rfl, rfl, rfl, rfl, rfl⟩
  | notes x _ hm ha => exact ⟨rfl, hm, ha, rfl, rfl, rfl, rfl, rfl⟩
  | lines x hd ha hb hs _ => exact ⟨rfl, rfl, rfl, rfl, hd, ha, hb, hs⟩
  | _ => exact ⟨rfl, rfl, rfl, rfl, rfl, rfl, rfl, rfl⟩

end

/-- The three outcomes of a waiting retirement (R154): none waits; the pool floor rejects it; the slot is
retired. -/
theorem applyRetirement_cases (s : State) (sl : SlotId) :
    (s.waitingRetirement sl = none ∧ s.applyRetirement sl = s) ∨
    (∃ e, s.waitingRetirement sl = some e ∧
      (∃ h, (s.slot sl).home = some h ∧ (s.ring h.ring).on = true ∧ (s.ring h.ring).pool ≤ 2) ∧
      s.applyRetirement sl =
        ((s.removeChange e).setSlot sl { s.slot sl with retirePending := false }).raise
          (s.changeNote .changeRejected e)) ∨
    ∃ e, s.waitingRetirement sl = some e ∧
      (∀ h, (s.slot sl).home = some h → ¬ ((s.ring h.ring).on = true ∧ (s.ring h.ring).pool ≤ 2)) ∧
      s.applyRetirement sl =
        (((s.removeChange e).setSlot sl { s.slot sl with retirePending := false }).retire sl).raise
          (s.changeNote .changeApplied e) := by
  unfold State.applyRetirement
  cases he : s.waitingRetirement sl with
  | none => exact .inl ⟨rfl, rfl⟩
  | some e =>
    right
    cases hh : (s.slot sl).home with
    | none => exact .inr ⟨e, rfl, nofun, by simp⟩
    | some h =>
      by_cases hfloor : (s.ring h.ring).on = true ∧ (s.ring h.ring).pool ≤ 2
      · exact .inl ⟨e, rfl, ⟨h, rfl, hfloor⟩, by simp [hfloor, hh]⟩
      · refine .inr ⟨e, rfl, fun k hk => ?_, ?_⟩
        · cases hk; exact hfloor
        · simp only [Bool.and_eq_true, decide_eq_true_eq, hfloor, if_false, removeChange_slot, hh]

/-- The entry that waits on a slot is its RETIRE_SLOT, and stands in the queue. -/
theorem waitingRetirement_some {s : State} {sl : SlotId} {e : Change}
    (h : s.waitingRetirement sl = some e) : e ∈ s.changes.entries ∧ e.op = .retireSlot sl :=
  ⟨List.mem_of_find?_eq_some h, by simpa using List.find?_some h⟩

@[simp] theorem retire_pending (s : State) (sl : SlotId) : (s.retire sl).pending = s.pending := by
  unfold State.retire; split <;> rfl
@[simp] theorem retire_notes (s : State) (sl : SlotId) : (s.retire sl).notes = s.notes := by
  unfold State.retire; split <;> rfl
@[simp] theorem retire_arbiter (s : State) (sl : SlotId) : (s.retire sl).arbiter = s.arbiter := by
  unfold State.retire; split <;> rfl
@[simp] theorem retire_steering (s : State) (sl : SlotId) : (s.retire sl).steering = s.steering := by
  unfold State.retire; split <;> rfl
@[simp] theorem retire_lines (s : State) (sl : SlotId) : (s.retire sl).lines = s.lines := by
  unfold State.retire; split <;> rfl
@[simp] theorem retire_link (s : State) (sl : SlotId) : (s.retire sl).link = s.link := by
  unfold State.retire; split <;> rfl
@[simp] theorem retire_copy (s : State) (sl : SlotId) : (s.retire sl).copy = s.copy := by
  unfold State.retire; split <;> rfl
@[simp] theorem retire_changes (s : State) (sl : SlotId) : (s.retire sl).changes = s.changes := by
  unfold State.retire; split <;> rfl
@[simp] theorem retire_schedules (s : State) (sl : SlotId) :
    (s.retire sl).schedules = s.schedules := by
  unfold State.retire; split <;> rfl
@[simp] theorem retire_sched (s : State) (sl : SlotId) (r : RingId) :
    (s.retire sl).sched r = s.sched r := by
  unfold State.retire; split <;> rfl
@[simp] theorem retire_apertures (s : State) (sl : SlotId) :
    (s.retire sl).apertures = s.apertures := by
  unfold State.retire; split <;> rfl
@[simp] theorem retire_ap (s : State) (sl : SlotId) (a : ApId) : (s.retire sl).ap a = s.ap a := by
  unfold State.retire; split <;> rfl
@[simp] theorem retire_aOut (s : State) (sl : SlotId) : (s.retire sl).aOut = s.aOut := by
  unfold State.retire; split <;> rfl
@[simp] theorem retire_freeReads (s : State) (sl : SlotId) :
    (s.retire sl).freeReads = s.freeReads := by
  unfold State.retire; split <;> rfl

/-- A retirement leaves the ports, the copy engine, the apertures, the schedules, the lines and the link
alone. -/
theorem applyRetirement_frame (s : State) (sl : SlotId) :
    { s.applyRetirement sl with
      slots := s.slots, rings := s.rings, changes := s.changes, notes := s.notes } = s := by
  rcases applyRetirement_cases s sl with ⟨_, e⟩ | ⟨_, _, _, e⟩ | ⟨_, _, _, e⟩ <;> rw [e]
  · rfl
  · unfold State.retire
    split <;> rfl

theorem applyRetirement_mask (s : State) (sl : SlotId) :
    (s.applyRetirement sl).notes.mask = s.notes.mask ∧
      (s.applyRetirement sl).notes.attnEnable = s.notes.attnEnable := by
  rcases applyRetirement_cases s sl with ⟨_, e⟩ | ⟨_, _, _, e⟩ | ⟨_, _, _, e⟩ <;> rw [e] <;> simp

/-- The entry leaves the queue with its mark on the slot. -/
theorem clearRetirePending_cases (s : State) (op : ChangeOp) :
    ((∀ x, op ≠ .retireSlot x) ∧ s.clearRetirePending op = s) ∨
    ∃ x, op = .retireSlot x ∧
      s.clearRetirePending op = s.setSlot x { s.slot x with retirePending := false } := by
  cases op with
  | retireSlot x => exact .inr ⟨x, rfl, rfl⟩
  | _ => exact .inl ⟨nofun, rfl⟩

theorem activateNext_cases (s : State) :
    (s.copy.queued = [] ∧
      s.activateNext = { s with arbiter := { s.arbiter with shareCount := 0 } }) ∨
    ∃ j js, s.copy.queued = j :: js ∧
      s.activateNext = { s with copy := { s.copy with queued := js } }.presentRead j := by
  unfold State.activateNext
  cases h : s.copy.queued with
  | nil => exact .inl ⟨rfl, rfl⟩
  | cons j js => exact .inr ⟨j, js, rfl, rfl⟩

theorem Move.settings {L : Laws} {s t : State} {g h : Ghost} (m : Move L s g t h) :
    SameSettings s t := by
  cases m with
  | port m => exact m.settings
  | settle sl _ =>
    have f := applyRetirement_frame s sl
    have hm := applyRetirement_mask s sl
    exact ⟨(congrArg State.pending f :), hm.1, hm.2, (congrArg (fun u => u.arbiter.share) f :),
      (congrArg (fun u => u.lines.divisor) f :), (congrArg (fun u => u.lines.edgeA) f :),
      (congrArg (fun u => u.lines.edgeB) f :), (congrArg (fun u => u.lines.edgeSnap) f :)⟩
  | retireNow sl => constructor <;> simp
  | dropEntry e _ =>
    rcases clearRetirePending_cases (s.removeChange e) e.op with ⟨_, h⟩ | ⟨_, _, h⟩ <;> rw [h] <;>
      exact ⟨rfl, rfl, rfl, rfl, rfl, rfl, rfl, rfl⟩
  | dropActive j _ _ => constructor <;> split <;> rfl
  | activateNext _ _ =>
    rcases activateNext_cases s with ⟨_, h⟩ | ⟨_, _, _, h⟩ <;> rw [h] <;>
      exact ⟨rfl, rfl, rfl, rfl, rfl, rfl, rfl, rfl⟩
  | _ => exact ⟨rfl, rfl, rfl, rfl, rfl, rfl, rfl, rfl⟩

theorem Moves.settings {L : Laws} {s t : State} {g h : Ghost} (m : Moves L s g t h) :
    SameSettings s t := by
  induction m with
  | refl => exact SameSettings.refl _
  | tail _ m ih => exact ih.trans m.settings

end Sys2Proof.Machine
end

section
/-! PROOFS: every move keeps the placement law (O55). The law is read as one list of places for each
ring, which most moves only permute. -/

namespace Sys2Proof.Machine

/-- The places of a ring: its three lists and the slot its producer fills. -/
def State.places (s : State) (r : RingId) : List SlotId :=
  (s.ring r).lists ++ (s.fillingSlot r).toList

/-- The placement law over the places. -/
theorem placed_iff (s : State) :
    s.Placed ↔ (∀ r, (s.places r).Nodup) ∧
      (∀ r sl, sl ∈ s.places r ↔ (s.slot sl).home.map (·.ring) = some r) ∧
      (∀ r, (s.places r).length = (s.ring r).pool) ∧
      (∀ r a, (s.ring r).producer = some a ↔ s.servesAs a .producer r) ∧
      ∀ r a, ApSet.has (s.ring r).consumers a = true ↔ s.servesAs a .consumer r := by
  constructor
  · rintro ⟨listed, once, filling, somewhere, producer, consumers, conserved⟩
    refine ⟨fun r => ?_, fun r sl => ?_, fun r => ?_, producer, consumers⟩
    · cases hf : s.fillingSlot r with
      | none => simpa [State.places, hf] using once r
      | some x =>
        simpa [State.places, hf, List.nodup_append, once r] using
          fun a ha (h : a = x) => (filling r x hf).2 (h ▸ ha)
    · simp only [State.places, List.mem_append, Option.mem_toList]
      refine ⟨fun h => ?_, somewhere r sl⟩
      rcases h with h | h
      · exact listed r sl h
      · exact (filling r sl h).1
    · simpa [State.places] using conserved r
  · rintro ⟨nodup, mem, count, producer, consumers⟩
    refine ⟨fun r sl h => (mem r sl).1 (List.mem_append_left _ h),
      fun r => (nodup r).of_append_left, fun r sl h => ?_, fun r sl h => ?_, producer, consumers,
      fun r => by simpa [State.places] using count r⟩
    · refine ⟨(mem r sl).1 (List.mem_append_right _ (by simp [h])), fun hl => ?_⟩
      exact List.disjoint_of_nodup_append (nodup r) hl (by simp [h])
    · simpa [State.places] using (mem r sl).2 h

section
variable {s t : State}

/-- The aperture serves the same ring in the same role. -/
structure SameService (s t : State) (a : ApId) : Prop where
  on     : t.apOn a = s.apOn a
  config : (t.ap a).config.map (fun c => (c.role, c.ring)) = (s.ap a).config.map fun c => (c.role, c.ring)

theorem servesAs_iff_map (s : State) (a : ApId) (role : Role) (r : RingId) :
    s.servesAs a role r ↔
      s.apOn a = true ∧ (s.ap a).config.map (fun c => (c.role, c.ring)) = some (role, r) := by
  simp [State.servesAs]

theorem SameService.servesAs_iff {a : ApId} (h : SameService s t a) (role : Role) (r : RingId) :
    t.servesAs a role r ↔ s.servesAs a role r := by
  rw [servesAs_iff_map, servesAs_iff_map, h.on, h.config]

theorem SameService.refl (s : State) (a : ApId) : SameService s s a := ⟨rfl, rfl⟩

theorem SameService.of_ap {a : ApId} (h : t.ap a = s.ap a) : SameService s t a :=
  ⟨by simp [State.apOn, h], by rw [h]⟩

/-- The slot that a ring's producer fills depends on the producer and its binding. -/
theorem fillingSlot_congr {r : RingId} (hp : (t.ring r).producer = (s.ring r).producer)
    (hb : ∀ a, (s.ring r).producer = some a → t.boundSlot a = s.boundSlot a) :
    t.fillingSlot r = s.fillingSlot r := by
  unfold State.fillingSlot
  rw [hp]
  cases h : (s.ring r).producer with
  | none => rfl
  | some a => exact hb a h

theorem boundSlot_of_ap {a : ApId} (h : t.ap a = s.ap a) : t.boundSlot a = s.boundSlot a := by
  simp [State.boundSlot, h]

/-- A move that permutes the places of each ring, among apertures that serve as before, keeps the law. -/
theorem State.Placed.of_perm (h : s.Placed) (perm : ∀ r, (t.places r).Perm (s.places r))
    (home : ∀ sl, (t.slot sl).home.map (·.ring) = (s.slot sl).home.map (·.ring))
    (pool : ∀ r, (t.ring r).pool = (s.ring r).pool)
    (producer : ∀ r, (t.ring r).producer = (s.ring r).producer)
    (consumers : ∀ r, (t.ring r).consumers = (s.ring r).consumers)
    (service : ∀ a, SameService s t a) : t.Placed := by
  rw [placed_iff] at h ⊢
  obtain ⟨nodup, mem, count, hprod, hcons⟩ := h
  exact ⟨fun r => (perm r).nodup_iff.2 (nodup r),
    fun r sl => by rw [(perm r).mem_iff, mem, home],
    fun r => by rw [(perm r).length_eq, count, pool],
    fun r a => by rw [producer, hprod, (service a).servesAs_iff],
    fun r a => by rw [consumers, hcons, (service a).servesAs_iff]⟩

/-- A move that changes no list and no binding keeps the law. -/
theorem State.Placed.of_frame (h : s.Placed)
    (home : ∀ sl, (t.slot sl).home.map (·.ring) = (s.slot sl).home.map (·.ring))
    (lists : ∀ r, (t.ring r).lists = (s.ring r).lists)
    (pool : ∀ r, (t.ring r).pool = (s.ring r).pool)
    (producer : ∀ r, (t.ring r).producer = (s.ring r).producer)
    (consumers : ∀ r, (t.ring r).consumers = (s.ring r).consumers)
    (service : ∀ a, SameService s t a)
    (bound : ∀ r a, (s.ring r).producer = some a → t.boundSlot a = s.boundSlot a) : t.Placed :=
  h.of_perm (fun r => by
      rw [State.places, lists, fillingSlot_congr (producer r) (bound r)]
      exact List.Perm.refl _) home pool producer consumers service

/-- The record of one slot written, its home kept. -/
theorem State.Placed.setSlot (h : s.Placed) (sl : SlotId) (x : Slot) (hx : x.home = (s.slot sl).home) :
    (s.setSlot sl x).Placed :=
  h.of_frame (fun y => by rw [setSlot_slot]; split <;> simp_all) (fun _ => rfl) (fun _ => rfl)
    (fun _ => rfl) (fun _ => rfl) (fun a => .of_ap rfl) fun _ _ _ => rfl

/-- The record of one ring written, its lists and what places count by kept. -/
theorem State.Placed.setRing (h : s.Placed) (r : RingId) (x : Ring)
    (lists : x.lists = (s.ring r).lists) (pool : x.pool = (s.ring r).pool)
    (producer : x.producer = (s.ring r).producer) (consumers : x.consumers = (s.ring r).consumers) :
    (s.setRing r x).Placed := by
  refine h.of_frame (fun _ => rfl) (fun q => ?_) (fun q => ?_) (fun q => ?_) (fun q => ?_)
    (fun a => .of_ap rfl) fun _ _ _ => rfl
  all_goals rw [setRing_ring]; split <;> simp_all

/-- The record of one aperture written, its state and service kept. -/
theorem State.Placed.setAp (h : s.Placed) (a : ApId) (x : Aperture) (state : x.state = (s.ap a).state)
    (config : x.config.map (fun c => (c.role, c.ring)) =
      (s.ap a).config.map fun c => (c.role, c.ring)) : (s.setAp a x).Placed := by
  have hap (b : ApId) : ((s.setAp a x).ap b).state = (s.ap b).state := by
    rw [setAp_ap]; split <;> simp_all
  refine h.of_frame (fun _ => rfl) (fun _ => rfl) (fun _ => rfl) (fun _ => rfl) (fun _ => rfl)
    (fun b => ⟨by simp [State.apOn, hap], ?_⟩) fun _ b _ => by simp [State.boundSlot, hap]
  rw [setAp_ap]; split <;> simp_all

/-! ### An aperture that is OFF, and one that serves -/

theorem apOn_eq_false {a : ApId} : s.apOn a = false ↔ (s.ap a).state = .off := by
  simp [State.apOn]

theorem apOn_eq_true {a : ApId} : s.apOn a = true ↔ (s.ap a).state ≠ .off := by
  simp [State.apOn]

theorem State.idleAs.servesAs {a : ApId} {role : Role} {r : RingId} (h : s.idleAs a role r) :
    s.servesAs a role r := by
  obtain ⟨hs, c, hc, hrole, hring⟩ := h
  exact ⟨by simp [State.apOn, hs], c, hc, hrole, hring⟩

theorem State.writes.servesAs {a : ApId} {r : RingId} {sl : SlotId} (h : s.writes a r sl) :
    s.servesAs a .producer r := by
  obtain ⟨hs, c, hc, hrole, hring⟩ := h
  exact ⟨by simp [State.apOn, hs], c, hc, hrole, hring⟩

/-- An aperture serves in one role and one ring. -/
theorem State.servesAs.unique {a : ApId} {p q : Role} {r u : RingId} (h : s.servesAs a p r)
    (k : s.servesAs a q u) : p = q ∧ r = u := by
  obtain ⟨_, c, hc, rfl, rfl⟩ := h
  obtain ⟨_, d, hd, rfl, rfl⟩ := k
  rw [hc] at hd; cases hd; exact ⟨rfl, rfl⟩

theorem State.Placed.producer_eq (h : s.Placed) {a : ApId} {r : RingId}
    (k : s.servesAs a .producer r) : (s.ring r).producer = some a := (h.producer r a).2 k

/-- The one ring whose producer an aperture is. -/
theorem State.Placed.producer_ring (h : s.Placed) {a : ApId} {r q : RingId}
    (k : s.servesAs a .producer r) (hq : (s.ring q).producer = some a) : q = r :=
  (((h.producer q a).1 hq).unique k).2

/-- A consumer is no producer. -/
theorem State.Placed.producer_ne (h : s.Placed) {a : ApId} {r q : RingId}
    (k : s.servesAs a .consumer r) : (s.ring q).producer ≠ some a := fun hq =>
  nomatch (((h.producer q a).1 hq).unique k).1

theorem State.idleAs.boundSlot {a : ApId} {role : Role} {r : RingId} (h : s.idleAs a role r) :
    s.boundSlot a = none := by
  simp [State.boundSlot, h.1]

theorem State.writes.boundSlot {a : ApId} {r : RingId} {sl : SlotId} (h : s.writes a r sl) :
    s.boundSlot a = some sl := by
  simp [State.boundSlot, h.1]

theorem State.Placed.fillingSlot_of_idle (h : s.Placed) {a : ApId} {r : RingId}
    (k : s.idleAs a .producer r) : s.fillingSlot r = none := by
  simp [State.fillingSlot, h.producer_eq k.servesAs, k.boundSlot]

theorem State.Placed.fillingSlot_of_writes (h : s.Placed) {a : ApId} {r : RingId} {sl : SlotId}
    (k : s.writes a r sl) : s.fillingSlot r = some sl := by
  simp [State.fillingSlot, h.producer_eq k.servesAs, k.boundSlot]

@[simp] theorem setSlot_boundSlot (i : SlotId) (x : Slot) (a : ApId) :
    (s.setSlot i x).boundSlot a = s.boundSlot a := rfl
@[simp] theorem setRing_boundSlot (i : RingId) (x : Ring) (a : ApId) :
    (s.setRing i x).boundSlot a = s.boundSlot a := rfl
@[simp] theorem setSlot_apOn (i : SlotId) (x : Slot) (a : ApId) :
    (s.setSlot i x).apOn a = s.apOn a := rfl
@[simp] theorem setRing_apOn (i : RingId) (x : Ring) (a : ApId) :
    (s.setRing i x).apOn a = s.apOn a := rfl

theorem setApState_service {a : ApId} {x : ApState} (hx : x = .off ↔ (s.ap a).state = .off)
    (b : ApId) : SameService s (s.setApState a x) b := by
  refine ⟨?_, by simp⟩
  simp only [State.apOn, setApState_ap]
  split
  · subst b; simp [hx]
  · rfl

theorem boundSlot_setApState_ne {a b : ApId} {x : ApState} (h : a ≠ b) :
    (s.setApState a x).boundSlot b = s.boundSlot b :=
  boundSlot_of_ap (setApState_ap_ne s x h)

/-! ### Slots that change their place -/

/-- A slot moves between the lists of one ring and the hand of its producer: the places of the ring are
permuted, and the other rings keep theirs. -/
theorem State.Placed.of_ring_perm (h : s.Placed) (r : RingId) (perm : (t.places r).Perm (s.places r))
    (others : ∀ q, q ≠ r → t.ring q = s.ring q)
    (home : ∀ sl, (t.slot sl).home.map (·.ring) = (s.slot sl).home.map (·.ring))
    (pool : (t.ring r).pool = (s.ring r).pool)
    (producer : (t.ring r).producer = (s.ring r).producer)
    (consumers : (t.ring r).consumers = (s.ring r).consumers)
    (service : ∀ a, SameService s t a)
    (bound : ∀ q a, q ≠ r → (s.ring q).producer = some a → t.boundSlot a = s.boundSlot a) :
    t.Placed := by
  have same {α : Type} (f : Ring → α) (hr : f (t.ring r) = f (s.ring r)) (q : RingId) :
      f (t.ring q) = f (s.ring q) := by
    by_cases hq : q = r
    · rw [hq, hr]
    · rw [others q hq]
  refine h.of_perm (fun q => ?_) home (same Ring.pool pool) (same Ring.producer producer)
    (same Ring.consumers consumers) service
  by_cases hq : q = r
  · rw [hq]; exact perm
  · rw [State.places, others q hq,
      fillingSlot_congr (by rw [others q hq]) fun a ha => bound q a hq ha]
    exact List.Perm.refl _

end

end Sys2Proof.Machine
end

section
/-! PROOFS: one lemma for each move that changes a list, a binding or a pool, and the placement law kept
by every move (O55). -/

namespace Sys2Proof.Machine

section
variable {s : State}

/-- In a list with `x`, taking one `x` out and counting it apart leaves the counts. -/
theorem count_erase_add {x : SlotId} {l : List SlotId} (h : x ∈ l) (y : SlotId) :
    (l.erase x).count y + (if x = y then 1 else 0) = l.count y := by
  have := (List.perm_cons_erase h).count_eq y
  rw [this, List.count_cons]
  simp

theorem setApState_fillingSlot (h : s.Placed) {a : ApId} {r : RingId} (k : s.servesAs a .producer r)
    (x : ApState) : (s.setApState a x).fillingSlot r = (s.setApState a x).boundSlot a := by
  have hp := h.producer_eq k
  simp [State.fillingSlot, hp]

/-- The slot that an aperture state binds. -/
def ApState.slotOf : ApState → Option SlotId
  | .bound sl => some sl
  | _         => none

theorem boundSlot_eq_slotOf (s : State) (a : ApId) : s.boundSlot a = (s.ap a).state.slotOf := by
  unfold State.boundSlot
  cases (s.ap a).state <;> rfl

theorem boundSlot_setApState (a : ApId) (x : ApState) :
    (s.setApState a x).boundSlot a = x.slotOf := by
  simp [boundSlot_eq_slotOf]

/-- A producer's binding changes, and with it the lists of its ring: the law stays if the places are
permuted. -/
theorem State.Placed.rebind (h : s.Placed) {a : ApId} {r : RingId} (k : s.servesAs a .producer r)
    {t : State} {y : ApState} (hy : y ≠ .off)
    (aps : t.apertures = (s.setApState a y).apertures)
    (others : ∀ q, q ≠ r → t.ring q = s.ring q)
    (home : ∀ sl, (t.slot sl).home.map (·.ring) = (s.slot sl).home.map (·.ring))
    (pool : (t.ring r).pool = (s.ring r).pool)
    (producer : (t.ring r).producer = (s.ring r).producer)
    (consumers : (t.ring r).consumers = (s.ring r).consumers)
    (perm : ((t.ring r).lists ++ y.slotOf.toList).Perm (s.places r)) : t.Placed := by
  have hap (b : ApId) : t.ap b = (s.setApState a y).ap b := by simp only [State.ap, aps]
  have hfill : t.fillingSlot r = y.slotOf := by
    unfold State.fillingSlot
    rw [producer, h.producer_eq k, ← boundSlot_setApState a y]
    exact boundSlot_of_ap (hap a)
  refine h.of_ring_perm r (by rwa [State.places, hfill]) others home pool producer consumers
    (fun b => ?_) fun q b hq hb => ?_
  · have hoff : y = .off ↔ (s.ap a).state = .off := by simp [hy, apOn_eq_true.1 k.1]
    have hb := setApState_service hoff b
    exact ⟨by rw [State.apOn, hap]; exact hb.on, by rw [hap]; exact hb.config⟩
  · rw [boundSlot_of_ap (hap b)]
    exact boundSlot_setApState_ne fun e => hq (h.producer_ring k (e ▸ hb))

theorem State.Placed.toReady (h : s.Placed) {a : ApId} {r : RingId} {sl : SlotId}
    (k : s.writes a r sl) :
    ((s.setApState a .unbound).setRing r
      { s.ring r with ready := (s.ring r).ready ++ [sl] }).Placed := by
  refine h.rebind k.servesAs (y := .unbound) nofun rfl (fun q hq => ?_) (fun _ => rfl) (by simp)
    (by simp) (by simp) ?_
  · rw [setRing_ring_ne _ _ hq.symm]; rfl
  · rw [State.places, h.fillingSlot_of_writes k]
    refine List.perm_iff_count.2 fun x => ?_
    simp only [Ring.lists, setRing_ring_self, List.count_append, ApState.slotOf, Option.toList_some, Option.toList_none,
      List.count_nil]
    omega

theorem State.Placed.returnHead (h : s.Placed) {a : ApId} {r : RingId} {sl : SlotId}
    (k : s.writes a r sl) : ((s.setApState a .unbound).joinFreeHead r sl).Placed := by
  refine h.rebind k.servesAs (y := .unbound) nofun rfl (fun q hq => ?_) (fun x => ?_) (by simp)
    (by simp) (by simp) ?_
  · simp [State.joinFreeHead, setRing_ring_ne _ _ hq.symm]
  · rw [joinFreeHead_slot]; split
    · subst x; simp [Slot.freed]
    · rfl
  · rw [State.places, h.fillingSlot_of_writes k]
    refine List.perm_iff_count.2 fun x => ?_
    simp only [Ring.lists, joinFreeHead_ring_self, setApState_ring, List.count_append, List.count_cons,
      ApState.slotOf, Option.toList_some, Option.toList_none, List.count_nil]
    omega

@[simp] theorem fill_ring (a : ApId) (sl : SlotId) (n : Nat) (q : RingId) :
    (s.fill a sl n).ring q = s.ring q := rfl

theorem fill_slot (a : ApId) (sl x : SlotId) (n : Nat) :
    (s.fill a sl n).slot x = if sl = x then (s.slot sl).filling n else s.slot x := by
  simp [State.fill, setSlot_slot]

@[simp] theorem fill_home (a : ApId) (sl x : SlotId) (n : Nat) :
    ((s.fill a sl n).slot x).home = (s.slot x).home := by
  rw [fill_slot]; split
  · subst x; rfl
  · rfl

theorem State.Placed.takeFree (h : s.Placed) {a : ApId} {r : RingId} {sl : SlotId}
    {rest : List SlotId} (n : Nat) (hf : (s.ring r).free = sl :: rest) (k : s.idleAs a .producer r) :
    ((s.setRing r { s.ring r with free := rest }).fill a sl n).Placed := by
  refine h.rebind k.servesAs (y := .bound sl) nofun rfl (fun q hq => ?_) (fun x => by simp) (by simp)
    (by simp) (by simp) ?_
  · simp [setRing_ring_ne _ _ hq.symm]
  · rw [State.places, h.fillingSlot_of_idle k]
    refine List.perm_iff_count.2 fun x => ?_
    simp only [Ring.lists, fill_ring, setRing_ring_self, hf, List.count_append, List.count_cons,
      ApState.slotOf, Option.toList_some, Option.toList_none, List.count_nil]
    omega

theorem leaveReady_ring_ne {r q : RingId} (sl : SlotId) (h : r ≠ q) :
    (s.leaveReady r sl).ring q = s.ring q := setRing_ring_ne s _ h

theorem State.Placed.steal (h : s.Placed) {a : ApId} {r : RingId} {sl : SlotId} (n : Nat)
    (hr : sl ∈ (s.ring r).ready) (k : s.idleAs a .producer r) :
    ((s.leaveReady r sl).fill a sl n).Placed := by
  refine h.rebind k.servesAs (y := .bound sl) nofun rfl (fun q hq => ?_) (fun x => by simp) (by simp)
    (by simp) (by simp) ?_
  · simp [leaveReady_ring_ne sl hq.symm]
  · rw [State.places, h.fillingSlot_of_idle k]
    refine List.perm_iff_count.2 fun x => ?_
    have hc := count_erase_add hr x
    simp only [Ring.lists, fill_ring, leaveReady_ring_self, List.count_append, List.count_cons,
      ApState.slotOf, Option.toList_some, Option.toList_none, List.count_nil, beq_iff_eq]
    omega

/-- A slot moves between the lists of its ring. -/
theorem State.Placed.of_lists (h : s.Placed) {t : State} (r : RingId)
    (aps : t.apertures = s.apertures) (perm : (t.ring r).lists.Perm (s.ring r).lists)
    (others : ∀ q, q ≠ r → t.ring q = s.ring q)
    (home : ∀ sl, (t.slot sl).home.map (·.ring) = (s.slot sl).home.map (·.ring))
    (pool : (t.ring r).pool = (s.ring r).pool)
    (producer : (t.ring r).producer = (s.ring r).producer)
    (consumers : (t.ring r).consumers = (s.ring r).consumers) : t.Placed := by
  have hap (b : ApId) : t.ap b = s.ap b := by simp only [State.ap, aps]
  refine h.of_ring_perm r ?_ others home pool producer consumers (fun a => .of_ap (hap a))
    fun q a _ _ => boundSlot_of_ap (hap a)
  rw [State.places, State.places, fillingSlot_congr producer fun a _ => boundSlot_of_ap (hap a)]
  exact perm.append_right _

theorem State.Placed.toHeld (h : s.Placed) {r : RingId} {sl : SlotId} (hr : sl ∈ (s.ring r).ready) :
    ((s.leaveReady r sl).setRing r
      { (s.leaveReady r sl).ring r with
        held := ((s.leaveReady r sl).ring r).held ++ [sl] }).Placed := by
  refine h.of_lists r rfl ?_ (fun q hq => ?_) (fun _ => rfl) (by simp) (by simp) (by simp)
  · refine List.perm_iff_count.2 fun x => ?_
    have hc := count_erase_add hr x
    simp only [Ring.lists, setRing_ring_self, leaveReady_ring_self, List.count_append, List.count_cons,
      List.count_nil, beq_iff_eq]
    omega
  · rw [setRing_ring_ne _ _ hq.symm, leaveReady_ring_ne sl hq.symm]

theorem joinFreeTail_home (r : RingId) (sl x : SlotId) :
    ((s.joinFreeTail r sl).slot x).home = (s.slot x).home := by
  rw [joinFreeTail_slot]; split
  · subst x; rfl
  · rfl

theorem State.Placed.toFree (h : s.Placed) {r : RingId} {sl : SlotId} (hr : sl ∈ (s.ring r).ready) :
    ((s.leaveReady r sl).joinFreeTail r sl).Placed := by
  refine h.of_lists r rfl ?_ (fun q hq => ?_) (fun x => by rw [joinFreeTail_home]; rfl) (by simp)
    (by simp) (by simp)
  · refine List.perm_iff_count.2 fun x => ?_
    have hc := count_erase_add hr x
    simp only [Ring.lists, joinFreeTail_ring_self, leaveReady_ring_self, List.count_append,
      List.count_cons, List.count_nil, beq_iff_eq]
    omega
  · rw [joinFreeTail_ring_ne _ _ hq.symm, leaveReady_ring_ne sl hq.symm]

theorem State.Placed.freeHeld (h : s.Placed) {r : RingId} {sl : SlotId} (hr : sl ∈ (s.ring r).held) :
    (s.freeHeld r sl).Placed := by
  refine h.of_lists r rfl ?_ (fun q hq => freeHeld_ring_ne s r sl hq.symm)
    (fun x => by rw [freeHeld_slot]; split <;> simp_all [Slot.freed]) (by simp) (by simp) (by simp)
  refine List.perm_iff_count.2 fun x => ?_
  have hc := count_erase_add hr x
  simp only [Ring.lists, freeHeld_ring_self, List.count_append, List.count_cons, List.count_nil,
    beq_iff_eq]
  omega

/-! ### Slots that join and leave a pool -/

/-- A place that a slot gives up, or that one comes to, with the pool counting it. -/
theorem State.Placed.of_pool (h : s.Placed) {t : State} {sl : SlotId} {r : RingId}
    (aps : t.apertures = s.apertures) (others : ∀ q, q ≠ r → t.ring q = s.ring q)
    (producer : (t.ring r).producer = (s.ring r).producer)
    (consumers : (t.ring r).consumers = (s.ring r).consumers)
    (nodup : (t.ring r).lists.Nodup)
    (mem : ∀ x, x ≠ sl → (x ∈ (t.ring r).lists ↔ x ∈ (s.ring r).lists))
    (slots : ∀ x, x ≠ sl → t.slot x = s.slot x)
    (own : sl ∉ s.places r ∨ sl ∈ (s.ring r).lists)
    (elsewhere : ∀ q, q ≠ r → sl ∉ s.places q)
    (home : ∀ q, (t.slot sl).home.map (·.ring) = some q ↔ q = r ∧ sl ∈ (t.ring r).lists)
    (count : (t.ring r).pool + (s.ring r).lists.length = (s.ring r).pool + (t.ring r).lists.length) :
    t.Placed := by
  have hap (b : ApId) : t.ap b = s.ap b := by simp only [State.ap, aps]
  have hprod (q : RingId) : (t.ring q).producer = (s.ring q).producer := by
    by_cases hq : q = r
    · rw [hq, producer]
    · rw [others q hq]
  have hcons (q : RingId) : (t.ring q).consumers = (s.ring q).consumers := by
    by_cases hq : q = r
    · rw [hq, consumers]
    · rw [others q hq]
  have hfill (q : RingId) : t.fillingSlot q = s.fillingSlot q :=
    fillingSlot_congr (hprod q) fun a _ => boundSlot_of_ap (hap a)
  have hplaces (q : RingId) (hq : q ≠ r) : t.places q = s.places q := by
    rw [State.places, State.places, others q hq, hfill]
  have hnot : s.fillingSlot r ≠ some sl := by
    intro hf
    rcases own with ho | ho
    · exact ho (by simp [State.places, hf])
    · exact (h.filling r sl hf).2 ho
  obtain ⟨hnodup, hmem, hcount, hp, hc⟩ := (placed_iff s).1 h
  refine (placed_iff t).2 ⟨fun q => ?_, fun q x => ?_, fun q => ?_, fun q a => ?_, fun q a => ?_⟩
  · by_cases hq : q = r
    · subst q
      rw [State.places, hfill]
      cases hf : s.fillingSlot r with
      | none => simpa using nodup
      | some y =>
        have hy : y ≠ sl := fun e => hnot (e ▸ hf)
        have := (h.filling r y hf).2
        simp only [Option.toList_some, List.nodup_append, nodup, List.mem_singleton, true_and]
        exact ⟨List.nodup_singleton y, fun a ha b hb e => this ((mem y hy).1 (hb ▸ e ▸ ha))⟩
    · rw [hplaces q hq]; exact hnodup q
  · by_cases hx : x = sl
    · subst x
      rw [home]
      by_cases hq : q = r
      · subst q
        simp [State.places, hfill, hnot]
      · simp [hplaces q hq, elsewhere q hq, hq]
    · rw [slots x hx, ← hmem q x]
      by_cases hq : q = r
      · subst q; simp [State.places, hfill, mem x hx]
      · rw [hplaces q hq]
  · by_cases hq : q = r
    · subst q
      have := hcount r
      simp only [State.places, List.length_append, hfill] at this ⊢
      omega
    · rw [hplaces q hq, others q hq]; exact hcount q
  · rw [hprod, hp, (SameService.of_ap (hap a)).servesAs_iff]
  · rw [hcons, hc, (SameService.of_ap (hap a)).servesAs_iff]

theorem State.Placed.retire (h : s.Placed) {sl : SlotId} {k : Home}
    (hk : (s.slot sl).home = some k) (hf : sl ∈ (s.ring k.ring).free) : (s.retire sl).Placed := by
  rw [retire_of_home s hk]
  have hmem : sl ∈ (s.ring k.ring).lists := by simp [Ring.lists, hf]
  have hlists : ({ s.ring k.ring with
      free := (s.ring k.ring).free.erase sl, pool := (s.ring k.ring).pool - 1 } : Ring).lists =
      (s.ring k.ring).lists.erase sl := by
    simp only [Ring.lists, List.append_assoc]
    rw [List.erase_append_left _ hf]
  have hlen := List.length_erase_of_mem hmem
  have hpos := List.length_pos_of_mem hmem
  have hcons := h.conserved k.ring
  refine h.of_pool (sl := sl) (r := k.ring) rfl (fun q hq => ?_) (by simp) (by simp) ?_
    (fun x hx => ?_) (fun x hx => ?_) (.inr hmem) (fun q hq hm => ?_) (fun q => ?_) ?_
  · rw [setSlot_ring, setRing_ring_ne _ _ hq.symm]
  · rw [setSlot_ring, setRing_ring_self, hlists]
    exact (h.once k.ring).erase sl
  · rw [setSlot_ring, setRing_ring_self, hlists, List.mem_erase_of_ne hx]
  · rw [setSlot_slot_ne _ _ hx.symm]; rfl
  · have := (((placed_iff s).1 h).2.1 q sl).1 hm
    rw [hk] at this; exact hq (by simpa using this.symm)
  · rw [setSlot_ring, setRing_ring_self, hlists]
    simp [Slot.unassigned, (h.once k.ring).mem_erase_iff]
  · rw [setSlot_ring, setRing_ring_self, hlists, hlen]
    show (s.ring k.ring).pool - 1 + _ = _
    omega

theorem State.Placed.assign (h : s.Placed) {sl : SlotId} (r : RingId) (base : Addr)
    (hh : (s.slot sl).home = none) : (s.assignSlot sl r base).Placed := by
  have hno (q : RingId) : sl ∉ s.places q := fun hm => by
    have := (((placed_iff s).1 h).2.1 q sl).1 hm
    simp [hh] at this
  have hnot : sl ∉ (s.ring r).lists := fun hm => hno r (List.mem_append_left _ hm)
  rw [assignSlot_eq]
  have hperm : ({ s.ring r with
      free := (s.ring r).free ++ [sl], pool := (s.ring r).pool + 1 } : Ring).lists.Perm
      (sl :: (s.ring r).lists) := by
    refine List.perm_iff_count.2 fun x => ?_
    simp only [Ring.lists, List.count_append, List.count_cons, List.count_nil]
    omega
  refine h.of_pool (sl := sl) (r := r) rfl (fun q hq => ?_) (by simp) (by simp) ?_
    (fun x hx => ?_) (fun x hx => ?_) (.inl (hno r)) (fun q _ => hno q) (fun q => ?_) ?_
  · rw [setRing_ring_ne _ _ hq.symm]; rfl
  · rw [setRing_ring_self, hperm.nodup_iff, List.nodup_cons]
    exact ⟨hnot, h.once r⟩
  · rw [setRing_ring_self, hperm.mem_iff]
    simp [hx]
  · rw [setRing_slot, setSlot_slot_ne _ _ hx.symm]
  · rw [setRing_ring_self, hperm.mem_iff]
    simp [eq_comm]
  · rw [setRing_ring_self, hperm.length_eq, List.length_cons]
    show (s.ring r).pool + 1 + _ = _
    omega

end

end Sys2Proof.Machine
end

section
/-! PROOFS: apertures that turn ON or OFF and consumers that acquire or release keep the placement law, and
so does every move (O55). -/

namespace Sys2Proof.Machine

section
variable {s : State}

/-- A consumer's binding is no place. -/
theorem State.Placed.rebindConsumer (h : s.Placed) {a : ApId} {r : RingId}
    (k : s.servesAs a .consumer r) {y : ApState} (hy : y ≠ .off) : (s.setApState a y).Placed := by
  have hoff : y = .off ↔ (s.ap a).state = .off := by simp [hy, apOn_eq_true.1 k.1]
  exact h.of_frame (fun _ => rfl) (fun _ => rfl) (fun _ => rfl) (fun _ => rfl) (fun _ => rfl)
    (setApState_service hoff) fun q b hb =>
      boundSlot_setApState_ne fun e => h.producer_ne k (e ▸ hb)

/-- With homes, lists, pools and the slots being filled as before, the law is that of the producer and
consumers fields. -/
theorem State.Placed.of_service (h : s.Placed) {t : State} (slots : ∀ x, t.slot x = s.slot x)
    (lists : ∀ r, (t.ring r).lists = (s.ring r).lists)
    (pool : ∀ r, (t.ring r).pool = (s.ring r).pool)
    (filling : ∀ r, t.fillingSlot r = s.fillingSlot r)
    (producer : ∀ r a, (t.ring r).producer = some a ↔ t.servesAs a .producer r)
    (consumers : ∀ r a, ApSet.has (t.ring r).consumers a = true ↔ t.servesAs a .consumer r) :
    t.Placed := by
  have hplaces (r : RingId) : t.places r = s.places r := by
    rw [State.places, State.places, lists, filling]
  obtain ⟨hn, hm, hc, _, _⟩ := (placed_iff s).1 h
  exact (placed_iff t).2 ⟨fun r => hplaces r ▸ hn r, fun r x => by rw [hplaces, slots, hm],
    fun r => by rw [hplaces, pool, hc], producer, consumers⟩

/-! ### Sets of apertures -/

@[simp] theorem has_insert (m : ApSet) (a b : ApId) :
    ApSet.has (ApSet.insert m a) b = (ApSet.has m b || decide (b = a)) := by
  have ha := a.isLt
  have hb := b.isLt
  simp only [ApSet.has, ApSet.insert, BitVec.getLsbD_or, BitVec.getLsbD_shiftLeft, BitVec.getLsbD_one,
    Fin.ext_iff]
  congr 1
  simp only [hb, decide_true, Bool.true_and]
  by_cases h : b.val = a.val
  · simp [h]
  · by_cases h2 : b.val < a.val
    · simp [h, h2]
    · simp [h, h2]; omega

@[simp] theorem has_erase (m : ApSet) (a b : ApId) :
    ApSet.has (ApSet.erase m a) b = (ApSet.has m b && decide (b ≠ a)) := by
  have ha := a.isLt
  have hb := b.isLt
  simp only [ApSet.has, ApSet.erase, BitVec.getLsbD_and, BitVec.getLsbD_not,
    BitVec.getLsbD_shiftLeft, BitVec.getLsbD_one, ne_eq, Fin.ext_iff]
  congr 1
  simp only [hb, decide_true, Bool.true_and]
  by_cases h : b.val = a.val
  · simp [h]
  · by_cases h2 : b.val < a.val
    · simp [h, h2]
    · simp [h, h2]; omega

/-! ### Apertures that turn ON or OFF -/

theorem not_servesAs_of_off {a : ApId} (h : s.apOn a = false) (role : Role) (r : RingId) :
    ¬ s.servesAs a role r := fun k => by rw [k.1] at h; cases h

theorem servesAs_of_ap {t : State} {a : ApId} (h : t.ap a = s.ap a) (role : Role) (r : RingId) :
    t.servesAs a role r ↔ s.servesAs a role r := (SameService.of_ap h).servesAs_iff role r

theorem servesAs_of_config {t : State} {a : ApId} {c : ApConfig} (on : t.apOn a = true)
    (config : (t.ap a).config = some c) (role : Role) (r : RingId) :
    t.servesAs a role r ↔ c.role = role ∧ c.ring = r := by
  simp [State.servesAs, on, config]

theorem State.Placed.producerOn (h : s.Placed) {a : ApId} {c : ApConfig} (off : s.apOn a = false)
    (config : (s.ap a).config = some c) (role : c.role = .producer)
    (none : (s.ring c.ring).producer = none) :
    ((s.setRing c.ring { s.ring c.ring with producer := some a }).freshOn a).Placed := by
  have hne {b : ApId} (hb : b ≠ a) :
      ((s.setRing c.ring { s.ring c.ring with producer := some a }).freshOn a).ap b = s.ap b := by
    simp [State.freshOn, setAp_ap_ne _ _ hb.symm]
  have hself := servesAs_of_config (a := a) (c := c)
    (t := (s.setRing c.ring { s.ring c.ring with producer := some a }).freshOn a)
    (by simp [State.freshOn, State.apOn]) (by simp [State.freshOn, config])
  have hring (q : RingId) : ((s.setRing c.ring { s.ring c.ring with producer := some a }).freshOn
      a).ring q = if c.ring = q then { s.ring c.ring with producer := some a } else s.ring q := by
    simp [State.freshOn, setRing_ring]
  have hoff (q : RingId) : (s.ring q).producer ≠ some a := fun hq =>
    not_servesAs_of_off off _ _ ((h.producer q a).1 hq)
  refine h.of_service (fun _ => rfl) (fun q => ?_) (fun q => ?_) (fun q => ?_) (fun q b => ?_)
    fun q b => ?_
  · rw [hring]; split
    · subst q; rfl
    · rfl
  · rw [hring]; split
    · subst q; rfl
    · rfl
  · unfold State.fillingSlot
    rw [hring]; split
    · subst q; simp [none, State.boundSlot, State.freshOn]
    · cases hp : (s.ring q).producer with
      | none => rfl
      | some b =>
        exact boundSlot_of_ap (hne fun e => hoff q (e ▸ hp))
  · rw [hring]
    by_cases hb : b = a
    · subst b
      rw [hself]
      split <;> simp_all
    · rw [servesAs_of_ap (hne hb), ← h.producer]
      split
      · subst q; simp [none, Ne.symm hb]
      · rfl
  · rw [hring]
    by_cases hb : b = a
    · subst b
      rw [hself]
      have := (h.consumers q a).not.2 (not_servesAs_of_off off _ _)
      split
      · subst q; simp_all
      · simp_all
    · rw [servesAs_of_ap (hne hb), ← h.consumers]
      split
      · subst q; rfl
      · rfl

theorem State.Placed.consumerOn (h : s.Placed) {a : ApId} {c : ApConfig} (off : s.apOn a = false)
    (config : (s.ap a).config = some c) (role : c.role = .consumer) :
    ((s.setRing c.ring { s.ring c.ring with
      consumers := ApSet.insert (s.ring c.ring).consumers a }).freshOn a).Placed := by
  generalize hx : ({ s.ring c.ring with
    consumers := ApSet.insert (s.ring c.ring).consumers a } : Ring) = x
  have hne {b : ApId} (hb : b ≠ a) : ((s.setRing c.ring x).freshOn a).ap b = s.ap b := by
    simp [State.freshOn, setAp_ap_ne _ _ hb.symm]
  have hself := servesAs_of_config (a := a) (c := c) (t := (s.setRing c.ring x).freshOn a)
    (by simp [State.freshOn, State.apOn]) (by simp [State.freshOn, config])
  have hring (q : RingId) :
      ((s.setRing c.ring x).freshOn a).ring q = if c.ring = q then x else s.ring q := by
    simp [State.freshOn, setRing_ring]
  have hoff (q : RingId) : (s.ring q).producer ≠ some a := fun hq =>
    not_servesAs_of_off off _ _ ((h.producer q a).1 hq)
  have hprod (q : RingId) : (((s.setRing c.ring x).freshOn a).ring q).producer =
      (s.ring q).producer := by
    rw [hring]; split
    · subst q; rw [← hx]
    · rfl
  refine h.of_service (fun _ => rfl) (fun q => ?_) (fun q => ?_) (fun q => ?_) (fun q b => ?_)
    fun q b => ?_
  · rw [hring]; split
    · subst q; rw [← hx]; rfl
    · rfl
  · rw [hring]; split
    · subst q; rw [← hx]
    · rfl
  · exact fillingSlot_congr (hprod q) fun b hb => boundSlot_of_ap (hne fun e => hoff q (e ▸ hb))
  · rw [hprod, h.producer]
    by_cases hb : b = a
    · subst b
      simp [hself, role, not_servesAs_of_off off]
    · rw [servesAs_of_ap (hne hb)]
  · rw [hring]
    by_cases hb : b = a
    · subst b
      have := (h.consumers q a).not.2 (not_servesAs_of_off off _ _)
      rw [hself]
      split
      · subst q; simp [← hx, role]
      · simp_all
    · rw [servesAs_of_ap (hne hb), ← h.consumers]
      split
      · subst q; simp [← hx, hb]
      · rfl

theorem State.Placed.producerOff (h : s.Placed) {a : ApId} {r : RingId}
    (k : s.idleAs a .producer r) : (s.producerOff a r).Placed := by
  have hne {b : ApId} (hb : b ≠ a) : (s.producerOff a r).ap b = s.ap b := by
    simp [State.producerOff, setAp_ap_ne _ _ hb.symm]
  have hoff : (s.producerOff a r).apOn a = false := by simp [State.producerOff, State.apOn]
  have hring (q : RingId) : (s.producerOff a r).ring q =
      if r = q then { s.ring r with producer := none } else s.ring q := by
    simp [State.producerOff, setRing_ring]
  have hp := h.producer_eq k.servesAs
  refine h.of_service (fun _ => rfl) (fun q => ?_) (fun q => ?_) (fun q => ?_) (fun q b => ?_)
    fun q b => ?_
  · rw [hring]; split
    · subst q; rfl
    · rfl
  · rw [hring]; split
    · subst q; rfl
    · rfl
  · by_cases hq : r = q
    · subst q
      rw [h.fillingSlot_of_idle k]
      simp [State.fillingSlot, hring]
    · exact fillingSlot_congr (by rw [hring, if_neg hq]) fun b hb => boundSlot_of_ap
        (hne fun e => hq (h.producer_ring k.servesAs (e ▸ hb)).symm)
  · rw [hring]
    by_cases hb : b = a
    · subst b
      simp only [not_servesAs_of_off hoff, iff_false]
      split
      · simp
      · exact fun hq => absurd (h.producer_ring k.servesAs hq).symm ‹_›
    · rw [servesAs_of_ap (hne hb), ← h.producer]
      split
      · subst q; simp [hp, Ne.symm hb]
      · rfl
  · have : ((s.producerOff a r).ring q).consumers = (s.ring q).consumers := by
      rw [hring]; split
      · subst q; rfl
      · rfl
    rw [this, h.consumers]
    by_cases hb : b = a
    · subst b
      simp only [not_servesAs_of_off hoff, iff_false]
      exact fun hc => nomatch (hc.unique k.servesAs).1
    · rw [servesAs_of_ap (hne hb)]

theorem State.Placed.consumerOff (h : s.Placed) {a : ApId} {c : ApConfig}
    (state : (s.ap a).state = .unbound) (config : (s.ap a).config = some c)
    (role : c.role = .consumer) :
    ((s.setAp a { s.ap a with state := .off, deferred := false }).setRing c.ring
      { s.ring c.ring with consumers := ApSet.erase (s.ring c.ring).consumers a }).Placed := by
  generalize hx : ({ s.ring c.ring with
    consumers := ApSet.erase (s.ring c.ring).consumers a } : Ring) = x
  generalize hy : ({ s.ap a with state := .off, deferred := false } : Aperture) = y
  have k : s.idleAs a .consumer c.ring := ⟨state, c, config, role, rfl⟩
  have hne {b : ApId} (hb : b ≠ a) : ((s.setAp a y).setRing c.ring x).ap b = s.ap b := by
    simp [setAp_ap_ne _ _ hb.symm]
  have hoff : ((s.setAp a y).setRing c.ring x).apOn a = false := by simp [State.apOn, ← hy]
  have hring (q : RingId) :
      ((s.setAp a y).setRing c.ring x).ring q = if c.ring = q then x else s.ring q := by
    simp [setRing_ring]
  have hprod (q : RingId) : (((s.setAp a y).setRing c.ring x).ring q).producer =
      (s.ring q).producer := by
    rw [hring]; split
    · subst q; rw [← hx]
    · rfl
  refine h.of_service (fun _ => rfl) (fun q => ?_) (fun q => ?_) (fun q => ?_) (fun q b => ?_)
    fun q b => ?_
  · rw [hring]; split
    · subst q; rw [← hx]; rfl
    · rfl
  · rw [hring]; split
    · subst q; rw [← hx]
    · rfl
  · exact fillingSlot_congr (hprod q) fun b hb => boundSlot_of_ap
      (hne fun e => h.producer_ne k.servesAs (e ▸ hb))
  · rw [hprod, h.producer]
    by_cases hb : b = a
    · subst b
      simp only [not_servesAs_of_off hoff, iff_false]
      exact fun hc => nomatch (hc.unique k.servesAs).1
    · rw [servesAs_of_ap (hne hb)]
  · rw [hring]
    by_cases hb : b = a
    · subst b
      simp only [not_servesAs_of_off hoff, iff_false]
      split
      · subst q; simp [← hx]
      · rw [h.consumers]
        exact fun hc => absurd (hc.unique k.servesAs).2.symm ‹_›
    · rw [servesAs_of_ap (hne hb), ← h.consumers]
      split
      · subst q; simp [← hx, hb]
      · rfl

/-- An OFF aperture is set up: it serves no ring before and after. -/
theorem State.Placed.setUp (h : s.Placed) {a : ApId} (c : ApConfig) (off : s.apOn a = false) :
    (s.setConfig a c).Placed := by
  have hne {b : ApId} (hb : b ≠ a) : (s.setConfig a c).ap b = s.ap b := by
    simp [State.setConfig, setAp_ap_ne _ _ hb.symm]
  have hoff : (s.setConfig a c).apOn a = false := by
    simpa [State.setConfig, State.apOn] using off
  have serves (b : ApId) (role : Role) (r : RingId) :
      (s.setConfig a c).servesAs b role r ↔ s.servesAs b role r := by
    by_cases hb : b = a
    · subst b
      simp only [not_servesAs_of_off hoff, not_servesAs_of_off off]
    · exact servesAs_of_ap (hne hb) role r
  refine h.of_service (fun _ => rfl) (fun _ => rfl) (fun _ => rfl) (fun q => ?_)
    (fun q b => by rw [serves, ← h.producer]; rfl) fun q b => by rw [serves, ← h.consumers]; rfl
  exact fillingSlot_congr rfl fun b hb => boundSlot_of_ap (hne fun e =>
    not_servesAs_of_off off _ _ ((h.producer q a).1 (e ▸ hb)))

end

theorem SameBooks.slot {s t : State} (h : SameBooks s t) (x : SlotId) : t.slot x = s.slot x := by
  simp only [State.slot, h.slots]
theorem SameBooks.ring {s t : State} (h : SameBooks s t) (r : RingId) : t.ring r = s.ring r := by
  simp only [State.ring, h.rings]
theorem SameBooks.ap {s t : State} (h : SameBooks s t) (a : ApId) : t.ap a = s.ap a := by
  simp only [State.ap, h.apertures]

theorem State.Placed.congr {s t : State} (p : s.Placed) (slots : t.slots = s.slots)
    (rings : t.rings = s.rings) (aps : t.apertures = s.apertures) : t.Placed := by
  have hs (x : SlotId) : t.slot x = s.slot x := by simp only [State.slot, slots]
  have hr (r : RingId) : t.ring r = s.ring r := by simp only [State.ring, rings]
  have ha (a : ApId) : t.ap a = s.ap a := by simp only [State.ap, aps]
  exact p.of_frame (fun x => by rw [hs]) (fun r => by rw [hr]) (fun r => by rw [hr])
    (fun r => by rw [hr]) (fun r => by rw [hr]) (fun a => .of_ap (ha a))
    fun _ a _ => boundSlot_of_ap (ha a)

/-- A retirement that waits on a FREE slot keeps the law. -/
theorem State.Placed.applyRetirement {s : State} (h : s.Placed) {sl : SlotId}
    (free : ∃ k, (s.slot sl).home = some k ∧ sl ∈ (s.ring k.ring).free) :
    (s.applyRetirement sl).Placed := by
  obtain ⟨k, hk, hf⟩ := free
  rcases applyRetirement_cases s sl with ⟨_, e⟩ | ⟨x, _, _, e⟩ | ⟨x, _, _, e⟩ <;> rw [e]
  · exact h
  · exact (h.setSlot sl { s.slot sl with retirePending := false } rfl).congr rfl rfl rfl
  · have hmark := (h.setSlot sl { s.slot sl with retirePending := false } rfl).congr
      (t := (s.removeChange x).setSlot sl { s.slot sl with retirePending := false }) rfl rfl rfl
    exact (hmark.retire (k := k) (by simpa using hk) (by simpa using hf)).congr rfl rfl rfl

/-- An aperture that holds no slot is unbound already. -/
theorem setApState_unbound_of {s : State} {a : ApId} (h : (s.ap a).state = .unbound) :
    s.setApState a .unbound = s := by
  have hap : ({ s.ap a with state := .unbound } : Aperture) = s.ap a := by rw [← h]
  rw [State.setApState, hap]
  simp [State.setAp, State.ap]

/-- Every move keeps the placement law. -/
theorem Move.placed {L : Laws} (hp : L.placed) {s t : State} {g g' : Ghost} (m : Move L s g t g')
    (h : s.Placed) : t.Placed := by
  cases m with
  | port m => exact h.congr m.books.slots m.books.rings m.books.apertures
  | restate => exact h
  | marks sl => exact h.setSlot sl _ rfl
  | pass r sl a _ => exact h.setSlot sl _ rfl
  | unpass sl a => exact h.setSlot sl _ rfl
  | count a n d _ => exact h.setAp a _ rfl rfl
  | configure a c d n u config ring role _ _ _ _ _ =>
    exact h.setAp a _ rfl (by simp [config, ring, role])
  | setUp a c off _ _ => exact h.setUp c off
  | toReady a r sl k => exact h.toReady k
  | returnHead a r sl k => exact h.returnHead k
  | advance r => exact h.setRing r _ rfl rfl rfl rfl
  | takeFree a r sl rest n free _ idle _ => exact h.takeFree n free (idle hp)
  | steal a r sl n ready _ _ idle _ => exact h.steal n ready (idle hp)
  | unbind a _ idle => rwa [setApState_unbound_of (idle hp)]
  | producerOn a c off config role none _ => exact h.producerOn off config role none
  | producerOff a r idle => exact h.producerOff (idle hp)
  | acquire a r sl _ idle _ =>
    have hs := h.setSlot sl { s.slot sl with holders := ApSet.insert (s.slot sl).holders a } rfl
    exact hs.rebindConsumer (y := .bound sl) (a := a) (r := r) (idle hp).servesAs nofun
  | release a c sl bound config =>
    obtain ⟨hc, hrole⟩ := config hp
    have hs := h.setSlot sl { s.slot sl with holders := ApSet.erase (s.slot sl).holders a } rfl
    have serves : s.servesAs a .consumer c.ring :=
      ⟨apOn_eq_true.2 (by rw [bound]; nofun), c, hc, hrole, rfl⟩
    exact hs.rebindConsumer (y := .unbound) (a := a) (r := c.ring) serves nofun
  | consumerOn a c off config role _ _ => exact h.consumerOn off config role
  | consumerOff a c u state config role _ => exact h.consumerOff state config role
  | toHeld r sl ready _ => exact h.toHeld (ready hp)
  | toFree r sl ready _ => exact h.toFree (ready hp)
  | freeHeld r sl held _ => exact h.freeHeld (held hp)
  | settle sl free => exact h.applyRetirement (free hp)
  | retireNow sl k home free _ _ => exact h.retire home free
  | assign sl r base home _ _ => exact h.assign r base home
  | size r e o _ _ => exact h.setRing r _ rfl rfl rfl rfl
  | overflow r o => exact h.setRing r _ rfl rfl rfl rfl
  | power r on _ => exact h.setRing r _ rfl rfl rfl rfl
  | dropEntry e _ =>
    have hq : (s.removeChange e).Placed := h.congr rfl rfl rfl
    rcases clearRetirePending_cases (s.removeChange e) e.op with ⟨_, k⟩ | ⟨x, _, k⟩ <;> rw [k]
    · exact hq
    · exact hq.setSlot x _ rfl
  | countDown => exact h.congr rfl rfl rfl
  | queueEntry => exact h.congr rfl rfl rfl
  | queueRetire sl =>
    exact (h.setSlot sl { s.slot sl with retirePending := true } rfl).congr rfl rfl rfl
  | startJob j =>
    exact (h.setSlot j.slot { s.slot j.slot with jobs := (s.slot j.slot).jobs + 1 } rfl).congr
      rfl rfl rfl
  | queueJob j =>
    exact (h.setSlot j.slot { s.slot j.slot with jobs := (s.slot j.slot).jobs + 1 } rfl).congr
      rfl rfl rfl
  | dropActive j =>
    exact (h.setSlot j.job.slot
      { s.slot j.job.slot with jobs := (s.slot j.job.slot).jobs - 1 } rfl).congr
      (by split <;> rfl) (by split <;> rfl) (by split <;> rfl)
  | dropQueued j =>
    exact (h.setSlot j.slot { s.slot j.slot with jobs := (s.slot j.slot).jobs - 1 } rfl).congr
      rfl rfl rfl
  | activateNext =>
    rcases activateNext_cases s with ⟨_, k⟩ | ⟨_, _, _, k⟩ <;> rw [k] <;> exact h.congr rfl rfl rfl

end Sys2Proof.Machine
end

section
/-! PROOFS: every move keeps the fields in their ranges (O54). -/

namespace Sys2Proof.Machine

section
variable {s : State}

/-! ### One record written -/

theorem State.InRange.setSlot (h : s.InRange) (sl : SlotId) (x : Slot)
    (frame : ∀ n, x.frame = some n → frameOk n) (jobs : x.jobs ≤ (s.slot sl).jobs) :
    (s.setSlot sl x).InRange := by
  have hslot (y : SlotId) (P : Slot → Prop) (hx : y = sl → P x) (hy : P (s.slot y)) :
      P ((s.setSlot sl x).slot y) := by
    rw [setSlot_slot]; split
    · subst y; exact hx rfl
    · exact hy
  exact { h with
    slots := fun y => hslot y _ (fun _ => ⟨frame, jobs.trans (h.slots sl).jobs⟩) (h.slots y)
    counted := fun y => hslot y (fun z => z.jobs ≤ _)
      (fun e => by subst e; exact jobs.trans (h.counted y)) (h.counted y) }

theorem State.InRange.frame (h : s.InRange) (sl : SlotId) (n : Nat) (e : (s.slot sl).frame = some n) :
    frameOk n := (h.slots sl).frame n e

theorem State.InRange.setRing (h : s.InRange) (r : RingId) (x : Ring) (hx : x.InRange) :
    (s.setRing r x).InRange :=
  { h with rings := fun q => by rw [setRing_ring]; split; exacts [hx, h.rings q] }

theorem State.InRange.setAp (h : s.InRange) (a : ApId) (x : Aperture) (hx : x.InRange) :
    (s.setAp a x).InRange :=
  { h with apertures := fun b => by rw [setAp_ap]; split; exacts [hx, h.apertures b] }

theorem State.InRange.setSched (h : s.InRange) (r : RingId) (x : Schedule) (hx : x.InRange) :
    (s.setSched r x).InRange :=
  { h with schedules := fun q => by rw [setSched_sched]; split; exacts [hx, h.schedules q] }

theorem State.InRange.raise (h : s.InRange) (n : Note) : (s.raise n).InRange :=
  { h with notes := push_length_le s.notes n h.notes }

/-- An aperture's state changes: its count stays in range if it was ON or is OFF. -/
theorem State.InRange.setApState (h : s.InRange) (a : ApId) (x : ApState)
    (on : (s.ap a).state ≠ .off) : (s.setApState a x).InRange :=
  h.setAp a _ ⟨(h.apertures a).config, fun c hc _ => (h.apertures a).count c hc on,
    (h.apertures a).most⟩

/-- Slots, rings and apertures in range, with the rest as it was. -/
theorem State.InRange.entries_of (h : s.InRange) (x : ChangeQueue)
    (entries : ∀ e ∈ x.entries, e.InRange) (length : x.entries.length ≤ 12)
    (nextSeq : 1 ≤ x.nextSeq ∧ x.nextSeq ≤ 65535) : State.InRange { s with changes := x } :=
  { h with entries := entries, changes := length, nextSeq := nextSeq }

theorem State.InRange.removeChange (h : s.InRange) (e : Change) : (s.removeChange e).InRange :=
  h.entries_of _ (fun x hx => h.entries x (List.mem_of_mem_erase hx))
    ((removeChange_sublist s e).length_le.trans h.changes) h.nextSeq

/-! ### Lists, binds and pools -/

theorem Ring.InRange.of_lists {r : Ring} (h : r.InRange) (x : Ring) (size : x.slotSize = r.slotSize)
    (counter : x.frameCounter ≤ 0xFFFFFFFF) (on : x.on = r.on) (pool : x.pool = r.pool) :
    x.InRange :=
  ⟨by rw [size]; exact h.slotSize, counter, by rw [on, pool]; exact h.pool⟩

theorem State.InRange.relist (h : s.InRange) (r : RingId) (x : Ring)
    (size : x.slotSize = (s.ring r).slotSize) (counter : x.frameCounter = (s.ring r).frameCounter)
    (on : x.on = (s.ring r).on) (pool : x.pool = (s.ring r).pool) : (s.setRing r x).InRange :=
  h.setRing r x ((h.rings r).of_lists x size (counter ▸ (h.rings r).frameCounter) on pool)

theorem State.InRange.leaveReady (h : s.InRange) (r : RingId) (sl : SlotId) :
    (s.leaveReady r sl).InRange := h.relist r _ rfl rfl rfl rfl

theorem State.InRange.joinFreeTail (h : s.InRange) (r : RingId) (sl : SlotId) :
    (s.joinFreeTail r sl).InRange :=
  (h.setSlot sl (s.slot sl).freed nofun le_rfl).relist r _ rfl rfl rfl rfl

theorem State.InRange.joinFreeHead (h : s.InRange) (r : RingId) (sl : SlotId) :
    (s.joinFreeHead r sl).InRange :=
  (h.setSlot sl (s.slot sl).freed nofun le_rfl).relist r _ rfl rfl rfl rfl

theorem State.InRange.fill (h : s.InRange) (a : ApId) (sl : SlotId) {n : Nat} (hn : frameOk n)
    (on : (s.ap a).state ≠ .off) : (s.fill a sl n).InRange := by
  have hs := h.setSlot sl ((s.slot sl).filling n) (fun m e => by cases e; exact hn) le_rfl
  exact hs.setApState a _ on

theorem State.InRange.freshOn (h : s.InRange) (a : ApId) : (s.freshOn a).InRange :=
  h.setAp a { s.ap a with state := .unbound, count := 0, deferred := false }
    ⟨(h.apertures a).config, fun d hd _ => ((h.apertures a).config d hd).divider.1, by simp⟩

/-- A retirement leaves an ON ring a pool of at least 2. -/
theorem State.InRange.retire (h : s.InRange) (sl : SlotId)
    (floor : ∀ k, (s.slot sl).home = some k →
      ¬ ((s.ring k.ring).on = true ∧ (s.ring k.ring).pool ≤ 2)) : (s.retire sl).InRange := by
  cases hk : (s.slot sl).home with
  | none => rwa [State.retire, hk]
  | some k =>
    rw [retire_of_home s hk]
    have hr := h.rings k.ring
    refine (h.setRing k.ring { s.ring k.ring with
      free := (s.ring k.ring).free.erase sl, pool := (s.ring k.ring).pool - 1 }
      ⟨hr.slotSize, hr.frameCounter, fun on => ?_⟩).setSlot sl Slot.unassigned nofun (Nat.zero_le _)
    have hpool : ¬ (s.ring k.ring).pool ≤ 2 := fun hp => floor k hk ⟨on, hp⟩
    show 2 ≤ (s.ring k.ring).pool - 1
    omega

theorem State.InRange.applyRetirement (h : s.InRange) (sl : SlotId) :
    (s.applyRetirement sl).InRange := by
  have hmark (e : Change) :
      ((s.removeChange e).setSlot sl { s.slot sl with retirePending := false }).InRange :=
    (h.removeChange e).setSlot sl _ (h.frame sl) le_rfl
  rcases applyRetirement_cases s sl with ⟨_, e⟩ | ⟨x, _, _, e⟩ | ⟨x, _, floor, e⟩ <;> rw [e]
  · exact h
  · exact (hmark x).raise _
  · exact ((hmark x).retire sl (by simpa using floor)).raise _

/-! ### The copy queue -/

theorem CopyEngine.count_eq (c : CopyEngine) : c.count = c.jobs.length := by
  simp [CopyEngine.count, CopyEngine.jobs]

/-- How many jobs of the copy queue name a slot. -/
def CopyEngine.naming (c : CopyEngine) (sl : SlotId) : Nat :=
  (c.jobs.filter fun j => decide (j.slot = sl)).length

/-- The copy queue changes while slots keep their counts: the jobs it holds are in range and name each
slot as often as before. -/
theorem State.InRange.copy_of (h : s.InRange) (x : CopyEngine) (jobs : ∀ j ∈ x.jobs, j.InRange)
    (slots : x.jobs.map (·.slot) = s.copy.jobs.map (·.slot)) (nextId : x.nextId = s.copy.nextId)
    (staging : x.staging.length ≤ 16) : State.InRange { s with copy := x } := by
  have hfilter (l : List Job) (sl : SlotId) :
      (l.filter fun j => decide (j.slot = sl)).length = (l.map (·.slot)).count sl := by
    rw [List.count, List.countP_map, List.countP_eq_length_filter]
    rfl
  refine { h with
    jobs := jobs
    jobCount := ?_
    counted := fun sl => ?_
    nextId := nextId ▸ h.nextId
    staging := staging }
  · have := congrArg List.length slots
    rw [List.length_map, List.length_map] at this
    rw [CopyEngine.count_eq, this, ← CopyEngine.count_eq]
    exact h.jobCount
  · have := h.counted sl
    rw [hfilter] at this ⊢
    rw [slots]; exact this

theorem State.InRange.arbiter_of (h : s.InRange) (x : Arbiter) (count : x.shareCount ≤ 15)
    (share : x.share = s.arbiter.share) : State.InRange { s with arbiter := x } :=
  { h with shareCount := count, share := share ▸ h.share }

theorem Job.InRange.advanced {j : Job} (h : j.InRange) : (Job.advanced j).InRange := by
  obtain ⟨hid, hframe, hdest, hlength, hdone⟩ := h
  refine ⟨hid, hframe, hdest, hlength, ?_⟩
  simp only [Job.advanced, Job.nextBeats]
  split <;> constructor <;> omega

theorem State.InRange.presentRead (h : s.InRange) (j : Job) (hj : j.InRange)
    (active : ∃ k, s.copy.active = some k ∧ k.job.slot = j.slot) : (s.presentRead j).InRange := by
  obtain ⟨k, hk, hs⟩ := active
  have hc := h.copy_of
    { s.copy with active := some { job := j, half := .read, cancelled := false, granted := false } }
    (by simpa [CopyEngine.jobs] using ⟨hj, fun x hx => h.jobs x (by simp [CopyEngine.jobs, hx])⟩)
    (by simp [CopyEngine.jobs, hk, hs]) rfl h.staging
  exact { hc with }

theorem PortMove.inRange {L : Laws} (hq : L.ranged) {t : State} (m : PortMove L s t)
    (h : s.InRange) : t.InRange := by
  cases m with
  | raise n _ => exact h.raise n
  | notes x hx _ _ => exact { h with notes := hx.length_le.trans h.notes }
  | link => exact { h with }
  | lines x hd _ _ _ hp =>
    refine { h with divisor := hd ▸ h.divisor, periods := ?_ }
    have := h.periods
    show x.periods < x.divisor
    omega
  | sched r x hx => exact h.setSched r x (hx hq)
  | tick =>
    refine { h with stallTimer := fun t a b n e => ?_, lockTimer := fun o src n e => ?_ }
    · cases hp : s.steering.phase with
      | stalled u c d m =>
        simp only [hp] at e
        cases m with
        | none => simp [SteeringPhase.tick] at e
        | some m =>
          simp only [SteeringPhase.tick, SteeringPhase.stalled.injEq, Option.some.injEq] at e
          have := h.stallTimer _ _ _ _ hp
          omega
      | _ => simp [hp, SteeringPhase.tick] at e
    · cases hp : s.steering.lock with
      | closed => simp [hp, LockWindow.tick] at e
      | opened u c m =>
        simp only [hp] at e
        cases m with
        | none => simp [LockWindow.tick] at e
        | some m =>
          simp only [LockWindow.tick, LockWindow.opened.injEq, Option.some.injEq] at e
          have := h.lockTimer _ _ _ hp
          omega
  | waiting => exact { h with }
  | lock w hw => exact { h with lockTimer := hw }
  | forward => exact { h with stallTimer := nofun }
  | answer t o d _ =>
    refine { h with stallTimer := nofun, lockTimer := fun o src n e => ?_ }
    obtain ⟨_, e, _⟩ := complete_opened e
    cases e; exact le_rfl
  | stall t a base timer _ hr =>
    exact { h with stallTimer := fun _ _ _ n e => by cases e; exact hr hq n rfl }
  | complete t tg o d _ _ =>
    refine { h with stallTimer := nofun, lockTimer := fun o src n e => ?_ }
    obtain ⟨_, e, _⟩ := complete_opened e
    cases e; exact le_rfl
  | freeRead => exact { h with }
  | grantSteering t k _ _ hk =>
    refine h.arbiter_of _ ?_ rfl
    have := h.shareCount
    show k ≤ 15
    omega
  | grantCopy t _ _ =>
    have hc := h.copy_of { s.copy with
      active := s.copy.active.map fun j => { j with granted := true } }
      (fun j hj => h.jobs j (by
        cases ha : s.copy.active <;> simp_all [CopyEngine.jobs]))
      (by cases ha : s.copy.active <;> simp [CopyEngine.jobs, ha]) rfl h.staging
    exact { hc with shareCount := Nat.zero_le _ }
  | discard => exact { h with }
  | cancelMark j hj =>
    refine h.copy_of _ (fun k hk => h.jobs k ?_) ?_ rfl h.staging
    · simpa [CopyEngine.jobs, hj] using hk
    · simp [CopyEngine.jobs, hj]
  | readOn kind j d _ hj _ =>
    have hc := h.copy_of { s.copy with
      active := some { job := j.job, half := .write, cancelled := false, granted := false }
      staging := [] } (fun k hk => h.jobs k (by simpa [CopyEngine.jobs, hj] using hk))
      (by simp [CopyEngine.jobs, hj]) rfl (Nat.zero_le _)
    exact { hc with }
  | writeOn kind j _ hj _ _ =>
    have hf : s.freePort.InRange := { h with }
    exact hf.presentRead _ (h.jobs _ (by simp [CopyEngine.jobs, hj])).advanced ⟨j, hj, rfl⟩

/-! ### The Change Queue -/

theorem State.InRange.queueChange (h : s.InRange) (op : ChangeOp) {k : Nat}
    (space : s.changes.entries.length < 12) (expiry : k ≤ 255)
    (args : ∀ a x, op = .aperture a x → ApChange.InRange x) : (s.queueChange op k).InRange := by
  obtain ⟨n, hn, e⟩ := queueChange_changes s op k space
  have : s.queueChange op k = { s with changes := s.queued op k n } := by rw [← e]; rfl
  rw [this]
  refine h.entries_of _ (fun x hx => ?_) (by simpa [State.queued] using space) hn.inRange
  rcases List.mem_append.1 hx with hx | hx
  · exact h.entries x hx
  · rw [List.mem_singleton.1 hx]
    exact ⟨h.nextSeq, expiry, args⟩

theorem State.InRange.countDown (h : s.InRange) (e : Change) {n : Nat} (expiry : n ≤ e.expiry) :
    State.InRange { s with changes := { s.changes with
      entries := s.changes.entries.map fun x => if x = e then { x with expiry := n } else x } } := by
  refine h.entries_of _ (fun x hx => ?_) (by simpa using h.changes) h.nextSeq
  obtain ⟨y, hy, rfl⟩ := List.mem_map.1 hx
  have hr := h.entries y hy
  split
  · subst y
    exact ⟨hr.seq, expiry.trans hr.expiry, hr.args⟩
  · exact hr

/-! ### Jobs come and go -/

theorem CopyEngine.ids_eq (c : CopyEngine) : c.ids = c.jobs.map (·.id) := by
  simp [CopyEngine.ids, CopyEngine.jobs, Function.comp_def]

/-- The copy queue gains or loses jobs, and one slot counts the change. -/
theorem State.InRange.recount (h : s.InRange) (x : CopyEngine) (sl : SlotId) (n : Nat)
    (jobs : ∀ j ∈ x.jobs, j.InRange) (jobCount : x.jobs.length ≤ 4)
    (others : ∀ y, y ≠ sl → s.copy.naming y ≤ x.naming y) (own : n ≤ x.naming sl)
    (nextId : 1 ≤ x.nextId ∧ x.nextId ≤ 255) (staging : x.staging.length ≤ 16) :
    State.InRange { s.setSlot sl { s.slot sl with jobs := n } with copy := x } := by
  have hslot (y : SlotId) : ({ s.setSlot sl { s.slot sl with jobs := n } with copy := x } : State).slot y =
      if sl = y then { s.slot sl with jobs := n } else s.slot y := setSlot_slot s sl y _
  have hfour (y : SlotId) : x.naming y ≤ 4 := (List.length_filter_le _ _).trans jobCount
  refine { h with
    slots := fun y => ?_
    jobs := jobs
    jobCount := by rwa [CopyEngine.count_eq]
    counted := fun y => ?_
    nextId := nextId
    staging := staging }
  · rw [hslot]; split
    · exact ⟨h.frame sl, own.trans (hfour sl)⟩
    · exact h.slots y
  · rw [hslot]; split
    · subst y; exact own
    · exact (h.counted y).trans (others y (Ne.symm ‹_›))

theorem naming_append (c d : CopyEngine) (j : Job) (h : d.jobs.Perm (j :: c.jobs)) (y : SlotId) :
    d.naming y = c.naming y + if j.slot = y then 1 else 0 := by
  unfold CopyEngine.naming
  rw [(h.filter _).length_eq, List.filter_cons]
  by_cases hj : j.slot = y <;> simp [hj]

theorem nextId_range {c : CopyEngine} (h : c.count < 4) :
    CounterMoves 255 (c.ids ++ [c.nextId]) c.nextId (nextUnused 255 (c.ids ++ [c.nextId]) c.nextId) := by
  refine nextUnused_moves 255 _ _ ?_
  rw [CopyEngine.count_eq] at h
  simp only [CopyEngine.ids_eq, List.length_append, List.length_map, List.length_singleton]
  omega

/-- A job that may enter keeps the copy queue in range, wherever in the queue it stands. -/
theorem State.InRange.enter (h : s.InRange) {L : Laws} (hq : L.ranged) {j : Job} (m : s.MayEnter L j)
    (x : CopyEngine) (perm : x.jobs.Perm (j :: s.copy.jobs))
    (nextId : x.nextId = nextUnused 255 (s.copy.ids ++ [s.copy.nextId]) s.copy.nextId)
    (staging : x.staging = s.copy.staging) :
    State.InRange { s.setSlot j.slot { s.slot j.slot with jobs := (s.slot j.slot).jobs + 1 } with
      copy := x } := by
  have hname := naming_append s.copy x j perm
  refine h.recount x j.slot _ (fun k hk => ?_) ?_ (fun y _ => ?_) ?_
    (nextId ▸ (nextId_range m.space).inRange) (staging ▸ h.staging)
  · rcases List.mem_cons.1 (perm.mem_iff.1 hk) with rfl | hk
    · exact m.range hq
    · exact h.jobs k hk
  · have := m.space
    rw [CopyEngine.count_eq] at this
    rw [perm.length_eq, List.length_cons]
    omega
  · rw [hname]; omega
  · have := h.counted j.slot
    rw [hname, if_pos rfl]
    exact Nat.add_le_add_right this 1

/-- A job that leaves keeps the rest of the copy queue in range. -/
theorem State.InRange.leave (h : s.InRange) (j : Job) (x : CopyEngine)
    (perm : s.copy.jobs.Perm (j :: x.jobs)) (nextId : x.nextId = s.copy.nextId)
    (staging : x.staging.length ≤ 16) :
    State.InRange { s.setSlot j.slot { s.slot j.slot with jobs := (s.slot j.slot).jobs - 1 } with
      copy := x } := by
  have hname := naming_append x s.copy j perm
  have hcount := h.jobCount
  rw [CopyEngine.count_eq, perm.length_eq, List.length_cons] at hcount
  refine h.recount x j.slot _ (fun k hk => h.jobs k (perm.mem_iff.2 (List.mem_cons_of_mem _ hk)))
    (by omega) (fun y hy => ?_) ?_ (nextId ▸ h.nextId) staging
  · rw [hname, if_neg hy.symm]; omega
  · have := h.counted j.slot
    have hn := hname j.slot
    rw [if_pos rfl] at hn
    change _ ≤ s.copy.naming j.slot at this
    show (s.slot j.slot).jobs - 1 ≤ _
    omega

theorem Move.inRange {L : Laws} (hq : L.ranged) {t : State} {g g' : Ghost} (m : Move L s g t g')
    (h : s.InRange) : t.InRange := by
  cases m with
  | port m => exact m.inRange hq h
  | restate => exact h
  | marks sl => exact h.setSlot sl _ (h.frame sl) le_rfl
  | pass r sl a _ => exact h.setSlot sl _ (h.frame sl) le_rfl
  | unpass sl a => exact h.setSlot sl _ (h.frame sl) le_rfl
  | count a n d hr =>
    obtain ⟨hmost, hcount⟩ := hr hq
    exact h.setAp a _ ⟨(h.apertures a).config, fun c hc on => hcount c hc (apOn_eq_true.2 on), hmost⟩
  | configure a c d n u _ _ _ _ hr hc _ _ =>
    obtain ⟨hmost, hcount⟩ := hc hq
    exact h.setAp a _ ⟨fun e he => by cases he; exact hr hq,
      fun e he on => hcount e he (apOn_eq_true.2 on), hmost⟩
  | setUp a c off _ hr =>
    exact h.setAp a _ ⟨fun e he => by cases he; exact hr hq,
      fun e _ on => absurd (apOn_eq_false.1 off) on, (h.apertures a).most⟩
  | toReady a r sl k =>
    exact (h.setApState a .unbound (by rw [k.1]; nofun)).relist r _ rfl rfl rfl rfl
  | returnHead a r sl k => exact (h.setApState a .unbound (by rw [k.1]; nofun)).joinFreeHead r sl
  | advance r =>
    exact h.setRing r _ ((h.rings r).of_lists _ rfl (wrapNext_le (by decide)) rfl rfl)
  | takeFree a r sl rest n _ on _ hn =>
    exact (h.relist r { s.ring r with free := rest } rfl rfl rfl rfl).fill a sl hn
      (apOn_eq_true.1 on)
  | steal a r sl n _ _ on _ hn => exact (h.leaveReady r sl).fill a sl hn (apOn_eq_true.1 on)
  | unbind a on _ => exact h.setApState a _ (apOn_eq_true.1 on)
  | producerOn a c _ config _ _ _ =>
    exact (h.relist c.ring { s.ring c.ring with producer := some a } rfl rfl rfl rfl).freshOn a
  | producerOff a r idle =>
    have ha := h.setAp a { s.ap a with state := .off, deferred := false }
      ⟨(h.apertures a).config, fun _ _ on => absurd rfl on, (h.apertures a).most⟩
    exact ha.relist r _ rfl rfl rfl rfl
  | acquire a r sl state _ _ =>
    have hs := h.setSlot sl { s.slot sl with holders := ApSet.insert (s.slot sl).holders a }
      (h.frame sl) le_rfl
    exact hs.setApState a _ (show (s.ap a).state ≠ .off by rw [state]; nofun)
  | release a c sl bound _ =>
    have hs := h.setSlot sl { s.slot sl with holders := ApSet.erase (s.slot sl).holders a }
      (h.frame sl) le_rfl
    exact hs.setApState a _ (show (s.ap a).state ≠ .off by rw [bound]; nofun)
  | consumerOn a c _ config _ _ _ =>
    exact (h.relist c.ring { s.ring c.ring with
      consumers := ApSet.insert (s.ring c.ring).consumers a } rfl rfl rfl rfl).freshOn a
  | consumerOff a c u _ _ _ _ =>
    exact (h.setAp a { s.ap a with state := .off, deferred := false }
      ⟨(h.apertures a).config, fun _ _ on => absurd rfl on, (h.apertures a).most⟩).relist c.ring _
      rfl rfl rfl rfl
  | toHeld r sl _ _ => exact (h.leaveReady r sl).relist r _ rfl rfl rfl rfl
  | toFree r sl _ _ => exact (h.leaveReady r sl).joinFreeTail r sl
  | freeHeld r sl _ _ =>
    have hl : (s.leaveHeld r sl).InRange := h.relist r _ rfl rfl rfl rfl
    exact hl.joinFreeTail r sl
  | settle sl _ => exact h.applyRetirement sl
  | retireNow sl k home _ _ floor =>
    exact h.retire sl fun e he => by rw [home] at he; cases he; exact floor
  | assign sl r base home _ _ =>
    rw [assignSlot_eq]
    have hr := h.rings r
    exact (h.setSlot sl { Slot.unassigned with home := some { ring := r, base := base } } nofun
      (Nat.zero_le _)).setRing r _
      ⟨hr.slotSize, hr.frameCounter, fun on => (hr.pool on).trans (Nat.le_succ _)⟩
  | size r e o range _ =>
    have hr := h.rings r
    exact h.setRing r _ ⟨fun f hf => by cases hf; exact range, hr.frameCounter, hr.pool⟩
  | overflow r o => exact h.relist r _ rfl rfl rfl rfl
  | power r on pool =>
    have hr := h.rings r
    exact h.setRing r _ ⟨hr.slotSize, hr.frameCounter, pool⟩
  | dropEntry e _ =>
    have hd := h.removeChange e
    rcases clearRetirePending_cases (s.removeChange e) e.op with ⟨_, k⟩ | ⟨x, _, k⟩ <;> rw [k]
    · exact hd
    · exact hd.setSlot x _ (hd.frame x) le_rfl
  | countDown e n hn => exact h.countDown e hn
  | queueEntry op k space expiry args _ _ => exact h.queueChange op space expiry args
  | queueRetire sl k space expiry _ _ _ =>
    exact (h.setSlot sl { s.slot sl with retirePending := true } (h.frame sl) le_rfl).queueChange
      _ space expiry nofun
  | startJob j idle enter =>
    have hx := h.enter hq enter
      { s.copy with
        active := some { job := j, half := .read, cancelled := false, granted := false }
        nextId := nextUnused 255 (s.copy.ids ++ [s.copy.nextId]) s.copy.nextId }
      (by simp [CopyEngine.jobs, idle]) rfl rfl
    exact { hx with }
  | queueJob j busy enter =>
    exact h.enter hq enter
      { s.copy with
        queued := s.copy.queued ++ [j]
        nextId := nextUnused 255 (s.copy.ids ++ [s.copy.nextId]) s.copy.nextId }
      (by
        simp only [CopyEngine.jobs, ← List.append_assoc]
        exact List.perm_append_comm) rfl rfl
  | dropActive j hj _ =>
    have hx := h.leave j.job { s.copy with active := none, staging := [] }
      (by simp [CopyEngine.jobs, hj]) rfl (Nat.zero_le _)
    split <;> exact { hx with }
  | dropQueued j hj =>
    exact h.leave j { s.copy with queued := s.copy.queued.erase j }
      (by
        simp only [CopyEngine.jobs]
        exact ((List.perm_cons_erase hj).append_left _).trans List.perm_middle) rfl h.staging
  | activateNext idle _ =>
    rcases activateNext_cases s with ⟨_, k⟩ | ⟨j, js, hj, k⟩ <;> rw [k]
    · exact { h with shareCount := Nat.zero_le _ }
    · have hx := h.copy_of
        { s.copy with
          active := some { job := j, half := .read, cancelled := false, granted := false }
          queued := js }
        (fun x hx => h.jobs x (by simpa [CopyEngine.jobs, idle, hj] using hx))
        (by simp [CopyEngine.jobs, idle, hj]) rfl h.staging
      exact { hx with }

end

end Sys2Proof.Machine
end

section
/-! PROOFS: every move keeps what is recorded in range, the counts of rings, and seqs apart; so a run
keeps the laws it may lean on (O54). -/

namespace Sys2Proof.Machine

section
variable {L : Laws} {s t : State} {g g' : Ghost}

/-! ### Seqs (R145) -/

/-- The seqs in use, and the one the counter holds. -/
def ChangeQueue.seqs (q : ChangeQueue) : List Nat := q.entries.map (·.seq) ++ [q.nextSeq]

theorem seqs_removeChange_sublist (e : Change) :
    (s.removeChange e).changes.seqs.Sublist s.changes.seqs :=
  ((removeChange_sublist s e).map _).append_right _

theorem map_seq_countDown (e : Change) (n : Nat) (l : List Change) :
    (l.map fun x => if x = e then { x with expiry := n } else x).map (·.seq) = l.map (·.seq) := by
  rw [List.map_map]
  refine List.map_congr_left fun x _ => ?_
  simp only [Function.comp_apply]
  split <;> rfl

theorem applyRetirement_changes (s : State) (sl : SlotId) :
    (s.applyRetirement sl).changes = s.changes ∨
      ∃ e ∈ s.changes.entries, e.op = .retireSlot sl ∧
        (s.applyRetirement sl).changes = (s.removeChange e).changes := by
  rcases applyRetirement_cases s sl with ⟨_, k⟩ | ⟨e, he, _, k⟩ | ⟨e, he, _, k⟩ <;> rw [k]
  · exact .inl rfl
  all_goals
    obtain ⟨hm, hop⟩ := waitingRetirement_some he
    exact .inr ⟨e, hm, hop, by simp⟩

theorem clearRetirePending_changes (op : ChangeOp) :
    (s.clearRetirePending op).changes = s.changes := by
  rcases clearRetirePending_cases s op with ⟨_, k⟩ | ⟨_, _, k⟩ <;> rw [k]
  rfl

/-- What a move makes of the Change Queue: nothing, an entry less, an expiry counted down, or one more. -/
theorem Move.changes_cases (m : Move L s g t g') :
    t.changes = s.changes ∨ (∃ e, t.changes = (s.removeChange e).changes) ∨
    (∃ e n, n ≤ e.expiry ∧ t.changes = { s.changes with
      entries := s.changes.entries.map fun x => if x = e then { x with expiry := n } else x }) ∨
    ∃ op k, s.changes.entries.length < 12 ∧ t.changes = (s.queueChange op k).changes := by
  cases m with
  | port m => exact .inl m.books.changes
  | settle sl _ =>
    rcases applyRetirement_changes s sl with h | ⟨e, _, _, h⟩
    · exact .inl h
    · exact .inr (.inl ⟨e, h⟩)
  | retireNow sl => exact .inl (by simp)
  | dropEntry e _ => exact .inr (.inl ⟨e, clearRetirePending_changes _⟩)
  | countDown e n hn => exact .inr (.inr (.inl ⟨e, n, hn, rfl⟩))
  | queueEntry op k space => exact .inr (.inr (.inr ⟨op, k, space, rfl⟩))
  | queueRetire sl k space => exact .inr (.inr (.inr ⟨_, k, space, rfl⟩))
  | dropActive => left; split <;> rfl
  | activateNext =>
    left; rcases activateNext_cases s with ⟨_, k⟩ | ⟨_, _, _, k⟩ <;> exact (congrArg State.changes k :)
  | _ => exact .inl rfl

theorem Move.seqs (m : Move L s g t g') (h : s.changes.seqs.Nodup) : t.changes.seqs.Nodup := by
  rcases m.changes_cases with e | ⟨x, e⟩ | ⟨x, n, _, e⟩ | ⟨op, k, space, e⟩ <;> rw [e]
  · exact h
  · exact h.sublist (seqs_removeChange_sublist x)
  · rw [ChangeQueue.seqs, map_seq_countDown]; exact h
  · exact queueChange_seqs s op k space h

/-! ### Notes, targets and responses (R33, R160, R171) -/

theorem ChangeOp.number_le (op : ChangeOp) : op.number ≤ 8 := by
  cases op with
  | aperture a x => cases x <;> simp [ChangeOp.number]
  | _ => simp [ChangeOp.number]

/-- The three kinds of note that the Change Queue raises. -/
def NoteKind.ofChange (k : NoteKind) : Prop := k = .changeApplied ∨ k = .changeRejected ∨ k = .changeExpired

theorem changeNote_inRange {e : Change} (he : e.InRange) {k : NoteKind} (hk : k.ofChange) :
    (s.changeNote k e).InRange := by
  have hseq := he.seq
  have hnum := e.op.number_le
  have hkind : k.largestTag = 65535 ∧ k.holdsAddress = false := by
    rcases hk with rfl | rfl | rfl <;> exact ⟨rfl, rfl⟩
  have : (s.changeNote k e).kind = k ∧ (s.changeNote k e).frame = none ∧
      (s.changeNote k e).tag = some e.seq ∧ (s.changeNote k e).detail = e.op.number := by
    unfold State.changeNote
    split <;> simp_all
  obtain ⟨h1, h2, h3, h4⟩ := this
  refine ⟨by rw [h2]; nofun, by rw [h1, hkind.2]; nofun, fun n hn => ?_, fun _ => by rw [h3]; rfl, ?_⟩
  · rw [h3] at hn; cases hn; rw [h1, hkind.1]; exact hseq
  · rw [h4]; omega

theorem push_inRange {q : NoteQueue} {n : Note} (h : ∀ x ∈ q.queue, x.InRange) (hn : n.InRange) :
    ∀ x ∈ (q.push n).queue, x.InRange := by
  rcases push_cases q n with ⟨_, e⟩ | ⟨_, _, e⟩ | ⟨_, _, e⟩ <;> rw [e]
  · exact h
  · intro x hx
    rcases List.mem_append.1 hx with hx | hx
    · exact h x hx
    · rw [List.mem_singleton.1 hx]; exact hn
  · exact h

theorem PortMove.recorded (hp : L.placed) (hq : L.ranged) (hr : L.recorded) (m : PortMove L s t)
    (h : s.RecordsInRange) : t.RecordsInRange := by
  cases m with
  | raise n hn => exact { h with notes := push_inRange h.notes (hn hp hq hr) }
  | notes x hx _ _ => exact { h with notes := fun n hn => h.notes n (hx.subset hn) }
  | link x hx =>
    exact { h with response := fun r e => (hx r e).elim (h.response r) fun k => k hp hq hr }
  | forward u m tg _ hf =>
    exact { h with target := fun _ x f e hx => by cases e; exact hf hq x f rfl hx }
  | answer => exact { h with target := nofun }
  | stall => exact { h with target := nofun }
  | complete => exact { h with target := nofun }
  | tick =>
    refine { h with target := fun u tg f e hf => ?_ }
    cases hph : s.steering.phase with
    | inFlight v w =>
      simp only [hph, SteeringPhase.tick, SteeringPhase.inFlight.injEq] at e
      obtain ⟨rfl, rfl⟩ := e
      exact h.target _ _ f hph hf
    | stalled v w x y => cases y <;> simp [hph, SteeringPhase.tick] at e
    | opened => simp [hph, SteeringPhase.tick] at e
  | _ => exact { h with }

/-- The notes, the ports and the link of a state where only records have changed. -/
theorem State.RecordsInRange.congr (h : s.RecordsInRange) (notes : t.notes = s.notes)
    (steering : t.steering = s.steering) (link : t.link = s.link) : t.RecordsInRange :=
  ⟨by rw [notes]; exact h.notes, by rw [steering]; exact h.target, by rw [link]; exact h.response⟩

theorem State.RecordsInRange.applyRetirement (h : s.RecordsInRange) (hs : s.InRange) (sl : SlotId) :
    (s.applyRetirement sl).RecordsInRange := by
  rcases applyRetirement_cases s sl with ⟨_, k⟩ | ⟨e, he, _, k⟩ | ⟨e, he, _, k⟩ <;> rw [k]
  · exact h
  · have hr := hs.entries e (waitingRetirement_some he).1
    exact { h with notes := push_inRange h.notes (changeNote_inRange hr (.inr (.inl rfl))) }
  · have hr := hs.entries e (waitingRetirement_some he).1
    have hm : ((((s.removeChange e).setSlot sl { s.slot sl with retirePending := false }).retire
        sl)).RecordsInRange := h.congr (by simp) (by simp) (by simp)
    exact { hm with notes := push_inRange hm.notes (changeNote_inRange hr (.inl rfl)) }

theorem Move.recorded (hp : L.placed) (hq : L.ranged) (hr : L.recorded) (m : Move L s g t g')
    (hs : s.InRange) (h : s.RecordsInRange) : t.RecordsInRange := by
  cases m with
  | port m => exact m.recorded hp hq hr h
  | settle sl _ => exact h.applyRetirement hs sl
  | retireNow sl => exact h.congr (by simp) (by simp) (by simp)
  | dropEntry e _ =>
    rcases clearRetirePending_cases (s.removeChange e) e.op with ⟨_, k⟩ | ⟨_, _, k⟩ <;> rw [k] <;>
      exact h.congr rfl rfl rfl
  | dropActive => exact h.congr (by split <;> rfl) (by split <;> rfl) (by split <;> rfl)
  | activateNext =>
    rcases activateNext_cases s with ⟨_, k⟩ | ⟨_, _, _, k⟩ <;> rw [k] <;> exact h.congr rfl rfl rfl
  | _ => exact h.congr rfl rfl rfl

/-- A move keeps the laws that its run may lean on. -/
theorem Move.obeys (m : Move L s g t g') (h : s.Obeys L) : t.Obeys L where
  placed hp := m.placed hp (h.placed hp)
  ranged hq := m.inRange hq (h.ranged hq)
  recorded hp hq hr := m.recorded hp hq hr (h.ranged hq) (h.recorded hp hq hr)
  unique hu := m.seqs (h.unique hu)

theorem Moves.obeys (m : Moves L s g t g') (h : s.Obeys L) : t.Obeys L := by
  induction m with
  | refl => exact h
  | tail _ m ih => exact m.obeys ih

end

end Sys2Proof.Machine
end

section
/-! PROOFS: what runs of slots that leave the ready list leave of the part (R12, R18, R19), what the
reclamation check finds, and what retirements leave of the other slots (R154). -/

namespace Sys2Proof.Machine

/-! ### Slots that leave the ready list (R12) -/

section
variable (s : State) (r : RingId)

/-- The note of a slot that becomes HELD. -/
def State.heldNote (s : State) (r : RingId) (sl : SlotId) : Note :=
  { kind := .frameHeld, ring := some r, slot := some sl, frame := (s.slot sl).frame }

theorem dropReady_of_retained {sl : SlotId} (h : (s.slot sl).retained = true) :
    s.dropReady r sl =
      ((s.leaveReady r sl).setRing r { (s.leaveReady r sl).ring r with
        held := ((s.leaveReady r sl).ring r).held ++ [sl] }).raise (s.heldNote r sl) := by
  simp [State.dropReady, h, State.joinHeld, State.heldNote]

theorem dropReady_of_unretained {sl : SlotId} (h : (s.slot sl).retained = false) :
    s.dropReady r sl = (s.leaveReady r sl).joinFreeTail r sl := by
  simp [State.dropReady, h]

theorem dropReady_slot (sl x : SlotId) :
    (s.dropReady r sl).slot x =
      if sl = x ∧ (s.slot x).retained = false then (s.slot x).freed else s.slot x := by
  cases h : (s.slot sl).retained
  · rw [dropReady_of_unretained s r h, joinFreeTail_slot]
    by_cases hx : sl = x
    · subst x; simp [h]
    · simp [hx]
  · rw [dropReady_of_retained s r h]
    by_cases hx : sl = x
    · subst x; simp [h]
    · simp [hx]

@[simp] theorem dropReady_retained (sl x : SlotId) :
    ((s.dropReady r sl).slot x).retained = (s.slot x).retained := by
  rw [dropReady_slot]; split
  · next h => simp [Slot.freed, h.2]
  · rfl

@[simp] theorem dropReady_holders (sl x : SlotId) :
    ((s.dropReady r sl).slot x).holders = (s.slot x).holders := by
  rw [dropReady_slot]; split <;> rfl

theorem dropReady_ring_ne {q : RingId} (sl : SlotId) (h : r ≠ q) :
    (s.dropReady r sl).ring q = s.ring q := by
  unfold State.dropReady
  split
  · simp [State.joinHeld, setRing_ring_ne, leaveReady_ring_ne, h]
  · rw [joinFreeTail_ring_ne _ _ h, leaveReady_ring_ne _ h]

/-- A slot that leaves the ready list changes only slots, rings and notes. -/
theorem dropReady_frame (sl : SlotId) :
    { s.dropReady r sl with slots := s.slots, rings := s.rings, notes := s.notes } = s := by
  unfold State.dropReady
  split <;> rfl

theorem dropReady_notes (sl : SlotId) :
    (s.dropReady r sl).notes =
      if (s.slot sl).retained then s.notes.push (s.heldNote r sl) else s.notes := by
  cases h : (s.slot sl).retained
  · rw [dropReady_of_unretained s r h]; rfl
  · rw [dropReady_of_retained s r h]; rfl

/-- Slots that leave the ready list of a ring one after the other. -/
def State.dropAll (s : State) (r : RingId) (sls : List SlotId) : State :=
  sls.foldl (fun t sl => t.dropReady r sl) s

variable (sls : List SlotId)

@[simp] theorem dropAll_nil : s.dropAll r [] = s := rfl

@[simp] theorem dropAll_cons (sl : SlotId) :
    s.dropAll r (sl :: sls) = (s.dropReady r sl).dropAll r sls := rfl

/-- Of a run of slots, those that are retained. -/
def State.keptOf (s : State) (sls : List SlotId) : List SlotId :=
  sls.filter fun sl => (s.slot sl).retained

/-- Of a run of slots, those that are not retained. -/
def State.looseOf (s : State) (sls : List SlotId) : List SlotId :=
  sls.filter fun sl => !(s.slot sl).retained

theorem dropAll_ring_self :
    (s.dropAll r sls).ring r =
      { s.ring r with
        ready := (s.ring r).ready.diff sls
        held := (s.ring r).held ++ s.keptOf sls
        free := (s.ring r).free ++ s.looseOf sls } := by
  induction sls generalizing s with
  | nil => simp [State.keptOf, State.looseOf]
  | cons sl sls ih =>
    rw [dropAll_cons, ih, dropReady_ring_self]
    cases h : (s.slot sl).retained <;>
      simp [State.keptOf, State.looseOf, h, List.diff_cons]

theorem dropAll_ring_ne {q : RingId} (h : r ≠ q) : (s.dropAll r sls).ring q = s.ring q := by
  induction sls generalizing s with
  | nil => rfl
  | cons sl sls ih => rw [dropAll_cons, ih, dropReady_ring_ne s r sl h]

theorem dropAll_slot (x : SlotId) :
    (s.dropAll r sls).slot x =
      if x ∈ sls ∧ (s.slot x).retained = false then (s.slot x).freed else s.slot x := by
  induction sls generalizing s with
  | nil => simp
  | cons sl sls ih =>
    rw [dropAll_cons, ih, dropReady_retained, dropReady_slot]
    by_cases hx : sl = x
    · subst x
      by_cases hm : sl ∈ sls <;> by_cases hr : (s.slot sl).retained = false <;>
        simp [hm, hr, Slot.freed]
    · simp [hx, Ne.symm hx]

theorem dropAll_frame :
    { s.dropAll r sls with slots := s.slots, rings := s.rings, notes := s.notes } = s := by
  induction sls generalizing s with
  | nil => rfl
  | cons sl sls ih =>
    have h := congrArg (fun u : State =>
      { u with slots := s.slots, rings := s.rings, notes := s.notes }) (ih (s.dropReady r sl))
    exact h.trans (dropReady_frame s r sl)

theorem dropAll_apertures : (s.dropAll r sls).apertures = s.apertures :=
  (congrArg State.apertures (dropAll_frame s r sls) :)

@[simp] theorem dropAll_ap (a : ApId) : (s.dropAll r sls).ap a = s.ap a := by
  simp only [State.ap, dropAll_apertures]

@[simp] theorem dropAll_changes : (s.dropAll r sls).changes = s.changes :=
  (congrArg State.changes (dropAll_frame s r sls) :)

theorem dropAll_notes :
    (s.dropAll r sls).notes = (s.keptOf sls).foldl (fun q x => q.push (s.heldNote r x)) s.notes := by
  induction sls generalizing s with
  | nil => rfl
  | cons sl sls ih =>
    have hnote (x : SlotId) (hx : (s.slot x).retained = true) :
        (s.dropReady r sl).heldNote r x = s.heldNote r x := by
      simp [State.heldNote, dropReady_slot, hx]
    have hkept : (s.dropReady r sl).keptOf sls = s.keptOf sls := by simp [State.keptOf]
    rw [dropAll_cons, ih, hkept, dropReady_notes]
    have hfold : ∀ (l : List SlotId) (q : NoteQueue), (∀ x ∈ l, (s.slot x).retained = true) →
        l.foldl (fun q x => q.push ((s.dropReady r sl).heldNote r x)) q =
          l.foldl (fun q x => q.push (s.heldNote r x)) q := fun l q hl =>
      List.foldl_ext _ _ _ fun b x hx => by rw [hnote x (hl x hx)]
    rw [hfold _ _ fun x hx => by simpa using (List.mem_filter.1 hx).2]
    cases h : (s.slot sl).retained <;> simp [State.keptOf, h]

end

/-! ### The reclamation condition (R12) -/

section
variable {s : State}

theorem foldl_insert_has (p : ApId → Bool) (l : List ApId) (m : ApSet) (a : ApId) :
    ApSet.has (l.foldl (fun m a => if p a then ApSet.insert m a else m) m) a =
      (ApSet.has m a || (decide (a ∈ l) && p a)) := by
  induction l generalizing m with
  | nil => simp
  | cons b l ih =>
    rw [List.foldl_cons, ih]
    by_cases hb : a = b
    · subst b
      cases p a <;> simp
    · cases p b <;> simp [hb]

/-- The ON ORDERED consumers of a ring are those of its consumers whose pick is ORDERED. -/
theorem has_orderedConsumers (s : State) (r : RingId) (a : ApId) :
    ApSet.has (s.orderedConsumers r) a = true ↔
      ApSet.has (s.ring r).consumers a = true ∧ (s.ap a).config.map (·.pick) = some .ordered := by
  have hzero : ApSet.has 0 a = false := by simp [ApSet.has]
  rw [State.orderedConsumers, foldl_insert_has, hzero]
  simp [mem_allAps]

/-- A set without a member is empty. -/
theorem ApSet.eq_zero_iff (m : ApSet) : m = 0 ↔ ∀ a, ApSet.has m a = false := by
  constructor
  · rintro rfl a; simp [ApSet.has]
  · intro h
    refine BitVec.eq_of_getLsbD_eq fun i hi => ?_
    simpa [ApSet.has] using h ⟨i, hi⟩

theorem ApSet.has_diff (m n : ApSet) (a : ApId) :
    ApSet.has (m &&& ~~~n) a = (ApSet.has m a && !ApSet.has n a) := by
  have := a.isLt
  simp [ApSet.has, this]

/-- One set lies in another. -/
theorem ApSet.diff_eq_zero_iff (m n : ApSet) :
    m &&& ~~~n = 0 ↔ ∀ a, ApSet.has m a = true → ApSet.has n a = true := by
  rw [ApSet.eq_zero_iff]
  refine forall_congr' fun a => ?_
  rw [ApSet.has_diff]
  cases ApSet.has m a <;> simp

/-- The check that the model makes is the condition of R12. -/
theorem reclaimable_iff (r : RingId) (sl : SlotId) :
    s.reclaimable r sl = true ↔ s.MeetsReclamation r sl := by
  simp only [State.reclaimable, Bool.and_eq_true, decide_eq_true_eq, ApSet.diff_eq_zero_iff,
    has_orderedConsumers, State.MeetsReclamation, State.newestReady, and_assoc, Option.map_eq_some_iff]
  refine and_congr_right fun _ => and_congr ?_ decide_eq_true_iff
  exact ⟨fun h a c ha hc hp => h a ⟨ha, c, hc, hp⟩, fun h a ⟨ha, c, hc, hp⟩ => h a c ha hc hp⟩

/-- What the condition of R12 reads. -/
theorem State.MeetsReclamation.congr {t : State} {r : RingId} {sl : SlotId} (h : s.MeetsReclamation r sl)
    (holders : (t.slot sl).holders = (s.slot sl).holders)
    (passed : ∀ a, ApSet.has (s.slot sl).passedBy a = true → ApSet.has (t.slot sl).passedBy a = true)
    (consumers : ∀ a d, ApSet.has (t.ring r).consumers a = true → (t.ap a).config = some d →
      d.pick = .ordered → ∃ c, ApSet.has (s.ring r).consumers a = true ∧ (s.ap a).config = some c ∧
        c.pick = .ordered)
    (newest : (t.ring r).ready.getLast? = some sl → (s.ring r).ready.getLast? = some sl) :
    t.MeetsReclamation r sl := by
  obtain ⟨h1, h2, h3⟩ := h
  refine ⟨holders ▸ h1, fun a d ha hd hp => ?_, fun e => h3 (newest e)⟩
  obtain ⟨c, hc, hcc, hcp⟩ := consumers a d ha hd hp
  exact passed a (h2 a c hc hcc hcp)

end

/-! ### Lists without some members -/

theorem getLast?_filter_of_last {α : Type} (p : α → Bool) (l : List α)
    (h : ∀ x, l.getLast? = some x → p x = true) : (l.filter p).getLast? = l.getLast? := by
  rcases List.eq_nil_or_concat l with rfl | ⟨ys, x, rfl⟩
  · rfl
  · have hx : p x = true := h x (by simp)
    simp [List.filter_append, hx]

theorem diff_filter {l : List SlotId} (h : l.Nodup) (p : SlotId → Bool) :
    l.diff (l.filter p) = l.filter fun x => !p x := by
  rw [h.sdiff_eq_filter]
  refine List.filter_congr fun x hx => ?_
  simp [hx]

/-! ### The slots that a reclamation check lets go (R13) -/

section
variable (s : State) (r : RingId) (cands : List SlotId)

/-- The READY slots among some candidates that meet the condition of R12, oldest first. -/
def State.leaving (s : State) (r : RingId) (cands : List SlotId) : List SlotId :=
  (s.ring r).ready.filter fun sl => cands.contains sl && s.reclaimable r sl

theorem reclaim_eq :
    s.reclaim r cands =
      (s.dropAll r (s.leaving r cands)).applyRetirements (s.looseOf (s.leaving r cands)) := rfl

theorem mem_leaving {x : SlotId} :
    x ∈ s.leaving r cands ↔ x ∈ (s.ring r).ready ∧ x ∈ cands ∧ s.MeetsReclamation r x := by
  simp [State.leaving, reclaimable_iff]

theorem leaving_sublist : (s.leaving r cands).Sublist (s.ring r).ready := List.filter_sublist

/-- The newest READY slot is never let go. -/
theorem newest_not_leaving {x : SlotId} (h : (s.ring r).ready.getLast? = some x) :
    x ∉ s.leaving r cands := fun hx => ((mem_leaving s r cands).1 hx).2.2.2.2 h

end

/-! ### Retirements (R154) -/

section
variable (s : State)

theorem applyRetirement_apertures (sl : SlotId) : (s.applyRetirement sl).apertures = s.apertures :=
  (congrArg State.apertures (applyRetirement_frame s sl) :)

@[simp] theorem applyRetirement_ap (sl : SlotId) (a : ApId) :
    (s.applyRetirement sl).ap a = s.ap a := by
  simp only [State.ap, applyRetirement_apertures]

theorem applyRetirement_slot_ne {sl x : SlotId} (h : sl ≠ x) :
    (s.applyRetirement sl).slot x = s.slot x := by
  rcases applyRetirement_cases s sl with ⟨_, k⟩ | ⟨_, _, _, k⟩ | ⟨_, _, _, k⟩ <;> rw [k]
  · simp [setSlot_slot_ne _ _ h]
  · unfold State.retire
    split
    · simp [setSlot_slot_ne _ _ h]
    · simp [setSlot_slot_ne _ _ h]

/-- The ring records after a retirement: the ring of the slot may lose it from its free list and pool. -/
theorem applyRetirement_ring_cases (sl : SlotId) (q : RingId) :
    (s.applyRetirement sl).ring q = s.ring q ∨
      ∃ h, (s.slot sl).home = some h ∧ q = h.ring ∧
        (s.applyRetirement sl).ring q =
          { s.ring q with free := (s.ring q).free.erase sl, pool := (s.ring q).pool - 1 } := by
  rcases applyRetirement_cases s sl with ⟨_, k⟩ | ⟨_, _, _, k⟩ | ⟨_, _, _, k⟩ <;> rw [k]
  · exact .inl rfl
  · exact .inl rfl
  · cases hh : (s.slot sl).home with
    | none => left; simp [State.retire, hh]
    | some h =>
      rw [retire_of_home (h := h) _ (by simpa using hh)]
      by_cases hq : h.ring = q
      · subst q; exact .inr ⟨h, rfl, rfl, by simp⟩
      · left; simp [setRing_ring_ne, hq]

theorem applyRetirement_ring_fields (sl : SlotId) (q : RingId) :
    ((s.applyRetirement sl).ring q).ready = (s.ring q).ready ∧
    ((s.applyRetirement sl).ring q).held = (s.ring q).held ∧
    ((s.applyRetirement sl).ring q).producer = (s.ring q).producer ∧
    ((s.applyRetirement sl).ring q).consumers = (s.ring q).consumers ∧
    ((s.applyRetirement sl).ring q).on = (s.ring q).on ∧
    ((s.applyRetirement sl).ring q).overflow = (s.ring q).overflow ∧
    ((s.applyRetirement sl).ring q).slotSize = (s.ring q).slotSize ∧
    ((s.applyRetirement sl).ring q).frameCounter = (s.ring q).frameCounter := by
  rcases applyRetirement_ring_cases s sl q with h | ⟨_, _, _, h⟩ <;> rw [h] <;> simp

theorem mem_free_applyRetirement {sl x : SlotId} {q : RingId} (h : x ≠ sl) :
    x ∈ ((s.applyRetirement sl).ring q).free ↔ x ∈ (s.ring q).free := by
  rcases applyRetirement_ring_cases s sl q with e | ⟨_, _, _, e⟩ <;> rw [e]
  exact List.mem_erase_of_ne h

end

end Sys2Proof.Machine
end

section
/-! PROOFS: the operations that the meanings share are runs of moves: notes, answers, the grant, slots that
leave their lists, retirements and reclamation. -/

namespace Sys2Proof.Machine

section
variable {L : Laws} {s t : State} {g h k : Ghost}

/-! ### What is left to do -/

theorem Ghost.Restated.of_subset (due : g.due ⊆ h.due) (unchecked : g.unchecked ⊆ h.unchecked)
    (offAp : h.offAp = g.offAp) (offRing : h.offRing = g.offRing) (ending : h.ending = g.ending) :
    Ghost.Restated L s g h :=
  ⟨fun _ _ _ _ _ hx => due hx, fun _ _ _ _ hx _ => unchecked hx, fun _ _ _ _ _ ha => offAp ▸ ha,
    fun _ _ _ _ _ hr => offRing ▸ hr, ending⟩

theorem Moves.restated (m : Moves L s g t h) (r : Ghost.Restated L t h k) : Moves L s g t k :=
  m.tail (.restate k r)

/-- The slots due may be named in any order, and more of them. -/
theorem Moves.due_mono {d : List SlotId} (m : Moves L s g t h) (hd : h.due ⊆ d) :
    Moves L s g t { h with due := d } :=
  m.restated (.of_subset hd (fun _ hx => hx) rfl rfl rfl)

/-! ### Notes, answers and the grant -/

theorem raise_moves {n : Note} (hn : L.placed → L.ranged → L.recorded → n.InRange) :
    Moves L s g (s.raise n) g := (PortMove.raise n hn).single

theorem changeNote_moves {e : Change} (he : L.ranged → e.InRange) {k : NoteKind} (hk : k.ofChange)
    (u : State) : Moves L s g (s.raise (u.changeNote k e)) g :=
  raise_moves fun _ hq _ => changeNote_inRange (he hq) hk

theorem arbitrate_moves [Fact (¬ L.idle)] : Moves L s g s.arbitrate g := by
  rcases arbitrate_cases s with h | ⟨t, k, hp, hc, hk, h⟩ | ⟨t, hp, hc, _, h⟩ <;> rw [h]
  · exact .refl
  · exact (PortMove.grantSteering t k hp hc hk).single
  · exact (PortMove.grantCopy t hp hc).single

theorem answer_moves [Fact (¬ L.calm)] (t : Txn) (o : BusOutcome) (d : List Beat) (hg : s.grounded) :
    Moves L s g (s.answer t o d) g := (PortMove.answer t o d hg).single

theorem answerFault_moves [Fact (¬ L.calm)] (t : Txn) (hg : s.grounded) : Moves L s g
    (s.answerFault t) g := by
  unfold State.answerFault
  split
  · exact answer_moves t _ _ hg
  · exact (answer_moves t .fault _ hg).trans PortMove.freeRead.single

theorem lockAccept_moves [Fact (¬ L.calm)] (t : Txn) (o : Option ApId) : Moves L s g
    (s.lockAccept t o) g := by
  refine (PortMove.lock _ fun o' src n e => ?_).single
  unfold LockWindow.accept at e
  split at e
  · cases e
  · cases hl : s.steering.lock <;> simp [hl] at e

theorem forwardInto_moves [Fact (¬ L.idle)] [Fact (¬ L.calm)] (ho : s.Obeys L) (t : Txn) (a : ApId)
    (r : RingId)
    (base : Addr)
    (sl : SlotId) (hg : s.grounded) : Moves L s g (s.forwardInto t a r base sl) g :=
  (PortMove.forward t _ _ hg fun hq x f e hf => by
    cases e; exact (ho.ranged hq).frame sl f hf).single

theorem detachStall_moves [Fact (¬ L.calm)] (a : ApId) : Moves L s g (s.detachStall a) g := by
  unfold State.detachStall
  split
  · next t b _ _ hp =>
    split
    · exact answerFault_moves t fun x y e => by rw [hp] at e; cases e
    · exact .refl
  · exact .refl

theorem forwardStall_moves [Fact (¬ L.idle)] [Fact (¬ L.calm)] (ho : s.Obeys L) (a : ApId)
    (r : RingId) (sl : SlotId) :
    Moves L s g (s.forwardStall a r sl) g := by
  unfold State.forwardStall
  split
  · next t b base _ hp =>
    split
    · exact forwardInto_moves ho t a r base sl fun x y e => by rw [hp] at e; cases e
    · exact .refl
  · exact .refl

/-! ### Slots that leave their lists -/

theorem dropReady_moves (ho : s.Obeys L) {r : RingId} {sl : SlotId}
    (ready : L.placed → sl ∈ (s.ring r).ready) (viewer : L.placed → s.noViewer r sl) :
    Moves L s g (s.dropReady r sl) { g with due := s.looseOf [sl] ++ g.due } := by
  cases hr : (s.slot sl).retained
  · rw [dropReady_of_unretained s r hr]
    simpa [State.looseOf, hr] using (Move.toFree (g := g) r sl ready viewer).single
  · rw [dropReady_of_retained s r hr]
    simp only [State.looseOf, hr, List.filter_cons_of_neg, Bool.not_true, List.filter_nil,
      Bool.false_eq_true, not_false_eq_true, List.nil_append]
    refine (Move.toHeld (g := g) r sl ready viewer).single.trans (raise_moves fun _ hq _ => ?_)
    refine ⟨fun f hf => ?_, nofun, nofun, fun e => absurd rfl e, Nat.zero_le _⟩
    have := (ho.ranged hq).frame sl f hf
    exact ⟨this.2, .inr this.1⟩

theorem noViewer_congr {r : RingId} {sl : SlotId} (h : s.noViewer r sl)
    (holders : (t.slot sl).holders = (s.slot sl).holders) (aps : t.apertures = s.apertures) :
    t.noViewer r sl := by
  have hap (a : ApId) : t.ap a = s.ap a := by simp only [State.ap, aps]
  refine h.imp (fun h => by rw [holders, h]) fun h a c hc => ?_
  rw [hap] at hc ⊢
  exact h a c hc

/-- The slots of a run are each in the ready list and viewed by none. -/
def State.unviewed (s : State) (r : RingId) (sls : List SlotId) : Prop :=
  sls.Nodup ∧ ∀ x ∈ sls, x ∈ (s.ring r).ready ∧ s.noViewer r x

theorem State.unviewed.tail {r : RingId} {sl : SlotId} {sls : List SlotId}
    (h : s.unviewed r (sl :: sls)) (ready : (t.ring r).ready = (s.ring r).ready.erase sl)
    (holders : ∀ x, (t.slot x).holders = (s.slot x).holders) (aps : t.apertures = s.apertures) :
    t.unviewed r sls := by
  obtain ⟨hn, hall⟩ := h
  rw [List.nodup_cons] at hn
  refine ⟨hn.2, fun x hx => ?_⟩
  obtain ⟨hr, hv⟩ := hall x (List.mem_cons_of_mem _ hx)
  refine ⟨?_, noViewer_congr hv (holders x) aps⟩
  have hne : x ≠ sl := fun e => hn.1 (e ▸ hx)
  rw [ready]
  exact (List.mem_erase_of_ne hne).2 hr

theorem dropAll_moves (ho : s.Obeys L) {r : RingId} {sls : List SlotId}
    (hs : L.placed → s.unviewed r sls) :
    Moves L s g (s.dropAll r sls) { g with due := s.looseOf sls ++ g.due } := by
  induction sls generalizing s g with
  | nil => exact .refl
  | cons sl sls ih =>
    have hhead (hp : L.placed) := (hs hp).2 sl List.mem_cons_self
    have m : Moves L s g _ _ := dropReady_moves ho (fun hp => (hhead hp).1) fun hp => (hhead hp).2
    have hloose : (s.dropReady r sl).looseOf sls = s.looseOf sls := by simp [State.looseOf]
    have htail (hp : L.placed) : (s.dropReady r sl).unviewed r sls :=
      (hs hp).tail (dropReady_ready s r sl) (dropReady_holders s r sl)
        (congrArg State.apertures (dropReady_frame s r sl) :)
    refine ((m.trans (ih (m.obeys ho) htail)).due_mono (d := s.looseOf (sl :: sls) ++ g.due) ?_)
    rw [hloose]
    intro x
    simp only [State.looseOf, List.mem_append, List.mem_filter, List.mem_cons, List.not_mem_nil,
      or_false]
    rintro (⟨h1, h2⟩ | ⟨h1, h2⟩ | h) <;> simp_all

/-- READY slots that all go free, whatever their retained mark (R19). -/
def State.freeAll (s : State) (r : RingId) (sls : List SlotId) : State :=
  sls.foldl (fun t sl => (t.leaveReady r sl).joinFreeTail r sl) s

theorem freeAll_moves (ho : s.Obeys L) {r : RingId} {sls : List SlotId}
    (hs : L.placed → s.unviewed r sls) :
    Moves L s g (s.freeAll r sls) { g with due := sls ++ g.due } := by
  induction sls generalizing s g with
  | nil => exact .refl
  | cons sl sls ih =>
    have hhead (hp : L.placed) := (hs hp).2 sl List.mem_cons_self
    have m : Moves L s g ((s.leaveReady r sl).joinFreeTail r sl) { g with due := sl :: g.due } :=
      (Move.toFree r sl (fun hp => (hhead hp).1) fun hp => (hhead hp).2).single
    have htail (hp : L.placed) : ((s.leaveReady r sl).joinFreeTail r sl).unviewed r sls :=
      (hs hp).tail (by simp) (fun x => by rw [joinFreeTail_slot]; split <;> simp_all [Slot.freed]) rfl
    refine (m.trans (ih (m.obeys ho) htail)).due_mono (d := sl :: sls ++ g.due) fun x => ?_
    simp only [List.mem_append, List.mem_cons]
    tauto

/-! ### Retirements (R154) -/

/-- The slots of a run are each in the free list of their ring. -/
def State.allFree (s : State) (sls : List SlotId) : Prop :=
  sls.Nodup ∧ ∀ x ∈ sls, ∃ h, (s.slot x).home = some h ∧ x ∈ (s.ring h.ring).free

theorem applyRetirements_cons (s : State) (sl : SlotId) (sls : List SlotId) :
    s.applyRetirements (sl :: sls) = (s.applyRetirement sl).applyRetirements sls := rfl

theorem applyRetirements_moves (ho : s.Obeys L) {sls : List SlotId}
    (hs : L.placed → s.allFree sls) :
    Moves L s g (s.applyRetirements sls) { g with due := g.due.filter (· ∉ sls) } := by
  induction sls generalizing s g with
  | nil => simpa [State.applyRetirements] using Moves.refl
  | cons sl sls ih =>
    have m : Moves L s g (s.applyRetirement sl) { g with due := g.due.filter (· ≠ sl) } :=
      (Move.settle sl fun hp => (hs hp).2 sl List.mem_cons_self).single
    have htail (hp : L.placed) : (s.applyRetirement sl).allFree sls := by
      obtain ⟨hn, hall⟩ := hs hp
      rw [List.nodup_cons] at hn
      refine ⟨hn.2, fun x hx => ?_⟩
      have hne : sl ≠ x := fun e => hn.1 (e ▸ hx)
      obtain ⟨h, hh, hf⟩ := hall x (List.mem_cons_of_mem _ hx)
      exact ⟨h, by rw [applyRetirement_slot_ne s hne, hh],
        (mem_free_applyRetirement s hne.symm).2 hf⟩
    rw [applyRetirements_cons]
    refine (m.trans (ih (m.obeys ho) htail)).due_mono fun x => ?_
    simp only [List.mem_filter, List.mem_cons, decide_eq_true_eq, not_or]
    tauto

theorem applyRetirements_ready (s : State) (sls : List SlotId) (q : RingId) :
    ((s.applyRetirements sls).ring q).ready = (s.ring q).ready ∧
      ((s.applyRetirements sls).ring q).held = (s.ring q).held ∧
      ((s.applyRetirements sls).ring q).consumers = (s.ring q).consumers ∧
      ((s.applyRetirements sls).ring q).producer = (s.ring q).producer := by
  induction sls generalizing s with
  | nil => exact ⟨rfl, rfl, rfl, rfl⟩
  | cons sl sls ih =>
    obtain ⟨hr, hh, hp, hc, _⟩ := applyRetirement_ring_fields s sl q
    rw [applyRetirements_cons]
    obtain ⟨h1, h2, h3, h4⟩ := ih (s.applyRetirement sl)
    exact ⟨h1.trans hr, h2.trans hh, h3.trans hc, h4.trans hp⟩

theorem applyRetirements_slot_ne (s : State) (sls : List SlotId) {x : SlotId} (h : x ∉ sls) :
    (s.applyRetirements sls).slot x = s.slot x := by
  induction sls generalizing s with
  | nil => rfl
  | cons sl sls ih =>
    rw [List.mem_cons, not_or] at h
    rw [applyRetirements_cons, ih _ h.2, applyRetirement_slot_ne s (Ne.symm h.1)]

@[simp] theorem applyRetirements_ap (s : State) (sls : List SlotId) (a : ApId) :
    (s.applyRetirements sls).ap a = s.ap a := by
  induction sls generalizing s with
  | nil => rfl
  | cons sl sls ih => rw [applyRetirements_cons, ih, applyRetirement_ap]

/-! ### Reclamation (R13) -/

theorem State.Placed.ready_nodup (h : s.Placed) (r : RingId) : (s.ring r).ready.Nodup :=
  (h.once r).of_append_left.of_append_right

theorem State.Placed.home_of_ready (h : s.Placed) {r : RingId} {x : SlotId}
    (hx : x ∈ (s.ring r).ready) : (s.slot x).home.map (·.ring) = some r :=
  h.listed r x (Ring.mem_lists.2 (.inr (.inl hx)))

theorem exists_home {x : SlotId} {r : RingId} (h : (s.slot x).home.map (·.ring) = some r) :
    ∃ k, (s.slot x).home = some k ∧ k.ring = r := Option.map_eq_some_iff.1 h

theorem dropAll_home (r : RingId) (sls : List SlotId) (x : SlotId) :
    ((s.dropAll r sls).slot x).home = (s.slot x).home := by
  rw [dropAll_slot]; split <;> rfl

/-- The slots that a run has freed are in the free list when their retirements apply. -/
theorem allFree_dropAll (hp : s.Placed) {r : RingId} {sls : List SlotId}
    (hs : s.unviewed r sls) : (s.dropAll r sls).allFree (s.looseOf sls) := by
  refine ⟨hs.1.filter _, fun x hx => ?_⟩
  have hmem := (hs.2 x (List.mem_filter.1 hx).1).1
  obtain ⟨k, hk, hr⟩ := exists_home (hp.home_of_ready hmem)
  subst hr
  exact ⟨k, by rw [dropAll_home, hk], by rw [dropAll_ring_self]; exact List.mem_append_right _ hx⟩

theorem unviewed_leaving (hp : s.Placed) (r : RingId) (cands : List SlotId) :
    s.unviewed r (s.leaving r cands) :=
  ⟨(hp.ready_nodup r).filter _, fun _ hx =>
    have ⟨hr, _, hm⟩ := (mem_leaving s r cands).1 hx
    ⟨hr, .inl hm.1⟩⟩

theorem reclaim_ready_self (hp : s.Placed) (r : RingId) (cands : List SlotId) :
    ((s.reclaim r cands).ring r).ready = (s.ring r).ready.filter (· ∉ s.leaving r cands) := by
  rw [reclaim_eq, (applyRetirements_ready _ _ r).1, dropAll_ring_self]
  exact (hp.ready_nodup r).sdiff_eq_filter

theorem reclaim_ring_consumers (r q : RingId) (cands : List SlotId) :
    ((s.reclaim r cands).ring q).consumers = (s.ring q).consumers := by
  rw [reclaim_eq, (applyRetirements_ready _ _ q).2.2.1]
  by_cases h : r = q
  · subst q; rw [dropAll_ring_self]
  · rw [dropAll_ring_ne s r _ h]

@[simp] theorem reclaim_ap (r : RingId) (cands : List SlotId) (a : ApId) :
    (s.reclaim r cands).ap a = s.ap a := by
  rw [reclaim_eq, applyRetirements_ap, dropAll_ap]

/-- A slot that a reclamation check does not let go keeps its record. -/
theorem reclaim_slot_of_not_leaving (r : RingId) (cands : List SlotId) {x : SlotId}
    (h : x ∉ s.leaving r cands) : (s.reclaim r cands).slot x = s.slot x := by
  have hx : x ∉ s.looseOf (s.leaving r cands) := fun hx => h (List.mem_filter.1 hx).1
  rw [reclaim_eq, applyRetirements_slot_ne _ _ hx, dropAll_slot, if_neg fun hx => h hx.1]

/-- The newest READY slot stays so. -/
theorem reclaim_newest (hp : s.Placed) (r : RingId) (cands : List SlotId) :
    ((s.reclaim r cands).ring r).ready.getLast? = (s.ring r).ready.getLast? := by
  rw [reclaim_ready_self hp]
  exact getLast?_filter_of_last _ _ fun x hx => by
    simpa using newest_not_leaving s r cands hx

/-- After a check no candidate is left that meets the condition of R12. -/
theorem reclaim_checks (hp : s.Placed) (r : RingId) (cands : List SlotId) {x : SlotId}
    (hx : x ∈ ((s.reclaim r cands).ring r).ready) (hc : x ∈ cands) :
    ¬ (s.reclaim r cands).MeetsReclamation r x := fun hm => by
  rw [reclaim_ready_self hp, List.mem_filter, decide_eq_true_eq] at hx
  have hslot := reclaim_slot_of_not_leaving r cands hx.2
  refine hx.2 ((mem_leaving s r cands).2 ⟨hx.1, hc, hm.congr (by rw [hslot]) (by simp [hslot])
    (fun a d ha hd ho => ⟨d, by rwa [reclaim_ring_consumers], by rwa [reclaim_ap], ho⟩) ?_⟩)
  rw [reclaim_newest hp]; exact id

theorem reclaim_moves (ho : s.Obeys L) (r : RingId) (cands : List SlotId) :
    Moves L s g (s.reclaim r cands)
      { g with unchecked := g.unchecked.filter fun p => !(decide (p.1 = r) && cands.contains p.2) } := by
  have hun (hp : L.placed) := unviewed_leaving (ho.placed hp) r cands
  have m := dropAll_moves (g := g) ho hun
  have m' := m.trans (applyRetirements_moves (sls := s.looseOf (s.leaving r cands)) (m.obeys ho)
    fun hp => allFree_dropAll (ho.placed hp) (hun hp))
  rw [← reclaim_eq] at m'
  refine m'.restated ⟨fun _ _ _ x _ hx => ?_, fun hp q x hx hu hm => ?_, fun _ _ _ _ _ h => h,
    fun _ _ _ _ _ h => h, rfl⟩
  · have hx' : x ∈ g.due ∧ x ∉ s.looseOf (s.leaving r cands) := by simpa using hx
    exact hx'.1
  · rw [List.mem_filter]
    refine ⟨hu, ?_⟩
    by_cases hq : q = r
    · subst q
      have := mt (reclaim_checks (ho.placed hp) r cands hx) (not_not.2 hm)
      simp [this]
    · simp [hq]

/-- A check of every slot named as unchecked leaves what was left to do before. -/
theorem reclaim_moves_to (m : Moves L s g t { h with unchecked := k.unchecked ++ h.unchecked })
    (ho : s.Obeys L) (r : RingId) (cands : List SlotId)
    (hk : ∀ p ∈ k.unchecked, p.1 = r ∧ p.2 ∈ cands) : Moves L s g (t.reclaim r cands) h := by
  refine (m.trans (reclaim_moves (m.obeys ho) r cands)).restated
    (.of_subset (fun _ hx => hx) (fun p hx => ?_) rfl rfl rfl)
  rw [List.mem_filter] at hx
  rcases List.mem_append.1 hx.1 with h1 | h1
  · have := hk p h1
    simp [this] at hx
  · exact h1

end

end Sys2Proof.Machine
end

section
/-! PROOFS: consumers that acquire and release, the publish, the bind and the consumer's pick are runs of
moves (R6, R7, R54 to R65, R69, R76 to R81). -/

namespace Sys2Proof.Machine

section
variable {L : Laws} {s t : State} {g h k : Ghost}

/-! ### Slots that wait for their reclamation check -/

/-- More slots of a ring wait for their reclamation check. -/
def Ghost.plus (g : Ghost) (r : RingId) (sls : List SlotId) : Ghost :=
  { g with unchecked := sls.map (r, ·) ++ g.unchecked }

@[simp] theorem Ghost.plus_nil (g : Ghost) (r : RingId) : g.plus r [] = g := rfl

theorem Ghost.plus_cons (g : Ghost) (r : RingId) (sl : SlotId) (sls : List SlotId) :
    g.plus r (sl :: sls) = { g.plus r sls with unchecked := (r, sl) :: (g.plus r sls).unchecked } := rfl

theorem Ghost.plus_plus (g : Ghost) (r : RingId) (u v : List SlotId) :
    (g.plus r u).plus r v = g.plus r (v ++ u) := by
  simp [Ghost.plus]

theorem readyPairs_plus (s : State) (r : RingId) (g : Ghost) :
    { g with unchecked := s.readyPairs r ++ g.unchecked } = g.plus r (s.ring r).ready := rfl

/-- Only slots that are READY wait for a check. -/
theorem Moves.plus_mono {r : RingId} {u v : List SlotId} (m : Moves L s g t (h.plus r u))
    (sub : L.placed → ∀ x ∈ u, x ∈ (t.ring r).ready → x ∈ v) : Moves L s g t (h.plus r v) := by
  refine m.restated ⟨fun _ _ _ x _ hx => hx, fun hp q x hx hu _ => ?_, fun _ _ _ _ _ h => h,
    fun _ _ _ _ _ h => h, rfl⟩
  simp only [Ghost.plus, List.mem_append, List.mem_map, Prod.mk.injEq] at hu ⊢
  rcases hu with ⟨y, hy, rfl, rfl⟩ | hu
  · exact .inl ⟨y, sub hp y hy hx, rfl, rfl⟩
  · exact .inr hu

/-- A check of the slots that wait for one leaves what was left to do before. -/
theorem reclaim_moves_plus {r : RingId} {u cands : List SlotId} (m : Moves L s g t (h.plus r u))
    (ho : s.Obeys L) (hu : L.placed → ∀ x ∈ u, x ∈ (t.ring r).ready → x ∈ cands) :
    Moves L s g (t.reclaim r cands) h := by
  have m' := m.plus_mono hu
  refine (m'.trans (reclaim_moves (m'.obeys ho) r cands)).restated
    (.of_subset (fun _ hx => hx) (fun p hx => ?_) rfl rfl rfl)
  simp only [Ghost.plus, List.mem_filter, List.mem_append, List.mem_map] at hx
  obtain ⟨⟨y, hy, rfl⟩ | hp, hc⟩ := hx
  · simp [hy] at hc
  · exact hp

theorem reclaimAll_moves_plus {r : RingId} {u : List SlotId} (m : Moves L s g t (h.plus r u))
    (ho : s.Obeys L) : Moves L s g (t.reclaimAll r) h :=
  reclaim_moves_plus m ho fun _ _ _ hx => hx

/-! ### The passed_by sets (R7) -/

@[simp] theorem setSlot_self (s : State) (sl : SlotId) : s.setSlot sl (s.slot sl) = s := by
  simp [State.setSlot, State.slot]

theorem markPassed_cons (s : State) (a : ApId) (sl : SlotId) (sls : List SlotId) :
    s.markPassed a (sl :: sls) =
      (s.setSlot sl { s.slot sl with
        passedBy := ApSet.insert (s.slot sl).passedBy a }).markPassed a sls := rfl

theorem ApSet.insert_of_has {m : ApSet} {a : ApId} (h : ApSet.has m a = true) :
    ApSet.insert m a = m := by
  refine BitVec.eq_of_getLsbD_eq fun i hi => ?_
  have := has_insert m a ⟨i, hi⟩
  simp only [ApSet.has] at this h ⊢
  rw [this]
  by_cases e : a = ⟨i, hi⟩
  · subst e; simp [h]
  · simp [Ne.symm e]

theorem markPassed_moves {r : RingId} {a : ApId} {sls : List SlotId}
    (hs : L.placed → ∀ x ∈ sls, x ∈ (s.ring r).ready) :
    Moves L s g (s.markPassed a sls)
      (g.plus r (sls.filter fun x => !ApSet.has (s.slot x).passedBy a)) := by
  induction sls generalizing s g with
  | nil => exact .refl
  | cons sl sls ih =>
    rw [markPassed_cons]
    have htail (hp : L.placed) : ∀ x ∈ sls, x ∈ (s.ring r).ready :=
      fun x hx => hs hp x (List.mem_cons_of_mem _ hx)
    by_cases hm : ApSet.has (s.slot sl).passedBy a = true
    · rw [ApSet.insert_of_has hm, setSlot_self]
      simpa [hm] using ih htail
    · have head : Moves L s g (s.setSlot sl { s.slot sl with
          passedBy := ApSet.insert (s.slot sl).passedBy a }) (g.plus r [sl]) :=
        (Move.pass r sl a fun hp => hs hp sl List.mem_cons_self).single
      have tail := (head.trans (ih htail)).restated
        (k := g.plus r ((sl :: sls).filter fun x => !ApSet.has (s.slot x).passedBy a))
        (.of_subset (fun _ hx => hx) (fun p hp => ?_) rfl rfl rfl)
      · exact tail
      · simp only [Ghost.plus, List.mem_append, List.mem_map, List.mem_filter, List.mem_cons,
          List.not_mem_nil, or_false] at hp ⊢
        rcases hp with ⟨x, ⟨hx, hpass⟩, rfl⟩ | ⟨x, rfl, rfl⟩ | hp
        · refine .inl ⟨x, ⟨.inr hx, ?_⟩, rfl⟩
          by_cases e : sl = x
          · subst x; simpa using hm
          · simpa [setSlot_slot_ne _ _ e] using hpass
        · exact .inl ⟨x, ⟨.inl rfl, by simpa using hm⟩, rfl⟩
        · exact .inr hp

theorem unmarkPassed_moves (a : ApId) (sls : List SlotId) :
    Moves L s g (s.unmarkPassed a sls) g := by
  induction sls generalizing s with
  | nil => exact .refl
  | cons sl sls ih => exact (Move.unpass sl a).single.trans ih

theorem takeThrough_subset {α : Type} [DecidableEq α] (x : α) (l : List α) : takeThrough x l ⊆ l := by
  induction l with
  | nil => exact List.Subset.refl _
  | cons y ys ih =>
    unfold takeThrough
    split
    · simp
    · exact List.cons_subset_cons y ih

/-! ### Acquire and release (R6, R80) -/

theorem acquire_moves {a : ApId} {r : RingId} (pick : Pick) {sl : SlotId}
    (state : (s.ap a).state = .unbound) (idle : L.placed → s.idleAs a .consumer r)
    (ready : sl ∈ (s.ring r).ready) :
    Moves L s g (s.acquire a r pick sl) (g.plus r (s.growing a r pick sl)) := by
  have m : Moves L s g _ g := (Move.acquire a r sl state idle ready).single
  cases pick with
  | newest => exact m
  | ordered =>
    refine m.trans ((markPassed_moves (r := r) fun _ x hx => ?_).plus_mono fun _ x hx _ => ?_)
    · exact takeThrough_subset sl _ hx
    · simp only [State.growing, List.mem_filter] at hx ⊢
      refine ⟨hx.1, ?_⟩
      have hpass := hx.2
      simp only [setApState_slot, setSlot_slot] at hpass
      split at hpass
      · next e => subst e; exact hpass
      · exact hpass

theorem releaseHold_moves {a : ApId} {r : RingId}
    (config : L.placed → ∃ c, (s.ap a).config = some c ∧ c.role = .consumer ∧ c.ring = r) :
    Moves L s g (s.releaseHold a) (g.plus r (s.boundSlot a).toList) := by
  unfold State.releaseHold State.boundSlot
  split
  · next sl hb =>
    by_cases hp : L.placed
    · obtain ⟨c, hc, hrole, rfl⟩ := config hp
      exact (Move.release a c sl hb fun _ => ⟨hc, hrole⟩).single
    · exact (Move.release a
        { ring := r, role := .consumer, windowBase := 0, windowSize := 0, sources := 0, line := .a,
          divider := 0, fill := 0, pick := .newest, onEmpty := .strict, stall := .wait, timeout := 0 }
        sl hb fun h => absurd h hp).single
  · exact .refl

/-! ### The publish (R58 to R61, R81, R103, R104) -/

/-- What an acquisition at publish does: nothing, or a WAITING consumer of the ring takes a READY slot. -/
theorem acquireAtPublish_cases (r : RingId) (s : State) (a : ApId) :
    s.acquireAtPublish r a = s ∨
    ∃ c sl, ApSet.has (s.ring r).consumers a = true ∧ (s.ap a).state = .unbound ∧
      (s.ap a).config = some c ∧ sl ∈ (s.ring r).ready ∧
      s.acquireAtPublish r a = (s.acquire a r c.pick sl).forwardStall a r sl := by
  unfold State.acquireAtPublish
  split
  · next hg =>
    rw [Bool.and_eq_true, decide_eq_true_eq] at hg
    cases hc : (s.ap a).config with
    | none => exact .inl rfl
    | some c =>
      cases hpick : c.pick <;> simp only [hpick]
      · cases hn : s.newestReady r with
        | none => exact .inl rfl
        | some sl =>
          exact .inr ⟨c, sl, hg.1, hg.2, rfl, List.mem_of_getLast? hn, by rw [hpick]⟩
      · cases hn : s.candidate a r with
        | none => exact .inl rfl
        | some sl => exact .inr ⟨c, sl, hg.1, hg.2, rfl, List.mem_of_find?_eq_some hn, by rw [hpick]⟩
  · exact .inl rfl

theorem acquireAtPublish_moves [Fact (¬ L.idle)] [Fact (¬ L.calm)] (ho : s.Obeys L) (r : RingId)
    (a : ApId) :
    ∃ u, Moves L s g (s.acquireAtPublish r a) (g.plus r u) := by
  rcases acquireAtPublish_cases r s a with e | ⟨c, sl, hm, hst, hc, hr, e⟩ <;> rw [e]
  · exact ⟨[], .refl⟩
  · have idle (hp : L.placed) : s.idleAs a .consumer r :=
      ⟨hst, (((ho.placed hp).consumers r a).1 hm).2⟩
    have m := acquire_moves (g := g) c.pick hst idle hr
    exact ⟨_, m.trans (forwardStall_moves (m.obeys ho) a r sl)⟩

theorem acquisitions_moves [Fact (¬ L.idle)] [Fact (¬ L.calm)] (ho : s.Obeys L) (r : RingId)
    (as : List ApId) :
    ∃ u, Moves L s g (as.foldl (State.acquireAtPublish r) s) (g.plus r u) := by
  induction as generalizing s g with
  | nil => exact ⟨[], .refl⟩
  | cons a as ih =>
    obtain ⟨u, m⟩ := acquireAtPublish_moves (g := g) ho r a
    obtain ⟨v, m'⟩ := ih (m.obeys ho)
    exact ⟨v ++ u, by simpa [Ghost.plus_plus] using m.trans m'⟩

theorem setAside_le (hp : s.Placed) (r : RingId) : s.setAside r ≤ 65535 := by
  have hlists := length_lists_le hp r
  have hfilter : ((s.ring r).ready.filter fun sl => (s.slot sl).retained).length ≤ _ :=
    List.length_filter_le _ _
  simp only [Ring.lists, List.length_append] at hlists
  simp only [State.setAside]
  omega

theorem decideRetain_moves (ho : s.Obeys L) (a : ApId) (r : RingId) (sl : SlotId) :
    Moves L s g (s.decideRetain a r sl) g := by
  unfold State.decideRetain
  split
  · split
    · exact (Move.marks sl _ _ true _).single
    · refine raise_moves fun hp hq _ => ⟨fun f hf => ?_, nofun, nofun, fun e => absurd rfl e, ?_⟩
      · have := (ho.ranged hq).frame sl f hf
        exact ⟨this.2, .inr this.1⟩
      · exact setAside_le (ho.placed hp) r
  · exact .refl

@[simp] theorem decideRetain_ap (s : State) (a : ApId) (r : RingId) (sl : SlotId) (b : ApId) :
    (s.decideRetain a r sl).ap b = s.ap b := by
  unfold State.decideRetain
  split
  · split <;> rfl
  · rfl

@[simp] theorem decideRetain_ring (s : State) (a : ApId) (r : RingId) (sl : SlotId) (q : RingId) :
    (s.decideRetain a r sl).ring q = s.ring q := by
  unfold State.decideRetain
  split
  · split <;> rfl
  · rfl

theorem toReady_moves (ho : s.Obeys L) {a : ApId} {r : RingId} {sl : SlotId} (hw : s.writes a r sl) :
    Moves L s g (s.toReady a r sl) (g.plus r (s.ring r).ready) := by
  have m : Moves L s g _ (g.plus r (s.ring r).ready) := (Move.toReady a r sl hw).single
  refine m.trans (raise_moves fun _ hq _ => ⟨fun f hf => ?_, nofun, nofun, fun e => absurd rfl e, ?_⟩)
  · have := (ho.ranged hq).frame sl f hf
    exact ⟨this.2, .inr this.1⟩
  · show bit _ ≤ _
    unfold bit; split <;> omega

theorem publish_moves [Fact (¬ L.idle)] [Fact (¬ L.calm)] (ho : s.Obeys L) {a : ApId} {r : RingId}
    {sl : SlotId}
    (hw : s.writes a r sl) :
    Moves L s g (s.publish a r sl) g := by
  have retain := decideRetain_moves (g := g) ho a r sl
  have hw' : (s.decideRetain a r sl).writes a r sl := by
    simpa [State.writes] using hw
  have ready := retain.trans (toReady_moves (retain.obeys ho) hw')
  obtain ⟨u, acquired⟩ := acquisitions_moves (g := g.plus r (s.ring r).ready) (ready.obeys ho) r allAps
  rw [Ghost.plus_plus] at acquired
  rw [decideRetain_ring] at ready
  exact reclaimAll_moves_plus (ready.trans acquired) ho

theorem emptyReturn_moves (ho : s.Obeys L) {a : ApId} {r : RingId} {sl : SlotId}
    (hw : s.writes a r sl) : Moves L s g (s.emptyReturn a r sl) g := by
  have head : Moves L s g _ { g with due := sl :: g.due } := (Move.returnHead a r sl hw).single
  have note := head.trans (raise_moves
    (n := { kind := .frameEmpty, ring := some r, aperture := some a, slot := some sl,
            frame := (s.slot sl).frame }) fun _ hq _ => ⟨fun f hf => ?_, nofun, nofun,
      fun e => absurd rfl e, Nat.zero_le _⟩)
  · refine (note.trans (Move.settle sl fun hp => ?_).single).restated
      (.of_subset (fun x hx => ?_) (fun _ hx => hx) rfl rfl rfl)
    · obtain ⟨_, c, hc, hrole, hr⟩ := hw
      have serves : s.servesAs a .producer r := ⟨apOn_eq_true.2 (by simp_all), c, hc, hrole, hr⟩
      have hfill := (ho.placed hp).fillingSlot_of_writes ⟨by assumption, c, hc, hrole, hr⟩
      obtain ⟨k, hk, rfl⟩ := exists_home ((ho.placed hp).filling r sl hfill).1
      exact ⟨k, by simp [joinFreeHead_slot, Slot.freed, hk], by simp⟩
    · simp only [List.mem_filter, List.mem_cons, decide_eq_true_eq] at hx
      tauto
  · have := (ho.ranged hq).frame sl f hf
    exact ⟨this.2, .inr this.1⟩

theorem publishStage_moves [Fact (¬ L.idle)] [Fact (¬ L.calm)] (ho : s.Obeys L) {a : ApId}
    {c : ApConfig}
    (hc : (s.ap a).config = some c) (hrole : c.role = .producer) :
    Moves L s g (s.publishStage a c.ring) g := by
  unfold State.publishStage
  split
  · next sl hb =>
    have hw : s.writes a c.ring sl := ⟨hb, c, hc, hrole, rfl⟩
    split
    · exact publish_moves ho hw
    · exact emptyReturn_moves ho hw
  · exact .refl

/-! ### The schedule (R105 to R107) -/

theorem Schedule.InRange.burstEnd {x : Schedule} (h : x.InRange) : x.burstEnd.InRange := by
  unfold Schedule.burstEnd
  simp only
  have hd : (x.burstsDone + 1) % 256 ≤ 255 := by omega
  have := h.burst
  split
  · exact ⟨h.delay, h.burst, h.gap, h.bursts, Nat.zero_le _, hd⟩
  · split
    · exact ⟨h.delay, h.burst, h.gap, h.bursts, h.gap, hd⟩
    · exact ⟨h.delay, h.burst, h.gap, h.bursts, by show x.burst ≤ 255; omega, hd⟩

theorem Schedule.InRange.step {x : Schedule} (h : x.InRange) : x.step.InRange := by
  have hb : x.burst ≤ 255 := by have := h.burst; omega
  have hr : x.remaining - 1 ≤ 255 := by have := h.remaining; omega
  unfold Schedule.step
  split
  · exact h
  · exact h
  · split
    · exact ⟨h.delay, h.burst, h.gap, h.bursts, hb, h.burstsDone⟩
    · exact ⟨h.delay, h.burst, h.gap, h.bursts, hr, h.burstsDone⟩
  · split
    · exact ⟨h.delay, h.burst, h.gap, h.bursts, hb, h.burstsDone⟩
    · exact ⟨h.delay, h.burst, h.gap, h.bursts, hr, h.burstsDone⟩
  · split
    · exact h
    · split
      · exact h.burstEnd
      · exact ⟨h.delay, h.burst, h.gap, h.bursts, hr, h.burstsDone⟩

theorem stepSchedule_moves (ho : s.Obeys L) (r : RingId) {published : Option Nat}
    (hp : L.ranged → ∀ f, published = some f → frameOk f) :
    Moves L s g (s.stepSchedule r published) g := by
  have m : Moves L s g (s.setSched r (s.sched r).step) g :=
    (PortMove.sched r _ fun hq => ((ho.ranged hq).schedules r).step).single
  unfold State.stepSchedule
  simp only
  split
  · exact m.trans (raise_moves fun _ hq _ => ⟨fun f hf => ⟨(hp hq f hf).2, .inr (hp hq f hf).1⟩, nofun,
      nofun, fun e => absurd rfl e, show 1 ≤ 65535 by decide⟩)
  · exact m

/-! ### The bind (R63 to R65) -/

theorem starve_moves {a : ApId} (r : RingId) {n d : Nat} (hn : frameOk n)
    (hd : d ≤ 65535) (on : s.apOn a = true) (idle : L.placed → s.idleAs a .producer r) :
    Moves L s g (s.starve a r n d) g :=
  (Move.unbind a on fun hp => (idle hp).1).single.trans
    (raise_moves fun _ _ _ => ⟨fun f hf => by cases hf; exact ⟨hn.2, .inr hn.1⟩, nofun, nofun,
      fun e => absurd rfl e, hd⟩)

theorem steal_moves (ho : s.Obeys L) {a : ApId} {r : RingId} {sl : SlotId} {n : Nat}
    (ready : sl ∈ (s.ring r).ready) (holders : (s.slot sl).holders = 0) (hn : frameOk n)
    (on : s.apOn a = true) (idle : L.placed → s.idleAs a .producer r) :
    Moves L s g (s.steal a r sl n) g := by
  refine (Move.steal a r sl n ready holders on idle hn).single.trans
    (raise_moves fun _ hq _ => ⟨fun f hf => ?_, nofun, nofun, fun e => absurd rfl e, ?_⟩)
  · have := (ho.ranged hq).frame sl f hf
    exact ⟨this.2, .inr this.1⟩
  · have := (s.missedBy r sl).isLt
    show (s.missedBy r sl).toNat ≤ _
    omega

theorem bind_moves (ho : s.Obeys L) {a : ApId} {r : RingId} (on : s.apOn a = true)
    (idle : L.placed → s.idleAs a .producer r) : Moves L s g (s.bind a r) g := by
  have m : Moves L s g (s.advanceFrame r) g := (Move.advance r).single
  have hn : frameOk (wrapNext 0xFFFFFFFF (s.ring r).frameCounter) :=
    ⟨wrapNext_pos _ _, wrapNext_le (by decide)⟩
  have ho' := m.obeys ho
  unfold State.bind
  simp only [advanceFrame_ring_self]
  split
  · next sl rest hf =>
    have take := (Move.takeFree (L := L) (s := s.advanceFrame r) (g := g) a r sl rest _
      (by simpa using hf) on idle hn).single
    simpa using m.trans take
  · split
    · exact m.trans (starve_moves r hn (by decide) on idle)
    · split
      · next sl hfind =>
        have hsteal := List.find?_some hfind
        simp only [State.stealable, Bool.and_eq_true, decide_eq_true_eq] at hsteal
        refine m.trans (steal_moves ho' ?_ hsteal.1.1 hn on idle)
        simpa using List.mem_of_find?_eq_some hfind
      · exact m.trans (starve_moves r hn (by decide) on idle)

end

end Sys2Proof.Machine
end

section
/-! PROOFS: the consumer's pick and the entries of the Change Queue at work are runs of moves (R76 to R80,
R149 to R156). -/

namespace Sys2Proof.Machine

section
variable {L : Laws} {s t : State} {g h k : Ghost}

/-! ### The pick (R76 to R80) -/

theorem releaseHold_of_bound {a : ApId} {sl : SlotId} (h : (s.ap a).state = .bound sl) :
    s.releaseHold a =
      (s.setSlot sl { s.slot sl with holders := ApSet.erase (s.slot sl).holders a }).setApState a
        .unbound := by
  simp [State.releaseHold, h]

theorem releaseHold_of_not_bound {a : ApId} (h : ∀ sl, (s.ap a).state ≠ .bound sl) :
    s.releaseHold a = s := by
  unfold State.releaseHold
  split
  · next sl hb => exact absurd hb (h sl)
  · rfl

@[simp] theorem releaseHold_ring (a : ApId) (r : RingId) : (s.releaseHold a).ring r = s.ring r := by
  unfold State.releaseHold; split <;> rfl

@[simp] theorem releaseHold_changes (a : ApId) : (s.releaseHold a).changes = s.changes := by
  unfold State.releaseHold; split <;> rfl

@[simp] theorem releaseHold_passedBy (a : ApId) (x : SlotId) :
    ((s.releaseHold a).slot x).passedBy = (s.slot x).passedBy := by
  unfold State.releaseHold
  split
  · next sl _ =>
    by_cases e : sl = x
    · subst x; simp
    · simp [setSlot_slot_ne _ _ e]
  · rfl

theorem releaseHold_ap_ne {a b : ApId} (h : a ≠ b) : (s.releaseHold a).ap b = s.ap b := by
  unfold State.releaseHold
  split
  · simp [State.setApState, setAp_ap_ne _ _ h]
  · rfl

@[simp] theorem releaseHold_config (a b : ApId) :
    ((s.releaseHold a).ap b).config = (s.ap b).config := by
  by_cases h : a = b
  · subst b
    unfold State.releaseHold
    split <;> simp [State.setApState]
  · rw [releaseHold_ap_ne h]

/-- An aperture that has given up its slot is unbound, or it was OFF. -/
theorem releaseHold_state (s : State) (a : ApId) :
    ((s.releaseHold a).ap a).state = if (s.ap a).state = .off then .off else .unbound := by
  cases h : (s.ap a).state with
  | off => rw [releaseHold_of_not_bound (by simp [h])]; simp [h]
  | unbound => rw [releaseHold_of_not_bound (by simp [h])]; simp [h]
  | bound sl => rw [releaseHold_of_bound h]; simp [State.setApState]

theorem growing_releaseHold (a : ApId) (r : RingId) (pick : Pick) (sl : SlotId) :
    (s.releaseHold a).growing a r pick sl = s.growing a r pick sl := by
  cases pick <;> simp [State.growing, State.readyThrough]

theorem pickNext_mem {a : ApId} {r : RingId} {pick : Pick} {sl x : SlotId}
    (h : s.pickNext a r pick sl = some x) : x ∈ (s.ring r).ready := by
  cases pick with
  | newest =>
    simp only [State.pickNext] at h
    split at h
    · cases h
    · exact List.mem_of_getLast? h
  | ordered => exact List.mem_of_find?_eq_some h

theorem pickStage_moves (ho : s.Obeys L) {a : ApId} {c : ApConfig} (hc : (s.ap a).config = some c)
    (hrole : L.placed → c.role = .consumer) : Moves L s g (s.pickStage a c) g := by
  have released : Moves L s g (s.releaseHold a) (g.plus c.ring (s.boundSlot a).toList) :=
    releaseHold_moves fun hp => ⟨c, hc, hrole hp, rfl⟩
  unfold State.pickStage
  split
  · next sl hb =>
    have hbound : (s.boundSlot a).toList = [sl] := by simp [State.boundSlot, hb]
    rw [hbound] at released
    have hstate : ((s.releaseHold a).ap a).state = .unbound := by rw [releaseHold_state]; simp [hb]
    split
    · next x hx =>
      have acquired := acquire_moves (L := L) (g := g.plus c.ring [sl]) c.pick hstate
        (fun hp => ⟨hstate, c, by simpa using hc, hrole hp, rfl⟩) (by simpa using pickNext_mem hx)
      rw [growing_releaseHold, Ghost.plus_plus] at acquired
      exact reclaim_moves_plus (released.trans acquired) ho fun _ y hy _ => by
        simpa [or_comm] using hy
    · split
      · exact .refl
      · exact reclaim_moves_plus released ho fun _ y hy _ => hy
  · exact .refl

/-! ### The fields of a change (R146, R152) -/

theorem write_ring (x : ApChange) (c : ApConfig) : (ApChange.write x c).ring = c.ring := by
  cases x <;> rfl

theorem write_role (x : ApChange) (c : ApConfig) : (ApChange.write x c).role = c.role := by
  cases x <;> rfl

theorem write_line (x : ApChange) (c : ApConfig) : (ApChange.write x c).line = c.line := by cases x <;> rfl

theorem write_windowSize (x : ApChange) (c : ApConfig) :
    (ApChange.write x c).windowSize = c.windowSize := by
  cases x <;> rfl

theorem write_inRange {x : ApChange} {c : ApConfig} (hx : ApChange.InRange x) (hc : c.InRange) :
    (ApChange.write x c).InRange := by
  cases x with
  | setSources m => exact ⟨hc.divider, hc.timeout, hx, hc.windowSize⟩
  | setStall st n f => exact ⟨hc.divider, hx, hc.sources, hc.windowSize⟩
  | setDivider k => exact ⟨hx, hc.timeout, hc.sources, hc.windowSize⟩
  | moveWindow | setPick | detach => exact ⟨hc.divider, hc.timeout, hc.sources, hc.windowSize⟩

/-- The divider count that a change leaves (R90). -/
def ApChange.countLeft (x : ApChange) (n : Nat) : Nat :=
  match x with
  | .setDivider _ => 0
  | _ => n

theorem writeChange_eq (s : State) (a : ApId) (c : ApConfig) (x : ApChange) :
    s.writeChange a c x =
      s.setAp a { s.ap a with
        config := some (ApChange.write x c), count := ApChange.countLeft x (s.ap a).count } := by
  cases x <;> rfl

theorem writeChange_config (s : State) (a : ApId) (c : ApConfig) (x : ApChange) :
    ((s.writeChange a c x).ap a).config = some (ApChange.write x c) := by
  rw [writeChange_eq]; simp

@[simp] theorem writeChange_apOn (s : State) (a : ApId) (c : ApConfig) (x : ApChange) (b : ApId) :
    (s.writeChange a c x).apOn b = s.apOn b := by
  rw [writeChange_eq]
  by_cases h : a = b
  · subst b; simp [State.apOn]
  · simp [State.apOn, setAp_ap_ne _ _ h]

/-- The slots whose check a change of pick asks for: those of an ORDERED consumer that becomes NEWEST. -/
def ApChange.unpicks (x : ApChange) (c : ApConfig) : Prop :=
  c.pick = .ordered ∧ (ApChange.write x c).pick = .newest

theorem writeChange_moves (ho : s.Obeys L) {a : ApId} {c : ApConfig} (hc : (s.ap a).config = some c)
    {x : ApChange} (hx : L.ranged → ApChange.InRange x) (u : List SlotId)
    (window : s.apOn a = true → ∀ base, x = .moveWindow base →
      s.MoveFree a base (2 ^ c.windowSize))
    (pick : s.apOn a = true → c.role = .consumer → x.unpicks c → u = (s.ring c.ring).ready) :
    Moves L s g (s.writeChange a c x) (g.plus c.ring u) := by
  rw [writeChange_eq]
  refine (Move.configure a c _ _ (u.map (c.ring, ·)) hc (write_ring x c) (write_role x c)
    (write_windowSize x c) (fun hq => write_inRange (hx hq) (((ho.ranged hq).apertures a).config c hc))
    (fun hq => ?_) (fun on => ?_) (fun on hrole hord hnew p hp => ?_) (fun _ => write_line x c)).single
  · obtain ⟨hconf, hcount, hmost⟩ := (ho.ranged hq).apertures a
    refine ⟨?_, fun d hd on => ?_⟩
    · unfold ApChange.countLeft; split <;> omega
    · cases hd
      have hn := hcount c hc (apOn_eq_true.1 on)
      have hr := write_inRange (hx hq) (hconf c hc)
      cases x with
      | setDivider n => exact hr.divider.1
      | _ => exact hn
  · cases x with
    | moveWindow base => exact .inr (window on base rfl)
    | _ => exact .inl rfl
  · rw [pick on hrole ⟨hord, hnew⟩]; exact hp

/-! ### A window in the way (R146, R152) -/

theorem overlapsOtherWindow_eq_false_iff (s : State) (a : ApId) (start len : Nat) :
    s.overlapsOtherWindow a start len = false ↔
      ∀ b d, b ≠ a → s.apOn b = true → (s.ap b).config = some d →
        overlaps start len d.windowBase.toNat (2 ^ d.windowSize) = false := by
  simp only [State.overlapsOtherWindow, State.windowsHit, List.any_eq_false, List.mem_filter, mem_allAps,
    true_and, decide_eq_true_eq]
  refine forall_congr' fun b => ?_
  cases (s.ap b).config with
  | none => simp
  | some d =>
    simp only [ApConfig.overlapsWindow, Bool.and_eq_true, Option.some.injEq, not_not, and_imp, ne_eq]
    cases hov : overlaps start len d.windowBase.toNat (2 ^ d.windowSize)
    · simp +contextual [← hov]
    · refine ⟨fun h d' hne on e => absurd (h on rfl) hne, fun h on _ => by_contra fun hne => ?_⟩
      exact absurd (h d hne on rfl) (by rw [hov]; nofun)

/-- The check of R152 is the freedom of R146. -/
theorem windowBlocked_eq_false_iff (s : State) (a : ApId) (c : ApConfig) (base : Addr) :
    s.windowBlocked a c base = false ↔ s.MoveFree a base (2 ^ c.windowSize) := by
  rw [State.windowBlocked, Bool.or_eq_false_iff, overlapsOtherWindow_eq_false_iff,
    overlapsSlot_eq_false_iff, State.MoveFree]

/-! ### A consumer turns OFF (R70) -/

theorem answerFault_books (s : State) (t : Txn) : SameBooks s (s.answerFault t) := by
  unfold State.answerFault
  split <;> exact ⟨rfl, rfl, rfl, rfl⟩

theorem detachStall_books (s : State) (a : ApId) : SameBooks s (s.detachStall a) := by
  unfold State.detachStall
  split
  · split
    · exact answerFault_books s _
    · exact ⟨rfl, rfl, rfl, rfl⟩
  · exact ⟨rfl, rfl, rfl, rfl⟩

theorem unmarkPassed_books (s : State) (a : ApId) (sls : List SlotId) :
    (s.unmarkPassed a sls).rings = s.rings ∧ (s.unmarkPassed a sls).apertures = s.apertures ∧
      (s.unmarkPassed a sls).changes = s.changes := by
  induction sls generalizing s with
  | nil => exact ⟨rfl, rfl, rfl⟩
  | cons sl sls ih => exact ih _

/-- The slots that wait for a check when a consumer turns OFF (R13, R70). -/
def State.offUnchecked (s : State) (c : ApConfig) : List SlotId :=
  match c.pick with
  | .ordered => (s.ring c.ring).ready
  | .newest  => []

theorem Ghost.offAp_eq {a : ApId} (h : g.offAp = some a) : { g with offAp := some a } = g := by
  cases g; cases h; rfl

theorem Ghost.off_eq {a : ApId} {r : RingId} (h : g.offAp = some a) (k : g.offRing = some r) :
    { g with offAp := some a, offRing := some r } = g := by
  cases g; cases h; cases k; rfl

theorem consumerOff_moves [Fact (¬ L.calm)] {a : ApId} {c : ApConfig}
    (hstate : (s.ap a).state = .unbound)
    (hc : (s.ap a).config = some c) (hrole : c.role = .consumer) (hg : g.offAp = some a) :
    Moves L s g (s.consumerOff a c.ring) (g.plus c.ring (s.offUnchecked c)) := by
  have books := detachStall_books s a
  have off : Moves L (s.detachStall a) g _ _ :=
    (Move.consumerOff a c ((s.offUnchecked c).map (c.ring, ·)) (by rw [books.ap]; exact hstate)
      (by rw [books.ap]; exact hc) hrole (fun hp p hm => by
        simpa [State.readyPairs, books.ring, State.offUnchecked, hp] using hm) (.inr hg)).single
  refine ((detachStall_moves (L := L) a).trans (off.trans (unmarkPassed_moves a _))).restated
    (.of_subset (fun _ hx => hx) (fun _ hx => hx) ?_ rfl rfl)
  exact hg

/-- A consumer leaves the records of its ring: it is OFF, and the consumers field loses it (R70). -/
def State.unserve (s : State) (a : ApId) (r : RingId) : State :=
  (s.setAp a { s.ap a with state := .off, deferred := false }).setRing r
    { s.ring r with consumers := ApSet.erase (s.ring r).consumers a }

theorem consumerOff_eq (s : State) (a : ApId) (r : RingId) :
    s.consumerOff a r = ((s.detachStall a).unserve a r).unmarkPassed a
      (((s.detachStall a).unserve a r).slotsOf r) := rfl

theorem consumerOff_ring (s : State) (a : ApId) (r q : RingId) :
    (s.consumerOff a r).ring q =
      if r = q then { s.ring q with consumers := ApSet.erase (s.ring q).consumers a } else s.ring q := by
  have hu := unmarkPassed_books ((s.detachStall a).unserve a r) a
    (((s.detachStall a).unserve a r).slotsOf r)
  rw [State.ring, consumerOff_eq, hu.1]
  show ((s.detachStall a).unserve a r).ring q = _
  rw [State.unserve, setRing_ring, (detachStall_books s a).ring]
  split
  · next e => subst e; rfl
  · rw [setAp_ring, (detachStall_books s a).ring]

theorem consumerOff_ap (s : State) (a b : ApId) (r : RingId) :
    (s.consumerOff a r).ap b =
      if a = b then { s.ap b with state := .off, deferred := false } else s.ap b := by
  have hu := unmarkPassed_books ((s.detachStall a).unserve a r) a
    (((s.detachStall a).unserve a r).slotsOf r)
  rw [State.ap, consumerOff_eq, hu.2.1]
  show ((s.detachStall a).unserve a r).ap b = _
  rw [State.unserve, setRing_ap, setAp_ap, (detachStall_books s a).ap]
  split
  · next e => subst e; rfl
  · exact (detachStall_books s a).ap b

@[simp] theorem consumerOff_changes (s : State) (a : ApId) (r : RingId) :
    (s.consumerOff a r).changes = s.changes := by
  rw [consumerOff_eq, (unmarkPassed_books _ a _).2.2]
  exact (detachStall_books s a).changes

/-! ### Applying an entry (R152, R153) -/

theorem applied_moves {e : Change} (he : L.ranged → e.InRange) : Moves L s g (s.applied e) g :=
  changeNote_moves he (by simp [NoteKind.ofChange]) s

theorem repick_moves {a : ApId} {r : RingId} (p : Pick) :
    ∃ u, Moves L s g (s.repick a r p) (g.plus r u) := by
  unfold State.repick
  split
  · next sl _ => exact ⟨_, markPassed_moves fun _ _ hx => takeThrough_subset sl _ hx⟩
  · exact ⟨_, markPassed_moves fun _ _ hx => hx⟩
  · exact ⟨[], .refl⟩
  · exact ⟨[], unmarkPassed_moves a _⟩

theorem write_pick_of_not_setPick {x : ApChange} (c : ApConfig) (h : ∀ p oe, x ≠ .setPick p oe) :
    (ApChange.write x c).pick = c.pick := by
  cases x with
  | setPick p oe => exact absurd rfl (h p oe)
  | _ => rfl

theorem applyApChange_moves [Fact (¬ L.calm)] (ho : s.Obeys L) {e : Change} {a : ApId}
    {c : ApConfig} {x : ApChange}
    (hop : e.op = .aperture a x) (he : L.ranged → e.InRange) (hc : (s.ap a).config = some c)
    (hap : g.offAp = some a) (hring : c.role = .producer → g.offRing = some c.ring)
    (hidle : L.placed → c.role = .producer → ∀ sl, (s.ap a).state ≠ .bound sl) :
    Moves L s g (s.applyApChange e a c x) g := by
  have hx : L.ranged → ApChange.InRange x := fun hq => (he hq).args a x hop
  have plain (h : ∀ p oe, x ≠ .setPick p oe) (hw : s.apOn a = true → ∀ base, x = .moveWindow base →
      s.MoveFree a base (2 ^ c.windowSize)) : Moves L s g ((s.writeChange a c x).applied e) g := by
    refine (writeChange_moves ho hc hx [] hw fun _ _ hu => ?_).trans (applied_moves he)
    rw [ApChange.unpicks, write_pick_of_not_setPick c h] at hu
    exact absurd (hu.1.symm.trans hu.2) nofun
  cases x with
  | moveWindow base =>
    simp only [State.applyApChange]
    split
    · exact changeNote_moves he (by simp [NoteKind.ofChange]) s
    · next hb =>
      refine plain nofun fun on b hbase => ?_
      cases hbase
      rw [← windowBlocked_eq_false_iff]
      simpa [on] using hb
  | setSources m => exact plain nofun nofun
  | setStall st n f => exact plain nofun nofun
  | setDivider n => exact plain nofun nofun
  | setPick p oe =>
    simp only [State.applyApChange]
    split
    · have write := writeChange_moves (g := g) ho hc hx (s.ring c.ring).ready nofun fun _ _ _ => rfl
      obtain ⟨u, repick⟩ := repick_moves (L := L) (s := s.writeChange a c (.setPick p oe))
        (g := g.plus c.ring (s.ring c.ring).ready) (a := a) (r := c.ring) p
      rw [Ghost.plus_plus] at repick
      exact reclaimAll_moves_plus ((write.trans repick).trans (applied_moves he)) ho
    · next hn =>
      refine (writeChange_moves ho hc hx [] nofun fun on hrole hu => ?_).trans (applied_moves he)
      refine absurd ⟨hrole, on, fun e => ?_⟩ hn
      exact absurd (hu.1.symm.trans (e.trans hu.2)) nofun
  | detach =>
    simp only [State.applyApChange]
    split
    · next on =>
      rw [apOn_eq_true] at on
      split
      · next hrole =>
        refine Moves.trans ?_ (applied_moves he)
        have off : Moves L s g _ _ := (Move.producerOff a c.ring (fun hp => ⟨?_, c, hc, hrole, rfl⟩)
          (.inr hap) (.inr (hring hrole))).single
        · rwa [Ghost.off_eq hap (hring hrole)] at off
        · cases hs : (s.ap a).state with
          | off => exact absurd hs on
          | unbound => rfl
          | bound sl => exact absurd hs (hidle hp hrole sl)
      · next hrole =>
        have released : Moves L s g (s.releaseHold a) (g.plus c.ring (s.boundSlot a).toList) :=
          releaseHold_moves fun _ => ⟨c, hc, hrole, rfl⟩
        have off := consumerOff_moves (L := L) (g := g.plus c.ring (s.boundSlot a).toList)
          (s := s.releaseHold a) (a := a) (c := c) (by rw [releaseHold_state, if_neg on])
          (by simpa using hc) hrole hap
        rw [Ghost.plus_plus] at off
        refine reclaim_moves_plus ((released.trans off).trans (applied_moves he)) ho fun _ y hy hr => ?_
        cases hpick : c.pick with
        | ordered => simpa [State.offChecks] using hr
        | newest => simpa [State.offChecks, State.offUnchecked, hpick] using hy
    · exact applied_moves he

end

end Sys2Proof.Machine
end

section
/-! PROOFS: the walk of a producer boundary, the changes of a consumer boundary and the boundary operations
are runs of moves (R54, R72, R150, R151). -/

namespace Sys2Proof.Machine

/-! ### Entries that leave the queue -/

theorem filter_erase_of_neg {α : Type} [DecidableEq α] {p : α → Bool} {e : α} (h : p e = false)
    (l : List α) :
    (l.erase e).filter p = l.filter p := by
  induction l with
  | nil => rfl
  | cons x l ih =>
    by_cases hx : x = e
    · subst x; simp [h]
    · rw [List.erase_cons_tail (by simpa using hx), List.filter_cons, List.filter_cons, ih]

theorem filter_erase_of_pos {α : Type} [DecidableEq α] {p : α → Bool} {e : α} (h : p e = true)
    (l : List α) :
    (l.erase e).filter p = (l.filter p).erase e := by
  induction l with
  | nil => rfl
  | cons x l ih =>
    by_cases hx : x = e
    · subst x; simp [h]
    · rw [List.erase_cons_tail (by simpa using hx), List.filter_cons, List.filter_cons, ih]
      split
      · rw [List.erase_cons_tail (by simpa using hx)]
      · rfl

/-- A condition on entries that no RETIRE_SLOT meets. -/
def ChangeOp.skipsRetirements (p : ChangeOp → Bool) : Prop := ∀ x, p (.retireSlot x) = false

theorem forAperture_skips (a : ApId) : ChangeOp.skipsRetirements
    (ChangeOp.forAperture a) := fun _ => rfl

theorem forRing_skips (r : RingId) : ChangeOp.skipsRetirements (ChangeOp.forRing r) := fun _ => rfl

section
variable {L : Laws} {s t : State} {g h k : Ghost}

theorem applyRetirement_entries_filter {p : ChangeOp → Bool} (hp : ChangeOp.skipsRetirements p)
    (s : State) (sl : SlotId) :
    ((s.applyRetirement sl).changes.entries.filter fun e => p e.op) =
      s.changes.entries.filter fun e => p e.op := by
  have key {e : Change} (he : s.waitingRetirement sl = some e) :
      ((s.changes.entries.erase e).filter fun e => p e.op) =
        s.changes.entries.filter fun e => p e.op :=
    filter_erase_of_neg (by rw [(waitingRetirement_some he).2]; exact hp sl) _
  rcases applyRetirement_cases s sl with ⟨_, e⟩ | ⟨x, hx, _, e⟩ | ⟨x, hx, _, e⟩ <;> rw [e]
  · exact key hx
  · rw [raise_changes, retire_changes]; exact key hx

theorem applyRetirements_entries_filter {p : ChangeOp → Bool} (hp : ChangeOp.skipsRetirements p)
    (s : State) (sls : List SlotId) :
    ((s.applyRetirements sls).changes.entries.filter fun e => p e.op) =
      s.changes.entries.filter fun e => p e.op := by
  induction sls generalizing s with
  | nil => rfl
  | cons sl sls ih => rw [applyRetirements_cons, ih, applyRetirement_entries_filter hp]

theorem reclaim_entries_filter {p : ChangeOp → Bool} (hp : ChangeOp.skipsRetirements p) (s : State)
    (r : RingId) (cands : List SlotId) :
    ((s.reclaim r cands).changes.entries.filter fun e => p e.op) =
      s.changes.entries.filter fun e => p e.op := by
  rw [reclaim_eq, applyRetirements_entries_filter hp, dropAll_changes]

/-! ### What applying an entry leaves -/

theorem writeChange_ap_ne {a b : ApId} (h : a ≠ b) (c : ApConfig) (x : ApChange) :
    (s.writeChange a c x).ap b = s.ap b := by
  rw [writeChange_eq, setAp_ap_ne _ _ h]

@[simp] theorem writeChange_changes (a : ApId) (c : ApConfig) (x : ApChange) :
    (s.writeChange a c x).changes = s.changes := by
  rw [writeChange_eq]; rfl

@[simp] theorem applied_ap (e : Change) (b : ApId) : (s.applied e).ap b = s.ap b := rfl

@[simp] theorem applied_changes (e : Change) : (s.applied e).changes = s.changes := rfl

@[simp] theorem applied_ring (e : Change) (r : RingId) : (s.applied e).ring r = s.ring r := rfl

theorem markPassed_books (s : State) (a : ApId) (sls : List SlotId) :
    (s.markPassed a sls).rings = s.rings ∧ (s.markPassed a sls).apertures = s.apertures ∧
      (s.markPassed a sls).changes = s.changes := by
  induction sls generalizing s with
  | nil => exact ⟨rfl, rfl, rfl⟩
  | cons sl sls ih => exact ih _

theorem repick_books (s : State) (a : ApId) (r : RingId) (p : Pick) :
    (s.repick a r p).rings = s.rings ∧ (s.repick a r p).apertures = s.apertures ∧
      (s.repick a r p).changes = s.changes := by
  unfold State.repick
  split
  · exact markPassed_books ..
  · exact markPassed_books ..
  · exact ⟨rfl, rfl, rfl⟩
  · exact unmarkPassed_books ..

@[simp] theorem repick_ap (s : State) (a b : ApId) (r : RingId) (p : Pick) :
    (s.repick a r p).ap b = s.ap b := by
  simp only [State.ap, (repick_books s a r p).2.1]

/-- What an entry leaves of an aperture record. -/
inductive ApChange.Leaves (x : ApChange) (c : ApConfig) (p q : Aperture) : Prop where
  | same (h : q = p)
  | wrote (h : q = { p with config := some (ApChange.write x c), count := ApChange.countLeft x p.count })
  | off (h : q = { p with state := .off, deferred := false })

@[simp] theorem reclaimAll_ap (s : State) (r : RingId) (a : ApId) : (s.reclaimAll r).ap a = s.ap a :=
  reclaim_ap r _ a

theorem reclaimAll_entries_filter {p : ChangeOp → Bool} (hp : ChangeOp.skipsRetirements p) (s : State)
    (r : RingId) :
    ((s.reclaimAll r).changes.entries.filter fun e => p e.op) =
      s.changes.entries.filter fun e => p e.op := reclaim_entries_filter hp s r _

theorem applyApChange_leaves (s : State) (e : Change) (a : ApId) (c : ApConfig) (x : ApChange) :
    ApChange.Leaves x c (s.ap a) ((s.applyApChange e a c x).ap a) := by
  have wrote : ((s.writeChange a c x).ap a) =
      { s.ap a with config := some (ApChange.write x c), count := ApChange.countLeft x (s.ap a).count } := by
    rw [writeChange_eq, setAp_ap_self]
  cases x with
  | moveWindow base =>
    simp only [State.applyApChange]
    split
    · exact .same rfl
    · exact .wrote wrote
  | setSources | setStall | setDivider => exact .wrote wrote
  | setPick p oe =>
    simp only [State.applyApChange]
    split
    · exact .wrote (by rw [reclaimAll_ap, applied_ap, repick_ap, wrote])
    · exact .wrote wrote
  | detach =>
    simp only [State.applyApChange]
    split
    · split
      · exact .off (by simp [State.producerOff])
      · refine .off ?_
        rw [reclaim_ap, applied_ap, consumerOff_ap, if_pos rfl]
        unfold State.releaseHold
        split <;> simp
    · exact .same rfl

theorem applyApChange_ap_ne (s : State) (e : Change) {a b : ApId} (h : a ≠ b) (c : ApConfig)
    (x : ApChange) : (s.applyApChange e a c x).ap b = s.ap b := by
  cases x with
  | moveWindow base =>
    simp only [State.applyApChange]
    split
    · rfl
    · exact writeChange_ap_ne h c _
  | setSources | setStall | setDivider => exact writeChange_ap_ne h c _
  | setPick p oe =>
    simp only [State.applyApChange]
    split
    · rw [reclaimAll_ap, applied_ap, repick_ap, writeChange_ap_ne h]
    · exact writeChange_ap_ne h c _
  | detach =>
    simp only [State.applyApChange]
    split
    · split
      · simp [State.producerOff, setAp_ap_ne _ _ h]
      · rw [reclaim_ap, applied_ap, consumerOff_ap, if_neg h, releaseHold_ap_ne h]
    · rfl

/-- Applying an entry takes no other entry but retirements out of the queue. -/
theorem applyApChange_entries_filter {p : ChangeOp → Bool} (hp : ChangeOp.skipsRetirements p)
    (s : State) (e : Change) (a : ApId) (c : ApConfig) (x : ApChange) :
    ((s.applyApChange e a c x).changes.entries.filter fun e => p e.op) =
      s.changes.entries.filter fun e => p e.op := by
  cases x with
  | moveWindow base =>
    simp only [State.applyApChange]
    split
    · rfl
    · rw [applied_changes, writeChange_changes]
  | setSources | setStall | setDivider => rw [State.applyApChange, applied_changes, writeChange_changes]
  | setPick q oe =>
    simp only [State.applyApChange]
    split
    · rw [reclaimAll_entries_filter hp, applied_changes, (repick_books _ _ _ _).2.2,
        writeChange_changes]
    · rw [applied_changes, writeChange_changes]
  | detach =>
    simp only [State.applyApChange]
    split
    · split
      · rfl
      · rw [reclaim_entries_filter hp, applied_changes, consumerOff_changes, releaseHold_changes]
    · rfl

/-- An entry of an aperture applies: it leaves the queue first. -/
theorem applyChange_aperture (s : State) {e : Change} {a : ApId} {x : ApChange} {c : ApConfig}
    (hop : e.op = .aperture a x) (hc : (s.ap a).config = some c) :
    s.applyChange e = (s.removeChange e).applyApChange e a c x := by
  simp [State.applyChange, hop, hc]

theorem applyChange_overflow (s : State) {e : Change} {r : RingId} {o : Overflow}
    (hop : e.op = .setOverflow r o) :
    s.applyChange e =
      ((s.removeChange e).setRing r { s.ring r with overflow := o }).applied e := by
  simp [State.applyChange, hop]

theorem removeChange_moves {e : Change} (h : ∀ x, e.op ≠ .retireSlot x) :
    Moves L s g (s.removeChange e) g := by
  have m := (Move.dropEntry (L := L) (s := s) (g := g) e fun x hx => absurd hx (h x)).single
  rcases clearRetirePending_cases (s.removeChange e) e.op with ⟨_, k⟩ | ⟨x, hx, _⟩
  · rwa [k] at m
  · exact absurd hx (h x)

/-! ### The entries of one aperture (R151, R153) -/

/-- An aperture with a role in a ring; a producer is not WRITING while its entries apply. -/
structure State.Serving (s : State) (L : Laws) (a : ApId) (role : Role) (r : RingId) : Prop where
  config : ∃ c, (s.ap a).config = some c ∧ c.role = role ∧ c.ring = r
  unheld : L.placed → role = .producer → ∀ sl, (s.ap a).state ≠ .bound sl

theorem State.Serving.of_ap {a : ApId} {role : Role} {r : RingId} (hs : s.Serving L a role r)
    (h : t.ap a = s.ap a) : t.Serving L a role r := by
  obtain ⟨hc, hu⟩ := hs
  exact ⟨by rwa [h], by rwa [h]⟩

theorem State.Serving.applyApChange {a : ApId} {role : Role} {r : RingId} (hs : s.Serving L a role r)
    {c : ApConfig} (hc : (s.ap a).config = some c) (e : Change) (x : ApChange) :
    (s.applyApChange e a c x).Serving L a role r := by
  obtain ⟨⟨d, hd, hrole, hr⟩, hu⟩ := hs
  rw [hc] at hd
  cases hd
  rcases applyApChange_leaves s e a c x with h | h | h
  · exact State.Serving.of_ap ⟨⟨c, hc, hrole, hr⟩, hu⟩ h
  · exact ⟨⟨_, by rw [h], by rw [write_role, hrole], by rw [write_ring, hr]⟩, by rw [h]; exact hu⟩
  · exact ⟨⟨c, by rw [h]; exact hc, hrole, hr⟩, by rw [h]; exact fun _ _ _ => nofun⟩

/-- The ghost of a run in which the entries of an aperture apply. -/
structure Ghost.ForEntries (g : Ghost) (a : ApId) (role : Role) (r : RingId) : Prop where
  ap   : g.offAp = some a
  ring : role = .producer → g.offRing = some r

theorem applyChange_moves_aperture [Fact (¬ L.calm)] (ho : s.Obeys L) {a : ApId} {role : Role}
    {r : RingId}
    (hs : s.Serving L a role r) (hg : g.ForEntries a role r) {e : Change} {x : ApChange}
    (hop : e.op = .aperture a x) (he : L.ranged → e.InRange) :
    Moves L s g (s.applyChange e) g ∧ (s.applyChange e).Serving L a role r := by
  obtain ⟨c, hc, hrole, hr⟩ := hs.config
  have drop : Moves L s g (s.removeChange e) g := removeChange_moves (by simp [hop])
  have hs' : (s.removeChange e).Serving L a role r := hs.of_ap rfl
  rw [applyChange_aperture s hop hc]
  refine ⟨drop.trans (applyApChange_moves (drop.obeys ho) hop he hc hg.ap (fun h => ?_) fun hp h => ?_),
    hs'.applyApChange hc e x⟩
  · rw [hr]; exact hg.ring (hrole ▸ h)
  · exact hs'.unheld hp (hrole ▸ h)

theorem applyChange_entries_filter {p : ChangeOp → Bool} (hp : ChangeOp.skipsRetirements p)
    (s : State) {e : Change} {a : ApId} {x : ApChange} (hop : e.op = .aperture a x) :
    ((s.applyChange e).changes.entries.filter fun e => p e.op) =
      (s.changes.entries.erase e).filter fun e => p e.op := by
  unfold State.applyChange
  rw [hop]
  simp only
  split
  · rw [applyApChange_entries_filter hp]; rfl
  · rfl

theorem forAperture_eq_true {a : ApId} {op : ChangeOp} (h : op.forAperture a = true) :
    ∃ x, op = .aperture a x := by
  cases op with
  | aperture b x => exact ⟨x, by rw [of_decide_eq_true h]⟩
  | _ => cases h

theorem forRing_eq_true {r : RingId} {op : ChangeOp} (h : op.forRing r = true) :
    ∃ o, op = .setOverflow r o := by
  cases op with
  | setOverflow q o => exact ⟨o, by rw [of_decide_eq_true h]⟩
  | _ => cases h

/-- All entries of the aperture apply, and none of them is left. -/
theorem applyEntries_moves [Fact (¬ L.calm)] (ho : s.Obeys L) {a : ApId} {role : Role} {r : RingId}
    (hs : s.Serving L a role r) (hg : g.ForEntries a role r) {l : List Change}
    (hl : (s.changes.entries.filter fun e => e.op.forAperture a) = l) (he : L.ranged → ∀ e ∈ l, e.InRange) :
    Moves L s g (l.foldl State.applyChange s) g ∧
      (l.foldl State.applyChange s).Serving L a role r ∧
      ((l.foldl State.applyChange s).changes.entries.filter fun e => e.op.forAperture a) = [] := by
  induction l generalizing s with
  | nil => exact ⟨.refl, hs, hl⟩
  | cons e l ih =>
    have hmem : e ∈ s.changes.entries.filter fun e => e.op.forAperture a := by rw [hl]; simp
    obtain ⟨x, hop⟩ := forAperture_eq_true (List.mem_filter.1 hmem).2
    obtain ⟨m, hs'⟩ := applyChange_moves_aperture ho hs hg hop fun hq => he hq e List.mem_cons_self
    have hleft : ((s.applyChange e).changes.entries.filter fun e => e.op.forAperture a) = l := by
      rw [applyChange_entries_filter (forAperture_skips a) s hop,
        filter_erase_of_pos (p := fun e : Change => e.op.forAperture a) (List.mem_filter.1 hmem).2, hl]
      simp
    obtain ⟨m', hs'', hnone⟩ := ih (m.obeys ho) hs' hleft fun hq y hy =>
      he hq y (List.mem_cons_of_mem _ hy)
    exact ⟨m.trans m', hs'', hnone⟩

theorem applyForAperture_moves [Fact (¬ L.calm)] (ho : s.Obeys L) {a : ApId} {role : Role}
    {r : RingId}
    (hs : s.Serving L a role r) (hg : g.ForEntries a role r) :
    Moves L s g (s.applyForAperture a) g ∧ (s.applyForAperture a).Serving L a role r ∧
      ((s.applyForAperture a).changes.entries.filter fun e => e.op.forAperture a) = [] :=
  applyEntries_moves ho hs hg rfl fun hq e hm => (ho.ranged hq).entries e (List.mem_filter.1 hm).1

/-! ### The entries of a ring without a producer (R148) -/

theorem applyChange_moves_overflow {e : Change} {r : RingId} {o : Overflow}
    (hop : e.op = .setOverflow r o) (he : L.ranged → e.InRange) : Moves L s g (s.applyChange e) g := by
  rw [applyChange_overflow s hop]
  exact ((removeChange_moves (by simp [hop])).trans (Move.overflow r o).single).trans (applied_moves he)

theorem applyChange_overflow_ap {e : Change} {r : RingId} {o : Overflow}
    (hop : e.op = .setOverflow r o)
    (a : ApId) : (s.applyChange e).ap a = s.ap a := by
  rw [applyChange_overflow s hop]; rfl

theorem applyChange_overflow_entries {e : Change} {r : RingId} {o : Overflow}
    (hop : e.op = .setOverflow r o) : (s.applyChange e).changes.entries = s.changes.entries.erase e := by
  rw [applyChange_overflow s hop]; rfl

theorem applyForRing_moves (ho : s.Obeys L) (r : RingId) :
    Moves L s g (s.applyForRing r) g ∧
      ((s.applyForRing r).changes.entries.filter fun e => e.op.forRing r) = [] ∧
      ∀ a, ((s.applyForRing r).changes.entries.filter fun e => e.op.forAperture a) =
        s.changes.entries.filter fun e => e.op.forAperture a := by
  have key {l : List Change} : ∀ {s : State}, s.Obeys L →
      (s.changes.entries.filter fun e => e.op.forRing r) = l → (L.ranged → ∀ e ∈ l, e.InRange) →
      Moves L s g (l.foldl State.applyChange s) g ∧
        ((l.foldl State.applyChange s).changes.entries.filter fun e => e.op.forRing r) = [] ∧
        ∀ a, ((l.foldl State.applyChange s).changes.entries.filter fun e => e.op.forAperture a) =
          s.changes.entries.filter fun e => e.op.forAperture a := by
    induction l with
    | nil => exact fun _ hl _ => ⟨.refl, hl, fun _ => rfl⟩
    | cons e l ih =>
      intro s ho hl he
      have hmem : e ∈ s.changes.entries.filter fun e => e.op.forRing r := by rw [hl]; simp
      obtain ⟨o, hop⟩ := forRing_eq_true (List.mem_filter.1 hmem).2
      have m : Moves L s g (s.applyChange e) g :=
        applyChange_moves_overflow hop fun hq => he hq e List.mem_cons_self
      have hleft : ((s.applyChange e).changes.entries.filter fun e => e.op.forRing r) = l := by
        rw [applyChange_overflow_entries hop,
          filter_erase_of_pos (p := fun e : Change => e.op.forRing r) (List.mem_filter.1 hmem).2, hl]
        simp
      obtain ⟨m', hnone, hap⟩ := ih (m.obeys ho) hleft fun hq y hy => he hq y (List.mem_cons_of_mem _ hy)
      refine ⟨m.trans m', hnone, fun a => (hap a).trans ?_⟩
      rw [applyChange_overflow_entries hop]
      exact filter_erase_of_neg (by rw [hop]; rfl) _
  exact key ho rfl fun hq e hm => (ho.ranged hq).entries e (List.mem_filter.1 hm).1

/-! ### The walk (R150, R156) -/

/-- What counting a boundary for the expiry of an entry does (R156). -/
theorem countExpiry_cases (s : State) (e : Change) :
    (e.expiry = 0 ∧ s.countExpiry e = s) ∨
    (e.expiry = 1 ∧ s.countExpiry e =
      ((s.removeChange e).clearRetirePending e.op).raise (s.changeNote .changeExpired e)) ∨
    ∃ n, e.expiry = n + 2 ∧ s.countExpiry e =
      { s with changes := { s.changes with
        entries := s.changes.entries.map fun x => if x = e then { x with expiry := n + 1 } else x } } := by
  unfold State.countExpiry
  split
  · exact .inl ⟨by assumption, rfl⟩
  · exact .inr (.inl ⟨by assumption, rfl⟩)
  · exact .inr (.inr ⟨_, by assumption, rfl⟩)

theorem clearRetirePending_frame (s : State) (op : ChangeOp) :
    { s.clearRetirePending op with slots := s.slots } = s := by
  cases op <;> rfl

@[simp] theorem clearRetirePending_ap (s : State) (op : ChangeOp) (a : ApId) :
    (s.clearRetirePending op).ap a = s.ap a := by cases op <;> rfl

@[simp] theorem clearRetirePending_ring (s : State) (op : ChangeOp) (r : RingId) :
    (s.clearRetirePending op).ring r = s.ring r := by cases op <;> rfl

theorem countExpiry_moves {e : Change} (he : L.ranged → e.InRange)
    (mem : L.unique → e ∈ s.changes.entries) : Moves L s g (s.countExpiry e) g := by
  rcases countExpiry_cases s e with ⟨_, h⟩ | ⟨_, h⟩ | ⟨n, hn, h⟩ <;> rw [h]
  · exact .refl
  · exact (Move.dropEntry e fun _ _ hu => mem hu).single.trans
      (changeNote_moves he (by simp [NoteKind.ofChange]) s)
  · exact (Move.countDown e (n + 1) (by omega)).single

@[simp] theorem countExpiry_ap (s : State) (e : Change) (a : ApId) :
    (s.countExpiry e).ap a = s.ap a := by
  rcases countExpiry_cases s e with ⟨_, h⟩ | ⟨_, h⟩ | ⟨n, _, h⟩ <;> rw [h]
  · simp
  · rfl

/-- The entries that a countdown does not count stay. -/
theorem countExpiry_entries_filter {p : ChangeOp → Bool} (s : State) {e : Change}
    (hp : p e.op = false) :
    ((s.countExpiry e).changes.entries.filter fun e => p e.op) =
      s.changes.entries.filter fun e => p e.op := by
  rcases countExpiry_cases s e with ⟨_, h⟩ | ⟨_, h⟩ | ⟨n, _, h⟩ <;> rw [h]
  · rw [raise_changes, clearRetirePending_changes, removeChange_entries]
    exact filter_erase_of_neg (p := fun e : Change => p e.op) hp _
  · simp only
    induction s.changes.entries with
    | nil => rfl
    | cons x l ih =>
      rw [List.map_cons, List.filter_cons, List.filter_cons, ih]
      by_cases hx : x = e
      · subst x; simp [hp]
      · simp [hx]

theorem mem_countExpiry (s : State) {e x : Change} (hx : x ∈ s.changes.entries) (hne : x ≠ e) :
    x ∈ (s.countExpiry e).changes.entries := by
  rcases countExpiry_cases s e with ⟨_, h⟩ | ⟨_, h⟩ | ⟨n, _, h⟩ <;> rw [h]
  · exact hx
  · rw [raise_changes, clearRetirePending_changes]; exact (List.mem_erase_of_ne hne).2 hx
  · exact List.mem_map.2 ⟨x, hx, if_neg hne⟩

/-- Applying an entry of a producer takes no other entry out of the queue. -/
theorem applyChange_entries_of_producer (s : State) {e : Change} {a : ApId} {x : ApChange}
    (hop : e.op = .aperture a x) (hrole : ∀ c, (s.ap a).config = some c → c.role = .producer) :
    (s.applyChange e).changes.entries = s.changes.entries.erase e := by
  cases hc : (s.ap a).config with
  | none => simp [State.applyChange, hop, hc]
  | some c =>
    rw [applyChange_aperture s hop hc]
    have hr := hrole c hc
    cases x with
    | moveWindow base =>
      simp only [State.applyApChange]
      split
      · rfl
      · rw [applied_changes, writeChange_changes]; rfl
    | setSources | setStall | setDivider =>
      rw [State.applyApChange, applied_changes, writeChange_changes]; rfl
    | setPick p oe =>
      simp only [State.applyApChange, hr, reduceCtorEq, false_and, if_false]
      rw [applied_changes, writeChange_changes]; rfl
    | detach =>
      simp only [State.applyApChange, hr]
      split <;> rfl

/-- How the rest of a walk stands: the producer, and the entries still to come. -/
structure State.Walking (s : State) (L : Laws) (a : ApId) (r : RingId) (l : List Change) : Prop where
  serving : s.Serving L a .producer r
  range   : L.ranged → ∀ e ∈ l, e.InRange
  mine    : (s.changes.entries.filter fun e => e.op.forAperture a) = l.filter fun e => e.op.forAperture a
  rings   : (s.changes.entries.filter fun e => e.op.forRing r) = l.filter fun e => e.op.forRing r
  member  : L.unique → l.Nodup ∧ ∀ e ∈ l, e ∈ s.changes.entries

theorem walkOne_moves [Fact (¬ L.calm)] (ho : s.Obeys L) {a : ApId} {r : RingId}
    (hg : g.ForEntries a .producer r)
    {e : Change} {l : List Change} (hw : s.Walking L a r (e :: l)) :
    Moves L s g (State.walkOne a r s e) g ∧ (State.walkOne a r s e).Walking L a r l := by
  obtain ⟨hs, he, hmine, hrings, hmem⟩ := hw
  have herange : L.ranged → e.InRange := fun hq => he hq e List.mem_cons_self
  have hlrange : L.ranged → ∀ y ∈ l, y.InRange := fun hq y hy => he hq y (List.mem_cons_of_mem _ hy)
  have hprod : ∀ c, (s.ap a).config = some c → c.role = .producer := by
    obtain ⟨c, hc, hrole, _⟩ := hs.config
    intro d hd; rw [hc] at hd; cases hd; exact hrole
  have hmember {t : State} (keep : ∀ y ∈ s.changes.entries, y ≠ e → y ∈ t.changes.entries) :
      L.unique → l.Nodup ∧ ∀ y ∈ l, y ∈ t.changes.entries := fun hu => by
    obtain ⟨hn, hm⟩ := hmem hu
    rw [List.nodup_cons] at hn
    exact ⟨hn.2, fun y hy => keep y (hm y (List.mem_cons_of_mem _ hy)) fun h => hn.1 (h ▸ hy)⟩
  unfold State.walkOne
  by_cases ha : e.op.forAperture a = true
  · obtain ⟨x, hop⟩ := forAperture_eq_true ha
    have hr : e.op.forRing r = false := by rw [hop]; rfl
    obtain ⟨m, hs'⟩ := applyChange_moves_aperture ho hs hg hop herange
    have hent := applyChange_entries_of_producer s hop hprod
    rw [if_pos (by rw [ha]; rfl)]
    refine ⟨m, hs', hlrange, ?_, ?_, hmember fun y hy hne => ?_⟩
    · rw [hent, filter_erase_of_pos (p := fun e : Change => e.op.forAperture a) ha, hmine]
      simp [ha]
    · rw [hent, filter_erase_of_neg (p := fun e : Change => e.op.forRing r) hr, hrings,
        List.filter_cons_of_neg (by simp [hr])]
    · rw [hent]; exact (List.mem_erase_of_ne hne).2 hy
  · rw [Bool.not_eq_true] at ha
    by_cases hr : e.op.forRing r = true
    · obtain ⟨o, hop⟩ := forRing_eq_true hr
      have hent := applyChange_overflow_entries (s := s) hop
      rw [if_pos (by rw [ha, hr]; rfl)]
      refine ⟨applyChange_moves_overflow hop herange, hs.of_ap (applyChange_overflow_ap hop a), hlrange,
        ?_, ?_, hmember fun y hy hne => ?_⟩
      · rw [hent, filter_erase_of_neg (p := fun e : Change => e.op.forAperture a) ha, hmine,
          List.filter_cons_of_neg (by simp [ha])]
      · rw [hent, filter_erase_of_pos (p := fun e : Change => e.op.forRing r) hr, hrings]
        simp [hr]
      · rw [hent]; exact (List.mem_erase_of_ne hne).2 hy
    · rw [Bool.not_eq_true] at hr
      rw [if_neg (by rw [ha, hr]; decide)]
      have hmine' : (s.changes.entries.filter fun e => e.op.forAperture a) =
          l.filter fun e => e.op.forAperture a := by rw [hmine, List.filter_cons_of_neg (by simp [ha])]
      have hrings' : (s.changes.entries.filter fun e => e.op.forRing r) =
          l.filter fun e => e.op.forRing r := by rw [hrings, List.filter_cons_of_neg (by simp [hr])]
      split
      · refine ⟨countExpiry_moves herange fun hu => (hmem hu).2 e List.mem_cons_self,
          hs.of_ap (countExpiry_ap s e a), hlrange, ?_, ?_, hmember fun y hy hne => mem_countExpiry s hy hne⟩
        · rw [countExpiry_entries_filter s ha, hmine']
        · rw [countExpiry_entries_filter s hr, hrings']
      · exact ⟨.refl, hs, hlrange, hmine', hrings', hmember fun y hy _ => hy⟩

theorem walk_moves [Fact (¬ L.calm)] (ho : s.Obeys L) {a : ApId} {r : RingId}
    (hg : g.ForEntries a .producer r)
    {l : List Change} (hw : s.Walking L a r l) :
    Moves L s g (l.foldl (State.walkOne a r) s) g ∧ (l.foldl (State.walkOne a r) s).Walking L a r [] := by
  induction l generalizing s with
  | nil => exact ⟨.refl, hw⟩
  | cons e l ih =>
    obtain ⟨m, hw'⟩ := walkOne_moves ho hg hw
    obtain ⟨m', hw''⟩ := ih (m.obeys ho) hw'
    exact ⟨m.trans m', hw''⟩

/-- The seqs of the entries say that no entry stands twice in the queue. -/
theorem State.Obeys.entries_nodup (ho : s.Obeys L) (hu : L.unique) : s.changes.entries.Nodup :=
  (ho.unique hu).of_append_left.of_map _

theorem walkChanges_moves [Fact (¬ L.calm)] (ho : s.Obeys L) {a : ApId} {r : RingId}
    (hg : g.ForEntries a .producer r)
    (hs : s.Serving L a .producer r) :
    Moves L s g (s.walkChanges a r) g ∧ (s.walkChanges a r).Walking L a r [] :=
  walk_moves ho hg ⟨hs, fun hq => (ho.ranged hq).entries, rfl, rfl,
    fun hu => ⟨ho.entries_nodup hu, fun _ h => h⟩⟩

end

end Sys2Proof.Machine
end

section
/-! PROOFS: the boundary operations are runs of moves (R54, R55, R72, R89, R90). -/

namespace Sys2Proof.Machine

section
variable {L : Laws} {s t : State} {g h k : Ghost}

/-! ### What the publish leaves of aperture and ring records -/

theorem acquire_eq (s : State) (a : ApId) (r : RingId) (pick : Pick) (sl : SlotId) :
    (s.acquire a r pick sl).rings = s.rings ∧
      (s.acquire a r pick sl).apertures = (s.setApState a (.bound sl)).apertures ∧
      (s.acquire a r pick sl).changes = s.changes := by
  cases pick with
  | newest => exact ⟨rfl, rfl, rfl⟩
  | ordered => exact markPassed_books _ a _

@[simp] theorem acquire_ring (s : State) (a : ApId) (r q : RingId) (pick : Pick) (sl : SlotId) :
    (s.acquire a r pick sl).ring q = s.ring q := by
  simp only [State.ring, (acquire_eq s a r pick sl).1]

theorem acquire_ap (s : State) (a b : ApId) (r : RingId) (pick : Pick) (sl : SlotId) :
    (s.acquire a r pick sl).ap b = (s.setApState a (.bound sl)).ap b := by
  simp only [State.ap, (acquire_eq s a r pick sl).2.1]

theorem forwardStall_books (s : State) (a : ApId) (r : RingId) (sl : SlotId) :
    SameBooks s (s.forwardStall a r sl) := by
  unfold State.forwardStall
  split
  · split <;> exact ⟨rfl, rfl, rfl, rfl⟩
  · exact ⟨rfl, rfl, rfl, rfl⟩

@[simp] theorem acquireAtPublish_ring (r q : RingId) (s : State) (a : ApId) :
    (s.acquireAtPublish r a).ring q = s.ring q := by
  rcases acquireAtPublish_cases r s a with h | ⟨c, sl, _, _, _, _, h⟩ <;> rw [h]
  rw [(forwardStall_books _ a r sl).ring, acquire_ring]

@[simp] theorem acquireAtPublish_config (r : RingId) (s : State) (a b : ApId) :
    ((s.acquireAtPublish r a).ap b).config = (s.ap b).config := by
  rcases acquireAtPublish_cases r s a with h | ⟨c, sl, _, _, _, _, h⟩ <;> rw [h]
  rw [(forwardStall_books _ a r sl).ap, acquire_ap, setApState_config]

/-- An aperture that is no consumer of the ring takes no part in the acquisitions. -/
theorem acquireAtPublish_ap_of_not_consumer {r : RingId} {b : ApId}
    (h : ApSet.has (s.ring r).consumers b = false) (a : ApId) :
    (s.acquireAtPublish r a).ap b = s.ap b := by
  rcases acquireAtPublish_cases r s a with e | ⟨c, sl, hm, _, _, _, e⟩ <;> rw [e]
  have hne : a ≠ b := fun e => by subst e; rw [h] at hm; cases hm
  rw [(forwardStall_books _ a r sl).ap, acquire_ap, setApState_ap_ne _ _ hne]

@[simp] theorem acquisitions_ring (r q : RingId) (as : List ApId) :
    (as.foldl (State.acquireAtPublish r) s).ring q = s.ring q := by
  induction as generalizing s with
  | nil => rfl
  | cons a as ih => rw [List.foldl_cons, ih, acquireAtPublish_ring]

@[simp] theorem acquisitions_config (r : RingId) (as : List ApId) (b : ApId) :
    ((as.foldl (State.acquireAtPublish r) s).ap b).config = (s.ap b).config := by
  induction as generalizing s with
  | nil => rfl
  | cons a as ih => rw [List.foldl_cons, ih, acquireAtPublish_config]

theorem acquisitions_ap_of_not_consumer {r : RingId} {b : ApId}
    (h : ApSet.has (s.ring r).consumers b = false) (as : List ApId) :
    (as.foldl (State.acquireAtPublish r) s).ap b = s.ap b := by
  induction as generalizing s with
  | nil => rfl
  | cons a as ih =>
    rw [List.foldl_cons, ih (by rwa [acquireAtPublish_ring]), acquireAtPublish_ap_of_not_consumer h]

theorem publish_eq (s : State) (a : ApId) (r : RingId) (sl : SlotId) :
    s.publish a r sl =
      (allAps.foldl (State.acquireAtPublish r) ((s.decideRetain a r sl).toReady a r sl)).reclaimAll r :=
  rfl

theorem toReady_ap (a b : ApId) (r : RingId) (sl : SlotId) :
    (s.toReady a r sl).ap b = (s.setApState a .unbound).ap b := rfl

theorem toReady_ring (a : ApId) (r q : RingId) (sl : SlotId) :
    (s.toReady a r sl).ring q =
      if r = q then { s.ring q with ready := (s.ring q).ready ++ [sl] } else s.ring q := by
  rw [State.toReady, raise_ring, setRing_ring]
  split
  · next e => subst e; rfl
  · rfl

theorem emptyReturn_ap (a b : ApId) (r : RingId) (sl : SlotId) :
    (s.emptyReturn a r sl).ap b = (s.setApState a .unbound).ap b := by
  rw [State.emptyReturn, applyRetirement_ap]; rfl

theorem publishStage_config (a b : ApId) (r : RingId) :
    ((s.publishStage a r).ap b).config = (s.ap b).config := by
  unfold State.publishStage
  split
  · split
    · rw [publish_eq, reclaimAll_ap, acquisitions_config, toReady_ap, setApState_config, decideRetain_ap]
    · rw [emptyReturn_ap, setApState_config]
  · rfl

theorem State.Placed.not_consumer (h : s.Placed) {a : ApId} {c : ApConfig}
    (hc : (s.ap a).config = some c) (hrole : c.role = .producer) (r : RingId) :
    ApSet.has (s.ring r).consumers a = false := by
  rw [← Bool.not_eq_true]
  intro hm
  obtain ⟨_, d, hd, hr, _⟩ := (h.consumers r a).1 hm
  rw [hc] at hd
  cases hd
  rw [hrole] at hr
  cases hr

/-- After the publish stage a producer that was WRITING has given up its slot. -/
theorem publishStage_ap (hp : s.Placed) {a : ApId} {c : ApConfig} (hc : (s.ap a).config = some c)
    (hrole : c.role = .producer) (r : RingId) {sl : SlotId} (hb : (s.ap a).state = .bound sl) :
    (s.publishStage a r).ap a = { s.ap a with state := .unbound } := by
  have hcons := hp.not_consumer hc hrole r
  unfold State.publishStage
  rw [hb]
  simp only
  split
  · rw [publish_eq, reclaimAll_ap, acquisitions_ap_of_not_consumer, toReady_ap, setApState_ap_self,
      decideRetain_ap]
    rw [toReady_ring, if_pos rfl, decideRetain_ring]
    exact hcons
  · rw [emptyReturn_ap, setApState_ap_self]

theorem publishStage_of_not_bound {a : ApId} (r : RingId) (h : ∀ sl, (s.ap a).state ≠ .bound sl) :
    s.publishStage a r = s := by
  unfold State.publishStage
  split
  · next sl hb => exact absurd hb (h sl)
  · rfl

theorem publishStage_unheld (hp : s.Placed) {a : ApId} {c : ApConfig} (hc : (s.ap a).config = some c)
    (hrole : c.role = .producer) (r : RingId) (sl : SlotId) :
    ((s.publishStage a r).ap a).state ≠ .bound sl := by
  cases hb : (s.ap a).state with
  | bound x => rw [publishStage_ap hp hc hrole r hb]; nofun
  | off => rw [publishStage_of_not_bound r (by simp [hb]), hb]; nofun
  | unbound => rw [publishStage_of_not_bound r (by simp [hb]), hb]; nofun

@[simp] theorem stepSchedule_ap (r : RingId) (p : Option Nat) (a : ApId) :
    (s.stepSchedule r p).ap a = s.ap a := by
  unfold State.stepSchedule
  simp only
  split <;> rfl

/-! ### The boundary operations -/

/-- The run in which entries of an aperture apply begins and ends with nothing else to do. -/
def Ghost.entriesOf (a : ApId) (r : Option RingId) : Ghost := { offAp := some a, offRing := r }

theorem Moves.begin_entries (m : Moves L s g t .rest) (a : ApId) (r : Option RingId) :
    Moves L s g t (.entriesOf a r) :=
  m.restated ⟨fun _ _ _ _ _ h => h, fun _ _ _ _ h _ => h, nofun, nofun, rfl⟩

/-- With none of the entries left, nothing is left to do. -/
theorem Moves.end_entries {a : ApId} {r : Option RingId} (m : Moves L s g t (.entriesOf a r))
    (mine : (t.changes.entries.filter fun e => e.op.forAperture a) = [])
    (rings : ∀ q, r = some q → (t.changes.entries.filter fun e => e.op.forRing q) = []) :
    Moves L s g t .rest := by
  refine m.restated ⟨fun _ _ _ _ _ h => h, fun _ _ _ _ h _ => h, fun e he b x hop hb => ?_,
    fun e he q o hop hq => ?_, rfl⟩
  · cases hb
    exact absurd (List.filter_eq_nil_iff.1 mine e he) (by simp [hop, ChangeOp.forAperture])
  · exact absurd (List.filter_eq_nil_iff.1 (rings q hq) e he) (by simp [hop, ChangeOp.forRing])

theorem publishedFrame_ok (hr : s.InRange) (a : ApId) {f : Nat} (h : s.publishedFrame a = some f) :
    frameOk f := by
  unfold State.publishedFrame at h
  split at h
  · split at h
    · exact hr.frame _ f h
    · cases h
  · cases h

theorem State.Serving.idleAs {a : ApId} {r : RingId} (h : s.Serving L a .producer r) (hp : L.placed)
    (on : s.apOn a = true) : s.idleAs a .producer r := by
  refine ⟨?_, h.config⟩
  cases hs : (s.ap a).state with
  | off => exact absurd hs (apOn_eq_true.1 on)
  | unbound => rfl
  | bound sl => exact absurd hs (h.unheld hp rfl sl)

theorem producerBoundary_moves [Fact (¬ L.idle)] [Fact (¬ L.calm)] (ho : s.Obeys L) {a : ApId}
    {c : ApConfig}
    (hc : (s.ap a).config = some c) (hrole : c.role = .producer) :
    Moves L s .rest (s.producerBoundary a c.ring) .rest := by
  have publish : Moves L s .rest _ .rest := publishStage_moves ho hc hrole
  have count := publish.trans (stepSchedule_moves (publish.obeys ho) c.ring
    (published := s.publishedFrame a) fun hq f hf => publishedFrame_ok (ho.ranged hq) a hf)
  have serving : ((s.publishStage a c.ring).stepSchedule c.ring (s.publishedFrame a)).Serving L a
      .producer c.ring :=
    ⟨⟨c, by rw [stepSchedule_ap, publishStage_config, hc], hrole, rfl⟩, fun hp _ => by
      rw [stepSchedule_ap]; exact publishStage_unheld (ho.placed hp) hc hrole c.ring⟩
  obtain ⟨walk, done⟩ := walkChanges_moves (g := .entriesOf a (some c.ring)) (count.obeys ho)
    ⟨rfl, fun _ => rfl⟩ serving
  have walked := ((count.begin_entries a (some c.ring)).trans walk).end_entries done.mine
    fun q hq => by cases hq; exact done.rings
  unfold State.producerBoundary
  simp only
  split
  · next on =>
    exact walked.trans (bind_moves (walked.obeys ho) on fun hp => done.serving.idleAs hp on)
  · exact walked

theorem consumerBoundary_moves [Fact (¬ L.calm)] (ho : s.Obeys L) {a : ApId} {c : ApConfig}
    (hc : (s.ap a).config = some c) (hrole : c.role = .consumer) :
    Moves L s .rest (s.consumerBoundary a) .rest := by
  obtain ⟨m, serving, hnone⟩ := applyForAperture_moves (g := .entriesOf a none) ho (a := a)
    (role := .consumer) (r := c.ring) ⟨⟨c, hc, hrole, rfl⟩, fun _ h => by cases h⟩
    ⟨rfl, fun h => by cases h⟩
  have applied := ((Moves.refl.begin_entries a none).trans m).end_entries hnone nofun
  obtain ⟨d, hd, hdrole, _⟩ := serving.config
  unfold State.consumerBoundary
  simp only [hd]
  exact applied.trans (pickStage_moves (applied.obeys ho) hd fun _ => hdrole)

/-! ### Delivery (R55, R56, R89, R90) -/

theorem setDeferred_moves (ho : s.Obeys L) (a : ApId) (d : Bool)
    (stirring : L.still → d = true → (s.ap a).deferred = true) :
    Moves L s g (s.setAp a { s.ap a with deferred := d }) g :=
  (Move.count a (s.ap a).count d (fun hq =>
    have h := (ho.ranged hq).apertures a
    ⟨h.most, fun c hc on => h.count c hc (apOn_eq_true.1 on)⟩) stirring).single

/-- An aperture with no boundary pending. -/
def State.undefer (s : State) (a : ApId) : State := s.setAp a { s.ap a with deferred := false }

theorem undefer_moves (ho : s.Obeys L) (a : ApId) : Moves L s g (s.undefer a) g :=
  setDeferred_moves ho a false nofun

/-- The stages of a boundary, once its mark is cleared. -/
theorem stages_moves [Fact (¬ L.idle)] [Fact (¬ L.calm)] (ho : s.Obeys L) (a : ApId) :
    Moves L (s.undefer a) .rest (s.runBoundary a) .rest := by
  have hu : (s.undefer a).Obeys L := (undefer_moves (g := .rest) ho a).obeys ho
  unfold State.runBoundary
  cases hc : (s.ap a).config with
  | none => exact .refl
  | some c =>
    have hc' : ((s.undefer a).ap a).config = some c := by simpa [State.undefer] using hc
    cases hrole : c.role with
    | producer => simp only [hrole]; exact producerBoundary_moves hu hc' hrole
    | consumer => simp only [hrole]; exact consumerBoundary_moves hu hc' hrole

theorem runBoundary_moves [Fact (¬ L.idle)] [Fact (¬ L.calm)] (ho : s.Obeys L) (a : ApId) :
    Moves L s .rest (s.runBoundary a) .rest := (undefer_moves ho a).trans (stages_moves ho a)

theorem actBoundary_moves [Fact (¬ L.idle)] [Fact (¬ L.calm)] [Fact (¬ L.still)] (ho : s.Obeys L)
    (a : ApId) :
    Moves L s .rest (s.actBoundary a) .rest := by
  unfold State.actBoundary
  split
  · refine raise_moves fun _ _ _ => ⟨nofun, nofun, nofun, fun e => absurd rfl e, ?_⟩
    show (s.deferReasonNow a).code ≤ _
    cases s.deferReasonNow a <;> decide
  · split
    · exact setDeferred_moves ho a true fun h => absurd h Fact.out
    · exact runBoundary_moves ho a

theorem deliver_moves [Fact (¬ L.idle)] [Fact (¬ L.calm)] [Fact (¬ L.still)] (ho : s.Obeys L)
    (a : ApId) :
    Moves L s .rest (s.deliver a) .rest := by
  unfold State.deliver
  cases hc : (s.ap a).config with
  | none => exact .refl
  | some c =>
    simp only
    split
    · next on =>
      split
      · have m : Moves L s .rest (s.setAp a { s.ap a with count := 0 }) .rest :=
          (Move.count a 0 (s.ap a).deferred (fun hq => ⟨by decide, fun d hd _ => by
            have := (((ho.ranged hq).apertures a).config d hd).divider; omega⟩) fun _ => id).single
        exact m.trans (actBoundary_moves (m.obeys ho) a)
      · next hne =>
        refine (Move.count a ((s.ap a).count + 1) (s.ap a).deferred (fun hq => ?_) fun _ => id).single
        have h := (ho.ranged hq).apertures a
        have hlt := h.count c hc (apOn_eq_true.1 on)
        have hdiv := (h.config c hc).divider
        exact ⟨by omega, fun d hd _ => by rw [hc] at hd; cases hd; omega⟩
    · exact .refl

end

end Sys2Proof.Machine
end

section
/-! PROOFS: acceptance at the A-side port, and what ends an event, are runs of moves (R27 to R39, R55, R136). -/

namespace Sys2Proof.Machine

section
variable {L : Laws} {s t : State} {g h k : Ghost}

theorem grounded_of_opened (h : s.steering.phase = .opened) : s.grounded := fun t tg e => by
  rw [h] at e; cases e

theorem refuse_moves [Fact (¬ L.calm)] (t : Txn) (a : ApId) (sl : Option SlotId) {cause : Nat}
    (hcause : cause ≤ 255)
    (hs : s.steering.phase = .opened) : Moves L s g (s.refuse t a sl cause) g := by
  have lock : Moves L s g (s.lockAccept t none) g := lockAccept_moves t none
  refine (lock.trans (answerFault_moves t (grounded_of_opened hs))).trans
    (raise_moves fun _ _ _ => ⟨fun f hf => ?_, fun _ => rfl, nofun, fun e => absurd rfl e, ?_⟩)
  · cases hf
    exact ⟨by have := t.address.isLt; omega, .inl rfl⟩
  · show cause * 256 + t.source.val ≤ 65535
    omega

theorem markWritten_moves (t : Txn) (sl : SlotId) : Moves L s g (s.markWritten t sl) g := by
  unfold State.markWritten
  split
  · exact (Move.marks sl true _ _ _).single
  · exact .refl

theorem markWritten_steering (s : State) (t : Txn) (sl : SlotId) :
    (s.markWritten t sl).steering = s.steering := by
  unfold State.markWritten; split <;> rfl

theorem acceptPassed_moves [Fact (¬ L.idle)] [Fact (¬ L.calm)] (ho : s.Obeys L) (t : Txn)
    {a : ApId} {c : ApConfig}
    (hc : (s.ap a).config = some c) (hs : s.steering.phase = .opened) :
    Moves L s g (s.acceptPassed t a c) g := by
  have hg := grounded_of_opened hs
  unfold State.acceptPassed
  split
  · next sl _ _ =>
    have m : Moves L s g (s.markWritten t sl) g := markWritten_moves t sl
    exact m.trans (forwardInto_moves (m.obeys ho) t a c.ring _ sl
      (grounded_of_opened (by rw [markWritten_steering]; exact hs)))
  · split <;> exact answer_moves t _ _ hg
  · exact forwardInto_moves ho t a c.ring _ _ hg
  · split
    · exact answer_moves t _ _ hg
    · refine (PortMove.stall t a c.windowBase _ hg fun hq n hn => ?_).single
      split at hn
      · cases hn
      · cases hn; exact (((ho.ranged hq).apertures a).config c hc).timeout

theorem acceptInside_moves [Fact (¬ L.idle)] [Fact (¬ L.calm)] (ho : s.Obeys L) (t : Txn)
    {a : ApId} {c : ApConfig}
    (hc : (s.ap a).config = some c) (hs : s.steering.phase = .opened) :
    Moves L s g (s.acceptInside t a c) g := by
  unfold State.acceptInside
  split
  · exact refuse_moves t a _ (by decide) hs
  · split
    · exact refuse_moves t a _ (by decide) hs
    · have m : Moves L s g (s.lockAccept t (some a)) g := lockAccept_moves t _
      exact m.trans (acceptPassed_moves (m.obeys ho) t hc hs)

theorem accept_moves [Fact (¬ L.idle)] [Fact (¬ L.calm)] (ho : s.Obeys L) (t : Txn)
    (hs : s.steering.phase = .opened) :
    Moves L s g (s.accept t) g := by
  unfold State.accept
  split
  · refine (lockAccept_moves t none).trans (PortMove.forward t t none ?_ ?_).single
    · exact grounded_of_opened hs
    · exact fun _ _ _ h => by cases h
  · split
    · next c hc =>
      split
      · exact acceptInside_moves ho t hc hs
      · exact refuse_moves t _ none (by decide) hs
    · exact refuse_moves t _ none (by decide) hs
  · exact refuse_moves t _ none (by decide) hs

theorem acceptNext_moves [Fact (¬ L.idle)] [Fact (¬ L.still)] [Fact (¬ L.calm)] (ho : s.Obeys L) :
    Moves L s g s.acceptNext g := by
  unfold State.acceptNext
  split
  · next t rest hs hw =>
    have m : Moves L s g { s with steering := { s.steering with waiting := rest } } g :=
      (PortMove.waiting rest).single
    exact m.trans (accept_moves (m.obeys ho) t hs)
  · exact .refl

theorem runPendingUpTo_moves [Fact (¬ L.idle)] [Fact (¬ L.calm)] (n : Nat) (order : List ApId)
    (ho : s.Obeys L) :
    Moves L s .rest (State.runPendingUpTo n order s) .rest := by
  induction n generalizing s with
  | zero => exact .refl
  | succ n ih =>
    rw [State.runPendingUpTo]
    split
    · have m := runBoundary_moves (L := L) ho
      exact (m _).trans (ih ((m _).obeys ho))
    · exact .refl

theorem runPending_moves [Fact (¬ L.idle)] [Fact (¬ L.calm)] (ho : s.Obeys L) (order : List ApId) :
    Moves L s .rest (s.runPending order) .rest := runPendingUpTo_moves 8 _ ho

theorem drainPort_moves [Fact (¬ L.idle)] [Fact (¬ L.calm)] [Fact (¬ L.still)] (n : Nat)
    (ho : s.Obeys L) :
    Moves L s .rest (State.drainPort n s) .rest := by
  induction n generalizing s with
  | zero => exact .refl
  | succ n ih =>
    rw [State.drainPort]
    split
    · have accept : Moves L s .rest s.acceptNext .rest := acceptNext_moves ho
      have run := accept.trans (runPending_moves (accept.obeys ho) [])
      have grant := run.trans arbitrate_moves
      exact grant.trans (ih (grant.obeys ho))
    · exact .refl

theorem drainAll_moves [Fact (¬ L.idle)] [Fact (¬ L.calm)] [Fact (¬ L.still)] (ho : s.Obeys L) :
    Moves L s .rest s.drainAll .rest := drainPort_moves _ ho

theorem finish_moves [Fact (¬ L.idle)] [Fact (¬ L.calm)] [Fact (¬ L.still)] (ho : s.Obeys L)
    (order : List ApId) :
    Moves L s .rest (s.finish order) .rest := by
  have m := (runPending_moves ho order).trans arbitrate_moves
  exact m.trans (drainAll_moves (m.obeys ho))

theorem boundaryAt_moves [Fact (¬ L.idle)] [Fact (¬ L.calm)] [Fact (¬ L.still)] (ho : s.Obeys L)
    (a : ApId) :
    Moves L s .rest (s.boundaryAt a) .rest := by
  have m := deliver_moves ho a
  exact m.trans (finish_moves (m.obeys ho) [])

/-- What a line event does at one aperture. -/
def State.lineAt (l : FrameLine) (s : State) (a : ApId) : State :=
  match (s.ap a).config with
  | some c => if s.apOn a && lineSelected l c then s.boundaryAt a else s
  | none   => s

theorem lineEvent_eq (s : State) (l : FrameLine) (order : List ApId) :
    s.lineEvent l order = (inOrder order).foldl (State.lineAt l) s := rfl

theorem lineAt_moves [Fact (¬ L.idle)] [Fact (¬ L.calm)] [Fact (¬ L.still)] (ho : s.Obeys L)
    (l : FrameLine)
    (a : ApId) :
    Moves L s .rest (State.lineAt l s a) .rest := by
  unfold State.lineAt
  split
  · split
    · exact boundaryAt_moves ho a
    · exact .refl
  · exact .refl

/-- Runs of moves over a list. -/
theorem foldl_moves {α : Type} {f : State → α → State} {xs : List α}
    (step : ∀ {s : State}, s.Obeys L → ∀ x ∈ xs, Moves L s g (f s x) g) (ho : s.Obeys L) :
    Moves L s g (xs.foldl f s) g := by
  induction xs generalizing s with
  | nil => exact .refl
  | cons x xs ih =>
    have m : Moves L s g (f s x) g := step ho x List.mem_cons_self
    exact m.trans (ih (fun ho y hy => step ho y (List.mem_cons_of_mem _ hy)) (m.obeys ho))

theorem lineEvent_moves [Fact (¬ L.idle)] [Fact (¬ L.calm)] [Fact (¬ L.still)] (ho : s.Obeys L)
    (l : FrameLine)
    (order : List ApId) :
    Moves L s .rest (s.lineEvent l order) .rest := by
  rw [lineEvent_eq]
  exact foldl_moves (fun ho a _ => lineAt_moves ho l a) ho

end

end Sys2Proof.Machine
end

section
/-! PROOFS: the commands of apertures, changes, slots and schedules are runs of moves (spec/03, spec/06,
spec/09). -/

namespace Sys2Proof.Machine

/-- What a block answers to a command is reached by moves, and may stand in a response (R171). -/
structure AnswerMoves (L : Laws) (s : State) (x : Answer) : Prop where
  moves : Moves L s .rest x.state .rest
  words : L.ranged → x.words.length ≤ 30

section
variable {L : Laws} {s t : State} {g h k : Ghost}

theorem deny_moves (x : Status) : AnswerMoves L s (s.deny x) := ⟨.refl, by simp [State.deny]⟩

theorem done_moves (m : Moves L s .rest t .rest) : AnswerMoves L s t.done := ⟨m, by simp [State.done]⟩

theorem doneWith_moves (m : Moves L s .rest t .rest) {ws : List Word} (h : ws.length ≤ 30) :
    AnswerMoves L s (t.doneWith ws) := ⟨m, fun _ => h⟩

/-! ### APERTURE_SETUP, APERTURE_ON (R49, R51, R69, R178) -/

theorem actApertureSetup_moves [Fact (¬ L.plain)] (x : SetupArgs)
    (hx : ∀ e, 12 ≤ e ∧ e ≤ 24 → { x.config with windowSize := e }.InRange) (ho : s.Obeys L) :
    AnswerMoves L s (actApertureSetup s x) := by
  unfold actApertureSetup
  split
  · exact deny_moves _
  · next hoff =>
    split
    · exact deny_moves _
    · next e he =>
      split
      · exact deny_moves _
      · refine done_moves (Move.setUp x.aperture _ (by simpa using hoff) he fun hq => ?_).single
        exact hx e (((ho.ranged hq).rings _).slotSize e he)

theorem windowTaken_eq_false_iff (s : State) (c : ApConfig) :
    s.windowTaken c = false ↔ s.WindowFree c.windowBase (2 ^ c.windowSize) := by
  rw [← regionTaken_eq_false_iff]; rfl

theorem producerOn_moves [Fact (¬ L.plain)] (ho : s.Obeys L) {a : ApId} {c : ApConfig} (off : s.apOn a = false)
    (hc : (s.ap a).config = some c) (hrole : c.role = .producer)
    (hnone : (s.ring c.ring).producer = none) (hw : s.windowTaken c = false) :
    Moves L s g (s.producerOn a c.ring) g := by
  have m : Moves L s g _ g := (Move.producerOn a c off hc hrole hnone hw).single
  refine m.trans (bind_moves (m.obeys ho) ?_ fun _ => ?_)
  · simp [State.freshOn, State.apOn]
  · exact ⟨by simp [State.freshOn], c, by simpa [State.freshOn] using hc, hrole, rfl⟩

theorem consumerOn_moves [Fact (¬ L.plain)] (ho : s.Obeys L) {a : ApId} {c : ApConfig} (off : s.apOn a = false)
    (hc : (s.ap a).config = some c) (hrole : c.role = .consumer)
    (few : ApSet.size (s.ring c.ring).consumers < 3) (hw : s.windowTaken c = false) :
    Moves L s g (s.consumerOn a c) g := by
  have m : Moves L s g _ g := (Move.consumerOn a c off hc hrole few hw).single
  unfold State.consumerOn
  simp only
  split
  · exact m
  · next sl hsl =>
    have acquired := acquire_moves (L := L) (g := g) (s := (s.setRing c.ring { s.ring c.ring with
        consumers := ApSet.insert (s.ring c.ring).consumers a }).freshOn a) (a := a) (r := c.ring) c.pick
      (sl := sl) (by simp [State.freshOn])
      (fun _ => ⟨by simp [State.freshOn], c, by simpa [State.freshOn] using hc, hrole, rfl⟩)
      (List.mem_of_getLast? hsl)
    exact reclaim_moves_plus (m.trans acquired) ho fun _ x hx _ => hx

theorem actApertureOn_moves [Fact (¬ L.plain)] (a : ApId) (ho : s.Obeys L) : AnswerMoves L s (actApertureOn s a) := by
  unfold actApertureOn
  split
  · exact deny_moves _
  · next hon =>
    have off : s.apOn a = false := by simpa using hon
    split
    · exact deny_moves _
    · next c hc =>
      split
      · exact deny_moves _
      · split
        · exact deny_moves _
        · next hrt =>
          split
          · exact deny_moves _
          · next hw =>
            rw [Bool.not_eq_true] at hw
            split
            · next hrole =>
              refine done_moves (producerOn_moves ho off hc hrole ?_ hw)
              simpa [State.roleTaken, hrole] using hrt
            · next hrole =>
              refine done_moves (consumerOn_moves ho off hc hrole ?_ hw)
              simpa [State.roleTaken, hrole] using hrt

/-! ### APERTURE_OFF (R52, R70, R147) -/

theorem changesFull_eq_false (s : State) :
    s.changesFull = false ↔ s.changes.entries.length < 12 := by
  rw [State.changesFull, decide_eq_false_iff_not]
  exact not_le

theorem queueAnswer_moves {op : ChangeOp} {k : Nat} (hk : k ≤ 255)
    (args : ∀ a x, op = .aperture a x → ApChange.InRange x) (target : s.targetCheck op = true)
    (slot : ∀ x, op ≠ .retireSlot x) : AnswerMoves L s (s.queueAnswer op k) := by
  unfold State.queueAnswer
  split
  · exact deny_moves _
  · next hfull =>
    refine ⟨(Move.queueEntry op k ?_ hk args target slot).single, by simp⟩
    exact (changesFull_eq_false s).1 (by simpa using hfull)

theorem producerOffNow_moves [Fact (¬ L.calm)] (ho : s.Obeys L) {a : ApId} {c : ApConfig}
    (hc : (s.ap a).config = some c) (hrole : c.role = .producer) (hs : (s.ap a).state = .unbound) :
    Moves L s .rest (s.producerOffNow a c.ring) .rest := by
  have off : Moves L s .rest _ (.entriesOf a (some c.ring)) :=
    (Move.producerOff a c.ring (fun _ => ⟨hs, c, hc, hrole, rfl⟩) (.inl rfl) (.inl rfl)).single
  have serving : (s.producerOff a c.ring).Serving L a .producer c.ring :=
    ⟨⟨c, by simpa [State.producerOff] using hc, hrole, rfl⟩, fun _ _ _ => by simp [State.producerOff]⟩
  obtain ⟨m, _, mine⟩ := applyForAperture_moves (g := .entriesOf a (some c.ring)) (off.obeys ho) serving
    ⟨rfl, fun _ => rfl⟩
  have applied := off.trans m
  obtain ⟨m', rings, keep⟩ := applyForRing_moves (g := .entriesOf a (some c.ring)) (applied.obeys ho) c.ring
  exact (applied.trans m').end_entries ((keep a).trans mine) fun q hq => by cases hq; exact rings

theorem consumerOffNow_moves [Fact (¬ L.idle)] [Fact (¬ L.still)] [Fact (¬ L.calm)]
    (ho : s.Obeys L) {a : ApId}
    {c : ApConfig}
    (hc : (s.ap a).config = some c) (hrole : c.role = .consumer) (hs : (s.ap a).state = .unbound) :
    Moves L s .rest (s.consumerOffNow a c) .rest := by
  have begun : Moves L s .rest s (.entriesOf a none) := Moves.refl.begin_entries a none
  have off := begun.trans (consumerOff_moves (g := .entriesOf a none) hs hc hrole rfl)
  have checked : Moves L s .rest ((s.consumerOff a c.ring).reclaim c.ring
      ((s.consumerOff a c.ring).offChecks c.ring c.pick none)) (.entriesOf a none) := by
    refine reclaim_moves_plus off ho fun _ y hy hr => ?_
    cases hpick : c.pick with
    | ordered => simpa [State.offChecks] using hr
    | newest => simp [State.offUnchecked, hpick] at hy
  have serving : ((s.consumerOff a c.ring).reclaim c.ring
      ((s.consumerOff a c.ring).offChecks c.ring c.pick none)).Serving L a .consumer c.ring :=
    ⟨⟨c, by rw [reclaim_ap, consumerOff_ap, if_pos rfl]; exact hc, hrole, rfl⟩, fun _ h => by cases h⟩
  obtain ⟨m, _, mine⟩ := applyForAperture_moves (g := .entriesOf a none) (checked.obeys ho) serving
    ⟨rfl, fun h => by cases h⟩
  have applied := (checked.trans m).end_entries mine nofun
  exact applied.trans (finish_moves (applied.obeys ho) [])

theorem actApertureOff_moves [Fact (¬ L.idle)] [Fact (¬ L.still)] [Fact (¬ L.calm)]
    (x : ApId × Nat) (hx : x.2 ≤ 255)
    (ho : s.Obeys L) :
    AnswerMoves L s (actApertureOff s x) := by
  obtain ⟨a, n⟩ := x
  unfold actApertureOff
  simp only
  split
  · exact done_moves .refl
  · next hb =>
    refine queueAnswer_moves hx (fun b y e => by cases e; trivial) ?_ nofun
    simp [State.targetCheck, State.apOn, hb]
  · exact done_moves .refl
  · next c hs hc =>
    split
    · next hrole => exact done_moves (producerOffNow_moves ho hc hrole hs)
    · next hrole => exact done_moves (consumerOffNow_moves ho hc hrole hs)

/-! ### APERTURE_MODIFY, SET_OVERFLOW, CANCEL_CHANGE (R146, R148, R157) -/

theorem actApertureModify_moves (x : ApId × ApChange × Nat) (hx : x.2.2 ≤ 255)
    (hc : ApChange.InRange x.2.1) (ho : s.Obeys L) : AnswerMoves L s (actApertureModify s x) := by
  obtain ⟨a, change, n⟩ := x
  unfold actApertureModify
  simp only
  split
  · exact deny_moves _
  · next c hcon =>
    split
    · exact deny_moves _
    · split
      · next on =>
        split
        · exact deny_moves _
        · exact queueAnswer_moves hx (fun b y e => by cases e; exact hc) on nofun
      · next off =>
        exact done_moves (writeChange_moves (g := .rest) ho hcon (fun _ => hc) []
          (fun on => absurd on off) fun on => absurd on off)

theorem actSetOverflow_moves (x : RingId × Overflow × Nat) (hx : x.2.2 ≤ 255) :
    AnswerMoves L s (actSetOverflow s x) := by
  obtain ⟨r, o, n⟩ := x
  unfold actSetOverflow
  simp only
  split
  · next hp => exact queueAnswer_moves hx nofun hp nofun
  · exact done_moves (Move.overflow r o).single

theorem actCancelChange_moves (n : Nat) : AnswerMoves L s (actCancelChange s n) := by
  unfold actCancelChange
  split
  · exact deny_moves _
  · next e he =>
    split
    · exact deny_moves _
    · exact doneWith_moves (Move.dropEntry e fun _ _ _ => List.mem_of_find?_eq_some he).single (by simp)

/-! ### RING_SETUP, RING_ON, SLOT_ASSIGN, SLOT_RETIRE (R16, R17, R21, R22) -/

theorem actRingSetup_moves (x : RingId × Nat × Overflow) (hx : 12 ≤ x.2.1 ∧ x.2.1 ≤ 24) :
    AnswerMoves L s (actRingSetup s x) := by
  obtain ⟨r, e, o⟩ := x
  unfold actRingSetup
  simp only
  split
  · exact deny_moves _
  · split
    · exact deny_moves _
    · next hfit => exact done_moves (Move.size r e o hx (by simpa using hfit)).single

theorem actRingOn_moves (r : RingId) : AnswerMoves L s (actRingOn s r) := by
  unfold actRingOn
  split
  · next h =>
    simp only [Bool.and_eq_true, decide_eq_true_eq] at h
    exact done_moves (Move.power r true fun _ => h.2).single
  · exact deny_moves _

theorem actSlotAssign_moves (x : SlotId × RingId × Addr) : AnswerMoves L s (actSlotAssign s x) := by
  obtain ⟨sl, r, base⟩ := x
  unfold actSlotAssign
  simp only
  split
  · exact deny_moves _
  · next hh =>
    split
    · exact deny_moves _
    · next hsize =>
      split
      · exact deny_moves _
      · split
        · exact deny_moves _
        · next hreg =>
          refine done_moves (Move.assign sl r base (by simpa using hh) (by
            cases h : (s.ring r).slotSize <;> simp_all)
            ((regionTaken_eq_false_iff s base _).1 (by simpa using hreg))).single

theorem slotState_eq_free {sl : SlotId} {h : Home} (hh : (s.slot sl).home = some h) :
    s.slotState sl = .free ↔ sl ∈ (s.ring h.ring).free := by
  simp only [State.slotState, hh]
  by_cases hf : sl ∈ (s.ring h.ring).free
  · simp [hf]
  · simp only [List.contains_iff_mem, hf, if_false, iff_false]
    split
    · nofun
    · split <;> nofun

theorem actSlotRetire_moves (x : SlotId × Nat) (hx : x.2 ≤ 255) (ho : s.Obeys L) :
    AnswerMoves L s (actSlotRetire s x) := by
  obtain ⟨sl, n⟩ := x
  unfold actSlotRetire
  simp only
  split
  · exact deny_moves _
  · next h hh =>
    split
    · exact deny_moves _
    · next hpend =>
      split
      · exact deny_moves _
      · next hfloor =>
        split
        · next hfree =>
          exact done_moves (Move.retireNow sl h hh ((slotState_eq_free hh).1 hfree)
            (by simpa using hpend) hfloor).single
        · next hfree =>
          split
          · exact deny_moves _
          · next hfull =>
            unfold State.queueAnswer
            have hspace := (changesFull_eq_false s).1 (by simpa using hfull)
            rw [if_neg (by exact hfull)]
            refine ⟨(Move.queueRetire sl n hspace hx (by simpa using hpend) (by simp [hh])
              fun hp r hr => hfree ?_).single, by simp⟩
            have hring := (ho.placed hp).listed r sl (Ring.mem_lists.2 (.inl hr))
            rw [hh] at hring
            cases hring
            exact (slotState_eq_free hh).2 hr

/-! ### SCHEDULE_SETUP, SCHEDULE_START, SCHEDULE_STOP, SNAP (R98 to R102) -/

theorem Schedule.InRange.run {x : Schedule} (h : x.InRange) : x.run.InRange := by
  have := h.burst
  unfold Schedule.run
  split
  · exact ⟨h.delay, h.burst, h.gap, h.bursts, h.delay, h.burstsDone⟩
  · exact ⟨h.delay, h.burst, h.gap, h.bursts, by show x.burst ≤ 255; omega, h.burstsDone⟩

theorem Schedule.InRange.started {x : Schedule} (h : x.InRange) : x.started.InRange := by
  have zero : ({ x with burstsDone := 0 } : Schedule).InRange :=
    ⟨h.delay, h.burst, h.gap, h.bursts, h.remaining, Nat.zero_le _⟩
  unfold Schedule.started
  split
  · exact ⟨h.delay, h.burst, h.gap, h.bursts, Nat.zero_le _, Nat.zero_le _⟩
  · exact zero.run

theorem stopSchedule_moves (ho : s.Obeys L) (r : RingId) : Moves L s g (s.stopSchedule r) g := by
  unfold State.stopSchedule
  split
  · exact .refl
  · refine (PortMove.sched r _ fun hq => ?_).single.trans
      (raise_moves fun _ _ _ => ⟨nofun, nofun, nofun, fun e => absurd rfl e, show 2 ≤ 65535 by decide⟩)
    have h := (ho.ranged hq).schedules r
    exact ⟨h.delay, h.burst, h.gap, h.bursts, Nat.zero_le _, h.burstsDone⟩

theorem snapAt_moves (ho : s.Obeys L) (r : RingId) : Moves L s g (s.snapAt r) g := by
  unfold State.snapAt
  simp only
  split
  · exact .refl
  · split
    · exact (PortMove.sched r _ fun hq => ((ho.ranged hq).schedules r).run).single
    · split
      · refine raise_moves fun _ _ _ => ⟨nofun, nofun, nofun, fun e => absurd rfl e, ?_⟩
        show (s.sched r).state.code ≤ _
        cases (s.sched r).state <;> decide
      · exact .refl

theorem snapEvent_moves (ho : s.Obeys L) : Moves L s g s.snapEvent g :=
  foldl_moves (fun ho r _ => snapAt_moves ho r) ho

end

end Sys2Proof.Machine
end

section
/-! PROOFS: RING_OFF, RING_FLUSH, RELEASE and the copy jobs are runs of moves (R18 to R20, R110 to R128). -/

namespace Sys2Proof.Machine

section
variable {L : Laws} {s t : State} {g h k : Ghost}

/-! ### Retirements of slots that a run has freed (R154) -/

/-- The retirements of slots just freed apply, and nothing is due any more. -/
theorem Moves.retired {sls : List SlotId} (m : Moves L s g t { h with due := sls ++ h.due })
    (ho : s.Obeys L) (free : L.placed → t.allFree sls) :
    Moves L s g (t.applyRetirements sls) h :=
  (m.trans (applyRetirements_moves (m.obeys ho) free)).restated
    (.of_subset (fun x hx => by
      simp only [List.mem_filter, List.mem_append, decide_eq_true_eq] at hx
      tauto) (fun _ hx => hx) rfl rfl rfl)

theorem State.allFree.congr {sls : List SlotId} (h : s.allFree sls)
    (homes : ∀ x, (t.slot x).home = (s.slot x).home) (frees : ∀ r, (t.ring r).free = (s.ring r).free) :
    t.allFree sls :=
  ⟨h.1, fun x hx => by
    obtain ⟨k, hk, hf⟩ := h.2 x hx
    exact ⟨k, by rw [homes, hk], by rwa [frees]⟩⟩

/-! ### RING_OFF (R18) -/

theorem ringOff_eq (s : State) (r : RingId) :
    s.ringOff r =
      (((s.dropAll r (s.ring r).ready).stopSchedule r).setRing r
        { ((s.dropAll r (s.ring r).ready).stopSchedule r).ring r with on := false }).applyRetirements
        (s.looseOf (s.ring r).ready) := rfl

theorem stopSchedule_frame (s : State) (r : RingId) :
    { s.stopSchedule r with schedules := s.schedules, notes := s.notes } = s := by
  unfold State.stopSchedule; split <;> rfl

@[simp] theorem stopSchedule_ring (s : State) (r q : RingId) :
    (s.stopSchedule r).ring q = s.ring q := by
  unfold State.stopSchedule; split <;> rfl

@[simp] theorem stopSchedule_slot (s : State) (r : RingId) (x : SlotId) :
    (s.stopSchedule r).slot x = s.slot x := by
  unfold State.stopSchedule; split <;> rfl

theorem ringOff_moves (ho : s.Obeys L) {r : RingId}
    (hv : ∀ a c, (s.ap a).config = some c → c.role = .consumer → c.ring = r →
      ∀ x, (s.ap a).state ≠ .bound x) : Moves L s .rest (s.ringOff r) .rest := by
  have hun (hp : L.placed) : s.unviewed r (s.ring r).ready :=
    ⟨(ho.placed hp).ready_nodup r, fun _ hx => ⟨hx, .inr hv⟩⟩
  have drop : Moves L s .rest _ _ := dropAll_moves ho hun
  have stop := drop.trans (stopSchedule_moves (drop.obeys ho) r)
  have power := stop.trans (Move.power r false nofun).single
  rw [ringOff_eq]
  refine power.retired ho fun hp => (allFree_dropAll (ho.placed hp) (hun hp)).congr (fun x => ?_) fun q => ?_
  · simp
  · rw [setRing_ring]
    split
    · next e => subst e; simp
    · simp

theorem actRingOff_moves (ho : s.Obeys L) (r : RingId) : AnswerMoves L s (actRingOff s r) := by
  unfold actRingOff
  split
  · next h =>
    refine done_moves (ringOff_moves ho fun a c hc _ hr x hb => ?_)
    simp only [Bool.and_eq_true, Bool.not_eq_true', State.anyOnFor, List.any_eq_false, mem_allAps,
      true_implies, decide_eq_true_eq, not_and] at h
    exact h.2 a (apOn_eq_true.2 (by rw [hb]; nofun)) (by rw [State.ringOf, hc]; simp [hr])
  · exact deny_moves _

/-! ### RING_FLUSH (R19, R20) -/

/-- The state of an aperture that has given up its slot. -/
def ApState.released : ApState → ApState
  | .bound _ => .unbound
  | x => x

theorem releaseHold_ap (s : State) (a b : ApId) :
    (s.releaseHold a).ap b =
      if a = b then { s.ap b with state := (s.ap b).state.released } else s.ap b := by
  by_cases h : a = b
  · subst b
    cases hs : (s.ap a).state with
    | bound sl => rw [releaseHold_of_bound hs]; simp [ApState.released]
    | off =>
      rw [releaseHold_of_not_bound (by simp [hs]), if_pos rfl]
      exact congrArg (fun y => ({ s.ap a with state := y } : Aperture)) hs
    | unbound =>
      rw [releaseHold_of_not_bound (by simp [hs]), if_pos rfl]
      exact congrArg (fun y => ({ s.ap a with state := y } : Aperture)) hs
  · rw [releaseHold_ap_ne h, if_neg h]

/-- One consumer in the fold of RING_FLUSH. -/
def State.releaseIn (r : RingId) (s : State) (a : ApId) : State :=
  if ApSet.has (s.ring r).consumers a then s.releaseHold a else s

theorem releaseConsumers_eq (s : State) (r : RingId) :
    s.releaseConsumers r = allAps.foldl (State.releaseIn r) s := rfl

@[simp] theorem releaseIn_ring (r q : RingId) (s : State) (a : ApId) :
    (s.releaseIn r a).ring q = s.ring q := by
  unfold State.releaseIn; split <;> simp

theorem releaseIn_ap (r : RingId) (s : State) (a b : ApId) :
    (s.releaseIn r a).ap b =
      if a = b ∧ ApSet.has (s.ring r).consumers b = true then
        { s.ap b with state := (s.ap b).state.released } else s.ap b := by
  unfold State.releaseIn
  by_cases hm : ApSet.has (s.ring r).consumers a = true
  · rw [if_pos hm, releaseHold_ap]
    by_cases h : a = b
    · subst b; simp [hm]
    · simp [h]
  · rw [if_neg hm, if_neg (by rintro ⟨rfl, h⟩; exact hm h)]

theorem foldl_releaseIn_ring (r q : RingId) (as : List ApId) (s : State) :
    (as.foldl (State.releaseIn r) s).ring q = s.ring q := by
  induction as generalizing s with
  | nil => rfl
  | cons a as ih => rw [List.foldl_cons, ih, releaseIn_ring]

theorem foldl_releaseIn_ap (r : RingId) (as : List ApId) (s : State) (b : ApId) :
    (as.foldl (State.releaseIn r) s).ap b =
      if b ∈ as ∧ ApSet.has (s.ring r).consumers b = true then
        { s.ap b with state := (s.ap b).state.released } else s.ap b := by
  induction as generalizing s with
  | nil => simp
  | cons a as ih =>
    rw [List.foldl_cons, ih, releaseIn_ring, releaseIn_ap]
    by_cases hm : ApSet.has (s.ring r).consumers b = true
    · by_cases ha : a = b
      · subst a
        have : (s.ap b).state.released.released = (s.ap b).state.released := by
          cases (s.ap b).state <;> rfl
        simp [hm, this]
      · simp [hm, ha, Ne.symm ha]
    · simp [hm]

@[simp] theorem releaseConsumers_ring (s : State) (r q : RingId) :
    (s.releaseConsumers r).ring q = s.ring q := foldl_releaseIn_ring r q allAps s

theorem releaseConsumers_ap (s : State) (r : RingId) (b : ApId) :
    (s.releaseConsumers r).ap b =
      if ApSet.has (s.ring r).consumers b = true then
        { s.ap b with state := (s.ap b).state.released } else s.ap b := by
  rw [releaseConsumers_eq, foldl_releaseIn_ap]
  simp [mem_allAps]

theorem releaseIn_moves (ho : s.Obeys L) (r : RingId) (a : ApId) :
    ∃ u, Moves L s g (s.releaseIn r a) (g.plus r u) := by
  unfold State.releaseIn
  split
  · next hm =>
    exact ⟨_, releaseHold_moves fun hp => (((ho.placed hp).consumers r a).1 hm).2⟩
  · exact ⟨[], .refl⟩

theorem releaseConsumers_moves (ho : s.Obeys L) (r : RingId) :
    ∃ u, Moves L s g (s.releaseConsumers r) (g.plus r u) := by
  rw [releaseConsumers_eq]
  induction allAps generalizing s g with
  | nil => exact ⟨[], .refl⟩
  | cons a as ih =>
    obtain ⟨u, m⟩ := releaseIn_moves (g := g) ho r a
    obtain ⟨v, m'⟩ := ih (m.obeys ho) (g := g.plus r u)
    exact ⟨v ++ u, by simpa [Ghost.plus_plus] using m.trans m'⟩

/-- After the release no consumer of the ring is VIEWING a slot. -/
theorem releaseConsumers_unviewed (hp : s.Placed) (r : RingId) {a : ApId} {c : ApConfig}
    (hc : ((s.releaseConsumers r).ap a).config = some c) (hrole : c.role = .consumer) (hr : c.ring = r)
    (x : SlotId) : ((s.releaseConsumers r).ap a).state ≠ .bound x := by
  rw [releaseConsumers_ap] at hc ⊢
  split
  · cases (s.ap a).state <;> nofun
  · next hm =>
    rw [if_neg hm] at hc
    intro hb
    exact hm ((hp.consumers r a).2 ⟨apOn_eq_true.2 (by rw [hb]; nofun), c, hc, hrole, hr⟩)

theorem flushReady_eq_keep (s : State) (r : RingId) :
    s.flushReady r true =
      (s.dropAll r (s.ring r).ready).applyRetirements (s.looseOf (s.ring r).ready) := rfl

theorem flushReady_eq_free (s : State) (r : RingId) :
    s.flushReady r false =
      (s.freeAll r (s.ring r).ready).applyRetirements (s.ring r).ready := rfl

theorem freeAll_cons (s : State) (r : RingId) (sl : SlotId) (sls : List SlotId) :
    s.freeAll r (sl :: sls) = ((s.leaveReady r sl).joinFreeTail r sl).freeAll r sls := rfl

theorem freeAll_ring_self (s : State) (r : RingId) (sls : List SlotId) :
    (s.freeAll r sls).ring r =
      { s.ring r with ready := (s.ring r).ready.diff sls, free := (s.ring r).free ++ sls } := by
  induction sls generalizing s with
  | nil => simp [State.freeAll]
  | cons sl sls ih => rw [freeAll_cons, ih]; simp [List.diff_cons]

theorem freeAll_ring_ne (s : State) {r q : RingId} (sls : List SlotId) (h : r ≠ q) :
    (s.freeAll r sls).ring q = s.ring q := by
  induction sls generalizing s with
  | nil => rfl
  | cons sl sls ih => rw [freeAll_cons, ih, joinFreeTail_ring_ne _ _ h, leaveReady_ring_ne _ h]

theorem freeAll_slot (s : State) (r : RingId) (sls : List SlotId) (x : SlotId) :
    (s.freeAll r sls).slot x = if x ∈ sls then (s.slot x).freed else s.slot x := by
  induction sls generalizing s with
  | nil => rfl
  | cons sl sls ih =>
    rw [freeAll_cons, ih, joinFreeTail_slot]
    by_cases hx : sl = x
    · subst x; by_cases hm : sl ∈ sls <;> simp [hm, Slot.freed]
    · simp [hx, Ne.symm hx]

theorem freeAll_home (s : State) (r : RingId) (sls : List SlotId) (x : SlotId) :
    ((s.freeAll r sls).slot x).home = (s.slot x).home := by
  rw [freeAll_slot]; split <;> rfl

theorem allFree_freeAll (hp : s.Placed) {r : RingId} {sls : List SlotId} (hs : s.unviewed r sls) :
    (s.freeAll r sls).allFree sls := by
  refine ⟨hs.1, fun x hx => ?_⟩
  obtain ⟨k, hk, hr⟩ := exists_home (hp.home_of_ready (hs.2 x hx).1)
  subst hr
  exact ⟨k, by rw [freeAll_home, hk], by rw [freeAll_ring_self]; exact List.mem_append_right _ hx⟩

theorem diff_self_eq_nil (l : List SlotId) : l.diff l = [] := by
  induction l with
  | nil => rfl
  | cons x l ih => simp [List.diff_cons, ih]

/-- Every READY slot of the ring leaves the ready list, and none of the others does. -/
theorem flushReady_ready (s : State) (r : RingId) (keep : Bool) :
    ((s.flushReady r keep).ring r).ready = [] := by
  cases keep with
  | true => rw [flushReady_eq_keep, (applyRetirements_ready _ _ r).1, dropAll_ring_self]; exact diff_self_eq_nil _
  | false => rw [flushReady_eq_free, (applyRetirements_ready _ _ r).1, freeAll_ring_self]; exact diff_self_eq_nil _

theorem flushReady_moves (ho : s.Obeys L) {r : RingId} (keep : Bool)
    (hv : L.placed → s.unviewed r (s.ring r).ready) : Moves L s g (s.flushReady r keep) g := by
  cases keep with
  | true =>
    rw [flushReady_eq_keep]
    exact (dropAll_moves ho hv).retired ho fun hp => allFree_dropAll (ho.placed hp) (hv hp)
  | false =>
    rw [flushReady_eq_free]
    exact (freeAll_moves ho hv).retired ho fun hp => allFree_freeAll (ho.placed hp) (hv hp)

/-- The first half of RING_FLUSH: consumers release, and the ready list empties. -/
theorem flush_moves (ho : s.Obeys L) (r : RingId) (keep : Bool) :
    Moves L s g ((s.releaseConsumers r).flushReady r keep) g := by
  obtain ⟨u, released⟩ := releaseConsumers_moves (g := g) ho r
  have hv (hp : L.placed) : (s.releaseConsumers r).unviewed r ((s.releaseConsumers r).ring r).ready :=
    ⟨((released.obeys ho).placed hp).ready_nodup r, fun x hx => ⟨hx, .inr fun a c hc hrole hr =>
      releaseConsumers_unviewed (ho.placed hp) r hc hrole hr⟩⟩
  have m := released.trans (flushReady_moves (released.obeys ho) keep hv)
  exact Moves.plus_mono (r := r) (v := []) m fun _ x _ hx => by rw [flushReady_ready] at hx; exact hx

end

end Sys2Proof.Machine
end

section
/-! PROOFS: the copy jobs, RELEASE and the responses to copy claims are runs of moves (R110 to R128). -/

namespace Sys2Proof.Machine

section
variable {L : Laws} {s t : State} {g h k : Ghost}

/-! ### The end of a job (R125 to R127) -/

theorem freeHeld_home (s : State) (r : RingId) (sl x : SlotId) :
    ((s.freeHeld r sl).slot x).home = (s.slot x).home := by
  rw [freeHeld_slot]; split
  · next e => subst e; rfl
  · rfl

theorem allFree_freeHeld (hp : s.Placed) {r : RingId} {sl : SlotId} (hh : sl ∈ (s.ring r).held) :
    (s.freeHeld r sl).allFree [sl] := by
  refine ⟨List.nodup_singleton sl, fun x hx => ?_⟩
  rw [List.mem_singleton] at hx
  subst x
  obtain ⟨k, hk, hr⟩ := exists_home (hp.listed r sl (Ring.mem_lists.2 (.inr (.inr hh))))
  subst hr
  exact ⟨k, by rw [freeHeld_home, hk], by simp⟩

/-- The kinds of note of a job, and its details. -/
def NoteKind.ofJob (k : NoteKind) : Prop := k = .copyDone ∨ k = .copyAborted ∨ k = .copyFailed

theorem jobNote_inRange {j : Job} (hj : j.InRange) {k : NoteKind} (hk : k.ofJob) {d : Nat}
    (hd : d ≤ 65535) :
    ({ kind := k, ring := some j.ring, slot := some j.slot, frame := some j.frame, tag := some j.id,
       detail := d } : Note).InRange := by
  have hid := hj.id
  refine ⟨fun f hf => by cases hf; exact ⟨hj.frame.2, .inr hj.frame.1⟩, fun ha => ?_, fun n hn => ?_,
    fun _ => rfl, hd⟩
  · rfl
  · cases hn
    rcases hk with rfl | rfl | rfl <;> exact hid

theorem settleJob_moves (ho : s.Obeys L) {j : Job} (hj : L.ranged → j.InRange) {k : NoteKind}
    (hk : k.ofJob) {d e : Nat} (hd : d ≤ 65535) (he : e ≤ 65535) :
    Moves L s g (s.settleJob j k d e) g := by
  unfold State.settleJob
  simp only
  by_cases hf : s.dueFree j.ring j.slot = true
  · rw [if_pos hf, if_pos hf, if_pos hf]
    have hf' := hf
    simp only [State.dueFree, Bool.and_eq_true, decide_eq_true_eq, List.contains_iff_mem] at hf'
    have free : Moves L s g (s.freeHeld j.ring j.slot) { g with due := [j.slot] ++ g.due } :=
      (Move.freeHeld j.ring j.slot (fun _ => hf'.2) hf'.1.2).single
    exact (free.trans (raise_moves fun _ hq _ => jobNote_inRange (hj hq) hk hd)).retired (sls := [j.slot]) ho
      fun hp => (allFree_freeHeld (ho.placed hp) hf'.2).congr (fun _ => rfl) fun _ => rfl
  · rw [if_neg hf, if_neg hf, if_neg hf]
    exact raise_moves fun _ hq _ => jobNote_inRange (hj hq) hk he

/-- The ACTIVE job has left the engine. -/
def State.withoutActive (s : State) (j : ActiveJob) : State :=
  (if j.granted then s.freePort else s).clearActive.dropJobCount j.job.slot

/-- A job that is the ACTIVE one, with its claim on the port if it is granted. -/
structure State.MayEnd (s : State) (j : ActiveJob) : Prop where
  active : s.copy.active = some j
  port   : j.granted = true → ∃ kind, s.copyOnPort kind = true

theorem State.MayEnd.range {j : ActiveJob} (h : s.MayEnd j) (hr : s.InRange) : j.job.InRange :=
  hr.jobs _ (by simp [CopyEngine.jobs, h.active])

theorem withoutActive_moves [Fact (¬ L.idle)] {j : ActiveJob} (h : s.MayEnd j) :
    Moves L s g (s.withoutActive j) { g with ending := true } :=
  (Move.dropActive j h.active h.port).single

theorem settleJob_copy (s : State) (j : Job) (k : NoteKind) (d e : Nat) :
    (s.settleJob j k d e).copy = s.copy := by
  have hr (u : State) (sl : SlotId) : (u.applyRetirement sl).copy = u.copy :=
    (congrArg State.copy (applyRetirement_frame u sl) :)
  unfold State.settleJob
  simp only
  split
  · rw [hr]; rfl
  · rfl

theorem withoutActive_idle (s : State) (j : ActiveJob) : (s.withoutActive j).copy.active = none := rfl

theorem settled_moves [Fact (¬ L.idle)] (ho : s.Obeys L) (hidle : s.copy.active = none) {j : Job}
    (hj : L.ranged → j.InRange) {k : NoteKind} (hk : k.ofJob) {d e : Nat} (hd : d ≤ 65535)
    (he : e ≤ 65535) :
    Moves L s { g with ending := true } ((s.settleJob j k d e).activateNext) { g with ending := false } :=
  (settleJob_moves ho hj hk hd he).trans
    (Move.activateNext (by rw [settleJob_copy]; exact hidle) rfl).single

theorem endActive_moves [Fact (¬ L.idle)] (ho : s.Obeys L) (hg : g.ending = false) {j : ActiveJob}
    (h : s.MayEnd j)
    {k : NoteKind} (hk : k.ofJob) {d : Nat} (hd : d ≤ 65535) :
    Moves L s g ((if j.granted then s.freePort else s).endActive j.job k d) g := by
  have m : Moves L s g (s.withoutActive j) { g with ending := true } := withoutActive_moves h
  have n := m.trans (settled_moves (g := g) (m.obeys ho) rfl (fun hq => h.range (ho.ranged hq)) hk hd hd)
  rwa [← hg] at n

theorem endDone_moves [Fact (¬ L.idle)] (ho : s.Obeys L) (hg : g.ending = false) {j : ActiveJob}
    (h : s.MayEnd j) :
    Moves L s g ((if j.granted then s.freePort else s).endDone (Job.advanced j.job)) g := by
  have m : Moves L s g (s.withoutActive j) { g with ending := true } := withoutActive_moves h
  have hj : L.ranged → (Job.advanced j.job).InRange := fun hq => (h.range (ho.ranged hq)).advanced
  have key {u : State} (m : Moves L s g u { g with ending := true }) (hu : u.copy.active = none) :
      Moves L s g ((u.settleJob (Job.advanced j.job) .copyDone 1 0).activateNext) g := by
    have n := m.trans (settled_moves (g := g) (m.obeys ho) hu hj (k := .copyDone)
      (by simp [NoteKind.ofJob]) (show 1 ≤ 65535 by decide) (Nat.zero_le _))
    rwa [← hg] at n
  unfold State.endDone
  simp only
  split
  · exact key (m.trans (Move.marks j.job.slot _ _ _ true).single) rfl
  · exact key m rfl

theorem abortQueued_moves (ho : s.Obeys L) {j : Job} (hj : j ∈ s.copy.queued) :
    Moves L s g (s.abortQueued j) g := by
  have m : Moves L s g _ g := (Move.dropQueued j hj).single
  exact m.trans (settleJob_moves (m.obeys ho) (fun hq => (ho.ranged hq).jobs j (by
    simp [CopyEngine.jobs, hj])) (by simp [NoteKind.ofJob]) (Nat.zero_le _) (Nat.zero_le _))

@[simp] theorem abortQueued_queued (s : State) (j : Job) :
    (s.abortQueued j).copy.queued = s.copy.queued.erase j := by
  rw [State.abortQueued, settleJob_copy]; rfl

theorem abortQueued_active (s : State) (j : Job) : (s.abortQueued j).copy.active = s.copy.active := by
  rw [State.abortQueued, settleJob_copy]; rfl

theorem cancelActive_moves [Fact (¬ L.idle)] (ho : s.Obeys L) (hg : g.ending = false) {j : ActiveJob}
    (h : s.copy.active = some j) : Moves L s g (s.cancelActive j) g := by
  unfold State.cancelActive
  split
  · exact (PortMove.cancelMark j h).single
  · next hgr =>
    have := endActive_moves ho hg ⟨h, fun e => absurd e hgr⟩ (k := .copyAborted)
      (by simp [NoteKind.ofJob]) (show 1 ≤ 65535 by decide)
    rwa [if_neg hgr] at this

/-! ### RING_FLUSH (R20) -/

theorem abortAll_moves {p : Job → Bool} {l : List Job} (ho : s.Obeys L)
    (hl : s.copy.queued.filter p = l) : Moves L s g (l.foldl State.abortQueued s) g := by
  induction l generalizing s with
  | nil => exact .refl
  | cons j l ih =>
    have hmem : j ∈ s.copy.queued.filter p := by rw [hl]; exact List.mem_cons_self
    rw [List.mem_filter] at hmem
    have m : Moves L s g (s.abortQueued j) g := abortQueued_moves ho hmem.1
    refine m.trans (ih (m.obeys ho) ?_)
    rw [abortQueued_queued, filter_erase_of_pos hmem.2, hl]
    simp

theorem cancelRingJobs_moves [Fact (¬ L.idle)] (ho : s.Obeys L) (hg : g.ending = false) (r : RingId) :
    Moves L s g (s.cancelRingJobs r) g := by
  have m : Moves L s g _ g := abortAll_moves ho (p := fun j => decide (j.ring = r)) rfl
  unfold State.cancelRingJobs
  simp only
  split
  · next j hj =>
    split
    · exact m.trans (cancelActive_moves (m.obeys ho) hg hj)
    · exact m
  · exact m

/-- One HELD slot in the fold of RING_FLUSH. -/
def State.flushOne (r : RingId) (s : State) (sl : SlotId) : State :=
  if (s.slot sl).jobs = 0 then s.freeHeld r sl
  else s.setSlot sl { s.slot sl with releaseRequested := true }

/-- Of a run of slots, those without jobs. -/
def State.idleOf (s : State) (sls : List SlotId) : List SlotId :=
  sls.filter fun sl => decide ((s.slot sl).jobs = 0)

theorem flushHeld_eq (s : State) (r : RingId) :
    s.flushHeld r =
      ((s.ring r).held.foldl (State.flushOne r) s).applyRetirements (s.idleOf (s.ring r).held) := rfl

theorem flushOne_jobs (r : RingId) (s : State) (sl x : SlotId) :
    ((s.flushOne r sl).slot x).jobs = (s.slot x).jobs := by
  unfold State.flushOne
  split
  · rw [freeHeld_slot]; split
    · next e => subst e; rfl
    · rfl
  · rw [setSlot_slot]; split
    · next e => subst e; rfl
    · rfl

theorem flushOne_home (r : RingId) (s : State) (sl x : SlotId) :
    ((s.flushOne r sl).slot x).home = (s.slot x).home := by
  unfold State.flushOne
  split
  · exact freeHeld_home s r sl x
  · rw [setSlot_slot]; split
    · next e => subst e; rfl
    · rfl

theorem idleOf_flushOne (r : RingId) (s : State) (sl : SlotId) (sls : List SlotId) :
    (s.flushOne r sl).idleOf sls = s.idleOf sls := by
  simp [State.idleOf, flushOne_jobs]

theorem flushOne_ring_self (r : RingId) (s : State) (sl : SlotId) :
    (s.flushOne r sl).ring r =
      if (s.slot sl).jobs = 0 then
        { s.ring r with held := (s.ring r).held.erase sl, free := (s.ring r).free ++ [sl] }
      else s.ring r := by
  unfold State.flushOne
  split <;> simp

theorem foldl_flushOne_free (r : RingId) (sls : List SlotId) (s : State) :
    ((sls.foldl (State.flushOne r) s).ring r).free = (s.ring r).free ++ s.idleOf sls := by
  induction sls generalizing s with
  | nil => simp [State.idleOf]
  | cons sl sls ih =>
    rw [List.foldl_cons, ih, idleOf_flushOne, flushOne_ring_self]
    by_cases h : (s.slot sl).jobs = 0 <;> simp [State.idleOf, h]

theorem foldl_flushOne_home (r : RingId) (sls : List SlotId) (s : State) (x : SlotId) :
    ((sls.foldl (State.flushOne r) s).slot x).home = (s.slot x).home := by
  induction sls generalizing s with
  | nil => rfl
  | cons sl sls ih => rw [List.foldl_cons, ih, flushOne_home]

theorem foldl_flushOne_moves (ho : s.Obeys L) {r : RingId} {sls : List SlotId}
    (hs : L.placed → sls.Nodup ∧ ∀ x ∈ sls, x ∈ (s.ring r).held) :
    Moves L s g (sls.foldl (State.flushOne r) s) { g with due := s.idleOf sls ++ g.due } := by
  induction sls generalizing s g with
  | nil => exact .refl
  | cons sl sls ih =>
    have htail (hp : L.placed) : sls.Nodup ∧ ∀ x ∈ sls, x ∈ ((s.flushOne r sl).ring r).held := by
      obtain ⟨hn, hheld⟩ := hs hp
      rw [List.nodup_cons] at hn
      refine ⟨hn.2, fun x hx => ?_⟩
      have hne : x ≠ sl := fun e => hn.1 (e ▸ hx)
      have := hheld x (List.mem_cons_of_mem _ hx)
      rw [flushOne_ring_self]
      split
      · exact (List.mem_erase_of_ne hne).2 this
      · exact this
    have one : Moves L s g (s.flushOne r sl) { g with due := s.idleOf [sl] ++ g.due } := by
      unfold State.flushOne
      by_cases hj : (s.slot sl).jobs = 0
      · rw [if_pos hj]
        simpa [State.idleOf, hj] using
          (Move.freeHeld (L := L) (g := g) r sl (fun hp => (hs hp).2 sl List.mem_cons_self) hj).single
      · rw [if_neg hj]
        simpa [State.idleOf, hj] using (Move.marks (L := L) (s := s) (g := g) sl _ _ _ true).single
    refine (one.trans (ih (one.obeys ho) htail)).due_mono (d := s.idleOf (sl :: sls) ++ g.due)
      fun x hx => ?_
    rw [idleOf_flushOne] at hx
    simp only [State.idleOf, List.mem_append, List.mem_filter, List.mem_cons, List.not_mem_nil,
      or_false] at hx ⊢
    tauto

theorem allFree_foldl_flushOne (hp : s.Placed) (r : RingId) :
    ((s.ring r).held.foldl (State.flushOne r) s).allFree (s.idleOf (s.ring r).held) := by
  refine ⟨(hp.once r).of_append_right.filter _, fun x hx => ?_⟩
  have hmem := (List.mem_filter.1 hx).1
  obtain ⟨k, hk, hr⟩ := exists_home (hp.listed r x (Ring.mem_lists.2 (.inr (.inr hmem))))
  subst hr
  exact ⟨k, by rw [foldl_flushOne_home, hk], by
    rw [foldl_flushOne_free]; exact List.mem_append_right _ hx⟩

theorem flushHeld_moves (ho : s.Obeys L) (r : RingId) : Moves L s g (s.flushHeld r) g := by
  rw [flushHeld_eq]
  exact (foldl_flushOne_moves ho fun hp => ⟨((ho.placed hp).once r).of_append_right, fun _ hx => hx⟩).retired
    ho fun hp => allFree_foldl_flushOne (ho.placed hp) r

theorem actRingFlush_moves [Fact (¬ L.idle)] (x : RingId × Bool) (ho : s.Obeys L) : AnswerMoves L s
    (actRingFlush s x) := by
  obtain ⟨r, keep⟩ := x
  have flush : Moves L s .rest _ .rest := flush_moves ho r keep
  unfold actRingFlush
  simp only
  split
  · exact done_moves flush
  · have cancel := flush.trans (cancelRingJobs_moves (flush.obeys ho) rfl r)
    have held := cancel.trans (flushHeld_moves (cancel.obeys ho) r)
    exact done_moves (held.trans arbitrate_moves)

/-! ### RELEASE (R110 to R113) -/

theorem releaseHeld_moves (ho : s.Obeys L) {r : RingId} {sl : SlotId} (hh : sl ∈ (s.ring r).held)
    (hj : (s.slot sl).jobs = 0) : Moves L s g (s.releaseHeld r sl) g := by
  have free : Moves L s g (s.freeHeld r sl) { g with due := [sl] ++ g.due } :=
    (Move.freeHeld r sl (fun _ => hh) hj).single
  exact free.retired (sls := [sl]) ho fun hp => allFree_freeHeld (ho.placed hp) hh

theorem foldl_freeHeld_moves (ho : s.Obeys L) {r : RingId} {sls : List SlotId}
    (hj : ∀ x ∈ sls, (s.slot x).jobs = 0)
    (hs : L.placed → sls.Nodup ∧ ∀ x ∈ sls, x ∈ (s.ring r).held) :
    Moves L s g (sls.foldl (fun t sl => t.freeHeld r sl) s) { g with due := sls ++ g.due } := by
  have hidle {s : State} {sls : List SlotId} (hj : ∀ x ∈ sls, (s.slot x).jobs = 0) :
      sls.foldl (fun t sl => t.freeHeld r sl) s = sls.foldl (State.flushOne r) s := by
    induction sls generalizing s with
    | nil => rfl
    | cons sl sls ih =>
      have hone : s.flushOne r sl = s.freeHeld r sl := if_pos (hj sl List.mem_cons_self)
      rw [List.foldl_cons, List.foldl_cons, hone]
      refine ih fun x hx => ?_
      rw [← hone, flushOne_jobs]
      exact hj x (List.mem_cons_of_mem _ hx)
  have hall : s.idleOf sls = sls := List.filter_eq_self.2 fun x hx => decide_eq_true (hj x hx)
  rw [hidle hj]
  simpa [hall] using foldl_flushOne_moves (g := g) ho hs

theorem releaseAll_eq (s : State) (r : RingId) (h : (s.ring r).held ≠ []) :
    releaseAll s r =
      (((s.idleOf (s.ring r).held).foldl (fun t sl => t.freeHeld r sl) s).applyRetirements
        (s.idleOf (s.ring r).held)).doneWith
        [BitVec.ofNat 32 (s.idleOf (s.ring r).held).length,
          BitVec.ofNat 32 ((s.ring r).held.length - (s.idleOf (s.ring r).held).length)] := by
  unfold releaseAll
  simp only
  split
  · next he => exact absurd he h
  · rfl

theorem idleOf_free (ho : s.Obeys L) (r : RingId) : Moves L s .rest
    (((s.idleOf (s.ring r).held).foldl (fun t sl => t.freeHeld r sl) s).applyRetirements
      (s.idleOf (s.ring r).held)) .rest := by
  have hmem {x : SlotId} (hx : x ∈ s.idleOf (s.ring r).held) :
      x ∈ (s.ring r).held ∧ (s.slot x).jobs = 0 := by simpa [State.idleOf] using hx
  have hn (hp : L.placed) : (s.idleOf (s.ring r).held).Nodup :=
    ((ho.placed hp).once r).of_append_right.filter _
  refine (foldl_freeHeld_moves ho (fun x hx => (hmem hx).2) fun hp =>
    ⟨hn hp, fun x hx => (hmem hx).1⟩).retired ho fun hp => ⟨hn hp, fun x hx => ?_⟩
  obtain ⟨k, hk, hr⟩ := exists_home ((ho.placed hp).listed r x (Ring.mem_lists.2
    (.inr (.inr (hmem hx).1))))
  subst hr
  refine ⟨k, ?_, ?_⟩
  · rw [foldl_freeHeld_slot]; split <;> simp [hk, Slot.freed]
  · rw [foldl_freeHeld_ring_self]; exact List.mem_append_right _ hx

theorem actRelease_moves (x : RingId × Selector) (ho : s.Obeys L) : AnswerMoves L s
    (actRelease s x) := by
  obtain ⟨r, sel⟩ := x
  cases sel with
  | oldest =>
    simp only [actRelease, releaseOldest]
    split
    · exact deny_moves _
    · next sl rest hh =>
      split
      · next hj => exact doneWith_moves (releaseHeld_moves ho (by rw [hh]; simp) hj) (by simp)
      · exact ⟨.refl, by simp [State.busyZero]⟩
  | frame n =>
    simp only [actRelease, releaseFrame]
    split
    · next sl hsl =>
      split
      · next hj => exact doneWith_moves (releaseHeld_moves ho (List.mem_of_find?_eq_some hsl) hj) (by simp)
      · exact ⟨.refl, by simp [State.busyZero]⟩
    · split
      · next sl hsl =>
        have m : Moves L s .rest (s.setSlot sl { s.slot sl with retained := false }) .rest :=
          (Move.marks sl _ _ false _).single
        exact doneWith_moves (reclaim_moves_plus (r := r) (u := []) m ho fun _ _ hx => by cases hx)
          (by simp)
      · exact deny_moves _
  | all =>
    simp only [actRelease]
    by_cases hh : (s.ring r).held = []
    · simp only [releaseAll, hh]
      exact deny_moves _
    · rw [releaseAll_eq s r hh]
      exact doneWith_moves (idleOf_free ho r) (by simp)

/-! ### COPY, COPY_CANCEL (R119, R120, R127) -/

theorem heldWith_some {r : RingId} {n : Nat} {sl : SlotId} (h : s.heldWith r n = some sl) :
    sl ∈ (s.ring r).held ∧ n ≠ 0 ∧ (s.slot sl).frame = some n := by
  have := List.find?_some h
  simp only [Bool.and_eq_true, decide_eq_true_eq] at this
  exact ⟨List.mem_of_find?_eq_some h, this⟩

/-- The job that COPY submits (R116, R119). -/
def CopyArgs.job (x : CopyArgs) (id : Nat) (sl : SlotId) : Job :=
  { id := id, ring := x.ring, slot := sl, frame := x.frame, dest := x.dest, length := x.length,
    autoRelease := x.autoRelease, doneBytes := 0 }

theorem submitJob_idle {x : CopyArgs} {sl : SlotId} (h : s.copy.active = none) :
    s.submitJob x sl =
      ((s.enrol (x.job s.copy.nextId sl)).presentRead (x.job s.copy.nextId sl)).arbitrate := by
  unfold State.submitJob
  rw [h]
  rfl

theorem submitJob_busy {x : CopyArgs} {sl : SlotId} (h : s.copy.active ≠ none) :
    s.submitJob x sl =
      { s.enrol (x.job s.copy.nextId sl) with
        copy := { (s.enrol (x.job s.copy.nextId sl)).copy with
          queued := (s.enrol (x.job s.copy.nextId sl)).copy.queued ++ [x.job s.copy.nextId sl] } } := by
  unfold State.submitJob
  cases ha : s.copy.active with
  | none => exact absurd ha h
  | some j => rfl

theorem slotBytes_le (h : s.InRange) (r : RingId) : s.slotBytes r ≤ 2 ^ 24 := by
  unfold State.slotBytes
  split
  · next e he => exact Nat.pow_le_pow_right (by decide) ((h.rings r).slotSize e he).2
  · exact Nat.zero_le _

theorem submitJob_moves [Fact (¬ L.idle)] {x : CopyArgs} {sl : SlotId}
    (enter : s.MayEnter L (x.job s.copy.nextId sl)) :
    Moves L s g (s.submitJob x sl) g := by
  by_cases h : s.copy.active = none
  · rw [submitJob_idle h]
    exact (Move.startJob _ h enter).single.trans arbitrate_moves
  · rw [submitJob_busy h]
    exact (Move.queueJob _ h enter).single

theorem actCopy_moves [Fact (¬ L.idle)] (x : CopyArgs) (hx : x.dest.toNat % 8 = 0) (ho : s.Obeys L) :
    AnswerMoves L s (actCopy s x) := by
  unfold actCopy
  split
  · exact deny_moves _
  · next sl hsl =>
    obtain ⟨hheld, hn, hf⟩ := heldWith_some hsl
    split
    · exact deny_moves _
    · next hlen =>
      split
      · exact deny_moves _
      · next htop =>
        split
        · exact deny_moves _
        · split
          · exact deny_moves _
          · next hspace =>
            simp only [Bool.not_eq_true, Bool.not_eq_false', State.lengthOk, Bool.and_eq_true,
              decide_eq_true_eq] at hlen
            refine doneWith_moves (submitJob_moves (L := L) ⟨rfl, hheld, rfl, fun hq => ?_, ?_⟩) (by simp)
            · have hr := ho.ranged hq
              have := slotBytes_le hr x.ring
              exact ⟨hr.nextId, hr.frame sl _ hf, ⟨hx, Nat.not_lt.1 htop⟩,
                ⟨hlen.1.1, hlen.1.2, hlen.2.trans this⟩, ⟨rfl, Nat.zero_le _⟩⟩
            · exact Nat.not_le.1 hspace

theorem actCopyCancel_moves [Fact (¬ L.idle)] (n : Nat) (ho : s.Obeys L) : AnswerMoves L s
    (actCopyCancel s n) := by
  unfold actCopyCancel
  split
  · exact deny_moves _
  · split
    · exact deny_moves _
    · next j hj =>
      split
      · exact done_moves ((cancelActive_moves ho rfl hj).trans arbitrate_moves)
      · split
        · next q hq => exact done_moves (abortQueued_moves ho (List.mem_of_find?_eq_some hq))
        · exact deny_moves _

/-! ### Responses to copy claims (R122, R123) -/

theorem jobOnPort_some {j : ActiveJob} (h : s.jobOnPort = some j) :
    s.copy.active = some j ∧ j.granted = true := by
  unfold State.jobOnPort at h
  split at h
  · split at h
    · cases h; exact ⟨by assumption, by assumption⟩
    · cases h
  · cases h

theorem readDone_moves [Fact (¬ L.idle)] (ho : s.Obeys L) (hg : g.ending = false) {j : ActiveJob}
    {kind : TxnKind}
    (hport : s.copyOnPort kind = true) (hj : s.jobOnPort = some j) (resp : MResponse) :
    Moves L s g (s.freePort.readDone j resp) g := by
  obtain ⟨hactive, hgr⟩ := jobOnPort_some hj
  have ends {k : NoteKind} (hk : k.ofJob) : Moves L s g (s.freePort.endActive j.job k 1) g := by
    have := endActive_moves ho hg ⟨hactive, fun _ => ⟨kind, hport⟩⟩ hk (show 1 ≤ 65535 by decide)
    rwa [if_pos hgr] at this
  unfold State.readDone
  split
  · exact ends (by simp [NoteKind.ofJob])
  · split
    · exact ends (by simp [NoteKind.ofJob])
    · exact (PortMove.readOn kind j _ hport hactive hgr).single

theorem writeDone_moves [Fact (¬ L.idle)] (ho : s.Obeys L) (hg : g.ending = false) {j : ActiveJob}
    {kind : TxnKind}
    (hport : s.copyOnPort kind = true) (hj : s.jobOnPort = some j) (o : BusOutcome) :
    Moves L s g (s.freePort.writeDone j o) g := by
  obtain ⟨hactive, hgr⟩ := jobOnPort_some hj
  have may : s.MayEnd j := ⟨hactive, fun _ => ⟨kind, hport⟩⟩
  have ends {k : NoteKind} (hk : k.ofJob) {d : Nat} (hd : d ≤ 65535) :
      Moves L s g (s.freePort.endActive j.job k d) g := by
    have := endActive_moves ho hg may hk hd
    rwa [if_pos hgr] at this
  unfold State.writeDone
  split
  · exact ends (by simp [NoteKind.ofJob]) (by decide)
  · split
    · exact ends (by simp [NoteKind.ofJob]) (by decide)
    · split
      · have := endDone_moves ho hg may
        rwa [if_pos hgr] at this
      · next hmore => exact (PortMove.writeOn kind j hport hactive hgr hmore).single

theorem copyReadResponse_moves [Fact (¬ L.idle)] (ho : s.Obeys L) (resp : MResponse) :
    Moves L s .rest (s.copyReadResponse resp) .rest := by
  unfold State.copyReadResponse
  split
  · next hport =>
    refine Moves.trans ?_ arbitrate_moves
    split
    · next j hj => exact readDone_moves ho rfl hport hj resp
    · next hj => exact (PortMove.discard .read hport hj).single
  · exact .refl

theorem copyWriteResponse_moves [Fact (¬ L.idle)] (ho : s.Obeys L) (o : BusOutcome) :
    Moves L s .rest (s.copyWriteResponse o) .rest := by
  unfold State.copyWriteResponse
  split
  · next hport =>
    refine Moves.trans ?_ arbitrate_moves
    split
    · next j hj => exact writeDone_moves ho rfl hport hj o
    · next hj => exact (PortMove.discard .write hport hj).single
  · exact .refl

end

end Sys2Proof.Machine
end

section
/-! PROOFS: every event is a run of moves, but that the two resets and the four setting commands have one
update of their own (`Jump`). -/

namespace Sys2Proof.Machine

section
variable {L : Laws} {s t : State} {g h k : Ghost}

/-! ### The link (R168 to R173) -/

theorem link_moves (x : Link) (h : x.response = none ∨ x.response = s.link.response) :
    Moves L s g { s with link := x } g := by
  refine (PortMove.link x fun r hr => .inl ?_).single
  rcases h with h | h
  · rw [h] at hr; cases hr
  · rw [← h]; exact hr

theorem received_moves (bs : List Byte) : Moves L s g (s.received bs) g := link_moves _ (.inr rfl)

theorem reply_moves (x : Status) {ws : List Word} (h : L.ranged → ws.length ≤ 30) :
    Moves L s g (s.reply x ws) g :=
  (PortMove.link _ fun r hr => .inr fun _ hq _ => by cases hr; exact h hq).single

theorem refusal_moves (bs : List Byte) (x : Status) : Moves L s g ((s.received bs).reply x []) g :=
  (received_moves bs).trans (reply_moves x fun _ => Nat.zero_le _)

theorem clearing_moves (x : Clears) : Moves L s g (s.clearing x) g := by
  cases x with
  | nothing => exact .refl
  | notesLost =>
    exact (PortMove.notes { s.notes with lost := false } (List.Sublist.refl _) rfl rfl fun _ => rfl).single
  | resetSeen => exact link_moves _ (.inr rfl)

/-- What becomes of a request: outside REQUEST nothing, a refusal by the controller, or the answer of the
block that owns the command (R168 to R171). -/
theorem takeCommand_cases {α : Type} (s : State) (code : Byte) (parse : List Word → Option α)
    (req : Request) (act : State → α → Answer) :
    s.takeCommand code parse req act = s ∨
    (∃ bs x, s.takeCommand code parse req act = (s.received bs).reply x []) ∨
    ∃ x, parse req.args = some x ∧
      s.takeCommand code parse req act =
        (((act (s.received (requestBytes code req)) x).state.reply
          (act (s.received (requestBytes code req)) x).status
          (act (s.received (requestBytes code req)) x).words).clearing
          (act (s.received (requestBytes code req)) x).clears) := by
  unfold State.takeCommand
  split
  · exact .inl rfl
  · split
    · exact .inr (.inl ⟨_, _, rfl⟩)
    · simp only
      split
      · exact .inr (.inl ⟨_, _, rfl⟩)
      · split
        · exact .inr (.inl ⟨_, _, rfl⟩)
        · next x hx => exact .inr (.inr ⟨x, hx, rfl⟩)

theorem takeCommand_moves {α : Type} {code : Byte} {parse : List Word → Option α} {req : Request}
    {act : State → α → Answer} (ho : s.Obeys L)
    (hact : ∀ {u : State}, u.Obeys L → ∀ x, parse req.args = some x → AnswerMoves L u (act u x)) :
    Moves L s .rest (s.takeCommand code parse req act) .rest := by
  rcases takeCommand_cases s code parse req act with h | ⟨bs, x, h⟩ | ⟨x, hx, h⟩ <;> rw [h]
  · exact .refl
  · exact refusal_moves bs x
  · have received : Moves L s .rest (s.received (requestBytes code req)) .rest := received_moves _
    obtain ⟨m, hw⟩ := hact (received.obeys ho) x hx
    exact ((received.trans m).trans (reply_moves _ hw)).trans (clearing_moves _)

/-! ### The ranges of arguments (R175, R179) -/

theorem readRange_some {lo hi n : Nat} {w : Word} (h : readRange lo hi w = some n) :
    lo ≤ n ∧ n ≤ hi := by
  unfold readRange at h
  split at h
  · cases h; assumption
  · cases h

theorem argsRange_some {lo hi n : Nat} {ws : List Word} (h : argsRange lo hi ws = some n) :
    lo ≤ n ∧ n ≤ hi := by
  unfold argsRange at h
  split at h
  · exact readRange_some h
  · cases h

theorem dividerOf_some {n k : Nat} (h : dividerOf n = some k) : 1 ≤ k ∧ k ≤ 16 := by
  unfold dividerOf at h
  split at h
  · cases h; assumption
  · cases h

theorem sourcesOf_some {n : Nat} {m : ApSet} (hn : n < 256) (h : sourcesOf n = some m) : m ≠ 0 := by
  unfold sourcesOf at h
  split at h
  · cases h
  · next hz =>
    cases h
    intro e
    have := congrArg BitVec.toNat e
    simp only [BitVec.toNat_ofNat] at this
    rw [Nat.mod_eq_of_lt (by omega)] at this
    exact hz (by simpa using this)

theorem byte_lt (w : Word) (i : Nat) : Word.byte w i < 256 := Nat.mod_lt _ (by decide)

theorem low_le (w : Word) : Word.low w ≤ 65535 := by
  have : Word.low w < 65536 := Nat.mod_lt _ (by decide)
  omega

theorem readApChange_inRange {kind v v2 : Word} {c : ApChange} (h : readApChange kind v v2 = some c) :
    ApChange.InRange c := by
  unfold readApChange at h
  split at h
  · cases h; trivial
  · split at h
    · next hv =>
      obtain ⟨m, hm, rfl⟩ := Option.map_eq_some_iff.1 h
      exact sourcesOf_some hv hm
    · cases h
  · simp only [Option.bind_eq_bind, Option.bind_eq_some_iff] at h
    obtain ⟨p, _, oe, _, h⟩ := h
    split at h
    · cases h; trivial
    · cases h
  · simp only [Option.bind_eq_bind, Option.bind_eq_some_iff] at h
    obtain ⟨st, _, h⟩ := h
    split at h
    · cases h; exact low_le v
    · cases h
  · obtain ⟨k, hk, rfl⟩ := Option.map_eq_some_iff.1 h
    exact dividerOf_some hk
  · cases h

theorem argsApertureModify_some {ws : List Word} {x : ApId × ApChange × Nat}
    (h : argsApertureModify ws = some x) : x.2.2 ≤ 255 ∧ ApChange.InRange x.2.1 := by
  unfold argsApertureModify at h
  split at h
  · simp only [Option.bind_eq_bind, Option.bind_eq_some_iff, Option.some.injEq] at h
    obtain ⟨a, _, n, hn, c, hc, rfl⟩ := h
    exact ⟨(readRange_some hn).2, readApChange_inRange hc⟩
  · cases h

theorem argsApertureOff_some {ws : List Word} {x : ApId × Nat} (h : argsApertureOff ws = some x) :
    x.2 ≤ 255 := by
  unfold argsApertureOff at h
  split at h
  · simp only [Option.bind_eq_bind, Option.bind_eq_some_iff, Option.some.injEq] at h
    obtain ⟨a, _, n, hn, rfl⟩ := h
    exact (readRange_some hn).2
  · cases h

theorem argsSlotRetire_some {ws : List Word} {x : SlotId × Nat} (h : argsSlotRetire ws = some x) :
    x.2 ≤ 255 := by
  unfold argsSlotRetire at h
  split at h
  · simp only [Option.bind_eq_bind, Option.bind_eq_some_iff, Option.some.injEq] at h
    obtain ⟨a, _, n, hn, rfl⟩ := h
    exact (readRange_some hn).2
  · cases h

theorem argsSetOverflow_some {ws : List Word} {x : RingId × Overflow × Nat}
    (h : argsSetOverflow ws = some x) : x.2.2 ≤ 255 := by
  unfold argsSetOverflow at h
  split at h
  · simp only [Option.bind_eq_bind, Option.bind_eq_some_iff, Option.some.injEq] at h
    obtain ⟨a, _, o, _, n, hn, rfl⟩ := h
    exact (readRange_some hn).2
  · cases h

theorem argsRingSetup_some {ws : List Word} {x : RingId × Nat × Overflow}
    (h : argsRingSetup ws = some x) :
    12 ≤ x.2.1 ∧ x.2.1 ≤ 24 := by
  unfold argsRingSetup at h
  split at h
  · simp only [Option.bind_eq_bind, Option.bind_eq_some_iff, Option.some.injEq] at h
    obtain ⟨a, _, n, hn, o, _, rfl⟩ := h
    exact readRange_some hn
  · cases h

theorem argsCopy_some {ws : List Word} {x : CopyArgs} (h : argsCopy ws = some x) :
    x.dest.toNat % 8 = 0 := by
  unfold argsCopy at h
  split at h
  · simp only [Option.bind_eq_bind, Option.bind_eq_some_iff] at h
    obtain ⟨a, _, b, _, h⟩ := h
    split at h
    · cases h; assumption
    · cases h
  · cases h

theorem argsApertureSetup_some {ws : List Word} {x : SetupArgs} (h : argsApertureSetup ws = some x)
    (e : Nat)
    (he : 12 ≤ e ∧ e ≤ 24) : { x.config with windowSize := e }.InRange := by
  unfold argsApertureSetup at h
  split at h
  · simp only [Option.bind_eq_bind, Option.bind_eq_some_iff] at h
    obtain ⟨a, _, r, _, role, _, line, _, m, hm, k, hk, p, _, oe, _, st, _, h⟩ := h
    split at h
    · cases h
      exact ⟨dividerOf_some hk, low_le _, sourcesOf_some (byte_lt _ _) hm, he⟩
    · cases h
  · cases h

theorem argsScheduleSetup_some {ws : List Word} {x : ScheduleArgs}
    (h : argsScheduleSetup ws = some x) :
    x.delay ≤ 255 ∧ x.burst ≤ 64 ∧ x.gap ≤ 255 ∧ x.bursts ≤ 255 := by
  unfold argsScheduleSetup at h
  split at h
  · simp only [Option.bind_eq_bind, Option.bind_eq_some_iff, Option.some.injEq] at h
    obtain ⟨r, _, d, hd, n, hn, g, hg, b, hb, st, _, rfl⟩ := h
    exact ⟨(readRange_some hd).2, (readRange_some hn).2, (readRange_some hg).2, (readRange_some hb).2⟩
  · cases h

/-! ### Schedule commands and queries (R98, R99, R102, R176 to R185) -/

theorem actScheduleSetup_moves (x : ScheduleArgs)
    (hx : x.delay ≤ 255 ∧ x.burst ≤ 64 ∧ x.gap ≤ 255 ∧ x.bursts ≤ 255) (ho : s.Obeys L) :
    AnswerMoves L s (actScheduleSetup s x) := by
  obtain ⟨hd, hb, hg, hn⟩ := hx
  unfold actScheduleSetup
  split
  · refine done_moves (PortMove.sched x.ring _ fun hq => ?_).single
    have h := (ho.ranged hq).schedules x.ring
    exact ⟨hd, hb, hg, hn, h.remaining, h.burstsDone⟩
  · exact deny_moves _

theorem actScheduleStart_moves (r : RingId) (ho : s.Obeys L) : AnswerMoves L s
    (actScheduleStart s r) := by
  unfold actScheduleStart
  split
  · exact done_moves (PortMove.sched r _ fun hq => ((ho.ranged hq).schedules r).started).single
  · exact deny_moves _

theorem query_moves {ws : List Word} (h : L.ranged → ws.length ≤ 30) : AnswerMoves L s
    (s.doneWith ws) :=
  ⟨.refl, h⟩

theorem length_flatMap_of_length {α : Type} {f : α → List Word} {n : Nat} (h : ∀ x, (f x).length = n)
    (l : List α) : (l.flatMap f).length = n * l.length := by
  induction l with
  | nil => simp
  | cons x l ih => simp [ih, h, Nat.mul_add, Nat.add_comm]

theorem jobWords_length (h : s.InRange) : s.jobWords.length ≤ 30 := by
  have hc := h.jobCount
  have hq : (s.copy.queued.flatMap fun j => j.words 0).length = 5 * s.copy.queued.length :=
    length_flatMap_of_length (n := 5) (fun _ => rfl) _
  have ha : (s.copy.active.toList.flatMap fun j => j.job.words j.flagBits).length =
      5 * s.copy.active.toList.length := length_flatMap_of_length (n := 5) (fun _ => rfl) _
  simp only [State.jobWords, List.length_cons, List.length_append, hq, ha]
  simp only [CopyEngine.count] at hc
  omega

theorem changeWords_length (q : ChangeQueue) (n : Nat) : (q.words n).length ≤ 30 := by
  have hw : ((q.shown n).flatMap Change.words).length = 4 * (q.shown n).length :=
    length_flatMap_of_length (n := 4) (fun _ => rfl) _
  have hs : (q.shown n).length ≤ 7 := List.length_take_le _ _
  simp only [ChangeQueue.words, List.length_cons, hw]
  omega

theorem configWords_length (a : ApId) (c : Option ApConfig) : (configWords a c).length = 5 := by
  cases c <;> rfl

theorem apertureWords_length (a : ApId) : (s.apertureWords a).length = 7 := by
  simp [State.apertureWords, configWords_length]

theorem actReadNotes_moves [opening : Fact (¬ L.plain)] (n : Nat) (hn : n ≤ 8) : AnswerMoves L s (actReadNotes s n) := by
  refine ⟨(PortMove.notes { s.notes with queue := s.notes.queue.drop n } (List.drop_sublist n _)
    rfl rfl fun h => absurd h opening.out).single, fun _ => ?_⟩
  have hw : ((s.notes.queue.take n).flatMap Note.words).length = 3 * (s.notes.queue.take n).length :=
    length_flatMap_of_length (n := 3) (fun _ => rfl) _
  have ht : (s.notes.queue.take n).length ≤ n := List.length_take_le _ _
  simp only [actReadNotes, List.length_cons, hw]
  omega

theorem actBoundaryCommand_moves [Fact (¬ L.idle)] [Fact (¬ L.still)] [Fact (¬ L.calm)]
    (order : List ApId)
    (x : BoundaryTarget) (ho : s.Obeys L) :
    AnswerMoves L s (actBoundaryCommand order s x) := by
  cases x with
  | line l => exact done_moves (lineEvent_moves ho l order)
  | aperture a =>
    simp only [actBoundaryCommand]
    split
    · exact done_moves (boundaryAt_moves ho a)
    · exact deny_moves _

/-! ### Pins, clock and buses -/

theorem sampled_moves {x : Lines} (hd : x.divisor = s.lines.divisor) (ha : x.edgeA = s.lines.edgeA)
    (hb : x.edgeB = s.lines.edgeB) (hs : x.edgeSnap = s.lines.edgeSnap)
    (hp : x.periods = s.lines.periods) : Moves L s g { s with lines := x } g :=
  (PortMove.lines x hd ha hb hs (.inl hp.le)).single

theorem sampleFrame_moves [Fact (¬ L.idle)] [Fact (¬ L.still)] [Fact (¬ L.calm)] (ho : s.Obeys L)
    (line : FrameLine)
    (level : Bool) (order : List ApId) :
    Moves L s .rest (s.sampleFrame line level order) .rest := by
  cases line with
  | a =>
    have m : Moves L s .rest { s with lines := { s.lines with levelA := level } } .rest :=
      sampled_moves rfl rfl rfl rfl rfl
    simp only [State.sampleFrame]
    split
    · exact m.trans (lineEvent_moves (m.obeys ho) .a order)
    · exact m
  | b =>
    have m : Moves L s .rest { s with lines := { s.lines with levelB := level } } .rest :=
      sampled_moves rfl rfl rfl rfl rfl
    simp only [State.sampleFrame]
    split
    · exact m.trans (lineEvent_moves (m.obeys ho) .b order)
    · exact m

theorem sampleSnap_moves (ho : s.Obeys L) (level : Bool) : Moves L s g (s.sampleSnap level) g := by
  have m : Moves L s g { s with lines := { s.lines with levelSnap := level } } g :=
    sampled_moves rfl rfl rfl rfl rfl
  simp only [State.sampleSnap]
  split
  · exact m.trans (snapEvent_moves (m.obeys ho))
  · exact m

theorem runPendingAt_moves [Fact (¬ L.idle)] [Fact (¬ L.still)] [Fact (¬ L.calm)] (ho : s.Obeys L)
    (a : ApId) :
    Moves L s .rest (s.runPendingAt a) .rest := by
  unfold State.runPendingAt
  split
  · have m := runBoundary_moves ho a
    exact m.trans (finish_moves (m.obeys ho) [])
  · exact .refl

theorem refclkPeriod_moves : Moves L s g s.refclkPeriod g := by
  unfold State.refclkPeriod
  split
  · next h => exact (PortMove.lines { s.lines with periods := s.lines.periods + 1 } rfl rfl rfl rfl (.inr h)).single
  · exact .refl

theorem tick_moves [Fact (¬ L.still)] [Fact (¬ L.calm)] : Moves L s g s.tick g := by
  unfold State.tick
  split
  · have m : Moves L s g { s with lines := { s.lines with periods := 0 } } g :=
      (PortMove.lines { s.lines with periods := 0 } rfl rfl rfl rfl (.inl (Nat.zero_le _))).single
    exact m.trans (PortMove.tick (L := L)).single
  · exact .refl

theorem stallTimeout_moves [Fact (¬ L.idle)] [Fact (¬ L.still)] [Fact (¬ L.calm)] (ho : s.Obeys L) :
    Moves L s .rest s.stallTimeout .rest := by
  unfold State.stallTimeout
  split
  · next t a base hp =>
    have fault : Moves L s .rest (s.answerFault t) .rest :=
      answerFault_moves t fun x y e => by rw [hp] at e; cases e
    have note : Note.InRange
        { kind := .consumerTimeout, ring := s.ringOf a, aperture := some a,
          frame := some t.address.toNat, detail := t.source.val } := by
      refine ⟨fun f hf => ?_, fun _ => rfl, nofun, fun e => absurd rfl e, ?_⟩
      · cases hf; exact ⟨by have := t.address.isLt; omega, .inl rfl⟩
      · show t.source.val ≤ 65535
        omega
    have m := fault.trans (raise_moves fun _ _ _ => note)
    exact m.trans (finish_moves (m.obeys ho) [])
  · exact .refl

theorem lockExpiry_moves [Fact (¬ L.idle)] [Fact (¬ L.still)] [Fact (¬ L.calm)] (ho : s.Obeys L) :
    Moves L s .rest s.lockExpiry .rest := by
  unfold State.lockExpiry
  split
  · next o src hl =>
    have close : Moves L s .rest { s with steering := { s.steering with lock := .closed } } .rest :=
      (PortMove.lock .closed nofun).single
    have note : Note.InRange
        { kind := .lockExpired, ring := o.bind s.ringOf, aperture := o, detail := src.val } := by
      refine ⟨nofun, nofun, nofun, fun e => absurd rfl e, ?_⟩
      show src.val ≤ 65535
      omega
    have m := close.trans (raise_moves fun _ _ _ => note)
    exact m.trans (finish_moves (m.obeys ho) [])
  · exact .refl

theorem presentA_moves [Fact (¬ L.idle)] [Fact (¬ L.still)] [Fact (¬ L.calm)] (ho : s.Obeys L)
    (t : Txn) :
    Moves L s .rest (s.presentA t) .rest := by
  have m : Moves L s .rest _ .rest := (PortMove.waiting (s.steering.waiting ++ [t])).single
  exact m.trans (drainAll_moves (m.obeys ho))

theorem responseFault_moves (t : Txn) (tg : Option Target) (o : BusOutcome)
    (htg : L.placed → L.ranged → L.recorded → ∀ x f, tg = some x → x.frame = some f → frameOk f) :
    Moves L s g (s.responseFault t tg o) g := by
  unfold State.responseFault
  split
  · next tg =>
    have note {u : State} : Moves L u g (u.raise
        { kind := .memoryFault, ring := some tg.ring, aperture := some tg.ap, slot := some tg.slot,
          frame := tg.frame, detail := pairDetail (TxnKind.code t.kind) t.source.val }) g := by
      refine raise_moves fun hp hq hr => ⟨fun f hf => ?_, nofun, nofun, fun e => absurd rfl e, ?_⟩
      · have := htg hp hq hr tg f rfl hf
        exact ⟨this.2, .inr this.1⟩
      · show TxnKind.code t.kind * 256 + t.source.val ≤ 65535
        cases t.kind <;> simp only [TxnKind.code] <;> omega
    unfold State.memoryFault
    simp only
    split
    · exact (Move.marks tg.slot _ true _ _).single.trans note
    · exact note
  · exact .refl

theorem steeringResponse_moves [Fact (¬ L.idle)] [Fact (¬ L.still)] [Fact (¬ L.calm)] (ho : s.Obeys L)
    (resp : MResponse) (order : List ApId) :
    Moves L s .rest (s.steeringResponse resp order) .rest := by
  unfold State.steeringResponse
  split
  · next t tg hp =>
    split
    · next hport =>
      have answer : Moves L s .rest (s.freePort.answer t resp.outcome resp.data) .rest :=
        (PortMove.complete t tg _ _ hp hport).single
      have fault := answer.trans (responseFault_moves t tg resp.outcome
        fun hpl hq hr x f e hf => (ho.recorded hpl hq hr).target t x f (e ▸ hp) hf)
      have pending := fault.trans (runPending_moves (fault.obeys ho) order)
      have accept := pending.trans (acceptNext_moves (pending.obeys ho))
      have again := accept.trans (runPending_moves (accept.obeys ho) order)
      have grant := again.trans arbitrate_moves
      exact grant.trans (drainAll_moves (grant.obeys ho))
    · exact .refl
  · exact .refl

end

end Sys2Proof.Machine
end

section
/-! PROOFS: what an event does, said once (`exec_run`), and the state after a reset (O60). -/

namespace Sys2Proof.Machine

/-! ### The state after a reset -/

theorem reset_placed : State.reset.Placed := placed_of_check (by decide)

theorem reset_inRange : State.reset.InRange := inRange_of_check (by decide)

/-- Settles O60: each law holds of the reset state, where its check evaluates. -/
theorem resetMeetsTheInvariants : Obligations.ResetMeetsTheInvariants := by
  unfold Obligations.ResetMeetsTheInvariants
  exact ⟨reset_inRange, ringsCounted_of_check (by decide), recordsInRange_of_check (by decide),
    reset_placed, apart_of_check (by decide), settled_of_check (by decide),
    copyClaims_of_check (by decide), steeringClaims_of_check (by decide), holders_of_check (by decide),
    prompt_of_check (by decide), queueLaws_of_check (by decide)⟩

/-! ### Events with an update of their own -/

/-- The one update of a reset or a setting command. -/
inductive Jump : Instr → State → State → Prop where
  | core (req : Request) (levels : LineLevels) (s : State) :
      Jump (.resetCore req levels) s (s.coreReset levels)
  | power (levels : LineLevels) (selLow : Bool) (s : State) :
      Jump (.powerOnReset levels selLow) s (s.powerOnReset levels selLow)
  | timebase (req : Request) (s : State) (n : Nat) (range : 1 ≤ n ∧ n ≤ 1024) :
      Jump (.timebase req) s { s with lines := { s.lines with divisor := n, periods := 0 } }
  | lineSetup (req : Request) (s : State) (line : PinLine) (e : Edge) :
      Jump (.lineSetup req) s { s with lines := s.lines.withEdge line e }
  | copyShare (req : Request) (s : State) (n : Nat) (range : n ≤ 15) :
      Jump (.copyShare req) s { s with arbiter := { s.arbiter with share := n } }
  | noteMask (req : Request) (s : State) (mask : BitVec 19) (attn : Bool) :
      Jump (.noteMask req) s { s with notes := { s.notes with mask := mask, attnEnable := attn } }

/-- What an event does: a run of moves, or its own update between two runs. -/
inductive Run (L : Laws) (i : Instr) (s t : State) : Prop where
  | moves (m : Moves L s .rest t .rest)
  | jump (u v : State) (before : Moves L s .rest u .rest) (jump : Jump i u v)
      (after : Moves L v .rest t .rest)

/-! ### The laws after a reset -/

section
variable {L : Laws} {s t : State}

theorem resetStall_books (s : State) : SameBooks s s.resetStall := by
  unfold State.resetStall
  split
  · exact answerFault_books s _
  · exact ⟨rfl, rfl, rfl, rfl⟩

theorem resetStall_moves [Fact (¬ L.calm)] {g : Ghost} : Moves L s g s.resetStall g := by
  unfold State.resetStall
  split
  · next t a b n hp => exact answerFault_moves t fun x y e => by rw [hp] at e; cases e
  · exact .refl

theorem coreReset_eq (s : State) (levels : LineLevels) :
    s.coreReset levels =
      { State.powerOn levels false s.resetStall.pending s.resetStall.freeReads with
        link := { s.resetStall.link with resetSeen := true }
        steering := s.resetStall.steering.afterCoreReset
        arbiter := { Arbiter.atReset with
          port := s.resetStall.arbiter.port, steeringClaim := s.resetStall.arbiter.steeringClaim }
        aOut := s.resetStall.aOut } := rfl

theorem powerOn_placed (levels : LineLevels) (selLow : Bool) (p : List Instr) (n : Nat) :
    (State.powerOn levels selLow p n).Placed := reset_placed.congr rfl rfl rfl

theorem coreReset_placed (levels : LineLevels) : (s.coreReset levels).Placed :=
  reset_placed.congr rfl rfl rfl

/-- The ranges of a state whose records, queues and engine are those of the reset state. -/
theorem inRange_of_reset (slots : t.slots = State.reset.slots) (rings : t.rings = State.reset.rings)
    (aps : t.apertures = State.reset.apertures) (scheds : t.schedules = State.reset.schedules)
    (changes : t.changes = State.reset.changes) (copy : t.copy = State.reset.copy)
    (count : t.arbiter.shareCount = 0) (share : t.arbiter.share = 4)
    (notes : t.notes = State.reset.notes)
    (divisor : t.lines.divisor = 1) (periods : t.lines.periods = 0)
    (stall : ∀ x a b n, t.steering.phase ≠ .stalled x a b n) (lock : t.steering.lock = .closed) :
    t.InRange := by
  have h := reset_inRange
  refine ⟨?_, ?_, ?_, ?_, changes ▸ h.entries, changes ▸ h.changes, changes ▸ h.nextSeq,
    copy ▸ h.jobs, copy ▸ h.jobCount, ?_, copy ▸ h.nextId, copy ▸ h.staging, ?_, ?_, notes ▸ h.notes, ?_,
    ?_, fun x a b n e => absurd e (stall x a b _), fun o src n e => by rw [lock] at e; cases e⟩
  · simpa only [State.slot, slots] using h.slots
  · simpa only [State.ring, rings] using h.rings
  · simpa only [State.ap, aps] using h.apertures
  · simpa only [State.sched, scheds] using h.schedules
  · simpa only [State.slot, slots, copy] using h.counted
  · omega
  · omega
  · omega
  · omega

theorem powerOn_inRange (levels : LineLevels) (selLow : Bool) (p : List Instr) (n : Nat) :
    (State.powerOn levels selLow p n).InRange :=
  inRange_of_reset rfl rfl rfl rfl rfl rfl rfl rfl rfl rfl rfl nofun rfl

theorem afterCoreReset_phase (x : Steering) :
    (∃ t, x.afterCoreReset.phase = .inFlight t none) ∨ x.afterCoreReset.phase = .opened := by
  unfold Steering.afterCoreReset
  cases x.phase with
  | inFlight t tg => exact .inl ⟨t, rfl⟩
  | opened => exact .inr rfl
  | stalled t a b n => exact .inr rfl

theorem coreReset_inRange (levels : LineLevels) : (s.coreReset levels).InRange := by
  refine inRange_of_reset rfl rfl rfl rfl rfl rfl rfl rfl rfl rfl rfl (fun x a b n e => ?_) rfl
  rcases afterCoreReset_phase s.resetStall.steering with ⟨t, h⟩ | h
  · exact absurd (h.symm.trans e) nofun
  · exact absurd (h.symm.trans e) nofun

theorem coreReset_recorded (h : s.RecordsInRange) (levels : LineLevels) :
    (s.coreReset levels).RecordsInRange := by
  refine ⟨nofun, fun t tg f e => ?_, fun x hx => ?_⟩
  · rcases afterCoreReset_phase s.resetStall.steering with ⟨t, h⟩ | h
    · exact absurd (h.symm.trans e) nofun
    · exact absurd (h.symm.trans e) nofun
  · refine h.response x ?_
    have : s.resetStall.link = s.link := by
      unfold State.resetStall State.answerFault
      split
      · split <;> rfl
      · rfl
    rwa [← this]

/-- An update of its own keeps the laws that runs lean on. -/
theorem Jump.obeys {i : Instr} (h : Jump i s t) (ho : s.Obeys L) : t.Obeys L := by
  cases h with
  | core req levels =>
    exact ⟨fun _ => coreReset_placed levels, fun _ => coreReset_inRange levels,
      fun hp hq hr => coreReset_recorded (ho.recorded hp hq hr) levels, fun _ => List.nodup_singleton 1⟩
  | power levels selLow =>
    exact ⟨fun _ => powerOn_placed .., fun _ => powerOn_inRange .., fun _ _ _ =>
      ⟨nofun, nofun, nofun⟩, fun _ => List.nodup_singleton 1⟩
  | timebase req s n range =>
    exact ⟨fun hp => (ho.placed hp).congr rfl rfl rfl, fun hq =>
      { ho.ranged hq with divisor := range, periods := by have := range.1; exact this },
      fun hp hq hr => { ho.recorded hp hq hr with }, ho.unique⟩
  | lineSetup req s line e =>
    refine ⟨fun hp => (ho.placed hp).congr rfl rfl rfl, fun hq => ?_,
      fun hp hq hr => { ho.recorded hp hq hr with }, ho.unique⟩
    have hd : (s.lines.withEdge line e).divisor = s.lines.divisor := by cases line <;> rfl
    have hp : (s.lines.withEdge line e).periods = s.lines.periods := by cases line <;> rfl
    exact { ho.ranged hq with
      divisor := by rw [hd]; exact (ho.ranged hq).divisor
      periods := by rw [hd, hp]; exact (ho.ranged hq).periods }
  | copyShare req s n range =>
    exact ⟨fun hp => (ho.placed hp).congr rfl rfl rfl, fun hq => { ho.ranged hq with share := range },
      fun hp hq hr => { ho.recorded hp hq hr with }, ho.unique⟩
  | noteMask req s mask attn =>
    exact ⟨fun hp => (ho.placed hp).congr rfl rfl rfl, fun hq => { ho.ranged hq with },
      fun hp hq hr => { ho.recorded hp hq hr with }, ho.unique⟩

/-! ### Every event -/

/-- A command whose block makes an update of its own and then answers DONE. -/
theorem takeCommand_run {α : Type} {i : Instr} {code : Byte} {parse : List Word → Option α}
    {req : Request}
    {act : State → α → Answer} (ho : s.Obeys L)
    (hact : ∀ {u : State}, u.Obeys L → ∀ x, parse req.args = some x →
      ∃ v w, Jump i u v ∧ Moves L v .rest w .rest ∧ act u x = w.done) :
    Run L i s (s.takeCommand code parse req act) := by
  rcases takeCommand_cases s code parse req act with h | ⟨bs, x, h⟩ | ⟨x, hx, h⟩ <;> rw [h]
  · exact .moves .refl
  · exact .moves (refusal_moves bs x)
  · have received : Moves L s .rest (s.received (requestBytes code req)) .rest := received_moves _
    obtain ⟨v, w, j, m, e⟩ := hact (received.obeys ho) x hx
    rw [e]
    exact .jump _ v received j (m.trans (reply_moves .done fun _ => Nat.zero_le _))

/-- A command whose block answers by moves. -/
theorem command_run {α : Type} {i : Instr} {code : Byte} {parse : List Word → Option α}
    {req : Request}
    {act : State → α → Answer} (ho : s.Obeys L)
    (hact : ∀ {u : State}, u.Obeys L → ∀ x, parse req.args = some x → AnswerMoves L u (act u x)) :
    Run L i s (s.takeCommand code parse req act) := .moves (takeCommand_moves ho hact)

theorem unknownCommand_moves (code : Byte) (req : Request) :
    Moves L s .rest (s.unknownCommand code req) .rest := by
  unfold State.unknownCommand
  split
  · exact .refl
  · split
    · exact refusal_moves _ _
    · simp only
      split <;> exact refusal_moves _ _

theorem selFall_moves : Moves L s .rest s.selFall .rest := by
  unfold State.selFall
  split
  · exact .refl
  · exact link_moves _ (.inl rfl)

theorem responseComplete_moves : Moves L s .rest s.responseComplete .rest := by
  unfold State.responseComplete
  split
  · exact link_moves _ (.inr rfl)
  · exact .refl

theorem excessCount_moves (code count : Byte) : Moves L s .rest (s.excessCount code count) .rest := by
  unfold State.excessCount
  split
  · exact refusal_moves _ _
  · exact .refl

/-- What every event but the end of a request does to the part. -/
theorem exec_run_event [Fact (¬ L.idle)] [Fact (¬ L.calm)] [Fact (¬ L.still)] (ho : s.Obeys L) :
    (i : Instr) → Instr.linkCommand i = none →
    ∃ t, exec i s = .next t ∧ Run L i s t
  | .selFall, _ => ⟨_, rfl, .moves selFall_moves⟩
  | .selRise _, _ => ⟨_, rfl, .moves (link_moves _ (.inl rfl))⟩
  | .responseComplete, _ => ⟨_, rfl, .moves responseComplete_moves⟩
  | .excessArgumentCount code count, _ => ⟨_, rfl, .moves (excessCount_moves code count)⟩
  | .badCommand code req, _ => ⟨_, rfl, .moves (unknownCommand_moves code req)⟩
  | .powerOnReset levels selLow, _ => ⟨_, rfl, .jump _ _ .refl (.power levels selLow s) .refl⟩
  | .boundaryEvent line level order, _ => ⟨_, rfl, .moves (sampleFrame_moves ho line level order)⟩
  | .pendingBoundaryRun a, _ => ⟨_, rfl, .moves (runPendingAt_moves ho a)⟩
  | .snapEdge level, _ => ⟨_, rfl, .moves (sampleSnap_moves ho level)⟩
  | .tick, _ => ⟨_, rfl, .moves tick_moves⟩
  | .stallTimeout, _ => ⟨_, rfl, .moves (stallTimeout_moves ho)⟩
  | .lockExpiry, _ => ⟨_, rfl, .moves (lockExpiry_moves ho)⟩
  | .aSideTransaction t, _ => ⟨_, rfl, .moves (presentA_moves ho t)⟩
  | .steeringResponse resp order, _ => ⟨_, rfl, .moves (steeringResponse_moves ho resp order)⟩
  | .copyReadResponse resp, _ => ⟨_, rfl, .moves (copyReadResponse_moves ho resp)⟩
  | .copyWriteResponse o, _ => ⟨_, rfl, .moves (copyWriteResponse_moves ho o)⟩
  | .refclkPeriod, _ => ⟨_, rfl, .moves refclkPeriod_moves⟩

/-- What the end of a request does to the part. -/
theorem exec_run_command [Fact (¬ L.idle)] [Fact (¬ L.still)] [Fact (¬ L.calm)] [Fact (¬ L.plain)] (ho : s.Obeys L) :
    (i : Instr) → Instr.linkCommand i ≠ none →
    ∃ t, exec i s = .next t ∧ Run L i s t
  | .summary _, _ => ⟨_, rfl, command_run ho fun _ _ _ => ⟨.refl, fun _ => by simp [actSummary, State.summaryWords]⟩⟩
  | .resetCore req levels, _ => ⟨_, rfl, takeCommand_run ho fun {u} ho _ _ =>
      ⟨_, _, .core req levels u, finish_moves ((Jump.core req levels u).obeys ho) [], rfl⟩⟩
  | .timebase req, _ => ⟨_, rfl, takeCommand_run ho fun {u} _ n hn =>
      ⟨_, _, .timebase req u n (argsRange_some hn), .refl, rfl⟩⟩
  | .lineSetup req, _ => ⟨_, rfl, takeCommand_run ho fun {u} _ x _ =>
      ⟨_, _, .lineSetup req u x.1 x.2, .refl, rfl⟩⟩
  | .boundary _ order, _ => ⟨_, rfl, command_run ho fun ho x _ => actBoundaryCommand_moves order x ho⟩
  | .snap _, _ => ⟨_, rfl, command_run ho fun ho _ _ => done_moves (snapEvent_moves ho)⟩
  | .ringSetup _, _ => ⟨_, rfl, command_run ho fun _ x hx => actRingSetup_moves x (argsRingSetup_some hx)⟩
  | .ringOn _, _ => ⟨_, rfl, command_run ho fun _ r _ => actRingOn_moves r⟩
  | .ringOff _, _ => ⟨_, rfl, command_run ho fun ho r _ => actRingOff_moves ho r⟩
  | .ringFlush _, _ => ⟨_, rfl, command_run ho fun ho x _ => actRingFlush_moves x ho⟩
  | .slotAssign _, _ => ⟨_, rfl, command_run ho fun _ x _ => actSlotAssign_moves x⟩
  | .slotRetire _, _ => ⟨_, rfl, command_run ho fun ho x hx =>
      actSlotRetire_moves x (argsSlotRetire_some hx) ho⟩
  | .apertureSetup _, _ => ⟨_, rfl, command_run ho fun ho x hx =>
      actApertureSetup_moves x (argsApertureSetup_some hx) ho⟩
  | .apertureOn _, _ => ⟨_, rfl, command_run ho fun ho a _ => actApertureOn_moves a ho⟩
  | .apertureOff _, _ => ⟨_, rfl, command_run ho fun ho x hx =>
      actApertureOff_moves x (argsApertureOff_some hx) ho⟩
  | .apertureModify _, _ => ⟨_, rfl, command_run ho fun ho x hx =>
      actApertureModify_moves x (argsApertureModify_some hx).1 (argsApertureModify_some hx).2 ho⟩
  | .setOverflow _, _ => ⟨_, rfl, command_run ho fun _ x hx =>
      actSetOverflow_moves x (argsSetOverflow_some hx)⟩
  | .cancelChange _, _ => ⟨_, rfl, command_run ho fun _ n _ => actCancelChange_moves n⟩
  | .scheduleSetup _, _ => ⟨_, rfl, command_run ho fun ho x hx =>
      actScheduleSetup_moves x (argsScheduleSetup_some hx) ho⟩
  | .scheduleStart _, _ => ⟨_, rfl, command_run ho fun ho r _ => actScheduleStart_moves r ho⟩
  | .scheduleStop _, _ => ⟨_, rfl, command_run ho fun ho r _ => done_moves (stopSchedule_moves ho r)⟩
  | .release _, _ => ⟨_, rfl, command_run ho fun ho x _ => actRelease_moves x ho⟩
  | .copy _, _ => ⟨_, rfl, command_run ho fun ho x hx => actCopy_moves x (argsCopy_some hx) ho⟩
  | .copyCancel _, _ => ⟨_, rfl, command_run ho fun ho n _ => actCopyCancel_moves n ho⟩
  | .copyShare req, _ => ⟨_, rfl, takeCommand_run ho fun {u} _ n hn =>
      ⟨_, _, .copyShare req u n (argsRange_some hn).2, .refl, rfl⟩⟩
  | .queryRing _, _ => ⟨_, rfl, command_run ho fun _ _ _ => query_moves fun _ => by
      simp [State.ringWords]⟩
  | .querySlot _, _ => ⟨_, rfl, command_run ho fun _ _ _ => query_moves fun _ => by
      simp [State.slotWords]⟩
  | .queryAperture _, _ => ⟨_, rfl, command_run ho fun _ _ _ => query_moves fun _ => by
      rw [apertureWords_length]; decide⟩
  | .queryChanges _, _ => ⟨_, rfl, command_run ho fun _ _ _ => query_moves fun _ => changeWords_length _ _⟩
  | .queryJobs _, _ => ⟨_, rfl, command_run ho fun ho _ _ => query_moves fun hq =>
      jobWords_length (ho.ranged hq)⟩
  | .readNotes _, _ => ⟨_, rfl, command_run ho fun _ n hn => actReadNotes_moves n (argsRange_some hn).2⟩
  | .noteMask req, _ => ⟨_, rfl, takeCommand_run ho fun {u} _ x _ =>
      ⟨_, _, .noteMask req u x.1 x.2, .refl, rfl⟩⟩

/-- Every event of the part answers a next state, reached by a run. -/
theorem exec_run [Fact (¬ L.idle)] [Fact (¬ L.calm)] [Fact (¬ L.still)] [Fact (¬ L.plain)] (i : Instr) (ho : s.Obeys L) :
    ∃ t, exec i s = .next t ∧ Run L i s t := by
  by_cases h : Instr.linkCommand i = none
  · exact exec_run_event ho i h
  · exact exec_run_command ho i h

/-- A property that moves and updates keep is kept by every event. -/
theorem Run.keeps {P : State → Ghost → Prop} {i : Instr} (r : Run L i s t)
    (move : ∀ {s t g h}, P s g → Move L s g t h → P t h)
    (jump : ∀ {u v}, P u .rest → Jump i u v → P v .rest) (h : P s .rest) : P t .rest := by
  cases r with
  | moves m => exact m.keeps move h
  | jump u v before j after => exact after.keeps move (jump (before.keeps move h) j)

theorem State.Obeys.withPending (ho : s.Obeys L) (q : List Instr) : State.Obeys
    { s with pending := q } L :=
  ⟨fun hp => (ho.placed hp).congr rfl rfl rfl, fun hq => { ho.ranged hq with },
    fun hp hq hr => { ho.recorded hp hq hr with }, ho.unique⟩

/-- A property of the state that moves and updates keep is kept by every step. -/
theorem step_keeps {P : State → Ghost → Prop} (ho : s.Obeys L)
    (pending : ∀ {s : State} {q : List Instr}, P s .rest → P { s with pending := q } .rest)
    (move : ∀ {s t g h}, P s g → Move L s g t h → P t h)
    (jump : ∀ {i u v}, P u .rest → Jump i u v → P v .rest) (hs : step s = .next t) (h : P s .rest)
    (free : L.Free) : P t .rest := by
  obtain ⟨moving, stirring, working, opening⟩ := free
  have : Fact (¬ L.calm) := ⟨moving⟩
  have : Fact (¬ L.still) := ⟨stirring⟩
  have : Fact (¬ L.idle) := ⟨working⟩
  have : Fact (¬ L.plain) := ⟨opening⟩
  unfold step at hs
  split at hs
  · cases hs; exact h
  · next c rest hpend =>
    obtain ⟨u, hu, r⟩ := exec_run c (ho.withPending rest)
    rw [hs] at hu
    cases hu
    exact r.keeps move jump (pending h)

end

end Sys2Proof.Machine
end

section
/-! PROOFS: the invariants of single records that every step keeps (O54, O55), that every command
completes (O2), and the settings that only their commands change (O10). -/

namespace Sys2Proof.Machine

/-! ### Rings count their slots and consumers (R8, R10) -/

section
variable {s t : State}

theorem State.RingsCounted.congr (h : s.RingsCounted) (slots : t.slots = s.slots)
    (rings : t.rings = s.rings) : t.RingsCounted := by
  have hs (x : SlotId) : t.slot x = s.slot x := by simp only [State.slot, slots]
  have hr (r : RingId) : t.ring r = s.ring r := by simp only [State.ring, rings]
  exact ⟨by simpa only [hr] using h.consumers, by simpa only [hr] using h.pool,
    by simpa only [hr, hs] using h.counted⟩

theorem State.RingsCounted.setSlot (h : s.RingsCounted) (sl : SlotId) (x : Slot)
    (hx : x.home = (s.slot sl).home) : (s.setSlot sl x).RingsCounted := by
  have hs (y : SlotId) : ((s.setSlot sl x).slot y).home = (s.slot y).home := by
    rw [setSlot_slot]
    split
    · next e => rw [hx, e]
    · rfl
  exact ⟨h.consumers, h.pool, by simpa only [hs, setSlot_ring] using h.counted⟩

theorem State.RingsCounted.setRing (h : s.RingsCounted) (r : RingId) (x : Ring)
    (pool : x.pool = (s.ring r).pool)
    (few : (allAps.filter fun a => ApSet.has x.consumers a).length ≤ 3) :
    (s.setRing r x).RingsCounted := by
  have hp (q : RingId) : ((s.setRing r x).ring q).pool = (s.ring q).pool := by
    rw [setRing_ring]
    split
    · next e => rw [pool, e]
    · rfl
  refine ⟨fun q => ?_, by simpa only [hp] using h.pool,
    fun q => (hp q).trans (h.counted q)⟩
  rw [setRing_ring]
  split
  · exact few
  · exact h.consumers q

/-- A ring record with other lists. -/
theorem State.RingsCounted.relist (h : s.RingsCounted) (r : RingId) (x : Ring)
    (pool : x.pool = (s.ring r).pool) (consumers : x.consumers = (s.ring r).consumers) :
    (s.setRing r x).RingsCounted := h.setRing r x pool (consumers ▸ h.consumers r)

theorem State.RingsCounted.leaveReady (h : s.RingsCounted) (r : RingId) (sl : SlotId) :
    (s.leaveReady r sl).RingsCounted := h.relist r _ rfl rfl

theorem State.RingsCounted.joinFreeTail (h : s.RingsCounted) (r : RingId) (sl : SlotId) :
    (s.joinFreeTail r sl).RingsCounted :=
  (h.setSlot sl (s.slot sl).freed rfl).relist r _ rfl rfl

theorem State.RingsCounted.setApState (h : s.RingsCounted) (a : ApId) (x : ApState) :
    (s.setApState a x).RingsCounted := h.congr rfl rfl

theorem State.RingsCounted.fill (h : s.RingsCounted) (a : ApId) (sl : SlotId) (n : Nat) :
    (s.fill a sl n).RingsCounted := (h.setSlot sl ((s.slot sl).filling n) rfl).congr rfl rfl

/-- The slots of a ring. -/
def State.tenants (s : State) (r : RingId) : List SlotId :=
  allSlots.filter fun sl => decide ((s.slot sl).home.map (·.ring) = some r)

theorem mem_tenants {r : RingId} {sl : SlotId} :
    sl ∈ s.tenants r ↔ (s.slot sl).home.map (·.ring) = some r := by
  simp [State.tenants, mem_allSlots]

theorem tenants_nodup (s : State) (r : RingId) : (s.tenants r).Nodup :=
  List.Nodup.filter _ (by decide)

theorem State.RingsCounted.of_tenants (consumers : ∀ r, (t.ring r).consumers = (s.ring r).consumers)
    (h : s.RingsCounted) (counted : ∀ r, (t.ring r).pool = (t.tenants r).length) : t.RingsCounted where
  consumers r := by rw [consumers]; exact h.consumers r
  pool r := by
    rw [counted]
    exact (List.length_filter_le _ _).trans (by decide)
  counted := counted

theorem State.RingsCounted.retire (h : s.RingsCounted) (sl : SlotId) : (s.retire sl).RingsCounted := by
  cases hk : (s.slot sl).home with
  | none => rwa [State.retire, hk]
  | some k =>
    rw [retire_of_home s hk]
    refine .of_tenants (fun r => ?_) h fun r => ?_
    · simp only [setSlot_ring, setRing_ring]
      split
      · next e => rw [e]
      · rfl
    have perm : ((s.retire sl).tenants r).Perm ((s.tenants r).erase sl) := by
      refine (List.perm_ext_iff_of_nodup (tenants_nodup _ _) ((tenants_nodup s r).erase sl)).2
        fun x => ?_
      rw [(tenants_nodup s r).mem_erase_iff, mem_tenants, mem_tenants, retire_of_home s hk, setSlot_slot]
      by_cases e : sl = x
      · simp [e, Slot.unassigned]
      · simp [e, Ne.symm e]
    have hcount := h.counted r
    rw [← retire_of_home s hk, perm.length_eq]
    simp only [retire_of_home s hk, setSlot_ring, setRing_ring]
    by_cases e : k.ring = r
    · have hm : sl ∈ s.tenants r := mem_tenants.2 (by rw [hk, ← e]; rfl)
      rw [if_pos e, List.length_erase_of_mem hm, e, hcount]
      rfl
    · have hm : sl ∉ s.tenants r := fun hm => e (by simpa [hk] using mem_tenants.1 hm)
      rw [if_neg e, List.erase_of_not_mem hm, hcount]
      rfl

theorem State.RingsCounted.assign (h : s.RingsCounted) {sl : SlotId} (r : RingId) (base : Addr)
    (home : (s.slot sl).home = none) : (s.assignSlot sl r base).RingsCounted := by
  rw [assignSlot_eq]
  refine .of_tenants (fun q => ?_) h fun q => ?_
  · simp only [setRing_ring, setSlot_ring]
    split
    · next e => rw [e]
    · rfl
  have hcount := h.counted q
  have hnot : sl ∉ s.tenants q := fun hm => by simpa [home] using mem_tenants.1 hm
  have hnew (x : SlotId) :
      x ∈ (s.setSlot sl { Slot.unassigned with home := some { ring := r, base := base } }).tenants q ↔
        (if sl = x then r = q else x ∈ s.tenants q) := by
    rw [mem_tenants, mem_tenants, setSlot_slot]
    split <;> simp
  by_cases e : r = q
  · subst e
    have perm : ((s.setSlot sl { Slot.unassigned with home := some { ring := r, base := base } }).tenants
        r).Perm (sl :: s.tenants r) := by
      refine (List.perm_ext_iff_of_nodup (tenants_nodup _ _)
        (List.nodup_cons.2 ⟨hnot, tenants_nodup s r⟩)).2 fun x => ?_
      rw [hnew, List.mem_cons]
      by_cases e : sl = x <;> simp [e, eq_comm]
    rw [setRing_ring_self]
    exact (congrArg (· + 1) hcount).trans perm.length_eq.symm
  · have perm : ((s.setSlot sl { Slot.unassigned with home := some { ring := r, base := base } }).tenants
        q).Perm (s.tenants q) := by
      refine (List.perm_ext_iff_of_nodup (tenants_nodup _ _) (tenants_nodup s q)).2 fun x => ?_
      rw [hnew]
      by_cases hx : sl = x
      · subst hx; simp [e, hnot]
      · simp [hx]
    rw [setRing_ring_ne _ _ e]
    exact hcount.trans perm.length_eq.symm

theorem size_eq_filter (m : ApSet) :
    ApSet.size m = (allAps.filter fun a => ApSet.has m a).length := by
  have hr : List.range 8 = allAps.map (·.val) := by decide
  rw [ApSet.size, hr, List.filter_map, List.length_map]
  rfl

/-- A set of fewer than three has at most three with one more member (R8, R178). -/
theorem insert_few {m : ApSet} {a : ApId} (h : ApSet.size m < 3) :
    (allAps.filter fun b => ApSet.has (ApSet.insert m a) b).length ≤ 3 := by
  have sub : (allAps.filter fun b => ApSet.has (ApSet.insert m a) b) ⊆
      a :: allAps.filter fun b => ApSet.has m b := fun b hb => by
    obtain ⟨_, hb⟩ := List.mem_filter.1 hb
    rcases Bool.or_eq_true_iff.1 ((has_insert m a b).symm.trans hb) with e | e
    · exact List.mem_cons_of_mem _ (List.mem_filter.2 ⟨mem_allAps b, e⟩)
    · simp_all
  have hle := (List.Nodup.subperm (List.Nodup.filter _ (by decide)) sub).length_le
  rw [size_eq_filter] at h
  simp only [List.length_cons] at hle
  omega

theorem erase_few {m : ApSet} {a : ApId} (h : (allAps.filter fun b => ApSet.has m b).length ≤ 3) :
    (allAps.filter fun b => ApSet.has (ApSet.erase m a) b).length ≤ 3 := by
  refine (List.Sublist.length_le ?_).trans h
  refine List.monotone_filter_right _ fun b hb => ?_
  rw [has_erase] at hb
  simp_all

theorem State.RingsCounted.applyRetirement (h : s.RingsCounted) (sl : SlotId) :
    (s.applyRetirement sl).RingsCounted := by
  have hmark (e : Change) :
      ((s.removeChange e).setSlot sl { s.slot sl with retirePending := false }).RingsCounted :=
    (h.congr (t := s.removeChange e) rfl rfl).setSlot sl _ rfl
  rcases applyRetirement_cases s sl with ⟨_, e⟩ | ⟨x, _, _, e⟩ | ⟨x, _, floor, e⟩ <;> rw [e]
  · exact h
  · exact (hmark x).congr rfl rfl
  · exact ((hmark x).retire sl).congr rfl rfl

theorem Move.ringsCounted {L : Laws} {g g' : Ghost} (m : Move L s g t g') (h : s.RingsCounted) :
    t.RingsCounted := by
  cases m with
  | port m => exact h.congr m.books.slots m.books.rings
  | marks sl => exact h.setSlot sl _ rfl
  | pass r sl a _ => exact h.setSlot sl _ rfl
  | unpass sl a => exact h.setSlot sl _ rfl
  | toReady a r sl _ => exact (h.setApState a .unbound).relist r _ rfl rfl
  | returnHead a r sl _ =>
    exact ((h.setApState a .unbound).setSlot sl (s.slot sl).freed rfl).relist r _ rfl rfl
  | advance r => exact h.relist r _ rfl rfl
  | takeFree a r sl rest n _ _ _ _ =>
    exact (h.relist r { s.ring r with free := rest } rfl rfl).fill a sl n
  | steal a r sl n _ _ _ _ _ => exact (h.leaveReady r sl).fill a sl n
  | producerOn a c _ _ _ _ _ =>
    exact (h.relist c.ring { s.ring c.ring with producer := some a } rfl rfl).congr rfl rfl
  | producerOff a r _ =>
    exact (h.congr (t := s.setAp a { s.ap a with state := .off, deferred := false }) rfl rfl).relist r _
      rfl rfl
  | acquire a r sl _ _ _ =>
    exact (h.setSlot sl { s.slot sl with holders := ApSet.insert (s.slot sl).holders a }
      rfl).setApState a _
  | release a c sl _ _ =>
    exact (h.setSlot sl { s.slot sl with holders := ApSet.erase (s.slot sl).holders a }
      rfl).setApState a _
  | consumerOn a c _ _ _ few _ =>
    exact (h.setRing c.ring { s.ring c.ring with
      consumers := ApSet.insert (s.ring c.ring).consumers a } rfl (insert_few few)).congr rfl rfl
  | consumerOff a c u _ _ _ _ =>
    exact (h.congr (t := s.setAp a { s.ap a with state := .off, deferred := false }) rfl rfl).setRing
      c.ring _ rfl (erase_few (h.consumers c.ring))
  | toHeld r sl _ _ => exact (h.leaveReady r sl).relist r _ rfl rfl
  | toFree r sl _ _ => exact (h.leaveReady r sl).joinFreeTail r sl
  | freeHeld r sl _ _ =>
    have hl : (s.leaveHeld r sl).RingsCounted := h.relist r _ rfl rfl
    exact hl.joinFreeTail r sl
  | settle sl _ => exact h.applyRetirement sl
  | retireNow sl _ _ _ _ _ => exact h.retire sl
  | assign sl r base home _ _ => exact h.assign r base home
  | size r e o _ _ => exact h.relist r _ rfl rfl
  | overflow r o => exact h.relist r _ rfl rfl
  | power r on _ => exact h.relist r _ rfl rfl
  | dropEntry e _ =>
    have hd : (s.removeChange e).RingsCounted := h.congr rfl rfl
    rcases clearRetirePending_cases (s.removeChange e) e.op with ⟨_, k⟩ | ⟨x, _, k⟩ <;> rw [k]
    · exact hd
    · exact hd.setSlot x _ rfl
  | queueRetire sl k _ _ _ _ _ =>
    exact (h.setSlot sl { s.slot sl with retirePending := true } rfl).congr rfl rfl
  | startJob j _ _ =>
    exact (h.setSlot j.slot { s.slot j.slot with jobs := (s.slot j.slot).jobs + 1 } rfl).congr rfl rfl
  | queueJob j _ _ =>
    exact (h.setSlot j.slot { s.slot j.slot with jobs := (s.slot j.slot).jobs + 1 } rfl).congr rfl rfl
  | dropActive j _ _ =>
    exact (h.setSlot j.job.slot { s.slot j.job.slot with jobs := (s.slot j.job.slot).jobs - 1 }
      rfl).congr (by split <;> rfl) (by split <;> rfl)
  | dropQueued j _ =>
    exact (h.setSlot j.slot { s.slot j.slot with jobs := (s.slot j.slot).jobs - 1 } rfl).congr rfl rfl
  | activateNext =>
    rcases activateNext_cases s with ⟨_, k⟩ | ⟨_, _, _, k⟩ <;> rw [k] <;> exact h.congr rfl rfl
  | _ => exact h.congr rfl rfl

theorem reset_ringsCounted : State.reset.RingsCounted := ringsCounted_of_check (by decide)

theorem Jump.ringsCounted {i : Instr} (j : Jump i s t) (h : s.RingsCounted) : t.RingsCounted := by
  cases j with
  | core => exact reset_ringsCounted.congr rfl rfl
  | power => exact reset_ringsCounted.congr rfl rfl
  | lineSetup _ _ line e => exact h.congr rfl rfl
  | _ => exact h.congr rfl rfl

end

/-! ### The obligations -/

theorem State.obeys_none (s : State) : s.Obeys Laws.none := ⟨nofun, nofun, nofun, nofun⟩

/-- Every step keeps the laws that its moves lean on. -/
theorem step_obeys {L : Laws} {s t : State} (ho : s.Obeys L) (hs : step s = .next t)
    (free : L.Free) : t.Obeys L :=
  step_keeps (P := fun s _ => s.Obeys L) ho (fun {_ q} h => h.withPending q) (fun h m => m.obeys h)
    (fun h j => j.obeys h) hs ho free

/-- Settles O54: each kind of move keeps the ranges it leans on. -/
theorem rangesAreKept : Obligations.RangesAreKept := by
  unfold Obligations.RangesAreKept
  refine ⟨fun s t h hs => ?_, fun s t h hs => ?_, fun s t hp hq hr hs => ?_⟩
  · have ho : s.Obeys { Laws.none with ranged := True } := ⟨nofun, fun _ => h, nofun, nofun⟩
    exact (step_obeys ho hs ⟨id, id, id, id⟩).ranged trivial
  · exact step_keeps (P := fun s _ => s.RingsCounted) s.obeys_none (fun h => h.congr rfl rfl)
      (fun h m => m.ringsCounted h) (fun h j => j.ringsCounted h) hs h ⟨id, id, id, id⟩
  · have ho : s.Obeys { Laws.none with placed := True, ranged := True, recorded := True } :=
      ⟨fun _ => hp, fun _ => hq, fun _ _ _ => hr, nofun⟩
    have ht := step_obeys ho hs ⟨id, id, id, id⟩
    exact ⟨ht.recorded trivial trivial trivial, fun r => length_lists_le (ht.placed trivial) r⟩

/-- Settles O55: the placement law is kept by each move that leans on it. -/
theorem placementIsKept : Obligations.PlacementIsKept := by
  unfold Obligations.PlacementIsKept
  intro s t h hs
  have ho : s.Obeys { Laws.none with placed := True } := ⟨fun _ => h, nofun, nofun, nofun⟩
  exact (step_obeys ho hs ⟨id, id, id, id⟩).placed trivial

theorem Jump.pending {i : Instr} {s t : State} (j : Jump i s t) : t.pending = s.pending := by
  cases j with
  | core =>
    have := moving_none
    exact (resetStall_moves (L := Laws.none) (s := s) (g := .rest)).settings.pending
  | _ => rfl

/-- Settles O2: every event answers a next state (`exec_run`), and no move touches the queue. -/
theorem everyCommandCompletes : Obligations.EveryCommandCompletes := by
  unfold Obligations.EveryCommandCompletes
  intro c s
  have := moving_none
  have := stirring_none
  have := working_none
  have := opening_none
  obtain ⟨t, ht, r⟩ := exec_run c s.obeys_none
  refine ⟨t, ht, ?_⟩
  cases r with
  | moves m => exact m.settings.pending
  | jump u v before j after =>
    exact after.settings.pending.trans (j.pending.trans before.settings.pending)

end Sys2Proof.Machine
end

section
/-! PROOFS: every step keeps the windows of ON apertures and the regions of slots apart (O56). -/

namespace Sys2Proof.Machine

section
variable {s t : State}

theorem overlaps_symm (a la b lb : Nat) : overlaps a la b lb = overlaps b lb a la := by
  unfold overlaps; exact Bool.and_comm _ _

/-- A part without a new window, a new region or a new slot size. -/
structure NoNewGround (s t : State) : Prop where
  home   : ∀ sl, (t.slot sl).home = (s.slot sl).home ∨ (t.slot sl).home = none
  size   : ∀ r, (t.ring r).slotSize = (s.ring r).slotSize
  config : ∀ a, (t.ap a).config = (s.ap a).config
  on     : ∀ a, t.apOn a = true → s.apOn a = true

theorem NoNewGround.refl (s : State) : NoNewGround s s :=
  ⟨fun _ => .inl rfl, fun _ => rfl, fun _ => rfl, fun _ h => h⟩

theorem NoNewGround.trans {u : State} (h : NoNewGround s t) (k : NoNewGround t u) : NoNewGround s u where
  home sl := (k.home sl).elim (fun e => e ▸ h.home sl) .inr
  size r := (k.size r).trans (h.size r)
  config a := (k.config a).trans (h.config a)
  on a e := h.on a (k.on a e)

theorem NoNewGround.congr (slots : t.slots = s.slots) (rings : t.rings = s.rings)
    (aps : t.apertures = s.apertures) : NoNewGround s t :=
  ⟨fun sl => .inl (by simp only [State.slot, slots]), fun r => by simp only [State.ring, rings],
    fun a => by simp only [State.ap, aps], fun a h => by rwa [State.apOn, State.ap, aps] at h⟩

theorem NoNewGround.setSlot (sl : SlotId) (x : Slot) (hx : x.home = (s.slot sl).home ∨ x.home = none) :
    NoNewGround s (s.setSlot sl x) where
  home y := by
    rw [setSlot_slot]
    split
    · next e => exact e ▸ hx
    · exact .inl rfl
  size _ := rfl
  config _ := rfl
  on _ h := h

theorem NoNewGround.setRing (r : RingId) (x : Ring) (hx : x.slotSize = (s.ring r).slotSize) :
    NoNewGround s (s.setRing r x) where
  home _ := .inl rfl
  size q := by
    rw [setRing_ring]
    split
    · next e => rw [hx, e]
    · rfl
  config _ := rfl
  on _ h := h

theorem NoNewGround.setAp (a : ApId) (x : Aperture) (config : x.config = (s.ap a).config)
    (on : x.state ≠ .off → s.apOn a = true) : NoNewGround s (s.setAp a x) where
  home _ := .inl rfl
  size _ := rfl
  config b := by
    rw [setAp_ap]
    split
    · next e => rw [config, e]
    · rfl
  on b h := by
    rw [apOn_eq_true, setAp_ap] at h
    split at h
    · next e => exact e ▸ on h
    · exact apOn_eq_true.2 h

theorem NoNewGround.setApState {a : ApId} (x : ApState) (on : s.apOn a = true) :
    NoNewGround s (s.setApState a x) := .setAp a _ rfl fun _ => on

theorem NoNewGround.leaveReady (r : RingId) (sl : SlotId) : NoNewGround s (s.leaveReady r sl) :=
  .setRing r _ rfl

theorem NoNewGround.joinFreeTail (r : RingId) (sl : SlotId) : NoNewGround s (s.joinFreeTail r sl) :=
  (NoNewGround.setSlot sl (s.slot sl).freed (.inl rfl)).trans (.setRing r _ rfl)

theorem NoNewGround.joinFreeHead (r : RingId) (sl : SlotId) : NoNewGround s (s.joinFreeHead r sl) :=
  (NoNewGround.setSlot sl (s.slot sl).freed (.inl rfl)).trans (.setRing r _ rfl)

theorem NoNewGround.fill {a : ApId} (sl : SlotId) (n : Nat) (on : s.apOn a = true) :
    NoNewGround s (s.fill a sl n) :=
  (NoNewGround.setSlot sl ((s.slot sl).filling n) (.inl rfl)).trans (.setApState _ on)

theorem NoNewGround.retire (sl : SlotId) : NoNewGround s (s.retire sl) := by
  cases hk : (s.slot sl).home with
  | none => rw [State.retire, hk]; exact .refl s
  | some k =>
    rw [retire_of_home s hk]
    exact (NoNewGround.setRing k.ring _ (by rfl)).trans (.setSlot sl Slot.unassigned (.inr rfl))

theorem NoNewGround.applyRetirement (sl : SlotId) : NoNewGround s (s.applyRetirement sl) := by
  have hmark (e : Change) :
      NoNewGround s ((s.removeChange e).setSlot sl { s.slot sl with retirePending := false }) :=
    (NoNewGround.congr (s := s) (t := s.removeChange e) rfl rfl rfl).trans
      (.setSlot sl { s.slot sl with retirePending := false } (.inl rfl))
  rcases applyRetirement_cases s sl with ⟨_, e⟩ | ⟨x, _, _, e⟩ | ⟨x, _, floor, e⟩ <;> rw [e]
  · exact .refl s
  · exact (hmark x).trans (.congr rfl rfl rfl)
  · exact ((hmark x).trans (.retire sl)).trans (.congr rfl rfl rfl)

theorem NoNewGround.slotBytes (h : NoNewGround s t) (r : RingId) : t.slotBytes r = s.slotBytes r := by
  simp only [State.slotBytes, h.size]

theorem NoNewGround.home_some (h : NoNewGround s t) {sl : SlotId} {k : Home}
    (e : (t.slot sl).home = some k) : (s.slot sl).home = some k := by
  rcases h.home sl with hs | hs
  · exact hs ▸ e
  · rw [hs] at e; cases e

theorem State.WindowsApart.of_ground (w : s.WindowsApart) (h : NoNewGround s t) : t.WindowsApart where
  windowSized a c hc := by rw [h.size]; exact w.windowSized a c (h.config a ▸ hc)
  regionSized sl k hk := by rw [h.size]; exact w.regionSized sl k (h.home_some hk)
  windows a b c d n ha hb hc hd :=
    w.windows a b c d n (h.on a ha) (h.on b hb) (h.config a ▸ hc) (h.config b ▸ hd)
  regions a c sl k ha hc hk := by
    rw [h.slotBytes]; exact w.regions a c sl k (h.on a ha) (h.config a ▸ hc) (h.home_some hk)
  slots sl sm k l n hk hl := by
    rw [h.slotBytes, h.slotBytes]; exact w.slots sl sm k l n (h.home_some hk) (h.home_some hl)

/-- One aperture has a window of its ring's size that is free while it is ON; the others and the regions
stay. -/
theorem State.WindowsApart.setAp (w : s.WindowsApart) (a : ApId) (x : Aperture)
    (sized : ∀ c, x.config = some c → (s.ring c.ring).slotSize = some c.windowSize)
    (free : ∀ c, x.config = some c → x.state ≠ .off → s.MoveFree a c.windowBase (2 ^ c.windowSize)) :
    (s.setAp a x).WindowsApart where
  windowSized b c hc := by
    rw [setAp_ap] at hc
    split at hc
    · exact sized c hc
    · exact w.windowSized b c hc
  regionSized := w.regionSized
  windows b e c d n hb he hc hd := by
    rw [apOn_eq_true, setAp_ap] at hb he
    rw [setAp_ap] at hc hd
    split at hb
    · next hba =>
      rw [if_pos hba] at hc
      have hne : a ≠ e := fun k => n (hba.symm.trans k)
      rw [if_neg hne] at he hd
      exact (free c hc hb).1 e d hne.symm (apOn_eq_true.2 he) hd
    · next hba =>
      rw [if_neg hba] at hc
      split at he
      · next hea =>
        rw [if_pos hea] at hd
        rw [overlaps_symm]
        exact (free d hd he).1 b c (Ne.symm hba) (apOn_eq_true.2 hb) hc
      · next hea =>
        rw [if_neg hea] at hd
        exact w.windows b e c d n (apOn_eq_true.2 hb) (apOn_eq_true.2 he) hc hd
  regions b c sl k hb hc hk := by
    rw [apOn_eq_true, setAp_ap] at hb
    rw [setAp_ap] at hc
    split at hb
    · next hba =>
      rw [if_pos hba] at hc
      exact (free c hc hb).2 sl k hk
    · next hba =>
      rw [if_neg hba] at hc
      exact w.regions b c sl k (apOn_eq_true.2 hb) hc hk
  slots := w.slots

/-- The window of an ON aperture is free for it to stay in. -/
theorem State.WindowsApart.own (w : s.WindowsApart) {a : ApId} {c : ApConfig} (on : s.apOn a = true)
    (hc : (s.ap a).config = some c) : s.MoveFree a c.windowBase (2 ^ c.windowSize) :=
  ⟨fun b d n hb hd => w.windows a b c d n.symm on hb hc hd, fun sl k hk => w.regions a c sl k on hc hk⟩

theorem State.WindowFree.moveFree {base : Addr} {n : Nat} (h : s.WindowFree base n) (a : ApId) :
    s.MoveFree a base n := ⟨fun b d _ => h.1 b d, h.2⟩

/-- An aperture turns ON where its window is free. -/
theorem State.WindowsApart.freshOn (w : s.WindowsApart) {a : ApId} {c : ApConfig}
    (config : (s.ap a).config = some c) (window : s.windowTaken c = false) :
    (s.freshOn a).WindowsApart :=
  w.setAp a _ (w.windowSized a) fun d hd _ => by
    cases config.symm.trans hd
    exact ((windowTaken_eq_false_iff s c).1 window).moveFree a

/-- A slot is assigned a region that is free. -/
theorem State.WindowsApart.assign (w : s.WindowsApart) {sl : SlotId} {r : RingId} {base : Addr}
    (size : (s.ring r).slotSize.isSome = true) (free : s.WindowFree base (s.slotBytes r)) :
    (s.setSlot sl { Slot.unassigned with home := some { ring := r, base := base } }).WindowsApart where
  windowSized := w.windowSized
  regionSized x k hk := by
    rw [setSlot_slot] at hk
    split at hk
    · cases hk; exact size
    · exact w.regionSized x k hk
  windows := w.windows
  regions a c x k ha hc hk := by
    rw [setSlot_slot] at hk
    split at hk
    · cases hk
      rw [overlaps_symm]
      exact free.1 a c ha hc
    · exact w.regions a c x k ha hc hk
  slots x y k l n hk hl := by
    rw [setSlot_slot] at hk hl
    split at hk
    · next hx =>
      have hy : sl ≠ y := fun e => n (hx.symm.trans e)
      rw [if_neg hy] at hl
      cases hk
      exact free.2 y l hl
    · split at hl
      · cases hl
        rw [overlaps_symm]
        exact free.2 x k hk
      · exact w.slots x y k l n hk hl

/-- A ring of pool 0 has no slots. -/
theorem State.Placed.no_tenants (h : s.Placed) {r : RingId} (pool : (s.ring r).pool = 0) (sl : SlotId) :
    (s.slot sl).home.map (·.ring) ≠ some r := fun e => by
  have hc := h.conserved r
  rw [pool] at hc
  rcases h.somewhere r sl e with k | k
  · have := List.length_pos_of_mem k; omega
  · rw [k] at hc; simp at hc

/-- The slot size of a ring changes where neither slot nor aperture depends on it (R16). -/
theorem State.WindowsApart.size (w : s.WindowsApart) (p : s.Placed) {r : RingId} {e : Nat} (o : Overflow)
    (fits : s.sizeConflict r e = false) :
    (s.setRing r { s.ring r with slotSize := some e, overflow := o }).WindowsApart := by
  have hnot : ¬ s.sizeConflict r e = true := by rw [fits]; decide
  rw [sizeConflict_iff] at hnot
  have hwin (a : ApId) (c : ApConfig) (hc : (s.ap a).config = some c) (hr : c.ring = r) :
      some e = some c.windowSize := by
    by_contra hne
    have hsize := w.windowSized a c hc
    rw [hr] at hsize
    exact hnot ⟨⟨_, hsize, fun k => hne (congrArg some k.symm)⟩, .inr ⟨a, c, hc, hr⟩⟩
  have hbytes (sl : SlotId) (k : Home) (hk : (s.slot sl).home = some k) :
      (s.setRing r { s.ring r with slotSize := some e, overflow := o }).slotBytes k.ring =
        s.slotBytes k.ring := by
    obtain ⟨f, hf⟩ := Option.isSome_iff_exists.1 (w.regionSized sl k hk)
    rw [slotBytes_of_slotSize hf]
    refine slotBytes_of_slotSize ?_
    rw [setRing_ring]
    split
    · next hr =>
      have hpool : (s.ring r).pool ≠ 0 := fun hp => p.no_tenants hp sl (by rw [hk, hr]; rfl)
      by_contra hne
      exact hnot ⟨⟨f, hr ▸ hf, fun k => hne (congrArg some k.symm)⟩, .inl hpool⟩
    · exact hf
  refine ⟨fun a c hc => ?_, fun sl k hk => ?_, w.windows, fun a c sl k ha hc hk => ?_,
    fun sl sm k l n hk hl => ?_⟩
  · rw [setRing_ring]
    split
    · next hr => exact hwin a c hc hr.symm
    · exact w.windowSized a c hc
  · rw [setRing_ring]
    split
    · rfl
    · exact w.regionSized sl k hk
  · rw [hbytes sl k hk]; exact w.regions a c sl k ha hc hk
  · rw [hbytes sl k hk, hbytes sm l hl]; exact w.slots sl sm k l n hk hl

/-- The moves that bring no new window, region or slot size. -/
theorem Move.apart {L : Laws} (hp : L.placed) {g g' : Ghost} (m : Move L s g t g') (p : s.Placed)
    (w : s.WindowsApart) : t.WindowsApart := by
  cases m with
  | port m => exact w.of_ground (.congr m.books.slots m.books.rings m.books.apertures)
  | marks sl => exact w.of_ground (.setSlot sl _ (.inl rfl))
  | pass r sl a _ => exact w.of_ground (.setSlot sl _ (.inl rfl))
  | unpass sl a => exact w.of_ground (.setSlot sl _ (.inl rfl))
  | count a n d _ => exact w.of_ground (.setAp a _ rfl fun on => apOn_eq_true.2 on)
  | configure a c d n u config ring _ size _ _ window _ =>
    refine w.setAp a _ (fun e he => ?_) fun e he on => ?_
    · cases he
      rw [ring, size]; exact w.windowSized a c config
    · cases he
      rcases window (apOn_eq_true.2 on) with hb | hf
      · rw [hb, size]; exact w.own (apOn_eq_true.2 on) config
      · exact hf
  | setUp a c off size _ =>
    exact w.setAp a _ (fun e he => by cases he; exact size) fun e he on =>
      absurd (apOn_eq_false.1 off) on
  | toReady a r sl k =>
    exact w.of_ground ((NoNewGround.setApState .unbound k.servesAs.1).trans (.setRing r _ rfl))
  | returnHead a r sl k =>
    exact w.of_ground ((NoNewGround.setApState .unbound k.servesAs.1).trans (.joinFreeHead r sl))
  | advance r => exact w.of_ground (.setRing r _ rfl)
  | takeFree a r sl rest n _ on _ _ =>
    exact w.of_ground ((NoNewGround.setRing r { s.ring r with free := rest } rfl).trans (.fill sl n on))
  | steal a r sl n _ _ on _ _ => exact w.of_ground ((NoNewGround.leaveReady r sl).trans (.fill sl n on))
  | unbind a on _ => exact w.of_ground (.setApState _ on)
  | producerOn a c _ config _ _ window =>
    exact (w.freshOn config window).of_ground (.setRing c.ring _ (by rfl))
  | producerOff a r _ =>
    exact w.of_ground ((NoNewGround.setAp a { s.ap a with state := .off, deferred := false } rfl
      fun on => absurd rfl on).trans (.setRing r _ rfl))
  | acquire a r sl _ idle _ =>
    exact w.of_ground ((NoNewGround.setSlot sl
      { s.slot sl with holders := ApSet.insert (s.slot sl).holders a } (.inl rfl)).trans
      (.setApState _ (idle hp).servesAs.1))
  | release a c sl bound _ =>
    exact w.of_ground ((NoNewGround.setSlot sl
      { s.slot sl with holders := ApSet.erase (s.slot sl).holders a } (.inl rfl)).trans
      (.setApState _ (apOn_eq_true.2 (by rw [setSlot_ap, bound]; nofun))))
  | consumerOn a c _ config _ _ window =>
    exact (w.freshOn config window).of_ground (.setRing c.ring _ (by rfl))
  | consumerOff a c u _ _ _ _ =>
    exact w.of_ground ((NoNewGround.setAp a { s.ap a with state := .off, deferred := false } rfl
      fun on => absurd rfl on).trans (.setRing c.ring _ rfl))
  | toHeld r sl _ _ => exact w.of_ground ((NoNewGround.leaveReady r sl).trans (.setRing r _ rfl))
  | toFree r sl _ _ => exact w.of_ground ((NoNewGround.leaveReady r sl).trans (.joinFreeTail r sl))
  | freeHeld r sl _ _ =>
    have hl : NoNewGround s (s.leaveHeld r sl) := .setRing r _ rfl
    exact w.of_ground (hl.trans (.joinFreeTail r sl))
  | settle sl _ => exact w.of_ground (.applyRetirement sl)
  | retireNow sl _ _ _ _ _ => exact w.of_ground (.retire sl)
  | assign sl r base _ size region =>
    rw [assignSlot_eq]
    exact (w.assign size region).of_ground (.setRing r _ rfl)
  | size r e o _ fits => exact w.size p o fits
  | overflow r o => exact w.of_ground (.setRing r _ rfl)
  | power r on _ => exact w.of_ground (.setRing r _ rfl)
  | dropEntry e _ =>
    have hd : NoNewGround s (s.removeChange e) := .congr rfl rfl rfl
    rcases clearRetirePending_cases (s.removeChange e) e.op with ⟨_, k⟩ | ⟨x, _, k⟩ <;> rw [k]
    · exact w.of_ground hd
    · exact w.of_ground (hd.trans (.setSlot x _ (.inl rfl)))
  | queueRetire sl k _ _ _ _ _ =>
    exact w.of_ground ((NoNewGround.setSlot sl { s.slot sl with retirePending := true }
      (.inl rfl)).trans (.congr rfl rfl rfl))
  | startJob j _ _ =>
    exact w.of_ground ((NoNewGround.setSlot j.slot
      { s.slot j.slot with jobs := (s.slot j.slot).jobs + 1 } (.inl rfl)).trans (.congr rfl rfl rfl))
  | queueJob j _ _ =>
    exact w.of_ground ((NoNewGround.setSlot j.slot
      { s.slot j.slot with jobs := (s.slot j.slot).jobs + 1 } (.inl rfl)).trans (.congr rfl rfl rfl))
  | dropActive j _ _ =>
    exact w.of_ground ((NoNewGround.setSlot j.job.slot
      { s.slot j.job.slot with jobs := (s.slot j.job.slot).jobs - 1 } (.inl rfl)).trans
      (.congr (by split <;> rfl) (by split <;> rfl) (by split <;> rfl)))
  | dropQueued j _ =>
    exact w.of_ground ((NoNewGround.setSlot j.slot
      { s.slot j.slot with jobs := (s.slot j.slot).jobs - 1 } (.inl rfl)).trans (.congr rfl rfl rfl))
  | activateNext =>
    rcases activateNext_cases s with ⟨_, k⟩ | ⟨_, _, _, k⟩ <;> rw [k] <;>
      exact w.of_ground (.congr rfl rfl rfl)
  | _ => exact w.of_ground (.congr rfl rfl rfl)

theorem reset_apart : State.reset.WindowsApart := apart_of_check (by decide)

/-- An update of its own leaves the records, or gives them their reset values. -/
theorem Jump.books {i : Instr} (j : Jump i s t) :
    SameBooks s t ∨ SameBooks State.reset t := by
  cases j with
  | core => exact .inr ⟨rfl, rfl, rfl, rfl⟩
  | power => exact .inr ⟨rfl, rfl, rfl, rfl⟩
  | _ => exact .inl ⟨rfl, rfl, rfl, rfl⟩

end

/-- Settles O56: windows and regions come and go by the moves that check them. -/
theorem windowsStayApart : Obligations.WindowsStayApart := by
  unfold Obligations.WindowsStayApart
  intro s t p w hs
  have ho : s.Obeys { Laws.none with placed := True } := ⟨fun _ => p, nofun, nofun, nofun⟩
  refine (step_keeps (P := fun s _ => s.Placed ∧ s.WindowsApart) ho
    (fun h => ⟨h.1.congr rfl rfl rfl, h.2.of_ground (.congr rfl rfl rfl)⟩)
    (fun h m => ⟨m.placed trivial h.1, m.apart trivial h.1 h.2⟩) (fun h j => ?_) hs ⟨p, w⟩ ⟨id, id, id, id⟩).2
  rcases j.books with b | b
  · exact ⟨h.1.congr b.slots b.rings b.apertures, h.2.of_ground (.congr b.slots b.rings b.apertures)⟩
  · exact ⟨reset_placed.congr b.slots b.rings b.apertures,
      reset_apart.of_ground (.congr b.slots b.rings b.apertures)⟩

end Sys2Proof.Machine
end

section
/-! PROOFS: every step keeps the law on holders, and leaves no READY slot that meets the reclamation
condition (O58). -/

namespace Sys2Proof.Machine

section
variable {s t : State}

/-! ### The law on holders (R6) -/

theorem not_has_zero {a : ApId} : ¬ ApSet.has 0 a = true := by simp [ApSet.has]

theorem State.HoldersLaw.holders_eq_zero (h : s.HoldersLaw) {sl : SlotId} (no : ∀ a, ¬ s.views a sl) :
    (s.slot sl).holders = 0 :=
  (ApSet.eq_zero_iff _).2 fun a => Bool.eq_false_iff.2 fun e => no a ((h.holds sl a).1 e)

theorem State.HoldersLaw.not_views (h : s.HoldersLaw) {sl : SlotId} (zero : (s.slot sl).holders = 0)
    (a : ApId) : ¬ s.views a sl := fun v => by
  have := (h.holds sl a).2 v
  rw [zero] at this
  exact not_has_zero this

/-- A slot that no ready list holds has no viewer. -/
theorem State.HoldersLaw.not_views_of_not_ready (h : s.HoldersLaw) {sl : SlotId}
    (no : ∀ r, sl ∉ (s.ring r).ready) (a : ApId) : ¬ s.views a sl := fun v => by
  obtain ⟨_, c, hc, _⟩ := id v
  exact no c.ring (h.ready sl a c v hc)

theorem State.HoldersLaw.not_views_of_noViewer (h : s.HoldersLaw) (p : s.Placed) {r : RingId} {sl : SlotId}
    (ready : sl ∈ (s.ring r).ready) (no : s.noViewer r sl) (a : ApId) : ¬ s.views a sl := fun v => by
  rcases no with zero | idle
  · exact h.not_views zero a v
  · obtain ⟨hb, c, hc, hrole⟩ := id v
    have hm := h.ready sl a c v hc
    have e1 := p.listed r sl (Ring.mem_lists.2 (.inr (.inl ready)))
    have e2 := p.listed c.ring sl (Ring.mem_lists.2 (.inr (.inl hm)))
    have hr : c.ring = r := by rw [e1] at e2; exact (Option.some.inj e2).symm
    exact idle a c hc hrole hr sl hb

theorem State.HoldersLaw.of (h : s.HoldersLaw) (holders : ∀ x, (t.slot x).holders = (s.slot x).holders)
    (views : ∀ a x, t.views a x ↔ s.views a x)
    (config : ∀ a x, s.views a x → (t.ap a).config.map (·.ring) = (s.ap a).config.map (·.ring))
    (kept : ∀ a x r, s.views a x → x ∈ (s.ring r).ready → x ∈ (t.ring r).ready) : t.HoldersLaw where
  holds x a := by rw [holders, h.holds, views]
  ready x a c v hc := by
    have v' := (views a x).1 v
    have e := config a x v'
    rw [hc] at e
    obtain ⟨d, hd, hr⟩ := Option.map_eq_some_iff.1 e.symm
    have hk := kept a x d.ring v' (h.ready x a d v' hd)
    rwa [show d.ring = c.ring from hr] at hk

/-! ### Slots that wait for their reclamation check (R12, R13) -/

/-- The READY slots that meet the reclamation condition are among those still to be checked. -/
def State.UncheckedOnly (s : State) (g : Ghost) : Prop :=
  ∀ r, ∀ x ∈ (s.ring r).ready, s.MeetsReclamation r x → (r, x) ∈ g.unchecked

theorem State.UncheckedOnly.of {g g' : Ghost} (h : s.UncheckedOnly g)
    (mono : ∀ p ∈ g.unchecked, p ∈ g'.unchecked)
    (back : ∀ r, ∀ x ∈ (t.ring r).ready, t.MeetsReclamation r x →
      (x ∈ (s.ring r).ready ∧ s.MeetsReclamation r x) ∨ (r, x) ∈ g'.unchecked) : t.UncheckedOnly g' :=
  fun r x hx hm => (back r x hx hm).elim (fun k => mono _ (h r x k.1 k.2)) id

/-! ### Moves that call for no check -/

/-- A part whose views are the same and where no READY slot meets the condition that did not before. -/
structure Quiet (s t : State) : Prop where
  holders   : ∀ x, (t.slot x).holders = (s.slot x).holders
  passed    : ∀ x a, ApSet.has (t.slot x).passedBy a = true → ApSet.has (s.slot x).passedBy a = true
  views     : ∀ a x, t.views a x ↔ s.views a x
  config    : ∀ a, (t.ap a).config = (s.ap a).config
  sub       : ∀ r, ∀ x ∈ (t.ring r).ready, x ∈ (s.ring r).ready
  kept      : ∀ a x r, s.views a x → x ∈ (s.ring r).ready → x ∈ (t.ring r).ready
  newest    : ∀ r, ∀ x ∈ (t.ring r).ready, (s.ring r).ready.getLast? = some x →
    (t.ring r).ready.getLast? = some x
  consumers : ∀ r a, ApSet.has (s.ring r).consumers a = true → ApSet.has (t.ring r).consumers a = true

theorem Quiet.refl (s : State) : Quiet s s :=
  ⟨fun _ => rfl, fun _ _ h => h, fun _ _ => .rfl, fun _ => rfl, fun _ _ h => h, fun _ _ _ _ h => h,
    fun _ _ _ h => h, fun _ _ h => h⟩

theorem Quiet.trans {u : State} (h : Quiet s t) (k : Quiet t u) : Quiet s u where
  holders x := (k.holders x).trans (h.holders x)
  passed x a e := h.passed x a (k.passed x a e)
  views a x := (k.views a x).trans (h.views a x)
  config a := (k.config a).trans (h.config a)
  sub r x hx := h.sub r x (k.sub r x hx)
  kept a x r v hx := k.kept a x r ((h.views a x).2 v) (h.kept a x r v hx)
  newest r x hx e := k.newest r x hx (h.newest r x (k.sub r x hx) e)
  consumers r a e := k.consumers r a (h.consumers r a e)

theorem views_congr {a : ApId} {x : SlotId} (h : t.ap a = s.ap a) : t.views a x ↔ s.views a x := by
  simp only [State.views, h]

theorem Quiet.congr (slots : t.slots = s.slots) (rings : t.rings = s.rings)
    (aps : t.apertures = s.apertures) : Quiet s t := by
  have hs (x : SlotId) : t.slot x = s.slot x := by simp only [State.slot, slots]
  have hr (r : RingId) : t.ring r = s.ring r := by simp only [State.ring, rings]
  have ha (a : ApId) : t.ap a = s.ap a := by simp only [State.ap, aps]
  exact ⟨fun x => by rw [hs], fun x a h => by rwa [hs] at h, fun a x => by simp only [State.views, ha],
    fun a => by rw [ha], fun r x h => by rwa [hr] at h, fun a x r _ h => by rwa [hr],
    fun r x _ h => by rwa [hr], fun r a h => by rwa [hr]⟩

theorem Quiet.setSlot (sl : SlotId) (x : Slot) (holders : x.holders = (s.slot sl).holders)
    (passed : ∀ a, ApSet.has x.passedBy a = true → ApSet.has (s.slot sl).passedBy a = true) :
    Quiet s (s.setSlot sl x) where
  holders y := by
    rw [setSlot_slot]
    split
    · next e => exact e ▸ holders
    · rfl
  passed y a h := by
    rw [setSlot_slot] at h
    split at h
    · next e => exact e ▸ passed a h
    · exact h
  views _ _ := .rfl
  config _ := rfl
  sub _ _ h := h
  kept _ _ _ _ h := h
  newest _ _ _ h := h
  consumers _ _ h := h

/-- A ring record with the same ready list and no consumer less. -/
theorem Quiet.setRing (r : RingId) (x : Ring) (ready : x.ready = (s.ring r).ready)
    (consumers : ∀ a, ApSet.has (s.ring r).consumers a = true → ApSet.has x.consumers a = true) :
    Quiet s (s.setRing r x) := by
  have hr (q : RingId) : ((s.setRing r x).ring q).ready = (s.ring q).ready := by
    rw [setRing_ring]
    split
    · next e => exact e ▸ ready
    · rfl
  refine ⟨fun _ => rfl, fun _ _ h => h, fun _ _ => .rfl, fun _ => rfl, fun q x h => by rwa [hr] at h,
    fun _ x q _ h => by rwa [hr], fun q x _ h => by rwa [hr], fun q a h => ?_⟩
  rw [setRing_ring]
  split
  · next e => exact consumers a (e ▸ h)
  · exact h

theorem getLast?_erase {α : Type} [DecidableEq α] {l : List α} {x y : α} (hn : l.Nodup)
    (h : l.getLast? = some x) (hx : x ∈ l.erase y) : (l.erase y).getLast? = some x := by
  have hne : x ≠ y := fun e => hn.not_mem_erase (e ▸ hx)
  rw [hn.erase_eq_filter, getLast?_filter_of_last _ _ (fun z hz => ?_), h]
  rw [h] at hz
  cases hz
  simpa using hne

/-- A READY slot that no aperture views leaves the ready list. -/
theorem Quiet.leaveReady (r : RingId) (sl : SlotId) (once : (s.ring r).ready.Nodup)
    (unviewed : ∀ a, ¬ s.views a sl) : Quiet s (s.leaveReady r sl) where
  holders _ := rfl
  passed _ _ h := h
  views _ _ := .rfl
  config _ := rfl
  sub q x hx := by
    rw [State.leaveReady, setRing_ring] at hx
    split at hx
    · next e => exact e ▸ List.mem_of_mem_erase hx
    · exact hx
  kept a x q v hx := by
    rw [State.leaveReady, setRing_ring]
    split
    · next e =>
      have hne : x ≠ sl := fun k => unviewed a (k ▸ v)
      exact (List.mem_erase_of_ne hne).2 (e ▸ hx)
    · exact hx
  newest q x hx h := by
    rw [State.leaveReady, setRing_ring] at hx ⊢
    split at hx
    · next e =>
      rw [if_pos e]
      exact getLast?_erase once (e ▸ h) hx
    · next e =>
      rw [if_neg e]
      exact h
  consumers q a h := by
    rw [State.leaveReady, setRing_ring]
    split
    · next e => exact e ▸ h
    · exact h

theorem Quiet.setAp (a : ApId) (x : Aperture) (config : x.config = (s.ap a).config)
    (views : ∀ sl, (s.setAp a x).views a sl ↔ s.views a sl) : Quiet s (s.setAp a x) where
  holders _ := rfl
  passed _ _ h := h
  views b y := by
    by_cases e : a = b
    · exact e ▸ views y
    · exact views_congr (setAp_ap_ne s x e)
  config b := by
    rw [setAp_ap]
    split
    · next e => exact e ▸ config
    · rfl
  sub _ _ h := h
  kept _ _ _ _ h := h
  newest _ _ _ h := h
  consumers _ _ h := h

/-- An aperture that views nothing before and after. -/
theorem Quiet.setAp_idle (a : ApId) (x : Aperture) (config : x.config = (s.ap a).config)
    (before : ∀ sl, (s.ap a).state ≠ .bound sl) (after : ∀ sl, x.state ≠ .bound sl) :
    Quiet s (s.setAp a x) :=
  .setAp a x config fun sl => ⟨fun v => absurd (by simpa using v.1) (after sl),
    fun v => absurd v.1 (before sl)⟩

/-- The aperture is no consumer. -/
theorem Quiet.setAp_producer {a : ApId} {c : ApConfig} (x : Aperture)
    (config : x.config = (s.ap a).config) (hc : (s.ap a).config = some c) (role : c.role = .producer) :
    Quiet s (s.setAp a x) := by
  refine .setAp a x config fun sl => ⟨fun v => ?_, fun v => ?_⟩
  · obtain ⟨_, d, hd, hrole⟩ := v
    rw [setAp_ap_self, config, hc] at hd
    cases hd
    rw [role] at hrole
    cases hrole
  · obtain ⟨_, d, hd, hrole⟩ := v
    rw [hc] at hd
    cases hd
    rw [role] at hrole
    cases hrole

theorem Quiet.setApState_producer {a : ApId} {r : RingId} (x : ApState)
    (serves : s.servesAs a .producer r) : Quiet s (s.setApState a x) := by
  obtain ⟨_, c, hc, role, _⟩ := serves
  exact .setAp_producer _ rfl hc role

theorem Quiet.joinFreeTail (r : RingId) (sl : SlotId) : Quiet s (s.joinFreeTail r sl) :=
  (Quiet.setSlot sl (s.slot sl).freed rfl (fun _ h => absurd h not_has_zero)).trans
    (.setRing r _ rfl fun _ h => h)

theorem Quiet.joinFreeHead (r : RingId) (sl : SlotId) : Quiet s (s.joinFreeHead r sl) :=
  (Quiet.setSlot sl (s.slot sl).freed rfl (fun _ h => absurd h not_has_zero)).trans
    (.setRing r _ rfl fun _ h => h)

theorem Quiet.fill {a : ApId} {r : RingId} (sl : SlotId) (n : Nat) (zero : (s.slot sl).holders = 0)
    (serves : s.servesAs a .producer r) : Quiet s (s.fill a sl n) :=
  (Quiet.setSlot sl ((s.slot sl).filling n) zero.symm
    (fun _ h => absurd h not_has_zero)).trans (.setApState_producer _ serves)

theorem Quiet.unassign {sl : SlotId} (x : Slot) (zero : (s.slot sl).holders = 0) (h0 : x.holders = 0)
    (p0 : x.passedBy = 0) : Quiet s (s.setSlot sl x) :=
  .setSlot sl x (h0.trans zero.symm) fun _ h => absurd (p0 ▸ h) not_has_zero

theorem Quiet.retire {sl : SlotId} (zero : (s.slot sl).holders = 0) : Quiet s (s.retire sl) := by
  cases hk : (s.slot sl).home with
  | none => rw [State.retire, hk]; exact .refl s
  | some k =>
    rw [retire_of_home s hk]
    exact (Quiet.setRing k.ring _ (by rfl) (by exact fun _ h => h)).trans
      (.unassign Slot.unassigned zero rfl rfl)

theorem Quiet.applyRetirement {sl : SlotId} (zero : (s.slot sl).holders = 0) :
    Quiet s (s.applyRetirement sl) := by
  have hmark (e : Change) :
      Quiet s ((s.removeChange e).setSlot sl { s.slot sl with retirePending := false }) :=
    (Quiet.congr (s := s) (t := s.removeChange e) rfl rfl rfl).trans
      (.setSlot sl { s.slot sl with retirePending := false } rfl fun _ h => h)
  rcases applyRetirement_cases s sl with ⟨_, e⟩ | ⟨x, _, _, e⟩ | ⟨x, _, floor, e⟩ <;> rw [e]
  · exact .refl s
  · exact (hmark x).trans (.congr rfl rfl rfl)
  · exact ((hmark x).trans (.retire (by simpa using zero))).trans (.congr rfl rfl rfl)

theorem State.HoldersLaw.of_quiet (h : s.HoldersLaw) (q : Quiet s t) : t.HoldersLaw :=
  h.of q.holders q.views (fun a _ _ => by rw [q.config]) q.kept

theorem State.UncheckedOnly.of_quiet {g : Ghost} (h : s.UncheckedOnly g) (q : Quiet s t) :
    t.UncheckedOnly g := by
  refine h.of (fun _ k => k) fun r x hx hm => .inl ⟨q.sub r x hx, ?_⟩
  obtain ⟨zero, passed, newest⟩ := hm
  exact ⟨by rw [← q.holders]; exact zero,
    fun a c ha hc ho => q.passed x a (passed a c (q.consumers r a ha) (by rw [q.config]; exact hc) ho),
    fun e => newest (q.newest r x hx e)⟩

/-- The three laws together, with the slots that wait for their check. -/
structure State.Reclaiming (s : State) (g : Ghost) : Prop where
  placed  : s.Placed
  holders : s.HoldersLaw
  checks  : s.UncheckedOnly g

theorem State.Reclaiming.quiet {g g' : Ghost} (h : s.Reclaiming g) (p : t.Placed) (q : Quiet s t)
    (same : g'.unchecked = g.unchecked := by rfl) : t.Reclaiming g' :=
  ⟨p, h.holders.of_quiet q, fun r x hx hm => same ▸ h.checks.of_quiet q r x hx hm⟩

/-! ### A slot that stands elsewhere is not READY (R2) -/

/-- A slot stands in the lists of one ring. -/
theorem State.Placed.same_ring (p : s.Placed) {q r : RingId} {sl : SlotId} (hq : sl ∈ (s.ring q).lists)
    (hr : sl ∈ (s.ring r).lists) : q = r := by
  have e := p.listed q sl hq
  rw [p.listed r sl hr] at e
  exact (Option.some.inj e).symm

theorem State.Placed.free_not_ready (p : s.Placed) {r : RingId} {sl : SlotId}
    (free : sl ∈ (s.ring r).free) (q : RingId) : sl ∉ (s.ring q).ready := fun ready => by
  have e := p.same_ring (Ring.mem_lists.2 (.inl free)) (Ring.mem_lists.2 (.inr (.inl ready)))
  subst e
  exact (Ring.lists_disjoint (p.once r)).1 ready free

theorem State.Placed.held_not_ready (p : s.Placed) {r : RingId} {sl : SlotId}
    (held : sl ∈ (s.ring r).held) (q : RingId) : sl ∉ (s.ring q).ready := fun ready => by
  have e := p.same_ring (Ring.mem_lists.2 (.inr (.inr held))) (Ring.mem_lists.2 (.inr (.inl ready)))
  subst e
  exact ((Ring.lists_disjoint (p.once r)).2 held).2 ready

theorem State.Placed.filling_not_ready (p : s.Placed) {r : RingId} {sl : SlotId}
    (filling : s.fillingSlot r = some sl) (q : RingId) : sl ∉ (s.ring q).ready := fun ready => by
  obtain ⟨home, out⟩ := p.filling r sl filling
  have hm := Ring.mem_lists.2 (.inr (.inl ready))
  have e := p.listed q sl hm
  rw [home] at e
  exact out (Option.some.inj e ▸ hm)

theorem State.Placed.homeless_not_ready (p : s.Placed) {sl : SlotId} (home : (s.slot sl).home = none)
    (q : RingId) : sl ∉ (s.ring q).ready := fun ready => by
  have e := p.listed q sl (Ring.mem_lists.2 (.inr (.inl ready)))
  rw [home] at e
  cases e

/-- A slot that is not READY has no holders. -/
theorem State.HoldersLaw.zero_of_not_ready (h : s.HoldersLaw) {sl : SlotId}
    (no : ∀ r, sl ∉ (s.ring r).ready) : (s.slot sl).holders = 0 :=
  h.holders_eq_zero (h.not_views_of_not_ready no)

/-! ### The moves -/

/-- A consumer may have passed one slot more: that slot waits for its check. -/
theorem State.Reclaiming.pass {g : Ghost} (h : s.Reclaiming g) {r : RingId} {sl : SlotId} (a : ApId)
    (ready : sl ∈ (s.ring r).ready) :
    (s.setSlot sl { s.slot sl with passedBy := ApSet.insert (s.slot sl).passedBy a }).Reclaiming
      { g with unchecked := (r, sl) :: g.unchecked } := by
  have hh (x : SlotId) : ((s.setSlot sl
      { s.slot sl with passedBy := ApSet.insert (s.slot sl).passedBy a }).slot x).holders =
      (s.slot x).holders := by
    rw [setSlot_slot]
    split
    · next e => rw [e]
    · rfl
  refine ⟨h.placed.setSlot sl _ rfl, h.holders.of hh (fun _ _ => .rfl) (fun _ _ _ => rfl)
    fun _ _ _ _ k => k, h.checks.of (fun _ k => List.mem_cons_of_mem _ k) fun q x hx hm => ?_⟩
  by_cases e : sl = x
  · subst e
    rw [h.placed.same_ring (Ring.mem_lists.2 (.inr (.inl hx))) (Ring.mem_lists.2 (.inr (.inl ready)))]
    exact .inr List.mem_cons_self
  · refine .inl ⟨hx, ?_⟩
    rw [State.MeetsReclamation, setSlot_slot_ne _ _ e] at hm
    exact hm

theorem mem_readyPairs {r q : RingId} {x : SlotId} :
    (q, x) ∈ s.readyPairs r ↔ q = r ∧ x ∈ (s.ring r).ready := by
  simp only [State.readyPairs, List.mem_map, Prod.mk.injEq]
  exact ⟨fun ⟨y, hy, e, k⟩ => ⟨e.symm, k ▸ hy⟩, fun ⟨e, hx⟩ => ⟨x, hx, e.symm, rfl⟩⟩

/-- A configuration changes: an ON ORDERED consumer made NEWEST lets its ring's slots wait for their
check. -/
theorem State.Reclaiming.configure {g : Ghost} (h : s.Reclaiming g) {a : ApId} {c d : ApConfig} (n : Nat)
    {u : List (RingId × SlotId)} (config : (s.ap a).config = some c) (ring : d.ring = c.ring)
    (role : d.role = c.role)
    (pick : s.apOn a = true → c.role = .consumer → c.pick = .ordered → d.pick = .newest →
      ∀ p ∈ s.readyPairs c.ring, p ∈ u) :
    (s.setAp a { s.ap a with config := some d, count := n }).Reclaiming
      { g with unchecked := u ++ g.unchecked } := by
  have hviews (b : ApId) (x : SlotId) :
      (s.setAp a { s.ap a with config := some d, count := n }).views b x ↔ s.views b x := by
    by_cases e : a = b
    · subst e
      simp [State.views, config, role]
    · exact views_congr (setAp_ap_ne s _ e)
  have hring (b : ApId) :
      ((s.setAp a { s.ap a with config := some d, count := n }).ap b).config.map (·.ring) =
        (s.ap b).config.map (·.ring) := by
    rw [setAp_ap]
    split
    · next e => rw [← e, config]; simp [ring]
    · rfl
  refine ⟨h.placed.setAp a _ rfl (by simp [config, ring, role]),
    h.holders.of (fun _ => rfl) hviews (fun b _ _ => hring b) fun _ _ _ _ k => k,
    h.checks.of (fun _ k => List.mem_append_right _ k) fun q x hx hm => ?_⟩
  by_cases hpick : ApSet.has (s.ring q).consumers a = true ∧ c.pick = .ordered ∧ d.pick = .newest
  · obtain ⟨hcons, hold, hnew⟩ := hpick
    obtain ⟨on, e, he, hrole, hq⟩ := (h.placed.consumers q a).1 hcons
    cases config.symm.trans he
    exact .inr (List.mem_append_left _ (pick on hrole hold hnew _ (mem_readyPairs.2
      ⟨hq.symm, hq ▸ hx⟩)))
  · refine .inl ⟨hx, hm.1, fun b e hb he hord => ?_, hm.2.2⟩
    by_cases hab : a = b
    · subst hab
      cases config.symm.trans he
      have hd : d.pick = .ordered := by
        cases k : d.pick with
        | ordered => rfl
        | newest => exact absurd ⟨hb, hord, k⟩ hpick
      exact hm.2.1 a d hb (by simp) hd
    · exact hm.2.1 b e hb (by rwa [setAp_ap_ne s _ hab]) hord

/-- A configuration is written of an aperture that is OFF. -/
theorem State.Reclaiming.setUp {g : Ghost} (h : s.Reclaiming g) {a : ApId} (c : ApConfig)
    (off : s.apOn a = false) : (s.setConfig a c).Reclaiming g := by
  have hne {b : ApId} (on : s.apOn b = true) : a ≠ b := fun e => by rw [e, on] at off; cases off
  have hviews (b : ApId) (x : SlotId) : (s.setConfig a c).views b x ↔ s.views b x := by
    by_cases e : a = b
    · subst e
      have hs := apOn_eq_false.1 off
      simp [State.views, State.setConfig, hs]
    · exact views_congr (setAp_ap_ne s _ e)
  refine ⟨h.placed.setUp c off, h.holders.of (fun _ => rfl) hviews (fun b x v => ?_)
    (fun _ _ _ _ k => k), h.checks.of (fun _ k => k) fun q x hx hm => .inl ⟨hx, hm.1,
      fun b e hb he hord => ?_, hm.2.2⟩⟩
  · have on : s.apOn b = true := apOn_eq_true.2 (by rw [v.1]; nofun)
    rw [State.setConfig, setAp_ap_ne s _ (hne on)]
  · have on := ((h.placed.consumers q b).1 hb).1
    exact hm.2.1 b e hb (by rwa [State.setConfig, setAp_ap_ne s _ (hne on)]) hord

/-- A published slot joins the ready list, whose other slots wait for their check. -/
theorem State.Reclaiming.toReady {g : Ghost} (h : s.Reclaiming g) {a : ApId} {r : RingId} {sl : SlotId}
    (writes : s.writes a r sl) :
    ((s.setApState a .unbound).setRing r { s.ring r with ready := (s.ring r).ready ++ [sl] }).Reclaiming
      { g with unchecked := s.readyPairs r ++ g.unchecked } := by
  have q1 := Quiet.setApState_producer .unbound writes.servesAs
  have h1 := h.holders.of_quiet q1
  refine ⟨h.placed.toReady writes, h1.of (fun _ => rfl) (fun _ _ => .rfl) (fun _ _ _ => rfl)
    fun b x q _ hx => ?_, h.checks.of (fun _ k => List.mem_append_right _ k) fun q x hx hm => ?_⟩
  · rw [setRing_ring]
    split
    · next e => exact List.mem_append_left _ (e ▸ hx)
    · exact hx
  · rw [setRing_ring] at hx
    split at hx
    · next e =>
      subst e
      rcases List.mem_append.1 hx with hx | hx
      · exact .inr (List.mem_append_left _ (mem_readyPairs.2 ⟨rfl, hx⟩))
      · cases List.mem_singleton.1 hx
        exact absurd (by simp) hm.2.2
    · next e =>
      obtain ⟨h1, h2, h3⟩ := hm
      rw [setRing_ring_ne _ _ e] at h2 h3
      refine .inl ⟨hx, h1, fun b c hb hc => ?_, h3⟩
      exact h2 b c hb (by rw [setRing_ap, q1.config]; exact hc)

/-- A slot with other holders, and an aperture in another state. -/
def State.rehold (s : State) (sl : SlotId) (m : ApSet) (a : ApId) (x : ApState) : State :=
  (s.setSlot sl { s.slot sl with holders := m }).setApState a x

theorem rehold_slot (sl : SlotId) (m : ApSet) (a : ApId) (x : ApState) (y : SlotId) :
    (s.rehold sl m a x).slot y = if sl = y then { s.slot sl with holders := m } else s.slot y :=
  setSlot_slot s sl y _

theorem rehold_ring (sl : SlotId) (m : ApSet) (a : ApId) (x : ApState) (r : RingId) :
    (s.rehold sl m a x).ring r = s.ring r := rfl

theorem rehold_ap_ne (sl : SlotId) (m : ApSet) {a b : ApId} (x : ApState) (h : a ≠ b) :
    (s.rehold sl m a x).ap b = s.ap b := setAp_ap_ne _ _ h

theorem rehold_ap_self (sl : SlotId) (m : ApSet) (a : ApId) (x : ApState) :
    (s.rehold sl m a x).ap a = { s.ap a with state := x } := setAp_ap_self _ _ _

theorem rehold_config (sl : SlotId) (m : ApSet) (a b : ApId) (x : ApState) :
    ((s.rehold sl m a x).ap b).config = (s.ap b).config := by
  by_cases e : a = b
  · rw [← e, rehold_ap_self]
  · rw [rehold_ap_ne sl m x e]

/-- A consumer joins or leaves the holders of a slot as it begins or ends to view it. -/
theorem State.HoldersLaw.rehold (h : s.HoldersLaw) {a : ApId} {c : ApConfig} {sl : SlotId} {m : ApSet}
    {x : ApState} (hc : (s.ap a).config = some c) (role : c.role = .consumer)
    (others : ∀ b, a ≠ b → ApSet.has m b = ApSet.has (s.slot sl).holders b)
    (own : ApSet.has m a = true ↔ x = .bound sl)
    (only : ∀ y, sl ≠ y → x ≠ .bound y ∧ (s.ap a).state ≠ .bound y)
    (ready : ∀ y, x = .bound y → y ∈ (s.ring c.ring).ready) : (s.rehold sl m a x).HoldersLaw where
  holds y b := by
    rw [rehold_slot]
    by_cases hb : a = b
    · subst hb
      have hv : (s.rehold sl m a x).views a y ↔ x = .bound y := by
        simp [State.views, rehold_ap_self, hc, role]
      rw [hv]
      split
      · next e => subst e; exact own
      · next e =>
        rw [h.holds]
        exact ⟨fun v => absurd v.1 (only y e).2, fun k => absurd k (only y e).1⟩
    · rw [views_congr (rehold_ap_ne sl m x hb), ← h.holds]
      split
      · next e => subst e; exact Bool.eq_iff_iff.1 (others b hb)
      · rfl
  ready y b d v hd := by
    by_cases hb : a = b
    · subst hb
      rw [rehold_config, hc] at hd
      cases hd
      exact ready y (by simpa [rehold_ap_self] using v.1)
    · rw [rehold_config] at hd
      exact h.ready y b d ((views_congr (rehold_ap_ne sl m x hb)).1 v) hd

/-- Another slot meets the condition as before. -/
theorem meets_of_rehold {sl : SlotId} {m : ApSet} {a : ApId} {x : ApState} {r : RingId} {y : SlotId}
    (ne : sl ≠ y) (h : (s.rehold sl m a x).MeetsReclamation r y) : s.MeetsReclamation r y := by
  obtain ⟨zero, passed, newest⟩ := h
  rw [rehold_slot, if_neg ne] at zero passed
  exact ⟨zero, fun b d hb hd => passed b d hb (by rw [rehold_config]; exact hd), newest⟩

/-- A consumer acquires a READY slot. -/
theorem State.Reclaiming.acquire {g : Ghost} (h : s.Reclaiming g) {a : ApId} {r : RingId} {sl : SlotId}
    (idle : s.idleAs a .consumer r) (ready : sl ∈ (s.ring r).ready)
    (placed : (s.rehold sl (ApSet.insert (s.slot sl).holders a) a (.bound sl)).Placed) :
    (s.rehold sl (ApSet.insert (s.slot sl).holders a) a (.bound sl)).Reclaiming g := by
  obtain ⟨hs, c, hc, role, ring⟩ := idle
  refine ⟨placed, h.holders.rehold hc role (fun b hb => by simp [Ne.symm hb]) (by simp)
    (fun y hy => ⟨by simpa using hy, by rw [hs]; nofun⟩) (fun y hy => ?_),
    h.checks.of (fun _ k => k) fun q x hx hm => .inl ⟨hx, ?_⟩⟩
  · cases hy
    exact ring ▸ ready
  · by_cases e : sl = x
    · have zero := hm.1
      rw [rehold_slot, if_pos e] at zero
      have := (ApSet.eq_zero_iff _).1 zero a
      simp at this
    · exact meets_of_rehold e hm

/-- A consumer gives its slot up: the slot waits for its check. -/
theorem State.Reclaiming.release {g : Ghost} (h : s.Reclaiming g) {a : ApId} {c : ApConfig} {sl : SlotId}
    (bound : (s.ap a).state = .bound sl) (hc : (s.ap a).config = some c) (role : c.role = .consumer)
    (placed : (s.rehold sl (ApSet.erase (s.slot sl).holders a) a .unbound).Placed) :
    (s.rehold sl (ApSet.erase (s.slot sl).holders a) a .unbound).Reclaiming
      { g with unchecked := (c.ring, sl) :: g.unchecked } := by
  have ready : sl ∈ (s.ring c.ring).ready := h.holders.ready sl a c ⟨bound, c, hc, role⟩ hc
  refine ⟨placed, h.holders.rehold hc role (fun b hb => by simp [Ne.symm hb]) (by simp)
    (fun y hy => ⟨nofun, by rw [bound]; simpa using hy⟩) (fun y hy => nomatch hy),
    h.checks.of (fun _ k => List.mem_cons_of_mem _ k) fun q x hx hm => ?_⟩
  by_cases e : sl = x
  · subst e
    rw [h.placed.same_ring (Ring.mem_lists.2 (.inr (.inl hx))) (Ring.mem_lists.2 (.inr (.inl ready)))]
    exact .inr List.mem_cons_self
  · exact .inl ⟨hx, meets_of_rehold e hm⟩

/-- A consumer leaves its ring: the slots that an ORDERED one kept from reclamation wait for their check. -/
theorem State.Reclaiming.consumerOff {g : Ghost} (h : s.Reclaiming g) {a : ApId} {c : ApConfig}
    {u : List (RingId × SlotId)} (state : (s.ap a).state = .unbound) (hc : (s.ap a).config = some c)
    (role : c.role = .consumer) (pick : c.pick = .ordered → ∀ p ∈ s.readyPairs c.ring, p ∈ u) :
    ((s.setAp a { s.ap a with state := .off, deferred := false }).setRing c.ring
      { s.ring c.ring with consumers := ApSet.erase (s.ring c.ring).consumers a }).Reclaiming
      { g with offAp := some a, unchecked := u ++ g.unchecked } := by
  have q1 : Quiet s (s.setAp a { s.ap a with state := .off, deferred := false }) :=
    .setAp_idle a _ rfl (fun sl => by rw [state]; nofun) fun sl => nofun
  have hready (q : RingId) : (((s.setAp a { s.ap a with state := .off, deferred := false }).setRing c.ring
      { s.ring c.ring with consumers := ApSet.erase (s.ring c.ring).consumers a }).ring q).ready =
      (s.ring q).ready := by
    rw [setRing_ring]
    split
    · next e => rw [e]
    · rfl
  refine ⟨h.placed.consumerOff state hc role, (h.holders.of_quiet q1).of (fun _ => rfl) (fun _ _ => .rfl)
    (fun _ _ _ => rfl) (fun _ x q _ hx => by rw [hready]; exact hx),
    h.checks.of (fun _ k => List.mem_append_right _ k) fun q x hx hm => ?_⟩
  rw [hready] at hx
  by_cases hu : c.pick = .ordered ∧ c.ring = q
  · exact .inr (List.mem_append_left _ (pick hu.1 _ (mem_readyPairs.2 ⟨hu.2.symm, hu.2 ▸ hx⟩)))
  · obtain ⟨zero, passed, newest⟩ := hm
    rw [hready] at newest
    refine .inl ⟨hx, zero, fun b d hb hd ho => passed b d ?_ (by rw [setRing_ap, q1.config]; exact hd) ho,
      newest⟩
    rw [setRing_ring]
    split
    · next e =>
      have hne : b ≠ a := fun k => by
        subst k
        cases hc.symm.trans hd
        exact hu ⟨ho, e⟩
      simpa [e, hne] using hb
    · exact hb

theorem Move.reclaiming {L : Laws} (hp : L.placed) {g g' : Ghost} (m : Move L s g t g')
    (h : s.Reclaiming g) : t.Reclaiming g' := by
  have p := m.placed hp h.placed
  have ready := h.placed.ready_nodup
  cases m with
  | port m => exact h.quiet p (.congr m.books.slots m.books.rings m.books.apertures)
  | restate g' done =>
    exact ⟨p, h.holders, fun r x hx hm => done.unchecked hp r x hx (h.checks r x hx hm) hm⟩
  | marks sl => exact h.quiet p (.setSlot sl _ rfl fun _ k => k)
  | pass r sl a hr => exact h.pass a (hr hp)
  | unpass sl a => exact h.quiet p (.setSlot sl _ rfl fun b k => by simp_all)
  | count a n d _ => exact h.quiet p (.setAp a _ rfl fun _ => by simp [State.views])
  | configure a c d n u config ring role _ _ _ _ pick => exact h.configure n config ring role pick
  | setUp a c off _ _ => exact h.setUp c off
  | toReady a r sl k => exact h.toReady k
  | returnHead a r sl k =>
    exact h.quiet p ((Quiet.setApState_producer .unbound k.servesAs).trans (.joinFreeHead r sl))
  | advance r => exact h.quiet p (.setRing r _ rfl fun _ k => k)
  | takeFree a r sl rest n free _ idle _ =>
    have hz := h.holders.zero_of_not_ready
      (h.placed.free_not_ready (r := r) (sl := sl) (by rw [free]; exact List.mem_cons_self))
    exact h.quiet p ((Quiet.setRing r { s.ring r with free := rest } rfl fun _ k => k).trans
      (.fill sl n hz (idle hp).servesAs))
  | steal a r sl n _ zero _ idle _ =>
    exact h.quiet p ((Quiet.leaveReady r sl (ready r) (h.holders.not_views zero)).trans
      (.fill sl n zero (idle hp).servesAs))
  | unbind a _ idle => rwa [setApState_unbound_of (idle hp)]
  | producerOn a c off config role none _ =>
    have hs := apOn_eq_false.1 off
    exact h.quiet p ((Quiet.setRing c.ring { s.ring c.ring with producer := some a } rfl
      fun _ k => k).trans (.setAp_producer _ rfl config role))
  | producerOff a r idle =>
    obtain ⟨_, c, hc, role, _⟩ := idle hp
    exact h.quiet p ((Quiet.setAp_producer { s.ap a with state := .off, deferred := false } rfl hc
      role).trans (.setRing r _ rfl fun _ k => k))
  | acquire a r sl _ idle hr => exact h.acquire (idle hp) hr p
  | release a c sl bound config => exact h.release bound (config hp).1 (config hp).2 p
  | consumerOn a c off config role _ _ =>
    have hs := apOn_eq_false.1 off
    exact h.quiet p ((Quiet.setRing c.ring { s.ring c.ring with
      consumers := ApSet.insert (s.ring c.ring).consumers a } rfl fun b k => by simp [k]).trans
      (.setAp_idle a _ rfl (fun sl => by rw [setRing_ap, hs]; nofun) fun sl => nofun))
  | consumerOff a c u state config role pick => exact h.consumerOff state config role pick
  | toHeld r sl hr viewer =>
    exact h.quiet p ((Quiet.leaveReady r sl (ready r)
      (h.holders.not_views_of_noViewer h.placed (hr hp) (viewer hp))).trans
      (.setRing r _ rfl fun _ k => k))
  | toFree r sl hr viewer =>
    exact h.quiet p ((Quiet.leaveReady r sl (ready r)
      (h.holders.not_views_of_noViewer h.placed (hr hp) (viewer hp))).trans (.joinFreeTail r sl))
  | freeHeld r sl held _ =>
    have hl : Quiet s (s.leaveHeld r sl) := .setRing r _ rfl fun _ k => k
    exact h.quiet p (hl.trans (.joinFreeTail r sl))
  | settle sl free =>
    obtain ⟨k, _, hf⟩ := free hp
    exact h.quiet p (.applyRetirement (h.holders.zero_of_not_ready (h.placed.free_not_ready hf)))
  | retireNow sl k _ free _ _ =>
    exact h.quiet p (.retire (h.holders.zero_of_not_ready (h.placed.free_not_ready free)))
  | assign sl r base home _ _ =>
    have hz := h.holders.zero_of_not_ready (h.placed.homeless_not_ready home)
    rw [assignSlot_eq] at p ⊢
    exact h.quiet p ((Quiet.unassign
      { Slot.unassigned with home := some { ring := r, base := base } } hz rfl rfl).trans
      (.setRing r _ rfl fun _ k => k))
  | size r e o _ _ => exact h.quiet p (.setRing r _ rfl fun _ k => k)
  | overflow r o => exact h.quiet p (.setRing r _ rfl fun _ k => k)
  | power r on _ => exact h.quiet p (.setRing r _ rfl fun _ k => k)
  | dropEntry e _ =>
    have hd : Quiet s (s.removeChange e) := .congr rfl rfl rfl
    rcases clearRetirePending_cases (s.removeChange e) e.op with ⟨_, k⟩ | ⟨x, _, k⟩ <;>
      rw [k] at p ⊢
    · exact h.quiet p hd
    · exact h.quiet p (hd.trans (.setSlot x _ rfl fun _ k => k))
  | queueRetire sl k _ _ _ _ _ =>
    exact h.quiet p ((Quiet.setSlot sl { s.slot sl with retirePending := true } rfl
      fun _ k => k).trans (.congr rfl rfl rfl))
  | startJob j _ _ =>
    exact h.quiet p ((Quiet.setSlot j.slot { s.slot j.slot with jobs := (s.slot j.slot).jobs + 1 } rfl
      fun _ k => k).trans (.congr rfl rfl rfl))
  | queueJob j _ _ =>
    exact h.quiet p ((Quiet.setSlot j.slot { s.slot j.slot with jobs := (s.slot j.slot).jobs + 1 } rfl
      fun _ k => k).trans (.congr rfl rfl rfl))
  | dropActive j _ _ =>
    exact h.quiet p ((Quiet.setSlot j.job.slot
      { s.slot j.job.slot with jobs := (s.slot j.job.slot).jobs - 1 } rfl fun _ k => k).trans
      (.congr (by split <;> rfl) (by split <;> rfl) (by split <;> rfl)))
  | dropQueued j _ =>
    exact h.quiet p ((Quiet.setSlot j.slot { s.slot j.slot with jobs := (s.slot j.slot).jobs - 1 } rfl
      fun _ k => k).trans (.congr rfl rfl rfl))
  | activateNext =>
    have q : Quiet s s.activateNext := by
      rcases activateNext_cases s with ⟨_, k⟩ | ⟨_, _, _, k⟩ <;> rw [k] <;> exact .congr rfl rfl rfl
    exact h.quiet p q
  | _ => exact h.quiet p (.congr rfl rfl rfl)

theorem reset_reclaiming : State.reset.Reclaiming .rest :=
  ⟨reset_placed, holders_of_check (by decide), fun r x hx => absurd hx (by
    revert r x; decide)⟩

theorem State.Reclaiming.congr {g : Ghost} (h : s.Reclaiming g) (slots : t.slots = s.slots)
    (rings : t.rings = s.rings) (aps : t.apertures = s.apertures) : t.Reclaiming g :=
  h.quiet (h.placed.congr slots rings aps) (.congr slots rings aps)

end

/-- Settles O58: between the moves of one event, the READY slots that meet the condition are those whose
check is still to come, and at its end none is. -/
theorem holdersAndReclamationAreKept : Obligations.HoldersAndReclamationAreKept := by
  unfold Obligations.HoldersAndReclamationAreKept
  intro s t p hh hr hs
  have ho : s.Obeys { Laws.none with placed := True } := ⟨fun _ => p, nofun, nofun, nofun⟩
  have start : s.Reclaiming .rest := ⟨p, hh, fun r x hx hm => absurd hm (hr r x hx)⟩
  have done : t.Reclaiming .rest :=
    step_keeps (P := State.Reclaiming) ho (fun h => h.congr rfl rfl rfl)
      (fun h m => m.reclaiming trivial h)
      (fun h j => j.books.elim (fun b => h.congr b.slots b.rings b.apertures)
        fun b => reset_reclaiming.congr b.slots b.rings b.apertures) hs start ⟨id, id, id, id⟩
  exact ⟨done.holders, fun r x hx hm => nomatch done.checks r x hx hm⟩

end Sys2Proof.Machine
end

section
/-! PROOFS: every step keeps the laws of the copy queue (O59, first part): no id twice, jobs counted by
their slots, which are held, and no job behind the head that has run. -/

namespace Sys2Proof.Machine

section
variable {s t : State}

/-- The laws of the copy queue (R118, R121, R129). -/
structure State.JobLaws (s : State) : Prop where
  ids    : (s.copy.jobs.map (·.id) ++ [s.copy.nextId]).Nodup
  counts : ∀ sl, (s.slot sl).jobs = s.copy.naming sl
  held   : ∀ j ∈ s.copy.jobs, j.slot ∈ (s.ring j.ring).held
  notRun : ∀ j ∈ s.copy.queued, j.doneBytes = 0

/-- What the laws of the copy queue read of a job. -/
def Job.key (j : Job) : Nat × SlotId × RingId := (j.id, j.slot, j.ring)

theorem naming_of_keys {c d : CopyEngine} (keys : d.jobs.map Job.key = c.jobs.map Job.key) (sl : SlotId) :
    d.naming sl = c.naming sl := by
  have hfilter (l : List Job) : (l.filter fun j => decide (j.slot = sl)).length =
      (l.map Job.key).countP fun k => decide (k.2.1 = sl) := by
    rw [List.countP_map, List.countP_eq_length_filter]; rfl
  rw [CopyEngine.naming, CopyEngine.naming, hfilter, hfilter, keys]

theorem ids_of_keys {c d : CopyEngine} (keys : d.jobs.map Job.key = c.jobs.map Job.key) :
    d.jobs.map (·.id) = c.jobs.map (·.id) := by
  have hid (l : List Job) : l.map (·.id) = (l.map Job.key).map (·.1) := by rw [List.map_map]; rfl
  rw [hid, hid, keys]

/-- The jobs are the same to the laws, slots count as before, and none leaves a held list. -/
theorem State.JobLaws.of_keys (h : s.JobLaws) (keys : t.copy.jobs.map Job.key = s.copy.jobs.map Job.key)
    (queued : ∀ j ∈ t.copy.queued, j ∈ s.copy.queued) (nextId : t.copy.nextId = s.copy.nextId)
    (jobs : ∀ sl, (t.slot sl).jobs = (s.slot sl).jobs)
    (held : ∀ r, ∀ x ∈ (s.ring r).held, x ∈ (t.ring r).held) : t.JobLaws where
  ids := by rw [ids_of_keys keys, nextId]; exact h.ids
  counts sl := by rw [jobs, naming_of_keys keys]; exact h.counts sl
  held j hj := by
    have hk : j.key ∈ s.copy.jobs.map Job.key := keys ▸ List.mem_map_of_mem hj
    obtain ⟨i, hi, e⟩ := List.mem_map.1 hk
    simp only [Job.key, Prod.mk.injEq] at e
    obtain ⟨_, hslot, hring⟩ := e
    rw [← hslot, ← hring]
    exact held _ _ (h.held i hi)
  notRun j hj := h.notRun j (queued j hj)

/-- A part where no job, no count and no held slot has changed. -/
structure SameJobs (s t : State) : Prop where
  copy : t.copy = s.copy
  jobs : ∀ sl, (t.slot sl).jobs = (s.slot sl).jobs
  held : ∀ r, ∀ x ∈ (s.ring r).held, x ∈ (t.ring r).held

theorem State.JobLaws.same (h : s.JobLaws) (q : SameJobs s t) : t.JobLaws :=
  h.of_keys (by rw [q.copy]) (fun j hj => by rwa [q.copy] at hj) (by rw [q.copy]) q.jobs q.held

theorem SameJobs.refl (s : State) : SameJobs s s := ⟨rfl, fun _ => rfl, fun _ _ h => h⟩

theorem SameJobs.trans {u : State} (h : SameJobs s t) (k : SameJobs t u) : SameJobs s u :=
  ⟨k.copy.trans h.copy, fun x => (k.jobs x).trans (h.jobs x), fun r x hx => k.held r x (h.held r x hx)⟩

theorem SameJobs.congr (copy : t.copy = s.copy) (slots : t.slots = s.slots) (rings : t.rings = s.rings) :
    SameJobs s t :=
  ⟨copy, fun x => by simp only [State.slot, slots],
    fun r x hx => by simpa only [State.ring, rings] using hx⟩

theorem SameJobs.setSlot (sl : SlotId) (x : Slot) (jobs : x.jobs = (s.slot sl).jobs) :
    SameJobs s (s.setSlot sl x) := by
  refine ⟨rfl, fun y => ?_, fun _ _ h => h⟩
  rw [setSlot_slot]
  split
  · next e => exact e ▸ jobs
  · rfl

theorem SameJobs.setRing (r : RingId) (x : Ring) (held : ∀ y ∈ (s.ring r).held, y ∈ x.held) :
    SameJobs s (s.setRing r x) := by
  refine ⟨rfl, fun _ => rfl, fun q y hy => ?_⟩
  rw [setRing_ring]
  split
  · next e => exact held y (e ▸ hy)
  · exact hy

theorem SameJobs.joinFreeTail (r : RingId) (sl : SlotId) : SameJobs s (s.joinFreeTail r sl) :=
  (SameJobs.setSlot sl (s.slot sl).freed rfl).trans (.setRing r _ fun _ h => h)

theorem SameJobs.joinFreeHead (r : RingId) (sl : SlotId) : SameJobs s (s.joinFreeHead r sl) :=
  (SameJobs.setSlot sl (s.slot sl).freed rfl).trans (.setRing r _ fun _ h => h)

theorem SameJobs.fill (a : ApId) (sl : SlotId) (n : Nat) : SameJobs s (s.fill a sl n) :=
  (SameJobs.setSlot sl ((s.slot sl).filling n) rfl).trans (.congr rfl rfl rfl)

theorem SameJobs.leaveReady (r : RingId) (sl : SlotId) : SameJobs s (s.leaveReady r sl) :=
  .setRing r _ fun _ h => h

theorem SameJobs.retire {sl : SlotId} (none : (s.slot sl).jobs = 0) : SameJobs s (s.retire sl) := by
  cases hk : (s.slot sl).home with
  | none => rw [State.retire, hk]; exact .refl s
  | some k =>
    rw [retire_of_home s hk]
    exact (SameJobs.setRing k.ring _ (by exact fun _ h => h)).trans (.setSlot sl Slot.unassigned none.symm)

theorem SameJobs.applyRetirement {sl : SlotId} (none : (s.slot sl).jobs = 0) :
    SameJobs s (s.applyRetirement sl) := by
  have hmark (e : Change) :
      SameJobs s ((s.removeChange e).setSlot sl { s.slot sl with retirePending := false }) :=
    (SameJobs.congr (s := s) (t := s.removeChange e) rfl rfl rfl).trans
      (.setSlot sl { s.slot sl with retirePending := false } rfl)
  rcases applyRetirement_cases s sl with ⟨_, e⟩ | ⟨x, _, _, e⟩ | ⟨x, _, floor, e⟩ <;> rw [e]
  · exact .refl s
  · exact (hmark x).trans (.congr rfl rfl rfl)
  · exact ((hmark x).trans (.retire (by simpa using none))).trans (.congr rfl rfl rfl)

/-! ### Slots without jobs -/

theorem naming_eq_zero {c : CopyEngine} {sl : SlotId} (h : ∀ j ∈ c.jobs, j.slot ≠ sl) :
    c.naming sl = 0 := by
  rw [CopyEngine.naming, List.length_eq_zero_iff, List.filter_eq_nil_iff]
  exact fun j hj => by simpa using h j hj

theorem ne_of_naming_eq_zero {c : CopyEngine} {sl : SlotId} (h : c.naming sl = 0) {j : Job}
    (hj : j ∈ c.jobs) : j.slot ≠ sl := by
  rw [CopyEngine.naming, List.length_eq_zero_iff, List.filter_eq_nil_iff] at h
  simpa using h j hj

/-- A slot that no held list holds has no jobs. -/
theorem State.JobLaws.no_jobs (h : s.JobLaws) {sl : SlotId} (no : ∀ r, sl ∉ (s.ring r).held) :
    (s.slot sl).jobs = 0 := by
  rw [h.counts]
  exact naming_eq_zero fun j hj e => no j.ring (e ▸ h.held j hj)

theorem State.Placed.free_not_held (p : s.Placed) {r : RingId} {sl : SlotId}
    (free : sl ∈ (s.ring r).free) (q : RingId) : sl ∉ (s.ring q).held := fun held => by
  have e := p.same_ring (Ring.mem_lists.2 (.inl free)) (Ring.mem_lists.2 (.inr (.inr held)))
  subst e
  exact ((Ring.lists_disjoint (p.once r)).2 held).1 free

theorem State.Placed.homeless_not_held (p : s.Placed) {sl : SlotId} (home : (s.slot sl).home = none)
    (q : RingId) : sl ∉ (s.ring q).held := fun held => by
  have e := p.listed q sl (Ring.mem_lists.2 (.inr (.inr held)))
  rw [home] at e
  cases e

/-! ### Jobs that come and go -/

/-- A job joins the queue under the next id. -/
theorem State.JobLaws.enter (h : s.JobLaws) {L : Laws} {j : Job} (m : s.MayEnter L j) (x : CopyEngine)
    (perm : x.jobs.Perm (j :: s.copy.jobs))
    (nextId : x.nextId = nextUnused 255 (s.copy.ids ++ [s.copy.nextId]) s.copy.nextId)
    (queued : ∀ k ∈ x.queued, k ∈ s.copy.queued ∨ k = j) :
    State.JobLaws { s.setSlot j.slot { s.slot j.slot with jobs := (s.slot j.slot).jobs + 1 } with
      copy := x } where
  ids := by
    have unused := (nextId_range m.space).unused
    rw [← nextId, CopyEngine.ids_eq] at unused
    have hids : (x.jobs.map (·.id)).Perm (s.copy.jobs.map (·.id) ++ [s.copy.nextId]) :=
      (perm.map _).trans (by rw [List.map_cons, m.id]; exact (List.perm_append_singleton _ _).symm)
    refine (List.perm_append_singleton _ _).nodup_iff.2 (List.nodup_cons.2 ⟨?_, hids.nodup_iff.2 h.ids⟩)
    exact fun hm => unused (hids.mem_iff.1 hm)
  counts sl := by
    rw [naming_append s.copy x j perm]
    refine (congrArg Slot.jobs (setSlot_slot s j.slot sl _)).trans ?_
    split
    · next e => rw [e, ← h.counts]
    · exact h.counts sl
  held k hk := by
    rcases List.mem_cons.1 (perm.mem_iff.1 hk) with rfl | hk
    · exact m.held
    · exact h.held k hk
  notRun k hk := (queued k hk).elim (h.notRun k) fun e => e ▸ m.fresh

/-- A job leaves the queue. -/
theorem State.JobLaws.leave (h : s.JobLaws) (j : Job) (x : CopyEngine)
    (perm : s.copy.jobs.Perm (j :: x.jobs)) (nextId : x.nextId = s.copy.nextId)
    (queued : ∀ k ∈ x.queued, k ∈ s.copy.queued) :
    State.JobLaws { s.setSlot j.slot { s.slot j.slot with jobs := (s.slot j.slot).jobs - 1 } with
      copy := x } where
  ids := by
    have hids := ((perm.map (·.id)).append_right [s.copy.nextId]).nodup_iff.1 h.ids
    rw [nextId]
    exact (List.nodup_cons.1 hids).2
  counts sl := by
    refine (congrArg Slot.jobs (setSlot_slot s j.slot sl _)).trans ?_
    have hn := naming_append x s.copy j perm sl
    split
    · next e =>
      subst e
      rw [if_pos rfl, ← h.counts] at hn
      show (s.slot j.slot).jobs - 1 = x.naming j.slot
      omega
    · next e =>
      rw [if_neg e, ← h.counts] at hn
      exact hn
  held k hk := h.held k (perm.mem_iff.2 (List.mem_cons_of_mem _ hk))
  notRun k hk := h.notRun k (queued k hk)

theorem PortMove.jobLaws {L : Laws} (m : PortMove L s t) (h : s.JobLaws) : t.JobLaws := by
  cases m with
  | grantCopy u _ _ =>
    refine h.of_keys ?_ (fun _ k => k) rfl (fun _ => rfl) fun _ _ k => k
    cases ha : s.copy.active <;> simp [State.grantCopy, CopyEngine.jobs, ha]
  | cancelMark j hj =>
    exact h.of_keys (by simp [CopyEngine.jobs, hj]) (fun _ k => k) rfl (fun _ => rfl) fun _ _ k => k
  | readOn kind j d _ hj _ =>
    exact h.of_keys (by simp [State.presentWrite, CopyEngine.jobs, hj]) (fun _ k => k) rfl
      (fun _ => rfl) fun _ _ k => k
  | writeOn kind j _ hj _ _ =>
    exact h.of_keys (by simp [State.presentRead, State.freePort, CopyEngine.jobs, hj, Job.key,
      Job.advanced]) (fun _ k => k) rfl (fun _ => rfl) fun _ _ k => k
  | _ => exact h.same (.congr rfl rfl rfl)

theorem Move.jobLaws {L : Laws} (hp : L.placed) {g g' : Ghost} (m : Move L s g t g') (p : s.Placed)
    (h : s.JobLaws) : t.JobLaws := by
  cases m with
  | port m => exact m.jobLaws h
  | marks sl => exact h.same (.setSlot sl _ rfl)
  | pass r sl a _ => exact h.same (.setSlot sl _ rfl)
  | unpass sl a => exact h.same (.setSlot sl _ rfl)
  | toReady a r sl _ =>
    exact h.same ((SameJobs.congr (s := s) (t := s.setApState a .unbound) rfl rfl rfl).trans
      (.setRing r _ fun _ k => k))
  | returnHead a r sl _ =>
    exact h.same ((SameJobs.congr (s := s) (t := s.setApState a .unbound) rfl rfl rfl).trans (.joinFreeHead r sl))
  | advance r => exact h.same (.setRing r _ fun _ k => k)
  | takeFree a r sl rest n _ _ _ _ =>
    exact h.same ((SameJobs.setRing r { s.ring r with free := rest } fun _ k => k).trans (.fill a sl n))
  | steal a r sl n _ _ _ _ _ => exact h.same ((SameJobs.leaveReady r sl).trans (.fill a sl n))
  | producerOn a c _ _ _ _ _ =>
    exact h.same ((SameJobs.setRing c.ring { s.ring c.ring with producer := some a } fun _ k => k).trans
      (.congr rfl rfl rfl))
  | producerOff a r _ _ _ =>
    exact h.same ((SameJobs.congr (s := s) (t := s.setAp a { s.ap a with state := .off, deferred := false })
      rfl rfl rfl).trans (.setRing r _ fun _ k => k))
  | acquire a r sl _ _ _ =>
    exact h.same ((SameJobs.setSlot sl
      { s.slot sl with holders := ApSet.insert (s.slot sl).holders a } rfl).trans (.congr rfl rfl rfl))
  | release a c sl _ _ =>
    exact h.same ((SameJobs.setSlot sl
      { s.slot sl with holders := ApSet.erase (s.slot sl).holders a } rfl).trans (.congr rfl rfl rfl))
  | consumerOn a c _ _ _ _ _ =>
    exact h.same ((SameJobs.setRing c.ring { s.ring c.ring with
      consumers := ApSet.insert (s.ring c.ring).consumers a } fun _ k => k).trans (.congr rfl rfl rfl))
  | consumerOff a c u _ _ _ _ _ =>
    exact h.same ((SameJobs.congr (s := s) (t := s.setAp a { s.ap a with state := .off, deferred := false })
      rfl rfl rfl).trans (.setRing c.ring _ fun _ k => k))
  | toHeld r sl _ _ =>
    exact h.same ((SameJobs.leaveReady r sl).trans (.setRing r _ fun _ k => List.mem_append_left _ k))
  | toFree r sl _ _ => exact h.same ((SameJobs.leaveReady r sl).trans (.joinFreeTail r sl))
  | freeHeld r sl held jobs =>
    have hne {j : Job} (hj : j ∈ s.copy.jobs) : j.slot ≠ sl :=
      ne_of_naming_eq_zero (by rw [← h.counts]; exact jobs) hj
    have hl : (s.leaveHeld r sl).JobLaws := by
      refine ⟨h.ids, h.counts, fun j hj => ?_, h.notRun⟩
      rw [State.leaveHeld, setRing_ring]
      split
      · next e => exact (List.mem_erase_of_ne (hne hj)).2 (e ▸ h.held j hj)
      · exact h.held j hj
    exact hl.same (.joinFreeTail r sl)
  | settle sl free =>
    obtain ⟨k, _, hf⟩ := free hp
    exact h.same (.applyRetirement (h.no_jobs (p.free_not_held hf)))
  | retireNow sl k _ free _ _ => exact h.same (.retire (h.no_jobs (p.free_not_held free)))
  | assign sl r base home _ _ =>
    rw [assignSlot_eq]
    exact h.same ((SameJobs.setSlot sl { Slot.unassigned with home := some { ring := r, base := base } }
      (h.no_jobs (p.homeless_not_held home)).symm).trans (.setRing r _ fun _ k => k))
  | size r e o _ _ => exact h.same (.setRing r _ fun _ k => k)
  | overflow r o => exact h.same (.setRing r _ fun _ k => k)
  | power r on _ => exact h.same (.setRing r _ fun _ k => k)
  | dropEntry e _ =>
    have hd : SameJobs s (s.removeChange e) := .congr rfl rfl rfl
    rcases clearRetirePending_cases (s.removeChange e) e.op with ⟨_, k⟩ | ⟨x, _, k⟩ <;> rw [k]
    · exact h.same hd
    · exact h.same (hd.trans (.setSlot x _ rfl))
  | queueRetire sl k _ _ _ _ _ =>
    exact h.same ((SameJobs.setSlot sl { s.slot sl with retirePending := true } rfl).trans
      (.congr rfl rfl rfl))
  | startJob j idle enter =>
    have hx := h.enter enter
      { s.copy with
        active := some { job := j, half := .read, cancelled := false, granted := false }
        nextId := nextUnused 255 (s.copy.ids ++ [s.copy.nextId]) s.copy.nextId }
      (by simp [CopyEngine.jobs, idle]) rfl fun _ k => .inl k
    exact hx.same (.congr rfl rfl rfl)
  | queueJob j busy enter =>
    exact h.enter enter
      { s.copy with
        queued := s.copy.queued ++ [j]
        nextId := nextUnused 255 (s.copy.ids ++ [s.copy.nextId]) s.copy.nextId }
      (by
        simp only [CopyEngine.jobs, ← List.append_assoc]
        exact List.perm_append_comm) rfl fun k hk => by simpa using hk
  | dropActive j hj _ =>
    have hx := h.leave j.job { s.copy with active := none, staging := [] }
      (by simp [CopyEngine.jobs, hj]) rfl fun _ k => k
    split <;> exact hx.same (.congr rfl rfl rfl)
  | dropQueued j hj =>
    exact h.leave j { s.copy with queued := s.copy.queued.erase j }
      (by
        simp only [CopyEngine.jobs]
        exact ((List.perm_cons_erase hj).append_left _).trans List.perm_middle) rfl
      fun k hk => List.mem_of_mem_erase hk
  | activateNext idle _ =>
    rcases activateNext_cases s with ⟨_, k⟩ | ⟨j, js, hj, k⟩ <;> rw [k]
    · exact h.same (.congr rfl rfl rfl)
    · exact h.of_keys (by simp [State.presentRead, CopyEngine.jobs, idle, hj])
        (fun x hx => by rw [hj]; exact List.mem_cons_of_mem _ hx) rfl (fun _ => rfl) fun _ _ k => k
  | _ => exact h.same (.congr rfl rfl rfl)

end

end Sys2Proof.Machine
end

section
/-! PROOFS: every step keeps the laws of the Change Queue (O59): entries wait with their targets, a slot
that goes free while its retirement waits is due for it (R154), and an aperture that turns OFF has its
entries applied in the same event (R153). -/

namespace Sys2Proof.Machine

section
variable {s t : State}

/-- The laws of the Change Queue (R5, R145), between the moves of one event. -/
structure State.ChangeLaws (s : State) (g : Ghost) : Prop where
  seqs      : s.changes.seqs.Nodup
  apertures : ∀ e ∈ s.changes.entries, ∀ a x, e.op = .aperture a x → s.apOn a = true ∨ g.offAp = some a
  overflows : ∀ e ∈ s.changes.entries, ∀ r o, e.op = .setOverflow r o →
    (s.ring r).producer.isSome = true ∨ g.offRing = some r
  retiring  : ∀ e ∈ s.changes.entries, ∀ sl, e.op = .retireSlot sl →
    (s.slot sl).home.isSome = true ∧ ∀ r, sl ∈ (s.ring r).free → sl ∈ g.due
  pending   : ∀ sl, (s.slot sl).retirePending = true ↔ ∃ e ∈ s.changes.entries, e.op = .retireSlot sl
  once      : ∀ sl, s.changes.entries.countP (fun e => decide (e.op = .retireSlot sl)) ≤ 1

/-- A part with the same entries, whose targets are the same but for what is left to do. -/
structure Waits (s : State) (g : Ghost) (t : State) (g' : Ghost) : Prop where
  changes  : t.changes = s.changes
  pending  : ∀ sl, (t.slot sl).retirePending = (s.slot sl).retirePending
  home     : ∀ sl, (s.slot sl).home.isSome = true → (t.slot sl).home.isSome = true
  free     : ∀ r, ∀ x ∈ (t.ring r).free, x ∈ (s.ring r).free ∨ x ∈ g'.due
  due      : ∀ x ∈ g.due, x ∈ g'.due
  on       : ∀ a, s.apOn a = true → t.apOn a = true ∨ g'.offAp = some a
  offAp    : ∀ a, g.offAp = some a → g'.offAp = some a
  producer : ∀ r, (s.ring r).producer.isSome = true →
    (t.ring r).producer.isSome = true ∨ g'.offRing = some r
  offRing  : ∀ r, g.offRing = some r → g'.offRing = some r

variable {g g' h k : Ghost} {u : State}

theorem State.ChangeLaws.waits (l : s.ChangeLaws g) (w : Waits s g t g') : t.ChangeLaws g' where
  seqs := by rw [w.changes]; exact l.seqs
  apertures e he a x hx := by
    rw [w.changes] at he
    exact (l.apertures e he a x hx).elim (w.on a) fun i => .inr (w.offAp a i)
  overflows e he r o hx := by
    rw [w.changes] at he
    exact (l.overflows e he r o hx).elim (w.producer r) fun i => .inr (w.offRing r i)
  retiring e he sl hx := by
    rw [w.changes] at he
    obtain ⟨home, free⟩ := l.retiring e he sl hx
    exact ⟨w.home sl home, fun r hr => (w.free r sl hr).elim (fun i => w.due sl (free r i)) id⟩
  pending sl := by rw [w.pending, w.changes]; exact l.pending sl
  once sl := by rw [w.changes]; exact l.once sl

theorem Waits.trans (v : Waits s g t h) (w : Waits t h u k) : Waits s g u k where
  changes := w.changes.trans v.changes
  pending sl := (w.pending sl).trans (v.pending sl)
  home sl i := w.home sl (v.home sl i)
  free r x i := (w.free r x i).elim (fun j => (v.free r x j).imp id (w.due x)) .inr
  due x i := w.due x (v.due x i)
  on a i := (v.on a i).elim (w.on a) fun j => .inr (w.offAp a j)
  offAp a i := w.offAp a (v.offAp a i)
  producer r i := (v.producer r i).elim (w.producer r) fun j => .inr (w.offRing r j)
  offRing r i := w.offRing r (v.offRing r i)

theorem Waits.congr (changes : t.changes = s.changes) (slots : t.slots = s.slots)
    (rings : t.rings = s.rings) (aps : t.apertures = s.apertures) : Waits s g t g where
  changes := changes
  pending sl := by simp only [State.slot, slots]
  home sl i := by simpa only [State.slot, slots] using i
  free r x i := .inl (by simpa only [State.ring, rings] using i)
  due _ i := i
  on a i := .inl (by rw [State.apOn, State.ap, aps]; exact i)
  offAp _ i := i
  producer r i := .inl (by simpa only [State.ring, rings] using i)
  offRing _ i := i

theorem Waits.setSlot (sl : SlotId) (x : Slot) (home : x.home = (s.slot sl).home)
    (pending : x.retirePending = (s.slot sl).retirePending) : Waits s g (s.setSlot sl x) g where
  changes := rfl
  pending y := by
    rw [setSlot_slot]
    split
    · next e => exact e ▸ pending
    · rfl
  home y i := by
    rw [setSlot_slot]
    split
    · next e => rw [home, e]; exact i
    · exact i
  free _ _ i := .inl i
  due _ i := i
  on _ i := .inl i
  offAp _ i := i
  producer _ i := .inl i
  offRing _ i := i

theorem Waits.setRing (r : RingId) (x : Ring) (free : ∀ y ∈ x.free, y ∈ (s.ring r).free ∨ y ∈ g.due)
    (producer : (s.ring r).producer.isSome = true → x.producer.isSome = true) :
    Waits s g (s.setRing r x) g where
  changes := rfl
  pending _ := rfl
  home _ i := i
  free q y i := by
    rw [setRing_ring] at i
    split at i
    · next e => exact e ▸ free y i
    · exact .inl i
  due _ i := i
  on _ i := .inl i
  offAp _ i := i
  producer q i := by
    rw [setRing_ring]
    split
    · next e => exact .inl (producer (e ▸ i))
    · exact .inl i
  offRing _ i := i

/-- A ring record that keeps its free list and its producer. -/
theorem Waits.keepFree (r : RingId) (x : Ring) (free : x.free = (s.ring r).free)
    (producer : x.producer = (s.ring r).producer) : Waits s g (s.setRing r x) g :=
  .setRing r x (fun _ i => .inl (free ▸ i)) fun i => producer ▸ i

theorem Waits.setAp (a : ApId) (x : Aperture) (on : s.apOn a = true → x.state ≠ .off) :
    Waits s g (s.setAp a x) g where
  changes := rfl
  pending _ := rfl
  home _ i := i
  free _ _ i := .inl i
  due _ i := i
  on b i := by
    rw [apOn_eq_true, setAp_ap]
    split
    · next e => exact .inl (on (e ▸ i))
    · exact .inl (apOn_eq_true.1 i)
  offAp _ i := i
  producer _ i := .inl i
  offRing _ i := i

theorem Waits.ghost (due : ∀ x ∈ g.due, x ∈ g'.due) (offAp : ∀ a, g.offAp = some a → g'.offAp = some a)
    (offRing : ∀ r, g.offRing = some r → g'.offRing = some r) : Waits s g s g' :=
  ⟨rfl, fun _ => rfl, fun _ i => i, fun _ _ i => .inl i, due, fun _ i => .inl i, offAp, fun _ i => .inl i,
    offRing⟩

/-- A slot is due for the retirement that may wait on it. -/
theorem Waits.oweDue (sl : SlotId) : Waits s g s { g with due := sl :: g.due } :=
  .ghost (fun _ i => List.mem_cons_of_mem _ i) (fun _ i => i) fun _ i => i

theorem Waits.joinFreeTail (r : RingId) (sl : SlotId) :
    Waits s g (s.joinFreeTail r sl) { g with due := sl :: g.due } :=
  (Waits.oweDue sl).trans ((Waits.setSlot sl (s.slot sl).freed rfl rfl).trans
    (.setRing r _ (fun y i => (List.mem_append.1 i).imp id fun i => by
      rw [List.mem_singleton.1 i]; exact List.mem_cons_self) fun i => i))

theorem Waits.joinFreeHead (r : RingId) (sl : SlotId) :
    Waits s g (s.joinFreeHead r sl) { g with due := sl :: g.due } :=
  (Waits.oweDue sl).trans ((Waits.setSlot sl (s.slot sl).freed rfl rfl).trans
    (.setRing r _ (fun y i => (List.mem_cons.1 i).symm.imp id fun i => by
      rw [i]; exact List.mem_cons_self) fun i => i))

theorem Waits.leaveReady (r : RingId) (sl : SlotId) : Waits s g (s.leaveReady r sl) g :=
  .keepFree r _ rfl rfl

theorem Waits.setApState (a : ApId) (x : ApState) (on : x ≠ .off) : Waits s g (s.setApState a x) g :=
  .setAp a _ fun _ => on

theorem Waits.fill (a : ApId) (sl : SlotId) (n : Nat) : Waits s g (s.fill a sl n) g :=
  (Waits.setSlot sl ((s.slot sl).filling n) rfl rfl).trans (.setApState a (.bound sl) nofun)

/-! ### Entries that leave -/

/-- No RETIRE_SLOT of the slot waits. -/
def State.noneRetires (s : State) (sl : SlotId) : Prop := ∀ e ∈ s.changes.entries, e.op ≠ .retireSlot sl

theorem State.ChangeLaws.noneRetires (l : s.ChangeLaws g) {sl : SlotId}
    (off : (s.slot sl).retirePending = false) : s.noneRetires sl := fun e he hx => by
  have := (l.pending sl).2 ⟨e, he, hx⟩
  rw [off] at this
  cases this

/-- What is due matters only where a retirement waits. -/
theorem State.ChangeLaws.settled (l : s.ChangeLaws g) {sl : SlotId} (none : s.noneRetires sl) :
    s.ChangeLaws { g with due := g.due.filter (· ≠ sl) } :=
  { l with
    retiring := fun e he x hx => by
      obtain ⟨home, free⟩ := l.retiring e he x hx
      refine ⟨home, fun r hr => List.mem_filter.2 ⟨free r hr, ?_⟩⟩
      exact decide_eq_true fun k => none e he (k ▸ hx) }

/-- An entry leaves the queue, and a RETIRE_SLOT takes its mark with it. -/
theorem State.ChangeLaws.drop (l : s.ChangeLaws g) (e : Change)
    (mem : ∀ x, e.op = .retireSlot x → e ∈ s.changes.entries) :
    ((s.removeChange e).clearRetirePending e.op).ChangeLaws g ∧
      ∀ x, e.op = .retireSlot x → ((s.removeChange e).clearRetirePending e.op).noneRetires x := by
  have hsub : ∀ i ∈ (s.removeChange e).changes.entries, i ∈ s.changes.entries :=
    fun i hi => (removeChange_sublist s e).subset hi
  have gone (x : SlotId) (hx : e.op = .retireSlot x) : (s.removeChange e).noneRetires x := by
    have hc := l.once x
    have hpos := (List.perm_cons_erase (mem x hx)).countP_eq (fun i => decide (i.op = .retireSlot x))
    rw [List.countP_cons, if_pos (decide_eq_true hx)] at hpos
    have hzero : (s.removeChange e).changes.entries.countP (fun i => decide (i.op = .retireSlot x)) = 0 := by
      show (s.changes.entries.erase e).countP _ = 0
      omega
    exact fun i hi hix => by simpa [hix] using List.countP_eq_zero.1 hzero i hi
  have hmark (x : SlotId) (ne : e.op ≠ .retireSlot x) :
      (s.slot x).retirePending = true ↔
        ∃ i ∈ (s.removeChange e).changes.entries, i.op = .retireSlot x := by
    rw [l.pending]
    refine ⟨fun ⟨i, hi, hx⟩ => ⟨i, ?_, hx⟩, fun ⟨i, hi, hx⟩ => ⟨i, hsub i hi, hx⟩⟩
    exact (List.mem_erase_of_ne fun k => ne (by rw [← k]; exact hx)).2 hi
  have hseqs := l.seqs.sublist (seqs_removeChange_sublist e)
  have honce (x : SlotId) := ((removeChange_sublist s e).countP_le
    (p := fun i => decide (i.op = .retireSlot x))).trans (l.once x)
  rcases clearRetirePending_cases (s.removeChange e) e.op with ⟨none, k⟩ | ⟨x, hx, k⟩ <;> rw [k]
  · exact ⟨⟨hseqs, fun i hi => l.apertures i (hsub i hi), fun i hi => l.overflows i (hsub i hi),
      fun i hi => l.retiring i (hsub i hi), fun x => hmark x (none x), honce⟩,
      fun x hx => absurd hx (none x)⟩
  · refine ⟨⟨hseqs, fun i hi => l.apertures i (hsub i hi), fun i hi => l.overflows i (hsub i hi),
      fun i hi y hy => ?_, fun y => ?_, honce⟩, fun y hy => ?_⟩
    · have hne : x ≠ y := fun k => gone x hx i hi (k ▸ hy)
      rw [setSlot_slot_ne _ _ hne]
      exact l.retiring i (hsub i hi) y hy
    · by_cases hne : x = y
      · subst hne
        rw [setSlot_slot_self]
        exact ⟨nofun, fun ⟨i, hi, hix⟩ => absurd hix (gone x hx i hi)⟩
      · rw [setSlot_slot_ne _ _ hne]
        exact hmark y fun k => hne (by rw [hx] at k; cases k; rfl)
    · rw [hx] at hy
      cases hy
      exact gone x hx

/-- A slot record without a mark, of a slot that no retirement waits on. -/
theorem State.ChangeLaws.unmarked (l : s.ChangeLaws g) {sl : SlotId} (none : s.noneRetires sl) (x : Slot)
    (mark : x.retirePending = false) : (s.setSlot sl x).ChangeLaws g :=
  { l with
    retiring := fun e he y hy => by
      have hne : sl ≠ y := fun k => none e he (k ▸ hy)
      rw [setSlot_slot_ne _ _ hne]
      exact l.retiring e he y hy
    pending := fun y => by
      by_cases hne : sl = y
      · subst hne
        rw [setSlot_slot_self, mark]
        exact ⟨nofun, fun ⟨e, he, hx⟩ => absurd hx (none e he)⟩
      · rw [setSlot_slot_ne _ _ hne]
        exact l.pending y }

theorem State.ChangeLaws.retire (l : s.ChangeLaws g) {sl : SlotId} (none : s.noneRetires sl) :
    (s.retire sl).ChangeLaws g := by
  cases hk : (s.slot sl).home with
  | none => rwa [State.retire, hk]
  | some k =>
    rw [retire_of_home s hk]
    exact (l.waits (.setRing k.ring _ (fun _ i => .inl (by exact List.mem_of_mem_erase i))
      (by exact fun i => i))).unmarked none Slot.unassigned rfl

/-- The retirement of a slot that has gone free applies, if one waits (R154). -/
theorem State.ChangeLaws.applyRetirement (l : s.ChangeLaws g) (sl : SlotId) :
    (s.applyRetirement sl).ChangeLaws { g with due := g.due.filter (· ≠ sl) } := by
  have dropped {e : Change} (he : s.waitingRetirement sl = some e) :
      ((s.removeChange e).setSlot sl { s.slot sl with retirePending := false }).ChangeLaws g ∧
        ((s.removeChange e).setSlot sl { s.slot sl with retirePending := false }).noneRetires sl := by
    obtain ⟨mem, op⟩ := waitingRetirement_some he
    obtain ⟨l', none⟩ := l.drop e fun _ _ => mem
    have none := none sl op
    rw [op] at l' none
    exact ⟨l', none⟩
  rcases applyRetirement_cases s sl with ⟨none, k⟩ | ⟨e, he, _, k⟩ | ⟨e, he, _, k⟩ <;> rw [k]
  · refine l.settled fun e he hx => ?_
    simpa [hx] using List.find?_eq_none.1 none e he
  · obtain ⟨l', none⟩ := dropped he
    exact (l'.settled none).waits (.congr rfl rfl rfl rfl)
  · obtain ⟨l', none⟩ := dropped he
    have hr := (l'.retire none).settled (sl := sl) (by
      intro i hi
      rw [retire_changes] at hi
      exact none i hi)
    exact hr.waits (.congr rfl rfl rfl rfl)

/-! ### Entries that join or count down -/

theorem State.ChangeLaws.countDown (l : s.ChangeLaws g) (e : Change) (n : Nat) :
    State.ChangeLaws { s with changes := { s.changes with
      entries := s.changes.entries.map fun x => if x = e then { x with expiry := n } else x } } g := by
  have hop (x : Change) : (if x = e then { x with expiry := n } else x : Change).op = x.op := by
    split <;> rfl
  have back : ∀ i ∈ s.changes.entries.map fun x => if x = e then { x with expiry := n } else x,
      ∃ y ∈ s.changes.entries, y.op = i.op := List.forall_mem_map.2 fun y hy => ⟨y, hy, (hop y).symm⟩
  refine ⟨?_, fun i hi a x hx => ?_, fun i hi r o hx => ?_, fun i hi sl hx => ?_, fun sl => ?_,
    fun sl => ?_⟩
  · show (List.map _ _ ++ _).Nodup
    rw [map_seq_countDown]
    exact l.seqs
  · obtain ⟨y, hy, e⟩ := back i hi
    exact l.apertures y hy a x (e.trans hx)
  · obtain ⟨y, hy, e⟩ := back i hi
    exact l.overflows y hy r o (e.trans hx)
  · obtain ⟨y, hy, e⟩ := back i hi
    exact l.retiring y hy sl (e.trans hx)
  · show (s.slot sl).retirePending = true ↔ _
    rw [l.pending]
    simp only [List.mem_map, exists_exists_and_eq_and, hop]
  · show List.countP _ (List.map _ _) ≤ 1
    rw [List.countP_map]
    simpa only [Function.comp_def, hop] using l.once sl

theorem mem_queueChange {op : ChangeOp} {n : Nat} {e : Change}
    (he : e ∈ (s.queueChange op n).changes.entries) : e ∈ s.changes.entries ∨ e.op = op := by
  rcases List.mem_append.1 he with he | he
  · exact .inl he
  · rw [List.mem_singleton.1 he]; exact .inr rfl

theorem State.ChangeLaws.queueEntry (l : s.ChangeLaws g) {op : ChangeOp} (n : Nat)
    (space : s.changes.entries.length < 12) (target : s.targetCheck op = true)
    (slot : ∀ x, op ≠ .retireSlot x) : (s.queueChange op n).ChangeLaws g where
  seqs := queueChange_seqs s op n space l.seqs
  apertures e he a x hx := by
    rcases mem_queueChange he with he | he
    · exact l.apertures e he a x hx
    · rw [he] at hx
      rw [hx] at target
      exact .inl target
  overflows e he r o hx := by
    rcases mem_queueChange he with he | he
    · exact l.overflows e he r o hx
    · rw [he] at hx
      rw [hx] at target
      exact .inl target
  retiring e he sl hx := by
    rcases mem_queueChange he with he | he
    · exact l.retiring e he sl hx
    · exact absurd (he ▸ hx) (slot sl)
  pending sl := by
    refine (l.pending sl).trans ⟨fun ⟨e, he, hx⟩ => ⟨e, List.mem_append_left _ he, hx⟩, fun ⟨e, he, hx⟩ => ?_⟩
    rcases mem_queueChange he with he | he
    · exact ⟨e, he, hx⟩
    · exact absurd (he ▸ hx) (slot sl)
  once sl := by
    refine (List.countP_append ..).trans_le ?_
    simpa [slot sl] using l.once sl

theorem State.ChangeLaws.queueRetire (l : s.ChangeLaws g) {sl : SlotId} (n : Nat)
    (space : s.changes.entries.length < 12) (pending : (s.slot sl).retirePending = false)
    (home : (s.slot sl).home.isSome = true) (free : ∀ r, sl ∉ (s.ring r).free) :
    ((s.setSlot sl { s.slot sl with retirePending := true }).queueChange (.retireSlot sl) n).ChangeLaws
      g := by
  have none := l.noneRetires pending
  have hne {e : Change} {x : SlotId} (he : e ∈ s.changes.entries) (hx : e.op = .retireSlot x) : sl ≠ x :=
    fun k => none e he (k ▸ hx)
  refine ⟨queueChange_seqs _ _ n space l.seqs, fun e he a x hx => ?_, fun e he r o hx => ?_,
    fun e he x hx => ?_, fun x => ?_, fun x => ?_⟩
  · rcases mem_queueChange he with he | he
    · exact l.apertures e he a x hx
    · rw [he] at hx; cases hx
  · rcases mem_queueChange he with he | he
    · exact l.overflows e he r o hx
    · rw [he] at hx; cases hx
  · rcases mem_queueChange he with he | he
    · rw [queueChange_slot, setSlot_slot_ne _ _ (hne he hx)]
      exact l.retiring e he x hx
    · rw [he] at hx
      cases hx
      rw [queueChange_slot, setSlot_slot_self]
      exact ⟨home, fun r hr => absurd hr (free r)⟩
  · rw [queueChange_slot]
    by_cases e : sl = x
    · subst e
      rw [setSlot_slot_self]
      exact ⟨fun _ => ⟨_, List.mem_append_right _ List.mem_cons_self, rfl⟩, fun _ => rfl⟩
    · rw [setSlot_slot_ne _ _ e, l.pending]
      refine ⟨fun ⟨i, hi, hx⟩ => ⟨i, List.mem_append_left _ hi, hx⟩, fun ⟨i, hi, hx⟩ => ?_⟩
      rcases mem_queueChange hi with hi | hi
      · exact ⟨i, hi, hx⟩
      · rw [hi] at hx; cases hx; exact absurd rfl e
  · refine (List.countP_append ..).trans_le ?_
    by_cases e : sl = x
    · subst e
      have hz : s.changes.entries.countP (fun i => decide (i.op = .retireSlot sl)) = 0 :=
        List.countP_eq_zero.2 fun i hi => by simpa using none i hi
      simp only [setSlot_changes, hz]
      simp
    · simpa [e] using l.once x

theorem Move.changeLaws {L : Laws} (hp : L.placed) (hu : L.unique) (m : Move L s g t g')
    (l : s.ChangeLaws g) : t.ChangeLaws g' := by
  cases m with
  | port m => exact l.waits (.congr m.books.changes m.books.slots m.books.rings m.books.apertures)
  | restate g' done =>
    exact ⟨l.seqs, fun e he a x hx => (l.apertures e he a x hx).imp id (done.offAp e he a x hx),
      fun e he r o hx => (l.overflows e he r o hx).imp id (done.offRing e he r o hx),
      fun e he x hx => ⟨(l.retiring e he x hx).1, fun r hr =>
        done.due hp e he x hx ((l.retiring e he x hx).2 r hr)⟩, l.pending, l.once⟩
  | marks sl => exact l.waits (.setSlot sl _ rfl rfl)
  | pass r sl a _ => exact { l.waits (.setSlot (g := g) sl
      { s.slot sl with passedBy := ApSet.insert (s.slot sl).passedBy a } rfl rfl) with }
  | unpass sl a => exact l.waits (.setSlot sl _ rfl rfl)
  | count a n d _ => exact l.waits (.setAp a _ apOn_eq_true.1)
  | configure a c d n u _ _ _ _ _ _ _ _ =>
    exact { l.waits (.setAp (g := g) a { s.ap a with config := some d, count := n } apOn_eq_true.1) with }
  | setUp a c _ _ _ => exact l.waits (.setAp a _ apOn_eq_true.1)
  | toReady a r sl _ =>
    exact { l.waits ((Waits.setApState (g := g) a .unbound nofun).trans (.keepFree r
      { s.ring r with ready := (s.ring r).ready ++ [sl] } rfl rfl)) with }
  | returnHead a r sl _ => exact l.waits ((Waits.setApState a .unbound nofun).trans (.joinFreeHead r sl))
  | advance r => exact l.waits (.keepFree r _ rfl rfl)
  | takeFree a r sl rest n free _ _ _ =>
    exact l.waits ((Waits.setRing r { s.ring r with free := rest }
      (fun y i => .inl (by rw [free]; exact List.mem_cons_of_mem _ i)) fun i => i).trans (.fill a sl n))
  | steal a r sl n _ _ _ _ _ => exact l.waits ((Waits.leaveReady r sl).trans (.fill a sl n))
  | unbind a _ _ => exact l.waits (.setApState a _ nofun)
  | producerOn a c _ _ _ _ _ =>
    exact l.waits ((Waits.setRing c.ring { s.ring c.ring with producer := some a } (fun _ i => .inl i)
      fun _ => rfl).trans (.setAp a _ fun _ => nofun))
  | producerOff a r _ onlyAp onlyRing =>
    refine l.waits ⟨rfl, fun _ => rfl, fun _ i => i, fun q x i => .inl ?_, fun _ i => i, fun b i => ?_,
      fun b i => ?_, fun q i => ?_, fun q i => ?_⟩
    · rw [State.producerOff, setRing_ring] at i
      split at i
      · next e => exact e ▸ i
      · exact i
    · by_cases e : a = b
      · exact .inr (congrArg some e)
      · exact .inl (by rw [apOn_eq_true, State.producerOff, setRing_ap, setAp_ap_ne _ _ e]; exact
          apOn_eq_true.1 i)
    · rcases onlyAp with k | k <;> rw [k] at i <;> cases i
      rfl
    · by_cases e : r = q
      · exact .inr (congrArg some e)
      · exact .inl (by rw [State.producerOff, setRing_ring_ne _ _ e]; exact i)
    · rcases onlyRing with k | k <;> rw [k] at i <;> cases i
      rfl
  | acquire a r sl _ _ _ =>
    exact l.waits ((Waits.setSlot sl { s.slot sl with holders := ApSet.insert (s.slot sl).holders a }
      rfl rfl).trans (.setApState a _ nofun))
  | release a c sl _ _ =>
    exact { l.waits ((Waits.setSlot (g := g) sl
      { s.slot sl with holders := ApSet.erase (s.slot sl).holders a } rfl rfl).trans
      (.setApState a .unbound nofun)) with }
  | consumerOn a c _ _ _ _ _ =>
    exact l.waits ((Waits.keepFree c.ring { s.ring c.ring with
      consumers := ApSet.insert (s.ring c.ring).consumers a } rfl rfl).trans (.setAp a _ fun _ => nofun))
  | consumerOff a c u _ _ _ _ onlyAp =>
    have hring (q : RingId) : ((s.setAp a { s.ap a with state := .off, deferred := false }).setRing c.ring
        { s.ring c.ring with consumers := ApSet.erase (s.ring c.ring).consumers a }).ring q =
        { s.ring q with consumers := (((s.setAp a { s.ap a with state := .off, deferred := false }).setRing
          c.ring { s.ring c.ring with
            consumers := ApSet.erase (s.ring c.ring).consumers a }).ring q).consumers } := by
      rw [setRing_ring]
      split
      · next e => rw [e]
      · rfl
    refine l.waits ⟨rfl, fun _ => rfl, fun _ i => i, fun q x i => .inl ?_, fun _ i => i, fun b i => ?_,
      fun b i => ?_, fun q i => .inl ?_, fun _ i => i⟩
    · rw [hring] at i; exact i
    · by_cases e : a = b
      · exact .inr (congrArg some e)
      · exact .inl (by rw [apOn_eq_true, setRing_ap, setAp_ap_ne _ _ e]; exact apOn_eq_true.1 i)
    · rcases onlyAp with k | k <;> rw [k] at i <;> cases i
      rfl
    · rw [hring]; exact i
  | toHeld r sl _ _ => exact l.waits ((Waits.leaveReady r sl).trans (.keepFree r _ rfl rfl))
  | toFree r sl _ _ => exact l.waits ((Waits.leaveReady r sl).trans (.joinFreeTail r sl))
  | freeHeld r sl _ _ =>
    have hl : Waits s g (s.leaveHeld r sl) g := .keepFree r _ rfl rfl
    exact l.waits (hl.trans (.joinFreeTail r sl))
  | settle sl _ => exact l.applyRetirement sl
  | retireNow sl _ _ _ pending _ => exact l.retire (l.noneRetires pending)
  | assign sl r base home _ _ =>
    rw [assignSlot_eq]
    have none : s.noneRetires sl := fun e he hx => by
      have := (l.retiring e he sl hx).1
      rw [home] at this
      cases this
    have hm := l.unmarked none { Slot.unassigned with home := some { ring := r, base := base } } rfl
    refine ⟨hm.seqs, hm.apertures, fun e he q o hx => ?_, fun e he x hx => ⟨(hm.retiring e he x hx).1,
      fun q hq => ?_⟩, hm.pending, hm.once⟩
    · rw [setRing_ring]
      split
      · next k => exact k ▸ hm.overflows e he q o hx
      · exact hm.overflows e he q o hx
    · rw [setRing_ring] at hq
      split at hq
      · next k =>
        subst k
        rcases List.mem_append.1 hq with hq | hq
        · exact (hm.retiring e he x hx).2 r hq
        · exact absurd (List.mem_singleton.1 hq ▸ hx) (none e he)
      · exact (hm.retiring e he x hx).2 q hq
  | size r e o _ _ => exact l.waits (.keepFree r _ rfl rfl)
  | overflow r o => exact l.waits (.keepFree r _ rfl rfl)
  | power r on _ => exact l.waits (.keepFree r _ rfl rfl)
  | dropEntry e mem => exact (l.drop e fun x hx => mem x hx hu).1
  | countDown e n _ => exact l.countDown e n
  | queueEntry op n space _ _ target slot => exact l.queueEntry n space target slot
  | queueRetire sl n space _ pending home free => exact l.queueRetire n space pending home (free hp)
  | startJob j _ _ =>
    exact l.waits ((Waits.setSlot j.slot { s.slot j.slot with jobs := (s.slot j.slot).jobs + 1 }
      rfl rfl).trans (.congr rfl rfl rfl rfl))
  | queueJob j _ _ =>
    exact l.waits ((Waits.setSlot j.slot { s.slot j.slot with jobs := (s.slot j.slot).jobs + 1 }
      rfl rfl).trans (.congr rfl rfl rfl rfl))
  | dropActive j _ _ =>
    exact { l.waits ((Waits.setSlot (g := g) j.job.slot
      { s.slot j.job.slot with jobs := (s.slot j.job.slot).jobs - 1 } rfl rfl).trans
      (.congr (by split <;> rfl) (by split <;> rfl) (by split <;> rfl) (by split <;> rfl))) with }
  | dropQueued j _ =>
    exact l.waits ((Waits.setSlot j.slot { s.slot j.slot with jobs := (s.slot j.slot).jobs - 1 }
      rfl rfl).trans (.congr rfl rfl rfl rfl))
  | activateNext =>
    have w : Waits s g s.activateNext g := by
      rcases activateNext_cases s with ⟨_, k⟩ | ⟨_, _, _, k⟩ <;> rw [k] <;> exact .congr rfl rfl rfl rfl
    exact { l.waits w with }

theorem queueLaws_iff : s.QueueLaws ↔ s.ChangeLaws .rest ∧ s.JobLaws := by
  constructor
  · intro q
    refine ⟨⟨q.seqs, fun e he a x hx => .inl (q.apertures e he a x hx),
      fun e he r o hx => .inl (q.overflows e he r o hx),
      fun e he sl hx => ⟨(q.retiring e he sl hx).1, fun r hr => absurd hr ((q.retiring e he sl hx).2 r)⟩,
      q.pending, fun sl => ?_⟩, q.ids, q.jobCounts, q.held, q.notRun⟩
    rw [List.countP_eq_length_filter]; exact q.retireOnce sl
  · rintro ⟨l, j⟩
    refine ⟨l.seqs, j.ids, fun e he a x hx => (l.apertures e he a x hx).resolve_right nofun,
      fun e he r o hx => (l.overflows e he r o hx).resolve_right nofun,
      fun e he sl hx => ⟨(l.retiring e he sl hx).1, fun r hr => nomatch (l.retiring e he sl hx).2 r hr⟩,
      l.pending, fun sl => ?_, j.counts, j.held, j.notRun⟩
    rw [← List.countP_eq_length_filter]; exact l.once sl

theorem reset_queueLaws : State.reset.QueueLaws := queueLaws_of_check (by decide)

theorem Jump.laws {i : Instr} (j : Jump i s t) (l : s.ChangeLaws .rest) (q : s.JobLaws) :
    t.ChangeLaws .rest ∧ t.JobLaws := by
  obtain ⟨rl, rq⟩ := queueLaws_iff.1 reset_queueLaws
  cases j with
  | core => exact ⟨rl.waits (.congr rfl rfl rfl rfl), rq.same (.congr rfl rfl rfl)⟩
  | power => exact ⟨rl.waits (.congr rfl rfl rfl rfl), rq.same (.congr rfl rfl rfl)⟩
  | _ => exact ⟨l.waits (.congr rfl rfl rfl rfl), q.same (.congr rfl rfl rfl)⟩

end

/-- Settles O59: the laws of the Change Queue are kept with what is left to do, those of the copy queue by
each move. -/
theorem queuesKeepTheirLaws : Obligations.QueuesKeepTheirLaws := by
  unfold Obligations.QueuesKeepTheirLaws
  intro s t p q hs
  obtain ⟨l, j⟩ := queueLaws_iff.1 q
  have ho : s.Obeys { Laws.none with placed := True, unique := True } :=
    ⟨fun _ => p, nofun, nofun, fun _ => l.seqs⟩
  refine queueLaws_iff.2 (step_keeps (P := fun s g => s.Placed ∧ s.ChangeLaws g ∧ s.JobLaws) ho
    (fun h => ⟨h.1.congr rfl rfl rfl, h.2.1.waits (.congr rfl rfl rfl rfl), h.2.2.same (.congr rfl rfl rfl)⟩)
    (fun h m => ⟨m.placed trivial h.1, m.changeLaws trivial trivial h.2.1, m.jobLaws trivial h.1 h.2.2⟩)
    (fun h j => ⟨j.books.elim (fun b => h.1.congr b.slots b.rings b.apertures)
      fun b => reset_placed.congr b.slots b.rings b.apertures, j.laws h.2.1 h.2.2⟩) hs ⟨p, l, j⟩ ⟨id, id, id, id⟩).2

end Sys2Proof.Machine
end

section
/-! PROOFS: every step keeps one claim for each claimant at work (O57, second part). -/

namespace Sys2Proof.Machine

section
variable {L : Laws} {s t : State} {g g' : Ghost}

/-- The moves of the ports and of the copy engine; every other move leaves all three alone. -/
theorem Move.ports_cases (m : Move L s g t g') :
    (PortMove L s t ∧ g' = g) ∨
    (t.steering = s.steering ∧ t.arbiter = s.arbiter ∧ t.copy = s.copy ∧ g'.ending = g.ending) ∨
    (∃ j, s.copy.active = none ∧ t = (s.enrol j).presentRead j ∧ g' = g) ∨
    (∃ j, s.copy.active ≠ none ∧ t.steering = s.steering ∧ t.arbiter = s.arbiter ∧
      t.copy.active = s.copy.active ∧ t.copy.queued = s.copy.queued ++ [j] ∧ g' = g) ∨
    (∃ j, s.copy.active = some j ∧ (j.granted = true → ∃ kind, s.copyOnPort kind = true) ∧
      t = (if j.granted then s.freePort else s).clearActive.dropJobCount j.job.slot ∧
      g' = { g with ending := true }) ∨
    (∃ j, t.steering = s.steering ∧ t.arbiter = s.arbiter ∧ t.copy.active = s.copy.active ∧
      t.copy.queued = s.copy.queued.erase j ∧ g' = g) ∨
    (s.copy.active = none ∧ t = s.activateNext ∧ g' = { g with ending := false }) := by
  cases m with
  | port m => exact .inl ⟨m, rfl⟩
  | startJob j idle _ => exact .inr (.inr (.inl ⟨j, idle, rfl, rfl⟩))
  | queueJob j busy _ => exact .inr (.inr (.inr (.inl ⟨j, busy, rfl, rfl, rfl, rfl, rfl⟩)))
  | dropActive j active port => exact .inr (.inr (.inr (.inr (.inl ⟨j, active, port, rfl, rfl⟩))))
  | dropQueued j _ => exact .inr (.inr (.inr (.inr (.inr (.inl ⟨j, rfl, rfl, rfl, rfl, rfl⟩)))))
  | activateNext idle _ => exact .inr (.inr (.inr (.inr (.inr (.inr ⟨idle, rfl, rfl⟩)))))
  | settle sl _ =>
    have f := applyRetirement_frame s sl
    exact .inr (.inl ⟨(congrArg State.steering f :), (congrArg State.arbiter f :),
      (congrArg State.copy f :), rfl⟩)
  | retireNow sl => exact .inr (.inl ⟨retire_steering s sl, retire_arbiter s sl, retire_copy s sl, rfl⟩)
  | restate g' done => exact .inr (.inl ⟨rfl, rfl, rfl, done.ending⟩)
  | dropEntry e _ =>
    rcases clearRetirePending_cases (s.removeChange e) e.op with ⟨_, k⟩ | ⟨x, _, k⟩ <;> rw [k] <;>
      exact .inr (.inl ⟨rfl, rfl, rfl, rfl⟩)
  | _ => exact .inr (.inl ⟨rfl, rfl, rfl, rfl⟩)

/-! ### The STEERING claim (R38, R134) -/

theorem State.SteeringClaims.of_ports (h : s.SteeringClaims) (phase : t.steering.phase = s.steering.phase)
    (arbiter : t.arbiter = s.arbiter) : t.SteeringClaims := by
  have hport : t.steeringOnPort = s.steeringOnPort := by simp only [State.steeringOnPort, arbiter]
  refine ⟨?_, ?_, ?_⟩
  · rw [phase, arbiter, hport]; exact h.flying
  · rw [arbiter, hport]; exact h.one
  · rw [phase, arbiter, hport]; exact h.resting

/-- No transaction is in flight, and none is claimed or on the port. -/
theorem State.SteeringClaims.of_grounded (grounded : t.grounded) (claim : t.arbiter.steeringClaim = none)
    (port : t.steeringOnPort = false) : t.SteeringClaims :=
  ⟨fun u tg e => absurd e (grounded u tg), fun e => (by rw [claim] at e; cases e), fun _ => ⟨claim, port⟩⟩

/-- The port passes to or from the Copy-Out Engine. -/
theorem State.SteeringClaims.of_other_port (h : s.SteeringClaims) (phase : t.steering.phase = s.steering.phase)
    (claim : t.arbiter.steeringClaim = s.arbiter.steeringClaim) (before : s.steeringOnPort = false)
    (after : t.steeringOnPort = false) : t.SteeringClaims := by
  refine ⟨fun u tg e => ?_, fun _ => after, fun e => ⟨?_, after⟩⟩
  · rw [phase] at e
    exact .inl (claim ▸ (h.flying u tg e).resolve_right (by rw [before]; nofun))
  · rw [claim]
    exact (h.resting fun u tg k => e u tg (phase ▸ k)).1

theorem steeringOnPort_of_free (h : s.arbiter.port = none) : s.steeringOnPort = false := by
  simp [State.steeringOnPort, h]

/-- A COPY transaction occupies the port. -/
theorem steeringOnPort_of_copyOnPort {kind : TxnKind} (h : s.copyOnPort kind = true) :
    s.steeringOnPort = false := by
  unfold State.copyOnPort at h
  unfold State.steeringOnPort
  cases hp : s.arbiter.port with
  | none => rfl
  | some x =>
    rw [hp] at h
    simp only [Bool.and_eq_true, decide_eq_true_eq] at h
    simp [h.1]

theorem tick_inFlight {p : SteeringPhase} {u : Txn} {tg : Option Target} :
    p.tick = .inFlight u tg ↔ p = .inFlight u tg := by
  unfold SteeringPhase.tick
  split
  · exact ⟨nofun, nofun⟩
  · rfl

theorem PortMove.steeringClaims (m : PortMove L s t) (h : s.SteeringClaims) : t.SteeringClaims := by
  cases m with
  | tick =>
    exact ⟨fun u tg e => h.flying u tg (tick_inFlight.1 e), h.one,
      fun e => h.resting fun u tg k => e u tg (tick_inFlight.2 k)⟩
  | forward u m tg grounded _ =>
    obtain ⟨_, port⟩ := h.resting grounded
    exact ⟨fun _ _ _ => .inl rfl, fun _ => port, fun e => absurd rfl (e u tg)⟩
  | answer u o d grounded =>
    obtain ⟨claim, port⟩ := h.resting grounded
    exact .of_grounded (fun _ _ => nofun) claim port
  | stall u a base timer grounded _ =>
    obtain ⟨claim, port⟩ := h.resting grounded
    exact .of_grounded (fun _ _ => nofun) claim port
  | complete u tg o d flying onPort =>
    have claim : s.arbiter.steeringClaim = none := by
      cases hc : s.arbiter.steeringClaim with
      | none => rfl
      | some x => rw [h.one (by rw [hc]; rfl)] at onPort; cases onPort
    exact .of_grounded (fun _ _ => nofun) claim rfl
  | grantSteering u k port claim _ =>
    refine ⟨fun _ _ _ => .inr (by simp [State.steeringOnPort, State.grantSteering]),
      fun e => (nomatch e), fun e => ?_⟩
    have := (h.resting e).1
    rw [claim] at this
    cases this
  | grantCopy u port claim =>
    exact h.of_other_port rfl rfl (steeringOnPort_of_free port)
      (by simp [State.steeringOnPort, State.grantCopy])
  | discard kind onPort _ => exact h.of_other_port rfl rfl (steeringOnPort_of_copyOnPort onPort) rfl
  | readOn kind j d onPort _ _ => exact h.of_other_port rfl rfl (steeringOnPort_of_copyOnPort onPort) rfl
  | writeOn kind j onPort _ _ _ => exact h.of_other_port rfl rfl (steeringOnPort_of_copyOnPort onPort) rfl
  | _ => exact h.of_ports rfl rfl

theorem Move.steeringClaims (m : Move L s g t g') (h : s.SteeringClaims) : t.SteeringClaims := by
  rcases m.ports_cases with ⟨m, _⟩ | ⟨hs, ha, _⟩ | ⟨j, _, rfl, _⟩ | ⟨j, _, hs, ha, _⟩ |
    ⟨j, _, port, rfl, _⟩ | ⟨j, hs, ha, _⟩ | ⟨_, rfl, _⟩
  · exact m.steeringClaims h
  · exact h.of_ports (by rw [hs]) ha
  · exact ⟨h.flying, h.one, h.resting⟩
  · exact h.of_ports (by rw [hs]) ha
  · split
    · next hg =>
      obtain ⟨kind, onPort⟩ := port hg
      exact h.of_other_port rfl rfl (steeringOnPort_of_copyOnPort onPort) rfl
    · exact ⟨h.flying, h.one, h.resting⟩
  · exact h.of_ports (by rw [hs]) ha
  · rcases activateNext_cases s with ⟨_, k⟩ | ⟨_, _, _, k⟩ <;> rw [k] <;>
      exact ⟨h.flying, h.one, h.resting⟩

/-! ### The COPY claim (R121, R134) -/

/-- The law on the COPY claim, between the end of a job and the start of the next too. -/
structure State.CopyClaiming (s : State) (g : Ghost) : Prop where
  idle    : s.copy.active = none → (g.ending = false → s.copy.queued = []) ∧ s.arbiter.copyClaim = none
  waiting : ∀ j, s.copy.active = some j → j.granted = false → s.arbiter.copyClaim.isSome = true
  onPort  : ∀ j, s.copy.active = some j → j.granted = true →
    s.arbiter.copyClaim = none ∧ ∃ u, s.arbiter.port = some { claimant := .copy, txn := u }

theorem State.CopyClaiming.of_ports (h : s.CopyClaiming g) (active : t.copy.active = s.copy.active)
    (queued : t.copy.active = none → s.copy.queued = [] → t.copy.queued = [])
    (arbiter : t.arbiter = s.arbiter) (ending : g'.ending = g.ending) : t.CopyClaiming g' := by
  refine ⟨fun e => ?_, ?_, ?_⟩
  · obtain ⟨hq, hc⟩ := h.idle (active ▸ e)
    exact ⟨fun k => queued e (hq (ending ▸ k)), arbiter ▸ hc⟩
  · rw [active, arbiter]; exact h.waiting
  · rw [active, arbiter]; exact h.onPort

/-- The ACTIVE job has just presented its claim. -/
theorem State.CopyClaiming.of_presented {j : ActiveJob} (active : t.copy.active = some j)
    (granted : j.granted = false) (claim : t.arbiter.copyClaim.isSome = true) : t.CopyClaiming g :=
  ⟨fun e => (by rw [active] at e; cases e), fun _ _ _ => claim,
    fun i e k => by rw [active] at e; cases e; rw [granted] at k; cases k⟩

/-- A FREE port, or one that the STEERING transaction occupies, has no granted job on it. -/
theorem State.CopyClaiming.not_granted (h : s.CopyClaiming g)
    (port : ∀ u, s.arbiter.port ≠ some { claimant := .copy, txn := u }) {j : ActiveJob}
    (active : s.copy.active = some j) : j.granted = false := by
  cases hg : j.granted with
  | false => rfl
  | true =>
    obtain ⟨_, u, hu⟩ := h.onPort j active hg
    exact absurd hu (port u)

/-- The port changes hands where the ACTIVE job is not on it. -/
theorem State.CopyClaiming.of_port (h : s.CopyClaiming g)
    (port : ∀ u, s.arbiter.port ≠ some { claimant := .copy, txn := u }) (copy : t.copy = s.copy)
    (claim : t.arbiter.copyClaim = s.arbiter.copyClaim) : t.CopyClaiming g := by
  refine ⟨?_, ?_, fun j e k => ?_⟩
  · rw [copy, claim]; exact h.idle
  · rw [copy, claim]; exact h.waiting
  · rw [h.not_granted port (copy ▸ e)] at k
    cases k

theorem port_of_steeringOnPort (h : s.steeringOnPort = true) (u : Txn) :
    s.arbiter.port ≠ some { claimant := .copy, txn := u } := fun e => by
  simp [State.steeringOnPort, e] at h

theorem PortMove.copyClaiming (m : PortMove L s t) (h : s.CopyClaiming g) : t.CopyClaiming g := by
  cases m with
  | forward => exact ⟨h.idle, h.waiting, h.onPort⟩
  | complete u tg o d _ onPort => exact h.of_port (port_of_steeringOnPort onPort) rfl rfl
  | grantSteering u k port _ _ => exact h.of_port (fun v => by rw [port]; nofun) rfl rfl
  | grantCopy u port claim =>
    refine ⟨fun e => ?_, fun j e k => ?_, fun _ _ _ => ⟨rfl, u, rfl⟩⟩
    · have := (h.idle (Option.map_eq_none_iff.1 e)).2
      rw [claim] at this
      cases this
    · obtain ⟨i, _, hi⟩ := Option.map_eq_some_iff.1 e
      rw [← hi] at k
      cases k
  | discard kind onPort orphan =>
    have hng (j : ActiveJob) (e : s.copy.active = some j) : j.granted = false := by
      cases hg : j.granted with
      | false => rfl
      | true => simp [State.jobOnPort, e, hg] at orphan
    exact ⟨h.idle, h.waiting, fun j e k => by rw [hng j e] at k; cases k⟩
  | cancelMark j active =>
    refine ⟨nofun, fun i e k => ?_, fun i e k => ?_⟩
    · cases e; exact h.waiting j active k
    · cases e; exact h.onPort j active k
  | readOn kind j d _ _ _ => exact .of_presented rfl rfl rfl
  | writeOn kind j _ _ _ _ => exact .of_presented rfl rfl rfl
  | _ => exact h.of_ports rfl (fun _ e => e) rfl rfl

theorem Move.copyClaiming (m : Move L s g t g') (h : s.CopyClaiming g) : t.CopyClaiming g' := by
  rcases m.ports_cases with ⟨pm, rfl⟩ | ⟨_, ha, hc, he⟩ | ⟨j, _, rfl, rfl⟩ | ⟨j, busy, _, ha, hj, hq, rfl⟩ |
    ⟨j, _, port, rfl, rfl⟩ | ⟨j, _, ha, hj, hq, rfl⟩ | ⟨idle, rfl, rfl⟩
  · exact pm.copyClaiming h
  · exact h.of_ports (by rw [hc]) (fun _ e => by rw [hc]; exact e) ha he
  · exact .of_presented rfl rfl rfl
  · exact h.of_ports hj (fun e _ => absurd (hj ▸ e) busy) ha rfl
  · split <;> exact ⟨fun _ => ⟨nofun, rfl⟩, nofun, nofun⟩
  · exact h.of_ports hj (fun _ e => by rw [hq, e]; rfl) ha rfl
  · rcases activateNext_cases s with ⟨hq, k⟩ | ⟨j, js, _, k⟩ <;> rw [k]
    · exact ⟨fun e => ⟨fun _ => hq, (h.idle idle).2⟩, h.waiting, h.onPort⟩
    · exact .of_presented rfl rfl rfl

theorem copyClaims_iff : s.CopyClaims ↔ s.CopyClaiming .rest :=
  ⟨fun h => ⟨fun e => ⟨fun _ => (h.idle e).1, (h.idle e).2⟩, h.waiting, h.onPort⟩,
    fun h => ⟨fun e => ⟨(h.idle e).1 rfl, (h.idle e).2⟩, h.waiting, h.onPort⟩⟩

/-! ### The updates of the resets and the setting commands -/

theorem resetStall_arbiter (s : State) : s.resetStall.arbiter = s.arbiter := by
  unfold State.resetStall State.answerFault
  split
  · split <;> rfl
  · rfl

/-- RESET_CORE leaves a transaction in flight exactly where one was. -/
theorem coreReset_inFlight (levels : LineLevels) :
    (s.coreReset levels).grounded ↔ s.grounded := by
  have hphase : (s.coreReset levels).steering.phase = s.resetStall.steering.afterCoreReset.phase := rfl
  rw [State.grounded, hphase]
  unfold State.resetStall Steering.afterCoreReset State.grounded
  cases hp : s.steering.phase with
  | inFlight u tg => simp [hp]
  | stalled u a b n =>
    have : (s.answerFault u).steering.phase = .opened := by
      unfold State.answerFault; split <;> rfl
    simp [this]
  | opened => simp [hp]

theorem Jump.claims {i : Instr} (j : Jump i s t) (hs : s.SteeringClaims) (hc : s.CopyClaiming .rest) :
    t.SteeringClaims ∧ t.CopyClaiming .rest := by
  cases j with
  | core _ levels =>
    have harb : s.resetStall.arbiter = s.arbiter := resetStall_arbiter s
    have hport : (s.coreReset levels).steeringOnPort = s.steeringOnPort := by
      have : (s.coreReset levels).arbiter.port = s.arbiter.port :=
        (congrArg Arbiter.port harb :)
      simp only [State.steeringOnPort, this]
    have hclaim : (s.coreReset levels).arbiter.steeringClaim = s.arbiter.steeringClaim :=
      (congrArg Arbiter.steeringClaim harb :)
    refine ⟨?_, ⟨fun _ => ⟨fun _ => rfl, rfl⟩, nofun, nofun⟩⟩
    by_cases hg : s.grounded
    · obtain ⟨claim, port⟩ := hs.resting hg
      exact .of_grounded ((coreReset_inFlight levels).2 hg) (hclaim.trans claim) (hport.trans port)
    · have hf : s.arbiter.steeringClaim.isSome = true ∨ s.steeringOnPort = true := by
        simp only [State.grounded, not_forall, not_not] at hg
        obtain ⟨u, tg, e⟩ := hg
        exact hs.flying u tg e
      rw [← hport, ← hclaim] at hf
      exact ⟨fun _ _ _ => hf, fun e => by rw [hport]; exact hs.one (hclaim ▸ e),
        fun e => absurd ((coreReset_inFlight levels).1 e) hg⟩
  | power =>
    exact ⟨.of_grounded (fun _ _ => nofun) rfl rfl, ⟨fun _ => ⟨fun _ => rfl, rfl⟩, nofun, nofun⟩⟩
  | copyShare =>
    exact ⟨⟨hs.flying, hs.one, hs.resting⟩, ⟨hc.idle, hc.waiting, hc.onPort⟩⟩
  | _ => exact ⟨hs.of_ports rfl rfl, hc.of_ports rfl (fun _ e => e) rfl rfl⟩

/-- The second part of O57. -/
theorem step_claims (hc : s.CopyClaims) (hs : s.SteeringClaims) (h : step s = .next t) :
    t.CopyClaims ∧ t.SteeringClaims := by
  have done := step_keeps (P := fun s g => s.SteeringClaims ∧ s.CopyClaiming g) s.obeys_none
    (fun h => ⟨h.1.of_ports rfl rfl, h.2.of_ports rfl (fun _ e => e) rfl rfl⟩)
    (fun h m => ⟨m.steeringClaims h.1, m.copyClaiming h.2⟩) (fun h j => j.claims h.1 h.2) h
    ⟨hs, copyClaims_iff.1 hc⟩ ⟨id, id, id, id⟩
  exact ⟨copyClaims_iff.2 done.2, done.1⟩

end

end Sys2Proof.Machine
end

section
/-! PROOFS: every step leaves both ports at rest (O57, first part). A run inside a boundary makes no
boundary pending, so that the pending ones that can go on run out; the Arbiter decides after them; and the
transactions that wait are accepted one by one. A command that reaches neither the Steering Unit nor the
Arbiter leaves a settled part settled. -/

namespace Sys2Proof.Machine

section
variable {L : Laws} {s t u : State} {g g' : Ghost}

/-! ### Boundaries that are pending -/

/-- A boundary of an ON aperture is pending. -/
def State.pends (s : State) (a : ApId) : Prop := s.apOn a = true ∧ (s.ap a).deferred = true

/-- No boundary is pending that was not. -/
def PendingLe (s t : State) : Prop := ∀ a, t.pends a → s.pends a

theorem PendingLe.trans (h : PendingLe s t) (k : PendingLe t u) : PendingLe s u := fun a e => h a (k a e)

theorem PendingLe.congr (aps : t.apertures = s.apertures) : PendingLe s t := fun a e => by
  rw [State.pends, State.apOn, State.ap, aps] at e
  exact e

theorem PendingLe.setAp (a : ApId) (x : Aperture)
    (h : x.state ≠ .off → x.deferred = true → s.pends a) : PendingLe s (s.setAp a x) := fun b e => by
  obtain ⟨on, d⟩ := e
  rw [apOn_eq_true, setAp_ap] at on
  rw [setAp_ap] at d
  split at on
  · next k => rw [if_pos k] at d; exact k ▸ h on d
  · next k => rw [if_neg k] at d; exact ⟨apOn_eq_true.2 on, d⟩

/-- An ON aperture takes another state. -/
theorem PendingLe.setApState {a : ApId} (x : ApState) (on : s.apOn a = true) :
    PendingLe s (s.setApState a x) := .setAp a _ fun _ d => ⟨on, d⟩

theorem Move.pending (hs : L.still) (m : Move L s g t g') : PendingLe s t := by
  cases m with
  | port m => exact .congr m.books.apertures
  | count a n d _ stirring => exact .setAp a _ fun on e => ⟨apOn_eq_true.2 on, stirring hs e⟩
  | configure a c d n u _ _ _ _ _ _ _ _ => exact .setAp a _ fun on e => ⟨apOn_eq_true.2 on, e⟩
  | setUp a c _ _ _ => exact .setAp a _ fun on e => ⟨apOn_eq_true.2 on, e⟩
  | toReady a r sl k => exact (PendingLe.setApState .unbound k.servesAs.1).trans (.congr rfl)
  | returnHead a r sl k => exact (PendingLe.setApState .unbound k.servesAs.1).trans (.congr rfl)
  | takeFree a r sl rest n _ on _ _ => exact .setAp a _ fun _ e => ⟨on, e⟩
  | steal a r sl n _ _ on _ _ => exact .setAp a _ fun _ e => ⟨on, e⟩
  | unbind a on _ => exact .setApState _ on
  | producerOn a c _ _ _ _ _ => exact .setAp a _ fun _ e => nomatch e
  | producerOff a r _ _ _ => exact (PendingLe.setAp a _ fun on _ => absurd rfl on).trans (.congr rfl)
  | acquire a r sl state _ _ =>
    exact .setApState (s := s.setSlot sl _) _ (apOn_eq_true.2 (by rw [setSlot_ap, state]; nofun))
  | release a c sl bound _ =>
    exact .setApState (s := s.setSlot sl _) _ (apOn_eq_true.2 (by rw [setSlot_ap, bound]; nofun))
  | consumerOn a c _ _ _ _ _ => exact .setAp a _ fun _ e => nomatch e
  | consumerOff a c u _ _ _ _ _ => exact (PendingLe.setAp a _ fun on _ => absurd rfl on).trans (.congr rfl)
  | settle sl _ => exact .congr (applyRetirement_apertures s sl)
  | retireNow sl => exact .congr (retire_apertures s sl)
  | dropEntry e _ =>
    rcases clearRetirePending_cases (s.removeChange e) e.op with ⟨_, k⟩ | ⟨x, _, k⟩ <;> rw [k] <;>
      exact .congr rfl
  | dropActive => exact .congr (by split <;> rfl)
  | activateNext =>
    rcases activateNext_cases s with ⟨_, k⟩ | ⟨_, _, _, k⟩ <;> rw [k] <;> exact .congr rfl
  | _ => exact .congr rfl

theorem Moves.pending (hs : L.still) (m : Moves L s g t g') : PendingLe s t :=
  m.keeps (P := fun u _ => PendingLe s u) (fun h m => h.trans (m.pending hs)) fun _ e => e

/-! ### The Steering Unit and the Arbiter left alone -/

theorem Move.waiting (hs : L.still) (m : Move L s g t g') :
    t.steering.waiting = s.steering.waiting := by
  rcases m.ports_cases with ⟨pm, _⟩ | ⟨hsteer, _⟩ | ⟨j, _, rfl, _⟩ | ⟨j, _, hsteer, _⟩ |
    ⟨j, _, _, rfl, _⟩ | ⟨j, hsteer, _⟩ | ⟨_, rfl, _⟩
  · cases pm with
    | waiting => exact absurd hs Fact.out
    | _ => rfl
  · rw [hsteer]
  · rfl
  · rw [hsteer]
  · split <;> rfl
  · rw [hsteer]
  · rcases activateNext_cases s with ⟨_, k⟩ | ⟨_, _, _, k⟩
    · rw [k]
    · rw [k]; rfl

theorem Moves.waiting (hs : L.still) (m : Moves L s g t g') : t.steering.waiting = s.steering.waiting :=
  m.keeps (P := fun u _ => u.steering.waiting = s.steering.waiting)
    (fun h m => (m.waiting hs).trans h) rfl

theorem Move.steering (hc : L.calm) (m : Move L s g t g') : t.steering = s.steering := by
  rcases m.ports_cases with ⟨pm, _⟩ | ⟨hsteer, _⟩ | ⟨j, _, rfl, _⟩ | ⟨j, _, hsteer, _⟩ |
    ⟨j, _, _, rfl, _⟩ | ⟨j, hsteer, _⟩ | ⟨_, rfl, _⟩
  · cases pm with
    | tick | waiting | lock | forward | answer | stall | complete => exact absurd hc Fact.out
    | _ => rfl
  · exact hsteer
  · rfl
  · exact hsteer
  · split <;> rfl
  · exact hsteer
  · rcases activateNext_cases s with ⟨_, k⟩ | ⟨_, _, _, k⟩
    · rw [k]
    · rw [k]; rfl

theorem Moves.steering (hc : L.calm) (m : Moves L s g t g') : t.steering = s.steering :=
  m.keeps (P := fun u _ => u.steering = s.steering) (fun h m => (m.steering hc).trans h) rfl

theorem Move.arbiter (hi : L.idle) (m : Move L s g t g') : t.arbiter = s.arbiter := by
  cases m with
  | port m =>
    cases m with
    | forward | complete | grantSteering | grantCopy | discard | readOn | writeOn =>
      exact absurd hi Fact.out
    | _ => rfl
  | startJob | dropActive | activateNext => exact absurd hi Fact.out
  | settle sl _ => exact (congrArg State.arbiter (applyRetirement_frame s sl) :)
  | retireNow sl => exact retire_arbiter s sl
  | dropEntry e _ =>
    rcases clearRetirePending_cases (s.removeChange e) e.op with ⟨_, k⟩ | ⟨x, _, k⟩ <;> rw [k] <;> rfl
  | _ => rfl

theorem Moves.arbiter (hi : L.idle) (m : Moves L s g t g') : t.arbiter = s.arbiter :=
  m.keeps (P := fun u _ => u.arbiter = s.arbiter) (fun h m => (m.arbiter hi).trans h) rfl

end

/-! ### Pending boundaries run out (R55, R73) -/

section
variable {s t : State}

/-- A run that makes no boundary pending and no transaction wait. -/
def Laws.boundary : Laws := { Laws.none with still := True }

theorem moving_boundary : Fact (¬ Laws.boundary.calm) := ⟨id⟩

theorem working_boundary : Fact (¬ Laws.boundary.idle) := ⟨id⟩

theorem State.obeys_boundary (s : State) : s.Obeys Laws.boundary := ⟨nofun, nofun, nofun, nofun⟩

theorem stages_still (s : State) (a : ApId) :
    Moves Laws.boundary (s.undefer a) .rest (s.runBoundary a) .rest := by
  have := moving_boundary
  have := working_boundary
  exact stages_moves s.obeys_boundary a

theorem runBoundary_pends {a b : ApId} (h : (s.runBoundary a).pends b) : s.pends b ∧ b ≠ a := by
  obtain ⟨on, d⟩ := (stages_still s a).pending trivial b h
  rw [apOn_eq_true, State.undefer, setAp_ap] at on
  rw [State.undefer, setAp_ap] at d
  split at d
  · cases d
  · next hne =>
    rw [if_neg hne] at on
    exact ⟨⟨apOn_eq_true.2 on, d⟩, Ne.symm hne⟩

theorem runBoundary_waiting (s : State) (a : ApId) :
    (s.runBoundary a).steering.waiting = s.steering.waiting :=
  Moves.waiting (s := s.undefer a) trivial (stages_still s a)

/-- The apertures with a boundary pending. -/
def State.pendingAps (s : State) : List ApId := allAps.filter fun a => s.apOn a && (s.ap a).deferred

theorem mem_pendingAps {a : ApId} : a ∈ s.pendingAps ↔ s.pends a := by
  simp [State.pendingAps, State.pends, mem_allAps]

theorem canRun_pends {a : ApId} (h : s.canRun a = true) : s.pends a := by
  simp only [State.canRun, Bool.and_eq_true] at h
  exact h.1

theorem runBoundary_pendingAps {a : ApId} (h : s.pends a) :
    (s.runBoundary a).pendingAps.length < s.pendingAps.length := by
  have nodup (u : State) : u.pendingAps.Nodup := List.Nodup.filter _ (by decide)
  have sub : (a :: (s.runBoundary a).pendingAps) ⊆ s.pendingAps := fun b hb => by
    rcases List.mem_cons.1 hb with rfl | hb
    · exact mem_pendingAps.2 h
    · exact mem_pendingAps.2 (runBoundary_pends (mem_pendingAps.1 hb)).1
  have hnot : a ∉ (s.runBoundary a).pendingAps := fun k => (runBoundary_pends (mem_pendingAps.1 k)).2 rfl
  have := (List.Nodup.subperm (List.nodup_cons.2 ⟨hnot, nodup _⟩) sub).length_le
  simpa using this

/-- After as many boundaries as were pending, none of those named can go on. -/
theorem runPendingUpTo_done (n : Nat) (order : List ApId) (h : s.pendingAps.length ≤ n) {a : ApId}
    (ha : a ∈ order) : (State.runPendingUpTo n order s).canRun a = false := by
  induction n generalizing s with
  | zero =>
    refine Bool.eq_false_iff.2 fun e => ?_
    have : a ∈ s.pendingAps := mem_pendingAps.2 (canRun_pends e)
    rw [List.length_eq_zero_iff.1 (Nat.le_zero.1 h)] at this
    cases this
  | succ n ih =>
    unfold State.runPendingUpTo
    split
    · next b hb =>
      have := runBoundary_pendingAps (canRun_pends (by simpa using List.find?_some hb))
      exact ih (by omega)
    · next hnone => exact Bool.eq_false_iff.2 (by simpa using List.find?_eq_none.1 hnone a ha)

theorem mem_inOrder (order : List ApId) (a : ApId) : a ∈ inOrder order := by
  by_cases h : a ∈ order
  · exact List.mem_append_left _ (List.mem_eraseDups.2 h)
  · exact List.mem_append_right _ (List.mem_filter.2 ⟨mem_allAps a, by simpa using h⟩)

theorem runPending_done (s : State) (order : List ApId) (a : ApId) :
    (s.runPending order).canRun a = false := by
  refine runPendingUpTo_done 8 _ ?_ (mem_inOrder order a)
  exact (List.length_filter_le _ _).trans (by decide)

theorem runPending_waiting (s : State) (order : List ApId) :
    (s.runPending order).steering.waiting = s.steering.waiting := by
  have upTo (n : Nat) (o : List ApId) (s : State) :
      (State.runPendingUpTo n o s).steering.waiting = s.steering.waiting := by
    induction n generalizing s with
    | zero => rfl
    | succ n ih =>
      unfold State.runPendingUpTo
      split
      · rw [ih, runBoundary_waiting]
      · rfl
  exact upTo 8 _ s

/-! ### The end of an event (R27, R135, R136) -/

theorem arbitrate_steering (s : State) : s.arbitrate.steering = s.steering := by
  rcases arbitrate_cases s with h | ⟨_, _, _, _, _, h⟩ | ⟨_, _, _, _, h⟩ <;> rw [h] <;> rfl

theorem arbitrate_ap (s : State) (a : ApId) : s.arbitrate.ap a = s.ap a := by
  rcases arbitrate_cases s with h | ⟨_, _, _, _, _, h⟩ | ⟨_, _, _, _, h⟩ <;> rw [h] <;> rfl

theorem canRun_congr {a : ApId} (steering : t.steering = s.steering) (ap : t.ap a = s.ap a) :
    t.canRun a = s.canRun a := by
  simp only [State.canRun, State.mustDefer, State.inFlightThrough, State.lockedThrough, State.apOn,
    steering, ap]

/-- Both ports at rest but for transactions that wait at an OPEN Steering Unit. -/
structure State.Ready (s : State) : Prop where
  granted  : s.arbiter.port = none → s.arbiter.steeringClaim = none
  behind   : s.arbiter.port = none → s.arbiter.copyClaim.isSome = true → s.lockOpen = true
  deferred : ∀ a, s.canRun a = false

theorem arbitrate_ready (h : ∀ a, s.canRun a = false) : s.arbitrate.Ready where
  granted e := (arbitrate_settles s e).1
  behind e k := (arbitrate_settles s e).2.resolve_left fun n => by rw [n] at k; cases k
  deferred a := (canRun_congr (arbitrate_steering s) (arbitrate_ap s a)).trans (h a)

theorem accept_waiting (x : Txn) (h : s.steering.phase = .opened) :
    (s.accept x).steering.waiting = s.steering.waiting := by
  have := moving_boundary
  have := working_boundary
  exact (accept_moves (g := .rest) s.obeys_boundary x h).waiting trivial

theorem drainPort_settled (n : Nat) (h : s.Ready) (hn : s.steering.waiting.length ≤ n) :
    (State.drainPort n s).Settled := by
  have rest (k : s.steering.phase = .opened → s.steering.waiting = []) : s.Settled :=
    ⟨k, h.granted, h.behind, h.deferred⟩
  induction n generalizing s with
  | zero => exact rest fun _ => List.length_eq_zero_iff.1 (Nat.le_zero.1 hn)
  | succ n ih =>
    unfold State.drainPort
    split
    · next x xs hp hw =>
      have hready := arbitrate_ready (runPending_done s.acceptNext [])
      refine ih hready ?_ fun k => ⟨k, hready.granted, hready.behind, hready.deferred⟩
      rw [arbitrate_steering, runPending_waiting, State.acceptNext, hp, hw]
      rw [hw] at hn
      refine (congrArg List.length (accept_waiting x ?_)).trans_le ?_
      · exact hp
      exact Nat.le_of_succ_le_succ hn
    · next hno =>
      refine rest fun hp => ?_
      cases hw : s.steering.waiting with
      | nil => rfl
      | cons x xs => exact absurd hw (hno _ _ hp)

theorem drainAll_settled (h : s.Ready) : s.drainAll.Settled := drainPort_settled _ h le_rfl

/-- The end of an event leaves both ports at rest, whatever came before. -/
theorem finish_settled (s : State) (order : List ApId) : (s.finish order).Settled :=
  drainAll_settled (arbitrate_ready (runPending_done s order))

/-! ### Events that reach neither port -/

/-- No pending boundary can go on that could not before. -/
theorem canRun_calm (h : ∀ a, s.canRun a = false) (steering : t.steering = s.steering)
    (pending : PendingLe s t) (a : ApId) : t.canRun a = false := by
  refine Bool.eq_false_iff.2 fun e => ?_
  obtain ⟨on, d⟩ := pending a (canRun_pends e)
  have must : t.mustDefer a = s.mustDefer a := by
    simp only [State.mustDefer, State.inFlightThrough, State.lockedThrough, steering]
  have hs : s.canRun a = true := by
    simp only [State.canRun, Bool.and_eq_true, Bool.not_eq_true'] at e ⊢
    exact ⟨⟨on, d⟩, must ▸ e.2⟩
  rw [h a] at hs
  cases hs

/-- The Steering Unit, the Arbiter and the pending boundaries are the same. -/
theorem State.Settled.calm (h : s.Settled) (steering : t.steering = s.steering)
    (arbiter : t.arbiter = s.arbiter) (pending : PendingLe s t) : t.Settled where
  accepted := by rw [steering]; exact h.accepted
  granted := by rw [arbiter]; exact h.granted
  behind := by
    rw [arbiter, State.lockOpen, steering]; exact h.behind
  deferred a := canRun_calm h.deferred steering pending a

end

end Sys2Proof.Machine
end

section
/-! PROOFS: the entries that wait for an aperture apply once it is OFF, and those for a ring once it has no
producer (R147, R148, R153): the whole state that a run of them leaves. -/

namespace Sys2Proof.Machine

/-! ### Erasing the members that a property picks -/

theorem foldl_erase_cons {α : Type} [DecidableEq α] {x : α} {l es : List α} (h : x ∉ es) :
    es.foldl List.erase (x :: l) = x :: es.foldl List.erase l := by
  induction es generalizing l with
  | nil => rfl
  | cons e es ih =>
    obtain ⟨hne, hes⟩ := not_or.1 (List.mem_cons.not.1 h)
    rw [List.foldl_cons, List.foldl_cons, List.erase_cons_tail (by simpa using hne), ih hes]

theorem foldl_erase_filter {α : Type} [DecidableEq α] (p : α → Bool) (l : List α) :
    (l.filter p).foldl List.erase l = l.filter fun x => !p x := by
  induction l with
  | nil => rfl
  | cons x l ih =>
    cases hp : p x with
    | true => simpa [hp] using ih
    | false =>
      have hx : x ∉ l.filter p := fun hm => by simp [hp] at hm
      simp only [List.filter_cons, hp, Bool.false_eq_true, if_false, Bool.not_false, if_true]
      rw [foldl_erase_cons hx, ih]

section
variable {s : State} {a : ApId} {c : ApConfig} {r : RingId}

theorem setAp_self (s : State) (a : ApId) : s.setAp a (s.ap a) = s := by simp [State.setAp, State.ap]

/-! ### One entry -/

theorem write_eq_after (x : ApChange) (c : ApConfig) : ApChange.write x c = ApChange.after x c := by
  cases x <;> rfl

/-- An entry of an OFF aperture writes its fields, and nothing else (R153). -/
theorem applyApChange_of_off (e : Change) (x : ApChange) (hc : (s.ap a).config = some c)
    (off : s.apOn a = false) : s.applyApChange e a c x = (s.writeChange a c x).applied e := by
  cases x with
  | detach =>
    have same : s.writeChange a c .detach = s := by
      rw [writeChange_eq]
      simp only [ApChange.write, ApChange.countLeft, ← hc]
      exact setAp_self s a
    simp [State.applyApChange, off, same]
  | moveWindow base => simp [State.applyApChange, off]
  | setPick p oe => simp [State.applyApChange, off]
  | _ => rfl

/-- A part with another record of one aperture, other entries and other notes. -/
def State.wrote (s : State) (a : ApId) (x : Aperture) (es : List Change) (q : NoteQueue) : State :=
  { s.setAp a x with changes := { s.changes with entries := es }, notes := q }

theorem wrote_ap_self (x : Aperture) (es : List Change) (q : NoteQueue) : (s.wrote a x es q).ap a = x :=
  setAp_ap_self s a x

theorem setAp_setAp (s : State) (a : ApId) (x y : Aperture) :
    (s.setAp a x).setAp a y = s.setAp a y := by simp [State.setAp]

/-- Of two writes the second stays. -/
theorem wrote_wrote (x y : Aperture) (es fs : List Change) (q p : NoteQueue) :
    (s.wrote a x es q).wrote a y fs p = s.wrote a y fs p := by
  have h := congrArg State.apertures (setAp_setAp s a x y)
  show ({ s with
    apertures := ((s.setAp a x).setAp a y).apertures
    changes := { s.changes with entries := fs }, notes := p } : State) = _
  rw [h]
  rfl

theorem number_eq_kindNumber (op : ChangeOp) : op.number = op.kindNumber := by
  cases op with
  | aperture a x => cases x <;> rfl
  | _ => rfl

/-- What one entry of an OFF aperture leaves. -/
theorem applyChange_of_off {e : Change} {x : ApChange} (he : e.op = .aperture a x)
    (hc : (s.ap a).config = some c) (off : s.apOn a = false) :
    s.applyChange e =
      s.wrote a { s.ap a with
          config := some (ApChange.after x c), count := ApChange.countLeft x (s.ap a).count }
        (s.changes.entries.erase e) (s.notes.push (e.appliedNote c.ring (some a))) := by
  rw [applyChange_aperture s he hc,
    applyApChange_of_off (s := s.removeChange e) (a := a) (c := c) e x hc off, writeChange_eq]
  have note (u : State) (hu : (u.ap a).config.map (·.ring) = some c.ring) (hs : u.apOn a = false) :
      u.changeNote .changeApplied e = e.appliedNote c.ring (some a) := by
    have hb : u.boundSlot a = none := by
      rw [State.boundSlot, apOn_eq_false.1 hs]
    simp only [State.changeNote, he, State.ringOf, hu, hb, Change.appliedNote, Change.note,
      number_eq_kindNumber]
  rw [State.applied, note _ (by simp [write_ring]) (by simpa [State.apOn] using off), write_eq_after]
  rfl

end

/-! ### A run of entries -/

section
variable {s : State} {a : ApId} {c : ApConfig} {r : RingId}

theorem configAfter_cons {e : Change} {x : ApChange} (he : e.op = .aperture a x) (es : List Change) :
    configAfter (e :: es) c = configAfter es (ApChange.after x c) := by
  simp [configAfter, he]

theorem after_ring (x : ApChange) (c : ApConfig) : (ApChange.after x c).ring = c.ring := by
  cases x <;> rfl

theorem countAfter_cons {e : Change} {x : ApChange} (he : e.op = .aperture a x) (es : List Change)
    (n : Nat) : countAfter (e :: es) n = countAfter es (ApChange.countLeft x n) := by
  cases x <;> simp [countAfter, he, ApChange.countLeft]

/-- The entries of an OFF aperture write their fields in their order, and the later stays (R149, R153). -/
theorem foldl_applyChange_of_off (es : List Change) (mine : ∀ e ∈ es, ∃ x, e.op = .aperture a x)
    (hc : (s.ap a).config = some c) (off : s.apOn a = false) :
    es.foldl State.applyChange s =
      s.wrote a { s.ap a with config := some (configAfter es c), count := countAfter es (s.ap a).count }
        (es.foldl List.erase s.changes.entries)
        ((es.map fun e => e.appliedNote c.ring (some a)).foldl NoteQueue.push s.notes) := by
  induction es generalizing s c with
  | nil =>
    have : ({ s.ap a with config := some (configAfter [] c), count := countAfter [] (s.ap a).count } :
        Aperture) = s.ap a := by simp [configAfter, countAfter, ← hc]
    rw [this, State.wrote, setAp_self]
    rfl
  | cons e es ih =>
    obtain ⟨x, he⟩ := mine e List.mem_cons_self
    rw [List.foldl_cons, applyChange_of_off he hc off,
      ih (fun f hf => mine f (List.mem_cons_of_mem _ hf)) (c := ApChange.after x c)
        (by rw [wrote_ap_self]) (by rw [State.apOn, wrote_ap_self]; exact off),
      wrote_ap_self, wrote_wrote, configAfter_cons he, countAfter_cons he, after_ring]
    rfl

theorem mem_entriesFor {e : Change} : e ∈ s.entriesFor a ↔
    e ∈ s.changes.entries ∧ ∃ x, e.op = .aperture a x := by
  rw [State.entriesFor, List.mem_filter]
  refine and_congr_right fun _ => ?_
  cases hop : e.op <;> simp

theorem mem_entriesForRing {e : Change} : e ∈ s.entriesForRing r ↔
    e ∈ s.changes.entries ∧ ∃ o, e.op = .setOverflow r o := by
  rw [State.entriesForRing, List.mem_filter]
  refine and_congr_right fun _ => ?_
  cases hop : e.op <;> simp

theorem entriesFor_eq (s : State) (a : ApId) :
    (s.changes.entries.filter fun e => e.op.forAperture a) = s.entriesFor a := by
  refine List.filter_congr fun e _ => ?_
  cases hop : e.op <;> rfl

theorem entriesForRing_eq (s : State) (r : RingId) :
    (s.changes.entries.filter fun e => e.op.forRing r) = s.entriesForRing r := by
  refine List.filter_congr fun e _ => ?_
  cases hop : e.op <;> rfl

/-- The entries waiting for an OFF aperture apply (R147, R153). -/
theorem applyForAperture_of_off (hc : (s.ap a).config = some c) (off : s.apOn a = false) :
    s.applyForAperture a =
      s.wrote a { s.ap a with
          config := some (configAfter (s.entriesFor a) c)
          count := countAfter (s.entriesFor a) (s.ap a).count }
        (s.changes.entries.filter fun e => !e.op.forAperture a)
        (((s.entriesFor a).map fun e => e.appliedNote c.ring (some a)).foldl NoteQueue.push s.notes) := by
  rw [State.applyForAperture, entriesFor_eq,
    foldl_applyChange_of_off _ (fun e he => (mem_entriesFor.1 he).2) hc off, ← entriesFor_eq,
    foldl_erase_filter]

/-- A part with another record of one ring, other entries and other notes. -/
def State.wroteRing (s : State) (r : RingId) (x : Ring) (es : List Change) (q : NoteQueue) : State :=
  { s.setRing r x with changes := { s.changes with entries := es }, notes := q }

theorem wroteRing_ring_self (x : Ring) (es : List Change) (q : NoteQueue) :
    (s.wroteRing r x es q).ring r = x := setRing_ring_self s r x

theorem wroteRing_wroteRing (x y : Ring) (es fs : List Change) (q p : NoteQueue) :
    (s.wroteRing r x es q).wroteRing r y fs p = s.wroteRing r y fs p := by
  have h := congrArg State.rings (setRing_setRing s r x y)
  show ({ s with
    rings := ((s.setRing r x).setRing r y).rings
    changes := { s.changes with entries := fs }, notes := p } : State) = _
  rw [h]
  rfl

theorem setRing_self (s : State) (r : RingId) : s.setRing r (s.ring r) = s := by
  simp [State.setRing, State.ring]

/-- What one SET_OVERFLOW leaves. -/
theorem applyChange_of_overflow {e : Change} {o : Overflow} (he : e.op = .setOverflow r o) :
    s.applyChange e =
      s.wroteRing r { s.ring r with overflow := o } (s.changes.entries.erase e)
        (s.notes.push (e.appliedNote r none)) := by
  have note (u : State) : u.changeNote .changeApplied e = e.appliedNote r none := by
    simp only [State.changeNote, he, Change.appliedNote, Change.note, number_eq_kindNumber]
  rw [applyChange_overflow s he, State.applied, note]
  rfl

/-- The policies that wait for a ring apply in their order, and the later stays (R148). -/
theorem foldl_applyChange_overflow (es : List Change) (theirs : ∀ e ∈ es, ∃ o, e.op = .setOverflow r o) :
    es.foldl State.applyChange s =
      s.wroteRing r { s.ring r with overflow := overflowAfter es (s.ring r).overflow }
        (es.foldl List.erase s.changes.entries)
        ((es.map fun e => e.appliedNote r none).foldl NoteQueue.push s.notes) := by
  induction es generalizing s with
  | nil =>
    show s = s.wroteRing r (s.ring r) s.changes.entries s.notes
    rw [State.wroteRing, setRing_self]
  | cons e es ih =>
    obtain ⟨o, he⟩ := theirs e List.mem_cons_self
    have hov : overflowAfter (e :: es) (s.ring r).overflow = overflowAfter es o := by
      simp [overflowAfter, he]
    rw [List.foldl_cons, applyChange_of_overflow he,
      ih fun f hf => theirs f (List.mem_cons_of_mem _ hf), wroteRing_ring_self, wroteRing_wroteRing, hov]
    rfl

/-- The entries waiting for a ring that has lost its producer apply (R148). -/
theorem applyForRing_eq (s : State) (r : RingId) :
    s.applyForRing r =
      s.wroteRing r { s.ring r with overflow := overflowAfter (s.entriesForRing r) (s.ring r).overflow }
        (s.changes.entries.filter fun e => !e.op.forRing r)
        (((s.entriesForRing r).map fun e => e.appliedNote r none).foldl NoteQueue.push s.notes) := by
  rw [State.applyForRing, entriesForRing_eq,
    foldl_applyChange_overflow _ fun e he => (mem_entriesForRing.1 he).2, ← entriesForRing_eq,
    foldl_erase_filter]

/-- Of two writes to one aperture and one ring the later ones stay. -/
theorem wrote_after_off (x y : Aperture) (u v : Ring) (es fs : List Change) (q p : NoteQueue) :
    (((s.setAp a x).setRing r u).wrote a y es q).wroteRing r v fs p =
      { (s.setAp a y).setRing r v with changes := { s.changes with entries := fs }, notes := p } := by
  have haps := congrArg State.apertures (setAp_setAp s a x y)
  have hrings := congrArg State.rings (setRing_setRing s r u v)
  simp only [State.setAp, State.setRing] at haps hrings
  simp only [State.wroteRing, State.wrote, State.setAp, State.setRing, haps, hrings]

/-- A producer without a slot turns OFF, and what waits for it and for its ring applies (R52, R147). -/
theorem producerOffNow_eq (hc : (s.ap a).config = some c) :
    s.producerOffNow a c.ring =
      { (s.setAp a { s.ap a with
            state := .off, deferred := false, config := some (configAfter (s.entriesFor a) c)
            count := countAfter (s.entriesFor a) (s.ap a).count }).setRing c.ring
          { s.ring c.ring with
            producer := none
            overflow := overflowAfter (s.entriesForRing c.ring) (s.ring c.ring).overflow } with
        changes := { s.changes with
          entries := s.changes.entries.filter fun e => !e.op.forAperture a && !e.op.forRing c.ring }
        notes := ((s.entriesFor a).map (fun e => e.appliedNote c.ring (some a)) ++
          (s.entriesForRing c.ring).map fun e => e.appliedNote c.ring none).foldl NoteQueue.push s.notes } := by
  have hap : (s.producerOff a c.ring).ap a = { s.ap a with state := .off, deferred := false } := by
    rw [State.producerOff, setRing_ap, setAp_ap_self]
  have hring : (s.producerOff a c.ring).ring c.ring = { s.ring c.ring with producer := none } :=
    setRing_ring_self _ _ _
  have off : (s.producerOff a c.ring).apOn a = false := apOn_eq_false.2 (by rw [hap])
  rw [State.producerOffNow, applyForAperture_of_off (c := c) (by rw [hap]; exact hc) off, applyForRing_eq,
    hap]
  have theirs (x : Aperture) (q : NoteQueue) :
      ((s.producerOff a c.ring).wrote a x (s.changes.entries.filter fun e => !e.op.forAperture a)
        q).entriesForRing c.ring = s.entriesForRing c.ring := by
    rw [← entriesForRing_eq, ← entriesForRing_eq]
    show (List.filter _ (s.changes.entries.filter _)) = _
    rw [List.filter_filter]
    refine List.filter_congr fun e _ => ?_
    cases hop : e.op <;> simp [ChangeOp.forRing, ChangeOp.forAperture]
  have left : (s.changes.entries.filter fun e => !e.op.forAperture a).filter
      (fun e => !e.op.forRing c.ring) =
      s.changes.entries.filter fun e => !e.op.forAperture a && !e.op.forRing c.ring := by
    rw [List.filter_filter]
    exact List.filter_congr fun e _ => Bool.and_comm _ _
  have hchanges : (s.producerOff a c.ring).entriesFor a = s.entriesFor a := rfl
  have ringLeft (x : Aperture) (es : List Change) (q : NoteQueue) :
      ((s.producerOff a c.ring).wrote a x es q).ring c.ring = { s.ring c.ring with producer := none } := hring
  rw [hchanges, show (s.producerOff a c.ring).changes = s.changes from rfl,
    show (s.producerOff a c.ring).notes = s.notes from rfl, theirs, ringLeft, List.foldl_append, ← left]
  exact wrote_after_off _ _ _ _ _ _ _ _

end

end Sys2Proof.Machine
end

section
/-! PROOFS: the ports stay at rest under every command and event (O57). -/

namespace Sys2Proof.Machine

section
variable {s t u : State} {g g' : Ghost}

/-! ### Runs that leave the Steering Unit alone -/

/-- A run that leaves both ports alone. -/
def Laws.command : Laws := { Laws.none with still := True, calm := True, idle := True }

/-- A run that leaves the Steering Unit alone. -/
def Laws.work : Laws := { Laws.none with still := True, calm := True }

theorem State.obeys_command (s : State) : s.Obeys Laws.command := ⟨nofun, nofun, nofun, nofun⟩

theorem State.obeys_work (s : State) : s.Obeys Laws.work := ⟨nofun, nofun, nofun, nofun⟩

theorem working_work : Fact (¬ Laws.work.idle) := ⟨id⟩

theorem opening_command : Fact (¬ Laws.command.plain) := ⟨id⟩

theorem State.Settled.moves (h : s.Settled) (m : Moves Laws.command s g t g') : t.Settled :=
  h.calm (m.steering trivial) (m.arbiter trivial) (m.pending trivial)

/-- A run of the copy engine leaves the ports at rest if the Arbiter has not moved or has just decided. -/
theorem State.Settled.work (h : s.Settled) (m : Moves Laws.work s g t g')
    (decided : t.arbiter = s.arbiter ∨ ∃ u : State, t = u.arbitrate) : t.Settled := by
  rcases decided with e | ⟨u, rfl⟩
  · exact h.calm (m.steering trivial) e (m.pending trivial)
  · have hsteer : u.arbitrate.steering = s.steering := m.steering trivial
    have accepted := h.accepted
    rw [← hsteer] at accepted
    exact ⟨accepted, fun e => (arbitrate_settles u e).1,
      fun e k => (arbitrate_settles u e).2.resolve_left fun n => by (rw [n] at k; cases k),
      canRun_calm h.deferred hsteer (m.pending trivial)⟩

/-! ### The commands -/

theorem clearing_settled (x : Clears) (h : s.Settled) : (s.clearing x).Settled :=
  h.moves (g := .rest) (clearing_moves x)

/-- A command leaves the ports at rest if its block does. -/
theorem takeCommand_settled {α : Type} {code : Byte} {parse : List Word → Option α} {req : Request}
    {act : State → α → Answer} (h : s.Settled)
    (hact : ∀ {u : State}, u.Settled → ∀ x, parse req.args = some x → (act u x).state.Settled) :
    (s.takeCommand code parse req act).Settled := by
  rcases takeCommand_cases s code parse req act with e | ⟨bs, x, e⟩ | ⟨x, hx, e⟩ <;> rw [e]
  · exact h
  · exact h.moves (g := .rest) (refusal_moves bs x)
  · have received := h.moves (g := .rest) (received_moves (requestBytes code req))
    exact clearing_settled _ ((hact received x hx).calm rfl rfl (.congr rfl))

/-- A command whose block reaches neither port. -/
theorem takeCommand_settled_moves {α : Type} {code : Byte} {parse : List Word → Option α} {req : Request}
    {act : State → α → Answer} (h : s.Settled)
    (hact : ∀ {u : State}, u.Obeys Laws.command → ∀ x, parse req.args = some x →
      AnswerMoves Laws.command u (act u x)) :
    (s.takeCommand code parse req act).Settled :=
  h.moves (takeCommand_moves s.obeys_command hact)

theorem boundaryAt_settled (s : State) (a : ApId) : (s.boundaryAt a).Settled := finish_settled _ _

theorem lineEvent_settled (h : s.Settled) (l : FrameLine) (order : List ApId) :
    (s.lineEvent l order).Settled := by
  unfold State.lineEvent
  induction inOrder order generalizing s with
  | nil => exact h
  | cons a as ih =>
    refine ih ?_
    simp only
    split
    · split
      · exact boundaryAt_settled s a
      · exact h
    · exact h

theorem actBoundaryCommand_settled (order : List ApId) (x : BoundaryTarget) (h : s.Settled) :
    (actBoundaryCommand order s x).state.Settled := by
  cases x with
  | line l => exact lineEvent_settled h l order
  | aperture a =>
    simp only [actBoundaryCommand]
    split
    · exact boundaryAt_settled s a
    · exact h

theorem producerOffNow_settled (h : s.Settled) {a : ApId} {c : ApConfig} (hc : (s.ap a).config = some c) :
    (s.producerOffNow a c.ring).Settled := by
  rw [producerOffNow_eq hc]
  exact h.calm rfl rfl ((PendingLe.setAp a _ fun on _ => absurd rfl on).trans (.congr rfl))

theorem consumerOffNow_settled (s : State) (a : ApId) (c : ApConfig) : (s.consumerOffNow a c).Settled :=
  finish_settled _ _

theorem actApertureOff_settled (x : ApId × Nat) (hx : x.2 ≤ 255) (h : s.Settled) :
    (actApertureOff s x).state.Settled := by
  obtain ⟨a, n⟩ := x
  cases hs : (s.ap a).state with
  | off => simp only [actApertureOff, hs]; exact h
  | bound sl =>
    have m : AnswerMoves Laws.command s (s.queueAnswer (.aperture a .detach) n) :=
      queueAnswer_moves hx (fun b y e => by cases e; trivial) (by simp [State.targetCheck, State.apOn, hs])
        nofun
    simpa only [actApertureOff, hs] using h.moves m.moves
  | unbound =>
    cases hc : (s.ap a).config with
    | none => simp only [actApertureOff, hs, hc]; exact h
    | some c =>
      cases hrole : c.role with
      | producer =>
        simp only [actApertureOff, hs, hc, hrole]
        exact producerOffNow_settled h hc
      | consumer =>
        simp only [actApertureOff, hs, hc, hrole, State.done]
        exact consumerOffNow_settled s a c

theorem actRingFlush_settled (x : RingId × Bool) (h : s.Settled) :
    (actRingFlush s x).state.Settled := by
  have := working_work
  obtain ⟨r, keep⟩ := x
  cases keep with
  | true => exact h.moves (g := .rest) (g' := .rest) (flush_moves s.obeys_command r true)
  | false => exact h.work (actRingFlush_moves (r, false) s.obeys_work).moves (.inr ⟨_, rfl⟩)

theorem submitJob_decided (s : State) (x : CopyArgs) (sl : SlotId) :
    (s.submitJob x sl).arbiter = s.arbiter ∨ ∃ u : State, s.submitJob x sl = u.arbitrate := by
  by_cases h : s.copy.active = none
  · exact .inr ⟨_, submitJob_idle h⟩
  · rw [submitJob_busy h]; exact .inl rfl

theorem actCopy_decided (s : State) (x : CopyArgs) :
    (actCopy s x).state.arbiter = s.arbiter ∨ ∃ u : State, (actCopy s x).state = u.arbitrate := by
  unfold actCopy
  split
  · exact .inl rfl
  · next sl _ =>
    split
    · exact .inl rfl
    split
    · exact .inl rfl
    split
    · exact .inl rfl
    split
    · exact .inl rfl
    · exact submitJob_decided s x sl

theorem actCopy_settled (x : CopyArgs) (hx : x.dest.toNat % 8 = 0) (h : s.Settled) :
    (actCopy s x).state.Settled := by
  have := working_work
  exact h.work (actCopy_moves x hx s.obeys_work).moves (actCopy_decided s x)

theorem actCopyCancel_decided (s : State) (n : Nat) :
    (actCopyCancel s n).state.arbiter = s.arbiter ∨ ∃ u : State, (actCopyCancel s n).state = u.arbitrate := by
  unfold actCopyCancel
  split
  · exact .inl rfl
  split
  · exact .inl rfl
  split
  · exact .inr ⟨_, rfl⟩
  split
  · next q hq =>
    exact .inl ((abortQueued_moves (g := .rest) s.obeys_command (List.mem_of_find?_eq_some hq)).arbiter trivial)
  · exact .inl rfl

theorem actCopyCancel_settled (n : Nat) (h : s.Settled) : (actCopyCancel s n).state.Settled := by
  have := working_work
  exact h.work (actCopyCancel_moves n s.obeys_work).moves (actCopyCancel_decided s n)

/-- The end of a request leaves the ports at rest. -/
theorem exec_command_settled (h : s.Settled) : (i : Instr) → Instr.linkCommand i ≠ none →
    exec i s = .next t → t.Settled
  | .summary _, _, rfl => takeCommand_settled_moves h fun _ _ _ =>
      ⟨.refl, fun _ => by simp [actSummary, State.summaryWords]⟩
  | .resetCore _ _, _, rfl => takeCommand_settled h fun _ _ _ => finish_settled _ _
  | .timebase _, _, rfl => takeCommand_settled h fun h _ _ => h.calm rfl rfl (.congr rfl)
  | .lineSetup _, _, rfl => takeCommand_settled h fun h _ _ => h.calm rfl rfl (.congr rfl)
  | .boundary _ order, _, rfl => takeCommand_settled h fun h x _ => actBoundaryCommand_settled order x h
  | .snap _, _, rfl => takeCommand_settled_moves h fun ho _ _ => done_moves (snapEvent_moves ho)
  | .ringSetup _, _, rfl => takeCommand_settled_moves h fun _ x hx =>
      actRingSetup_moves x (argsRingSetup_some hx)
  | .ringOn _, _, rfl => takeCommand_settled_moves h fun _ r _ => actRingOn_moves r
  | .ringOff _, _, rfl => takeCommand_settled_moves h fun ho r _ => actRingOff_moves ho r
  | .ringFlush _, _, rfl => takeCommand_settled h fun h x _ => actRingFlush_settled x h
  | .slotAssign _, _, rfl => takeCommand_settled_moves h fun _ x _ => actSlotAssign_moves x
  | .slotRetire _, _, rfl => takeCommand_settled_moves h fun ho x hx =>
      actSlotRetire_moves x (argsSlotRetire_some hx) ho
  | .apertureSetup _, _, rfl => by
    have := opening_command
    exact takeCommand_settled_moves h fun ho x hx =>
      actApertureSetup_moves x (argsApertureSetup_some hx) ho
  | .apertureOn _, _, rfl => by
    have := opening_command
    exact takeCommand_settled_moves h fun ho a _ => actApertureOn_moves a ho
  | .apertureOff _, _, rfl => takeCommand_settled h fun h x hx =>
      actApertureOff_settled x (argsApertureOff_some hx) h
  | .apertureModify _, _, rfl => takeCommand_settled_moves h fun ho x hx =>
      actApertureModify_moves x (argsApertureModify_some hx).1 (argsApertureModify_some hx).2 ho
  | .setOverflow _, _, rfl => takeCommand_settled_moves h fun _ x hx =>
      actSetOverflow_moves x (argsSetOverflow_some hx)
  | .cancelChange _, _, rfl => takeCommand_settled_moves h fun _ n _ => actCancelChange_moves n
  | .scheduleSetup _, _, rfl => takeCommand_settled_moves h fun ho x hx =>
      actScheduleSetup_moves x (argsScheduleSetup_some hx) ho
  | .scheduleStart _, _, rfl => takeCommand_settled_moves h fun ho r _ => actScheduleStart_moves r ho
  | .scheduleStop _, _, rfl => takeCommand_settled_moves h fun ho r _ =>
      done_moves (stopSchedule_moves ho r)
  | .release _, _, rfl => takeCommand_settled_moves h fun ho x _ => actRelease_moves x ho
  | .copy _, _, rfl => takeCommand_settled h fun h x hx => actCopy_settled x (argsCopy_some hx) h
  | .copyCancel _, _, rfl => takeCommand_settled h fun h n _ => actCopyCancel_settled n h
  | .copyShare _, _, rfl => takeCommand_settled h fun h _ _ => ⟨h.accepted, h.granted, h.behind, h.deferred⟩
  | .queryRing _, _, rfl => takeCommand_settled h fun h _ _ => h
  | .querySlot _, _, rfl => takeCommand_settled h fun h _ _ => h
  | .queryAperture _, _, rfl => takeCommand_settled h fun h _ _ => h
  | .queryChanges _, _, rfl => takeCommand_settled h fun h _ _ => h
  | .queryJobs _, _, rfl => takeCommand_settled h fun h _ _ => h
  | .readNotes _, _, rfl => takeCommand_settled h fun h _ _ => h.calm rfl rfl (.congr rfl)
  | .noteMask _, _, rfl => takeCommand_settled h fun h _ _ => h.calm rfl rfl (.congr rfl)

/-! ### The other events -/

theorem sampleFrame_settled (h : s.Settled) (line : FrameLine) (level : Bool) (order : List ApId) :
    (s.sampleFrame line level order).Settled := by
  cases line with
  | a =>
    have k : State.Settled { s with lines := { s.lines with levelA := level } } := h.calm rfl rfl (.congr rfl)
    simp only [State.sampleFrame]
    split
    · exact lineEvent_settled k _ _
    · exact k
  | b =>
    have k : State.Settled { s with lines := { s.lines with levelB := level } } := h.calm rfl rfl (.congr rfl)
    simp only [State.sampleFrame]
    split
    · exact lineEvent_settled k _ _
    · exact k

theorem runPendingAt_settled (h : s.Settled) (a : ApId) : (s.runPendingAt a).Settled := by
  unfold State.runPendingAt
  split
  · exact finish_settled _ _
  · exact h

theorem stallTimeout_settled (h : s.Settled) : s.stallTimeout.Settled := by
  unfold State.stallTimeout
  split
  · exact finish_settled _ _
  · exact h

theorem lockExpiry_settled (h : s.Settled) : s.lockExpiry.Settled := by
  unfold State.lockExpiry
  split
  · exact finish_settled _ _
  · exact h

theorem tick_inFlightThrough (p : Steering) (a : ApId) :
    State.inFlightThrough { s with steering := { p with phase := p.phase.tick, lock := p.lock.tick } } a =
      State.inFlightThrough { s with steering := p } a := by
  unfold State.inFlightThrough
  simp only
  cases p.phase with
  | opened | inFlight => rfl
  | stalled _ _ _ n => cases n <;> rfl

theorem tick_lockedThrough (p : Steering) (a : ApId) :
    State.lockedThrough { s with steering := { p with phase := p.phase.tick, lock := p.lock.tick } } a =
      State.lockedThrough { s with steering := p } a := by
  unfold State.lockedThrough
  simp only
  cases p.lock with
  | closed => rfl
  | opened o _ n => cases n <;> cases o <;> rfl

theorem tick_lockOpen (w : LockWindow) : w.tick ≠ .closed ↔ w ≠ .closed := by
  unfold LockWindow.tick
  split
  · simp
  · rfl

theorem tick_opened (p : SteeringPhase) : p.tick = .opened ↔ p = .opened := by
  unfold SteeringPhase.tick
  split
  · simp
  · rfl

theorem tick_settled (h : s.Settled) : s.tick.Settled := by
  unfold State.tick
  split
  · refine ⟨fun e => h.accepted ((tick_opened _).1 e), h.granted, fun e k => ?_, fun a => ?_⟩
    · have := h.behind e k
      simp only [State.lockOpen, decide_eq_true_eq] at this ⊢
      exact (tick_lockOpen _).2 this
    · rw [← h.deferred a]
      unfold State.canRun State.mustDefer
      exact congrArg (fun b => s.apOn a && (s.ap a).deferred && !b)
        (congrArg₂ (· || ·) (tick_inFlightThrough (s := s) s.steering a)
          (tick_lockedThrough (s := s) s.steering a))
  · exact h

theorem presentA_settled (h : s.Settled) (x : Txn) : (s.presentA x).Settled :=
  drainAll_settled ⟨h.granted, h.behind, h.deferred⟩

theorem steeringResponse_settled (h : s.Settled) (resp : MResponse) (order : List ApId) :
    (s.steeringResponse resp order).Settled := by
  unfold State.steeringResponse
  split
  · split
    · exact drainAll_settled (arbitrate_ready (runPending_done _ order))
    · exact h
  · exact h

theorem copyReadResponse_settled (h : s.Settled) (resp : MResponse) :
    (s.copyReadResponse resp).Settled := by
  have := working_work
  refine h.work (copyReadResponse_moves s.obeys_work resp) ?_
  unfold State.copyReadResponse
  split
  · exact .inr ⟨_, rfl⟩
  · exact .inl rfl

theorem copyWriteResponse_settled (h : s.Settled) (o : BusOutcome) : (s.copyWriteResponse o).Settled := by
  have := working_work
  refine h.work (copyWriteResponse_moves s.obeys_work o) ?_
  unfold State.copyWriteResponse
  split
  · exact .inr ⟨_, rfl⟩
  · exact .inl rfl

theorem powerOn_settled (levels : LineLevels) (selLow : Bool) (p : List Instr) (n : Nat) :
    (State.powerOn levels selLow p n).Settled := by
  refine ⟨fun _ => rfl, fun _ => rfl, nofun, fun a => ?_⟩
  have off : (State.powerOn levels selLow p n).apOn a = false := by
    rw [apOn_eq_false]
    exact congrArg Aperture.state (reset_ap a)
  rw [State.canRun, off, Bool.false_and, Bool.false_and]

/-- Every event other than the end of a request leaves the ports at rest. -/
theorem exec_event_settled (h : s.Settled) : (i : Instr) → Instr.linkCommand i = none →
    exec i s = .next t → t.Settled
  | .selFall, _, rfl => h.moves (g := .rest) selFall_moves
  | .selRise _, _, rfl => h.calm rfl rfl (.congr rfl)
  | .responseComplete, _, rfl => h.moves (g := .rest) responseComplete_moves
  | .excessArgumentCount code count, _, rfl => h.moves (g := .rest) (excessCount_moves code count)
  | .badCommand code req, _, rfl => h.moves (g := .rest) (unknownCommand_moves code req)
  | .powerOnReset levels selLow, _, rfl => powerOn_settled levels selLow _ _
  | .boundaryEvent line level order, _, rfl => sampleFrame_settled h line level order
  | .pendingBoundaryRun a, _, rfl => runPendingAt_settled h a
  | .snapEdge level, _, rfl => h.moves (g := .rest) (sampleSnap_moves s.obeys_command level)
  | .tick, _, rfl => tick_settled h
  | .stallTimeout, _, rfl => stallTimeout_settled h
  | .lockExpiry, _, rfl => lockExpiry_settled h
  | .aSideTransaction x, _, rfl => presentA_settled h x
  | .steeringResponse resp order, _, rfl => steeringResponse_settled h resp order
  | .copyReadResponse resp, _, rfl => copyReadResponse_settled h resp
  | .copyWriteResponse o, _, rfl => copyWriteResponse_settled h o
  | .refclkPeriod, _, rfl => h.moves (g := .rest) refclkPeriod_moves

theorem exec_settled (h : s.Settled) (i : Instr) (hs : exec i s = .next t) : t.Settled := by
  by_cases hi : Instr.linkCommand i = none
  · exact exec_event_settled h i hi hs
  · exact exec_command_settled h i hi hs

theorem step_settled (h : s.Settled) (hs : step s = .next t) : t.Settled := by
  unfold step at hs
  split at hs
  · cases hs; exact h
  · next c rest _ =>
    exact exec_settled (s := { s with pending := rest })
      ⟨h.accepted, h.granted, h.behind, h.deferred⟩ c hs

/-- Settles O57: the first part by the end of every event, the second by the moves of a run. -/
theorem portsAndClaimsAreKept : Obligations.PortsAndClaimsAreKept :=
  ⟨fun _ _ h hs => step_settled h hs, fun _ _ hc hst hs => step_claims hc hst hs⟩

end

end Sys2Proof.Machine
end

section
/-! PROOFS: the machine, the two resets of the records, the phases of an exchange, and the framing of a
response (O1, O3, O5, O8). -/

namespace Sys2Proof.Machine

/-- Settles O1: both halves by definition. -/
theorem stepTakesTheFront : Obligations.StepTakesTheFront :=
  ⟨fun _ _ _ => rfl, fun s h => by rw [step, h]⟩

/-! ### POWER_ON_RESET (R24, R186) -/

section
variable (levels : LineLevels) (selLow : Bool) (p : List Instr) (n : Nat)

theorem powerOn_slot (sl : SlotId) : (State.powerOn levels selLow p n).slot sl = Slot.unassigned :=
  reset_slot sl

theorem powerOn_ring (r : RingId) : (State.powerOn levels selLow p n).ring r = Ring.atReset := reset_ring r

theorem powerOn_ap (a : ApId) : (State.powerOn levels selLow p n).ap a = Aperture.atReset := reset_ap a

theorem powerOn_sched (r : RingId) : (State.powerOn levels selLow p n).sched r = Schedule.atReset :=
  reset_sched r

/-- The mask after a reset disables FRAME_PUBLISHED and CHANGE_APPLIED (R165, R167). -/
theorem reset_enabled (k : NoteKind) :
    NoteQueue.atReset.enabled k = decide (k ≠ .framePublished ∧ k ≠ .changeApplied) := by
  cases k <;> rfl

end

/-- Settles O3: each record of the state after a reset read off. -/
theorem powerOnResetValues : Obligations.PowerOnResetValues := by
  refine ⟨fun s levels selLow => ⟨_, rfl, ?_, ?_, ?_, ?_, rfl, rfl, rfl, rfl, rfl, rfl, rfl, ?_, rfl, rfl⟩, rfl⟩
  · exact powerOn_slot _ _ _ _
  · exact powerOn_ring _ _ _ _
  · exact powerOn_ap _ _ _ _
  · exact powerOn_sched _ _ _ _
  · exact reset_enabled

/-! ### The phases of an exchange (R168, R172, R173) -/

section
variable {s : State}

theorem selFall_of_low (h : s.link.selLow = true) : s.selFall = s := by
  rw [State.selFall, if_pos h]

theorem selFall_of_high (h : s.link.selLow = false) :
    s.selFall = { s with link :=
      { s.link with selLow := true, phase := .request, request := [], response := none } } := by
  rw [State.selFall, if_neg (by rw [h]; decide)]

theorem responseComplete_of_answer {r : Response} (h : s.link.phase = .answer)
    (hr : s.link.response = some r) :
    s.responseComplete = { s with link :=
      { s.link with
        phase := .spent
        truncated := s.link.truncated && !r.flags.getLsbD 2
        responseLost := s.link.responseLost && !r.flags.getLsbD 3 } } := by
  rw [State.responseComplete, h, hr]

theorem responseComplete_of_other (h : s.link.phase ≠ .answer) : s.responseComplete = s := by
  unfold State.responseComplete
  split
  · next k _ => exact absurd k h
  · rfl

end

/-- Settles O5: one equation for each event and phase. -/
theorem exchangesFollowThePhases : Obligations.ExchangesFollowThePhases := by
  refine ⟨fun s h => congrArg _ (selFall_of_high h), fun s h => congrArg _ (selFall_of_low h),
    fun s r h hr => congrArg _ (responseComplete_of_answer h hr),
    fun s h => congrArg _ (responseComplete_of_other h), fun s periods => ?_⟩
  refine ⟨_, _, rfl, fun h hp => ?_, fun h hp => ?_, fun h => ?_, fun h => ?_, fun h => ?_⟩ <;> simp [h]
  · simp [hp]
  · simp [hp]

/-! ### The bytes of a response (R171) -/

theorem byte_eq_extract (w : Word) {i : Nat} (hi : i < 4) :
    BitVec.ofNat 8 (Word.byte w i) = w.extractLsb' (8 * i) 8 := by
  apply BitVec.eq_of_toNat_eq
  have : i = 0 ∨ i = 1 ∨ i = 2 ∨ i = 3 := by omega
  rcases this with rfl | rfl | rfl | rfl <;>
    simp [Word.byte, Nat.shiftRight_eq_div_pow]

theorem bytes_eq_extract (w : Word) :
    Word.bytes w = [w.extractLsb' 24 8, w.extractLsb' 16 8, w.extractLsb' 8 8, w.extractLsb' 0 8] := by
  simp only [Word.bytes, byte_eq_extract w (i := 3) (by decide), byte_eq_extract w (i := 2) (by decide),
    byte_eq_extract w (i := 1) (by decide), byte_eq_extract w (i := 0) (by decide)]

/-- The four bytes of one word of many. -/
theorem take_drop_flatMap_bytes {ws : List Word} {tail : List Byte} {i : Nat} {w : Word}
    (h : ws[i]? = some w) :
    ((ws.flatMap Word.bytes ++ tail).drop (4 * i)).take 4 = Word.bytes w := by
  induction ws generalizing i with
  | nil => simp at h
  | cons x ws ih =>
    cases i with
    | zero => cases h; rfl
    | succ i => exact ih h

theorem response_bytes_eq (r : Response) :
    r.bytes = Status.code r.status :: r.flags :: BitVec.ofNat 8 r.words.length ::
      (r.words.flatMap Word.bytes ++ [- byteSum ([Status.code r.status, r.flags,
        BitVec.ofNat 8 r.words.length] ++ r.words.flatMap Word.bytes)]) := by
  simp [Response.bytes]

theorem response_bytes_length (r : Response) : r.bytes.length = 4 + 4 * r.words.length := by
  rw [response_bytes_eq]
  simp only [List.length_cons, List.length_append, length_flatMap_bytes, List.length_nil]
  omega

theorem status_code_ne_idle (x : Status) : Status.code x ≠ 0xFF := by cases x <;> decide

/-! ### The flags byte (R173) -/

theorem flags_getLsbD (a b c d e : Bool) (i : Nat) :
    (BitVec.ofNat 8 (bit a + 2 * bit b + 4 * bit c + 8 * bit d + 16 * bit e)).getLsbD i =
      if i = 0 then a else if i = 1 then b else if i = 2 then c else if i = 3 then d
      else decide (i = 4) && e := by
  by_cases hi : i < 8
  · have low : ∀ (a b c d e : Bool) (i : Fin 8),
        (BitVec.ofNat 8 (bit a + 2 * bit b + 4 * bit c + 8 * bit d + 16 * bit e)).getLsbD i.val =
          if i.val = 0 then a else if i.val = 1 then b else if i.val = 2 then c
          else if i.val = 3 then d else decide (i.val = 4) && e := by decide
    exact low a b c d e ⟨i, hi⟩
  · rw [BitVec.getLsbD_of_ge _ _ (by omega)]
    have : i ≠ 0 ∧ i ≠ 1 ∧ i ≠ 2 ∧ i ≠ 3 ∧ i ≠ 4 := by omega
    simp [this]

/-! ### SDO (R168, R171) -/

section
variable {l : Link} {r : Response} {idle i : Nat}

theorem sdoByte_of_other (h : l.phase ≠ .answer) : l.sdoByte idle i = 0xFF := by
  unfold Link.sdoByte
  split
  · next k _ => exact absurd k h
  · rfl

theorem sdoByte_of_answer (h : l.phase = .answer) (hr : l.response = some r) :
    l.sdoByte idle i = if i < idle then 0xFF else r.bytes.getD (i - idle) 0xFF := by
  rw [Link.sdoByte, h, hr]
  rfl

theorem bits_getD (b : Byte) : ∀ j, j < 8 → (Byte.bits b).getD j false = b.getLsbD (7 - j)
  | 0, _ | 1, _ | 2, _ | 3, _ | 4, _ | 5, _ | 6, _ | 7, _ => rfl

end

/-- Settles O8: the bytes of a response are its fields in order, and SDO shows them in ANSWER after the
idle bytes. -/
theorem responseBytesAreFramed : Obligations.ResponseBytesAreFramed := by
  refine ⟨fun r hr => ⟨byteSum_balanced _, response_bytes_length r, ?_, ?_, ?_, fun i w hw => ?_⟩,
    fun s i => ?_, fun l idle => ⟨fun h i => sdoByte_of_other h, fun r h hr => ⟨fun i hi => ?_, ?_,
      fun i b hb => ?_, fun i hi => ?_⟩, fun i j hj => ?_⟩⟩
  · rw [response_bytes_eq]
    cases r.status <;> rfl
  · rw [response_bytes_eq]; rfl
  · rw [response_bytes_eq]
    simp only [List.getElem?_cons_succ, List.getElem?_cons_zero, Option.map_some, BitVec.toNat_ofNat]
    rw [Nat.mod_eq_of_lt (by omega)]
  · rw [response_bytes_eq, show 3 + 4 * i = 4 * i + 1 + 1 + 1 by omega, List.drop_succ_cons,
      List.drop_succ_cons, List.drop_succ_cons, take_drop_flatMap_bytes hw, bytes_eq_extract]
  · rw [State.flagsByte, flags_getLsbD]
    cases s.notes.queue <;> simp
  · rw [sdoByte_of_answer h hr, if_pos hi]
  · rw [sdoByte_of_answer h hr, if_neg (Nat.lt_irrefl _), Nat.sub_self, response_bytes_eq]
    exact status_code_ne_idle r.status
  · rw [sdoByte_of_answer h hr, if_neg (by omega), Nat.add_sub_cancel_left, List.getD_eq_getElem?_getD, hb]
    rfl
  · rw [sdoByte_of_answer h hr, if_neg (by omega), List.getD_eq_default _ _ (by omega)]
  · rw [Link.sdoBit, show (8 * i + j) / 8 = i by omega, show (8 * i + j) % 8 = j by omega, bits_getD _ j hj]

end Sys2Proof.Machine
end

section
/-! PROOFS: the bytes of a request spell its command (O6). -/

namespace Sys2Proof.Machine

section
variable {levels : LineLevels} {order : List ApId} {code : Byte} {req : Request} {i : Instr}

/-! ### Codes and commands (R174) -/

/-- The code of a command of the table reads as the command that has it. -/
theorem linkCommand_commandOf (h : code ∈ commandCodes) :
    Instr.linkCommand (commandOf levels order code req) = some (code, req) := by
  revert code
  simp only [commandCodes, List.forall_mem_cons]
  exact ⟨rfl, rfl, rfl, rfl, rfl, rfl, rfl, rfl, rfl, rfl, rfl, rfl, rfl, rfl, rfl, rfl, rfl, rfl, rfl, rfl,
    rfl, rfl, rfl, rfl, rfl, rfl, rfl, rfl, rfl, rfl, rfl, rfl, nofun⟩

/-- A code in no row of the table reads as BAD_COMMAND. -/
theorem commandOf_unknown (h : commandCodes.contains code = false) :
    commandOf levels order code req = .badCommand code req := by
  have hn : ∀ n ∈ commandCodes.map (·.toNat), code.toNat ≠ n := fun n hm e => by
    obtain ⟨c, hc, rfl⟩ := List.mem_map.1 hm
    rw [BitVec.eq_of_toNat_eq e] at h
    simp [hc] at h
  unfold commandOf
  split
  pick_goal 33
  · rfl
  all_goals (rename_i e; exact absurd e (hn _ (by decide)))

theorem commandOf_linkCommand (h : Instr.linkCommand i = some (code, req))
    (hl : ∀ q l, i = .resetCore q l → l = levels) (ho : ∀ q o, i = .boundary q o → o = order) :
    commandOf levels order code req = i := by
  cases i with
  | resetCore q l => cases h; rw [hl _ l rfl]; rfl
  | boundary q o => cases h; rw [ho _ o rfl]; rfl
  | selFall | selRise | responseComplete | excessArgumentCount | badCommand | powerOnReset | boundaryEvent
  | pendingBoundaryRun | snapEdge | tick | stallTimeout | lockExpiry | aSideTransaction | steeringResponse
  | copyReadResponse | copyWriteResponse | refclkPeriod => cases h
  | _ => cases h; rfl

/-! ### Bytes of a request (R169) -/

theorem requestBytes_eq (code : Byte) (req : Request) :
    requestBytes code req =
      code :: BitVec.ofNat 8 req.args.length :: (req.args.flatMap Word.bytes ++ [req.check]) := by
  simp [requestBytes]

theorem toNat_count {n : Nat} (h : n ≤ 6) : (BitVec.ofNat 8 n).toNat = n :=
  (BitVec.toNat_ofNat n 8).trans (Nat.mod_eq_of_lt (by omega))

theorem readRequest_requestBytes (h : req.args.length ≤ 6) :
    readRequest levels order (requestBytes code req) = some (commandOf levels order code req) := by
  rw [requestBytes_eq]
  have hlen : (req.args.flatMap Word.bytes ++ [req.check]).length = 4 * req.args.length + 1 := by
    rw [List.length_append, length_flatMap_bytes]; rfl
  simp only [readRequest, toNat_count h, if_neg (Nat.not_lt.2 h), hlen, if_true, List.dropLast_concat,
    wordsOf_bytes, List.getLast?_concat]

theorem readRequest_excess {count : Byte} (h : 6 < count.toNat) :
    readRequest levels order [code, count] = some (.excessArgumentCount code count) := by
  simp [readRequest, h]

theorem concat_getLast {l : List Byte} {x : Byte} (h : l.getLast? = some x) : l = l.dropLast ++ [x] :=
  (List.dropLast_append_getLast? x h).symm

/-- What reads as a row is the bytes of a request, or a code with a count byte above 6. -/
theorem of_readRequest {bytes : List Byte} (h : readRequest levels order bytes = some i) :
    (∃ code req, bytes = requestBytes code req ∧ req.args.length ≤ 6 ∧ i = commandOf levels order code req) ∨
      ∃ code count : Byte, 6 < count.toNat ∧ bytes = [code, count] ∧ i = .excessArgumentCount code count := by
  unfold readRequest at h
  split at h
  · next code count rest =>
    split at h
    · next hc =>
      split at h
      · next hr => cases h; exact .inr ⟨code, count, hc, by rw [List.isEmpty_iff.1 hr], rfl⟩
      · cases h
    · next hc =>
      split at h
      · next hlen =>
        split at h
        · next args check hargs hcheck =>
          cases h
          have hrest := concat_getLast hcheck
          rw [bytes_of_wordsOf _ _ hargs] at hrest
          have hn : args.length = count.toNat := by
            have := congrArg List.length hrest
            rw [hlen] at this
            simp only [List.length_append, length_flatMap_bytes, List.length_singleton] at this
            omega
          refine .inl ⟨code, { args := args, check := check }, ?_, by simp only; omega, rfl⟩
          rw [requestBytes_eq, ← hrest, hn, BitVec.ofNat_toNat, BitVec.setWidth_eq]
        · cases h
      · cases h
  · cases h

/-- Two readings, of which one goes on after the other, are of one length. -/
theorem readRequest_append {bytes more : List Byte} (h : (readRequest levels order bytes).isSome = true)
    (hm : more ≠ []) : readRequest levels order (bytes ++ more) = none := by
  obtain ⟨i, hi⟩ := Option.isSome_iff_exists.1 h
  have hpos := List.length_pos_iff.2 hm
  rcases of_readRequest hi with ⟨code, req, rfl, hn, -⟩ | ⟨code, count, hc, rfl, -⟩
  · rw [requestBytes_eq]
    simp only [List.cons_append, readRequest, toNat_count hn, if_neg (Nat.not_lt.2 hn)]
    rw [if_neg]
    simp only [List.length_append, length_flatMap_bytes, List.length_singleton]
    omega
  · simp [readRequest, hc, hm]

theorem length_flatMap_bits (bytes : List Byte) : (bytes.flatMap Byte.bits).length = 8 * bytes.length := by
  induction bytes with
  | nil => rfl
  | cons b bs ih =>
    rw [List.flatMap_cons, List.length_append, ih, List.length_cons]
    show 8 + 8 * bs.length = _
    omega

/-- The bits of bytes read as the bytes. -/
theorem readRequestBits_bits (bytes : List Byte) :
    readRequestBits levels order (bytes.flatMap Byte.bits) = readRequest levels order bytes := by
  rw [readRequestBits, length_flatMap_bits, if_pos (by omega), bytesOf_bits]

end

/-- Settles O6: the bytes of a request read back as its code and words, and nothing else reads. -/
theorem requestsSpellTheirCommands : Obligations.RequestsSpellTheirCommands := by
  intro levels order
  refine ⟨fun i code req hi hn hl ho => ?_, fun code req hc hn => ?_, fun code count hc =>
    readRequest_excess hc, fun bytes i hi => ?_, fun bytes more h hm => readRequest_append h hm,
    readRequestBits_bits⟩
  · rw [readRequest_requestBytes hn, commandOf_linkCommand hi hl ho]
  · rw [readRequest_requestBytes hn, commandOf_unknown hc]
  · rcases of_readRequest hi with ⟨code, req, hb, hn, rfl⟩ | h
    · refine .inl ⟨code, req, hb, hn, ?_⟩
      cases hc : commandCodes.contains code with
      | true => exact .inl (linkCommand_commandOf (by simpa using hc))
      | false => exact .inr ⟨rfl, commandOf_unknown hc⟩
    · exact .inr h

end Sys2Proof.Machine
end

section
/-! PROOFS: the checks of a request and what a refusal leaves (O7, O9). Every link command is
`State.takeCommand` with a reader that answers none outside the ranges of R175 and with an owning block that
changes nothing when it refuses. -/

namespace Sys2Proof.Machine

/-! ### The ranges that a reader checks (R175, R179) -/

section
variable {w : Word}

theorem lt_of_readFin {n : Nat} {i : Fin n} (h : readFin n w = some i) : w.toNat < n := by
  unfold readFin at h
  split at h
  · assumption
  · cases h

theorem range_of_readRange {lo hi n : Nat} (h : readRange lo hi w = some n) :
    lo ≤ w.toNat ∧ w.toNat ≤ hi := by
  unfold readRange at h
  split at h
  · assumption
  · cases h

theorem le_of_readBool {b : Bool} (h : readBool w = some b) : w.toNat ≤ 1 := by
  unfold readBool at h
  split at h
  · omega
  · omega
  · cases h

theorem le_of_readOverflow {o : Overflow} (h : readOverflow w = some o) : w.toNat ≤ 1 := by
  unfold readOverflow at h
  split at h
  · omega
  · omega
  · cases h

theorem le_of_readEdge {e : Edge} (h : readEdge w = some e) : w.toNat ≤ 1 := by
  unfold readEdge at h
  split at h
  · omega
  · omega
  · cases h

theorem le_of_readStart {x : StartBy} (h : readStart w = some x) : w.toNat ≤ 1 := by
  unfold readStart at h
  split at h
  · omega
  · omega
  · cases h

theorem le_of_readPinLine {l : PinLine} (h : readPinLine w = some l) : w.toNat ≤ 2 := by
  unfold readPinLine at h
  split at h
  · omega
  · omega
  · omega
  · cases h

end

section
variable {n : Nat}

theorem le_of_roleOf {x : Role} (h : roleOf n = some x) : n ≤ 1 := by
  unfold roleOf at h
  split at h
  · decide
  · decide
  · cases h

theorem le_of_lineOf {x : LineSel} (h : lineOf n = some x) : n ≤ 2 := by
  unfold lineOf at h
  split at h
  · decide
  · decide
  · decide
  · cases h

theorem le_of_pickOf {x : Pick} (h : pickOf n = some x) : n ≤ 1 := by
  unfold pickOf at h
  split at h
  · decide
  · decide
  · cases h

theorem le_of_onEmptyOf {x : OnEmpty} (h : onEmptyOf n = some x) : n ≤ 1 := by
  unfold onEmptyOf at h
  split at h
  · decide
  · decide
  · cases h

theorem le_of_stallOf {x : StallPolicy} (h : stallOf n = some x) : n ≤ 1 := by
  unfold stallOf at h
  split at h
  · decide
  · decide
  · cases h

theorem pos_of_sourcesOf {m : ApSet} (h : sourcesOf n = some m) : 1 ≤ n := by
  unfold sourcesOf at h
  split at h
  · cases h
  · omega

theorem lt_of_finOf {k : Nat} {i : Fin n} (h : finOf n k = some i) : k < n := by
  unfold finOf at h
  split at h
  · assumption
  · cases h

theorem range_of_dividerOf {k : Nat} (h : dividerOf n = some k) : 1 ≤ n ∧ n ≤ 16 := by
  unfold dividerOf at h
  split at h
  · assumption
  · cases h

end

/-! ### The ranges that the readers of the commands check -/

section
variable {ws : List Word}

theorem argsNone_eq {x : Unit} (h : argsNone ws = some x) : ws = [] := by
  unfold argsNone at h
  split at h
  · rfl
  · cases h

theorem argsRing_eq {x : RingId} (h : argsRing ws = some x) : ∃ w, ws = [w] ∧ w.toNat ≤ 3 := by
  unfold argsRing at h
  split at h
  · exact ⟨_, rfl, Nat.le_of_lt_succ (lt_of_readFin h)⟩
  · cases h

theorem argsSlot_eq {x : SlotId} (h : argsSlot ws = some x) : ∃ w, ws = [w] ∧ w.toNat ≤ 15 := by
  unfold argsSlot at h
  split at h
  · exact ⟨_, rfl, Nat.le_of_lt_succ (lt_of_readFin h)⟩
  · cases h

theorem argsAperture_eq {x : ApId} (h : argsAperture ws = some x) : ∃ w, ws = [w] ∧ w.toNat ≤ 7 := by
  unfold argsAperture at h
  split at h
  · exact ⟨_, rfl, Nat.le_of_lt_succ (lt_of_readFin h)⟩
  · cases h

theorem argsRange_eq {lo hi n : Nat} (h : argsRange lo hi ws = some n) :
    ∃ w, ws = [w] ∧ lo ≤ w.toNat ∧ w.toNat ≤ hi := by
  unfold argsRange at h
  split at h
  · exact ⟨_, rfl, range_of_readRange h⟩
  · cases h

theorem argsLineSetup_inRange {x : PinLine × Edge} (h : argsLineSetup ws = some x) :
    argsInRange 0x04 (ws.map (·.toNat)) = true := by
  unfold argsLineSetup at h
  split at h
  · next u v =>
    simp only [Option.bind_eq_bind, Option.bind_eq_some_iff] at h
    obtain ⟨l, hl, e, he, -⟩ := h
    have := le_of_readPinLine hl
    have := le_of_readEdge he
    show (decide (u.toNat ≤ 2) && decide (v.toNat ≤ 1)) = true
    simp only [Bool.and_eq_true, decide_eq_true_eq]
    omega
  · cases h

theorem argsBoundary_inRange {x : BoundaryTarget} (h : argsBoundary ws = some x) :
    argsInRange 0x05 (ws.map (·.toNat)) = true := by
  unfold argsBoundary at h
  split at h
  · next w =>
    have : w.toNat ≤ 9 := by
      split at h
      · omega
      · split at h
        · omega
        · obtain ⟨a, ha, -⟩ := Option.map_eq_some_iff.1 h
          have := lt_of_readFin ha
          omega
    exact decide_eq_true this
  · cases h

theorem argsRingSetup_inRange {x : RingId × Nat × Overflow} (h : argsRingSetup ws = some x) :
    argsInRange 0x08 (ws.map (·.toNat)) = true := by
  unfold argsRingSetup at h
  split at h
  · next u v w =>
    simp only [Option.bind_eq_bind, Option.bind_eq_some_iff] at h
    obtain ⟨r, hr, e, he, o, ho, -⟩ := h
    have := lt_of_readFin hr
    have := range_of_readRange he
    have := le_of_readOverflow ho
    show (decide (u.toNat ≤ 3) && decide (12 ≤ v.toNat) && decide (v.toNat ≤ 24) && decide (w.toNat ≤ 1)) = true
    simp only [Bool.and_eq_true, decide_eq_true_eq]
    omega
  · cases h

theorem argsRingFlush_inRange {x : RingId × Bool} (h : argsRingFlush ws = some x) :
    argsInRange 0x0B (ws.map (·.toNat)) = true := by
  unfold argsRingFlush at h
  split at h
  · next u v =>
    simp only [Option.bind_eq_bind, Option.bind_eq_some_iff] at h
    obtain ⟨r, hr, k, hk, -⟩ := h
    have := lt_of_readFin hr
    have := le_of_readBool hk
    show (decide (u.toNat ≤ 3) && decide (v.toNat ≤ 1)) = true
    simp only [Bool.and_eq_true, decide_eq_true_eq]
    omega
  · cases h

theorem argsSlotAssign_inRange {x : SlotId × RingId × Addr} (h : argsSlotAssign ws = some x) :
    argsInRange 0x0C (ws.map (·.toNat)) = true := by
  unfold argsSlotAssign at h
  split at h
  · next u v w =>
    simp only [Option.bind_eq_bind, Option.bind_eq_some_iff] at h
    obtain ⟨sl, hsl, r, hr, -⟩ := h
    have := lt_of_readFin hsl
    have := lt_of_readFin hr
    show (decide (u.toNat ≤ 15) && decide (v.toNat ≤ 3)) = true
    simp only [Bool.and_eq_true, decide_eq_true_eq]
    omega
  · cases h

theorem argsSlotRetire_inRange {x : SlotId × Nat} (h : argsSlotRetire ws = some x) :
    argsInRange 0x0D (ws.map (·.toNat)) = true := by
  unfold argsSlotRetire at h
  split at h
  · next u v =>
    simp only [Option.bind_eq_bind, Option.bind_eq_some_iff] at h
    obtain ⟨sl, hsl, n, hn, -⟩ := h
    have := lt_of_readFin hsl
    have := range_of_readRange hn
    show (decide (u.toNat ≤ 15) && decide (v.toNat ≤ 255)) = true
    simp only [Bool.and_eq_true, decide_eq_true_eq]
    omega
  · cases h

theorem argsApertureOff_inRange {x : ApId × Nat} (h : argsApertureOff ws = some x) :
    argsInRange 0x12 (ws.map (·.toNat)) = true := by
  unfold argsApertureOff at h
  split at h
  · next u v =>
    simp only [Option.bind_eq_bind, Option.bind_eq_some_iff] at h
    obtain ⟨a, ha, n, hn, -⟩ := h
    have := lt_of_readFin ha
    have := range_of_readRange hn
    show (decide (u.toNat ≤ 7) && decide (v.toNat ≤ 255)) = true
    simp only [Bool.and_eq_true, decide_eq_true_eq]
    omega
  · cases h

theorem argsSetOverflow_inRange {x : RingId × Overflow × Nat} (h : argsSetOverflow ws = some x) :
    argsInRange 0x14 (ws.map (·.toNat)) = true := by
  unfold argsSetOverflow at h
  split at h
  · next u v w =>
    simp only [Option.bind_eq_bind, Option.bind_eq_some_iff] at h
    obtain ⟨r, hr, o, ho, n, hn, -⟩ := h
    have := lt_of_readFin hr
    have := le_of_readOverflow ho
    have := range_of_readRange hn
    show (decide (u.toNat ≤ 3) && decide (v.toNat ≤ 1) && decide (w.toNat ≤ 255)) = true
    simp only [Bool.and_eq_true, decide_eq_true_eq]
    omega
  · cases h

theorem argsScheduleSetup_inRange {x : ScheduleArgs} (h : argsScheduleSetup ws = some x) :
    argsInRange 0x20 (ws.map (·.toNat)) = true := by
  unfold argsScheduleSetup at h
  split at h
  · next w0 w1 w2 w3 w4 w5 =>
    simp only [Option.bind_eq_bind, Option.bind_eq_some_iff] at h
    obtain ⟨r, hr, d, hd, n, hn, g, hg, b, hb, st, hst, -⟩ := h
    have := lt_of_readFin hr
    have := range_of_readRange hd
    have := range_of_readRange hn
    have := range_of_readRange hg
    have := range_of_readRange hb
    have := le_of_readStart hst
    show (decide (w0.toNat ≤ 3) && decide (w1.toNat ≤ 255) && decide (w2.toNat ≤ 64) && decide (w3.toNat ≤ 255) &&
      decide (w4.toNat ≤ 255) && decide (w5.toNat ≤ 1)) = true
    simp only [Bool.and_eq_true, decide_eq_true_eq]
    omega
  · cases h

theorem argsRelease_inRange {x : RingId × Selector} (h : argsRelease ws = some x) :
    argsInRange 0x23 (ws.map (·.toNat)) = true := by
  unfold argsRelease at h
  split at h
  · simp only [Option.bind_eq_bind, Option.bind_eq_some_iff] at h
    obtain ⟨r, hr, h⟩ := h
    next w k f =>
    have := lt_of_readFin hr
    have : k.toNat ≤ 2 := by
      split at h
      · omega
      · omega
      · omega
      · cases h
    show (decide (w.toNat ≤ 3) && decide (k.toNat ≤ 2)) = true
    simp only [Bool.and_eq_true, decide_eq_true_eq]
    omega
  · cases h

theorem argsCopy_inRange {x : CopyArgs} (h : argsCopy ws = some x) :
    argsInRange 0x28 (ws.map (·.toNat)) = true := by
  unfold argsCopy at h
  split at h
  · next u f d l v =>
    simp only [Option.bind_eq_bind, Option.bind_eq_some_iff] at h
    obtain ⟨r, hr, ar, har, h⟩ := h
    have := lt_of_readFin hr
    have := le_of_readBool har
    split at h
    · next hd =>
      show (decide (u.toNat ≤ 3) && decide (d.toNat % 8 = 0) && decide (v.toNat ≤ 1)) = true
      simp only [Bool.and_eq_true, decide_eq_true_eq]
      omega
    · cases h
  · cases h

theorem argsNoteMask_inRange {x : BitVec 19 × Bool} (h : argsNoteMask ws = some x) :
    argsInRange 0x39 (ws.map (·.toNat)) = true := by
  unfold argsNoteMask at h
  split at h
  · next u v =>
    simp only [Option.bind_eq_bind, Option.bind_eq_some_iff] at h
    obtain ⟨e, he, h⟩ := h
    have := le_of_readBool he
    split at h
    · next hm =>
      show (decide (u.toNat < 524288) && decide (v.toNat ≤ 1)) = true
      simp only [Bool.and_eq_true, decide_eq_true_eq]
      omega
    · cases h
  · cases h

theorem readApChange_range {kind v v2 : Word} {c : ApChange} (h : readApChange kind v v2 = some c) :
    modifyInRange kind.toNat v.toNat = true := by
  have hv := v.isLt
  unfold readApChange at h
  split at h
  · next e => rw [e]; rfl
  · next e =>
    rw [e]
    split at h
    · next hlt =>
      obtain ⟨m, hm, -⟩ := Option.map_eq_some_iff.1 h
      have := pos_of_sourcesOf hm
      show (decide (1 ≤ v.toNat) && decide (v.toNat ≤ 255)) = true
      simp only [Bool.and_eq_true, decide_eq_true_eq]
      omega
    · cases h
  · next e =>
    simp only [Option.bind_eq_bind, Option.bind_eq_some_iff] at h
    obtain ⟨p, hp, oe, hoe, h⟩ := h
    have := le_of_pickOf hp
    have := le_of_onEmptyOf hoe
    rw [e]
    split at h
    · next hz =>
      simp only [Word.byte] at *
      show (decide (v.toNat % 256 ≤ 1) && decide (v.toNat / 256 % 256 ≤ 1) && decide (v.toNat < 65536)) = true
      simp only [Bool.and_eq_true, decide_eq_true_eq]
      omega
    · cases h
  · next e =>
    simp only [Option.bind_eq_bind, Option.bind_eq_some_iff] at h
    obtain ⟨st, hst, h⟩ := h
    have := le_of_stallOf hst
    rw [e]
    split at h
    · next hz =>
      simp only [Word.byte] at *
      show (decide (v.toNat / 65536 % 256 ≤ 1) && decide (v.toNat < 16777216)) = true
      simp only [Bool.and_eq_true, decide_eq_true_eq]
      omega
    · cases h
  · next e =>
    obtain ⟨k, hk, -⟩ := Option.map_eq_some_iff.1 h
    have := range_of_dividerOf hk
    rw [e]
    show (decide (1 ≤ v.toNat) && decide (v.toNat ≤ 16)) = true
    simp only [Bool.and_eq_true, decide_eq_true_eq]
    omega
  · cases h

theorem argsApertureModify_inRange {x : ApId × ApChange × Nat} (h : argsApertureModify ws = some x) :
    argsInRange 0x13 (ws.map (·.toNat)) = true := by
  unfold argsApertureModify at h
  split at h
  · next u k v w w2 =>
    simp only [Option.bind_eq_bind, Option.bind_eq_some_iff] at h
    obtain ⟨a, ha, n, hn, c, hc, -⟩ := h
    have := lt_of_readFin ha
    have := range_of_readRange hn
    have := readApChange_range hc
    show (decide (u.toNat ≤ 7) && decide (v.toNat ≤ 255) && modifyInRange k.toNat w.toNat) = true
    simp only [this, Bool.and_true, Bool.and_eq_true, decide_eq_true_eq]
    omega
  · cases h

theorem argsApertureSetup_inRange {x : SetupArgs} (h : argsApertureSetup ws = some x) :
    argsInRange 0x10 (ws.map (·.toNat)) = true := by
  unfold argsApertureSetup at h
  split at h
  · next w0 w1 w2 w3 w4 =>
    simp only [Option.bind_eq_bind, Option.bind_eq_some_iff] at h
    obtain ⟨a, ha, r, hr, role, hrole, line, hline, m, hm, k, hk, p, hp, oe, hoe, st, hst, h⟩ := h
    have := lt_of_finOf ha
    have := lt_of_finOf hr
    have := le_of_roleOf hrole
    have := le_of_lineOf hline
    have := pos_of_sourcesOf hm
    have := range_of_dividerOf hk
    have := le_of_pickOf hp
    have := le_of_onEmptyOf hoe
    have := le_of_stallOf hst
    have := w0.isLt
    have := w2.isLt
    have := w3.isLt
    split at h
    · next hz =>
      simp only [Word.byte] at *
      show setupInRange w0.toNat w2.toNat w3.toNat = true
      simp only [setupInRange, Bool.and_eq_true, decide_eq_true_eq]
      omega
    · cases h
  · cases h

end

end Sys2Proof.Machine
end

section
/-! PROOFS: what every link command is, its checks in order, and what a refusal leaves (O7, O9). -/

namespace Sys2Proof.Machine

/-! ### What a block answers -/

/-- A block that answers neither DONE nor QUEUED has changed nothing, and has words only with BUSY. -/
structure Answer.Mild (u : State) (x : Answer) : Prop where
  state  : x.status ≠ .done → x.status ≠ .queued → x.state = u
  clears : x.status ≠ .done → x.clears = .nothing
  words  : x.status ≠ .done → x.status ≠ .queued → x.status ≠ .busy → x.words = []

section
variable {s t : State}

theorem deny_mild (x : Status) : (s.deny x).Mild s := ⟨fun _ _ => rfl, fun _ => rfl, fun _ _ _ => rfl⟩

theorem mild_of_done {x : Answer} (h : x.status = .done) : x.Mild s :=
  ⟨fun k => absurd h k, fun k => absurd h k, fun k => absurd h k⟩

theorem done_mild : t.done.Mild s := mild_of_done rfl

theorem doneWith_mild (ws : List Word) : (t.doneWith ws).Mild s := mild_of_done rfl

theorem busyZero_mild : s.busyZero.Mild s := ⟨fun _ _ => rfl, fun _ => rfl, fun _ _ k => absurd rfl k⟩

theorem queueAnswer_of_full (op : ChangeOp) (k : Nat) (h : s.changesFull = true) :
    s.queueAnswer op k = s.deny .noSpace := by
  rw [State.queueAnswer, if_pos h]

theorem queueAnswer_of_space (op : ChangeOp) (k : Nat) (h : s.changesFull = false) :
    s.queueAnswer op k =
      { state := s.queueChange op k, status := .queued, words := [BitVec.ofNat 32 s.changes.nextSeq] } := by
  rw [State.queueAnswer, if_neg (by rw [h]; decide)]

theorem mild_of_queued {x : Answer} (h : x.status = .queued) (hc : x.clears = .nothing) : x.Mild s :=
  ⟨fun _ k => absurd h k, fun _ => hc, fun _ k => absurd h k⟩

theorem queueAnswer_mild (op : ChangeOp) (k : Nat) : (s.queueAnswer op k).Mild s := by
  cases h : s.changesFull with
  | true => rw [queueAnswer_of_full op k h]; exact deny_mild _
  | false => rw [queueAnswer_of_space op k h]; exact mild_of_queued rfl rfl

/-- A block that acts or refuses by one test. -/
theorem ite_mild {p : Prop} [Decidable p] {x y : Answer} (hx : p → x.Mild s) (hy : ¬ p → y.Mild s) :
    (if p then x else y).Mild s := by
  split
  · next h => exact hx h
  · next h => exact hy h

theorem actBoundaryCommand_mild (order : List ApId) (x : BoundaryTarget) :
    (actBoundaryCommand order s x).Mild s := by
  cases x with
  | line l => exact done_mild
  | aperture a => exact ite_mild (fun _ => done_mild) fun _ => deny_mild _

theorem actSlotRetire_mild (x : SlotId × Nat) : (actSlotRetire s x).Mild s := by
  unfold actSlotRetire
  simp only
  split
  · exact deny_mild _
  · refine ite_mild (fun _ => deny_mild _) fun _ => ite_mild (fun _ => deny_mild _) fun _ =>
      ite_mild (fun _ => done_mild) fun _ => ite_mild (fun _ => deny_mild _) fun hfull => ?_
    rw [queueAnswer_of_space]
    · exact mild_of_queued rfl rfl
    · exact (by simpa using hfull : s.changesFull = false)

theorem actApertureSetup_mild (x : SetupArgs) : (actApertureSetup s x).Mild s := by
  refine ite_mild (fun _ => deny_mild _) fun _ => ?_
  split
  · exact deny_mild _
  · exact ite_mild (fun _ => deny_mild _) fun _ => done_mild

theorem actApertureOn_mild (a : ApId) : (actApertureOn s a).Mild s := by
  refine ite_mild (fun _ => deny_mild _) fun _ => ?_
  split
  · exact deny_mild _
  · refine ite_mild (fun _ => deny_mild _) fun _ => ite_mild (fun _ => deny_mild _) fun _ =>
      ite_mild (fun _ => deny_mild _) fun _ => ?_
    split <;> exact done_mild

theorem actApertureOff_mild (x : ApId × Nat) : (actApertureOff s x).Mild s := by
  unfold actApertureOff
  simp only
  split
  · exact done_mild
  · exact queueAnswer_mild _ _
  · exact done_mild
  · split <;> exact done_mild

theorem actApertureModify_mild (x : ApId × ApChange × Nat) : (actApertureModify s x).Mild s := by
  unfold actApertureModify
  simp only
  split
  · exact deny_mild _
  · exact ite_mild (fun _ => deny_mild _) fun _ => ite_mild
      (fun _ => ite_mild (fun _ => deny_mild _) fun _ => queueAnswer_mild _ _) fun _ => done_mild

theorem actSetOverflow_mild (x : RingId × Overflow × Nat) : (actSetOverflow s x).Mild s :=
  ite_mild (fun _ => queueAnswer_mild _ _) fun _ => done_mild

theorem actCancelChange_mild (n : Nat) : (actCancelChange s n).Mild s := by
  unfold actCancelChange
  split
  · exact deny_mild _
  · exact ite_mild (fun _ => deny_mild _) fun _ => doneWith_mild _

theorem actRelease_mild (x : RingId × Selector) : (actRelease s x).Mild s := by
  obtain ⟨r, sel⟩ := x
  cases sel with
  | oldest =>
    simp only [actRelease, releaseOldest]
    split
    · exact deny_mild _
    · exact ite_mild (fun _ => doneWith_mild _) fun _ => busyZero_mild
  | frame n =>
    simp only [actRelease, releaseFrame]
    split
    · exact ite_mild (fun _ => doneWith_mild _) fun _ => busyZero_mild
    · split
      · exact doneWith_mild _
      · exact deny_mild _
  | all =>
    simp only [actRelease, releaseAll]
    split
    · exact deny_mild _
    · exact doneWith_mild _

theorem actCopy_mild (x : CopyArgs) : (actCopy s x).Mild s := by
  unfold actCopy
  split
  · exact deny_mild _
  · exact ite_mild (fun _ => deny_mild _) fun _ => ite_mild (fun _ => deny_mild _) fun _ =>
      ite_mild (fun _ => deny_mild _) fun _ => ite_mild (fun _ => deny_mild _) fun _ => doneWith_mild _

theorem actCopyCancel_mild (n : Nat) : (actCopyCancel s n).Mild s := by
  refine ite_mild (fun _ => deny_mild _) fun _ => ?_
  split
  · exact deny_mild _
  · refine ite_mild (fun _ => done_mild) fun _ => ?_
    split
    · exact done_mild
    · exact deny_mild _

end

/-! ### What every link command is (R170, R174) -/

/-- A link command with its reader and its block: the reader answers none outside the ranges, and the block
changes nothing when it refuses. -/
structure IsCommand {α : Type} (i : Instr) (code : Byte) (req : Request) (parse : List Word → Option α)
    (act : State → α → Answer) : Prop where
  exec  : ∀ s, exec i s = .next (s.takeCommand code parse req act)
  range : ∀ x, parse req.args = some x → argsInRange code.toNat (req.args.map (·.toNat)) = true
  mild  : ∀ s x, (act s x).Mild s

section
variable {code : Byte} {req : Request}

theorem none_inRange {x : Unit} (h : argsNone req.args = some x) (hc : argsInRange code.toNat [] = true) :
    argsInRange code.toNat (req.args.map (·.toNat)) = true := by
  rw [argsNone_eq h]; exact hc

theorem one_inRange {p : Nat → Prop} (h : ∃ w : Word, req.args = [w] ∧ p w.toNat)
    (hc : ∀ n, p n → argsInRange code.toNat [n] = true) :
    argsInRange code.toNat (req.args.map (·.toNat)) = true := by
  obtain ⟨w, hw, hp⟩ := h
  rw [hw]; exact hc _ hp

theorem argsRange_le {lo hi n : Nat} {ws : List Word} (h : argsRange lo hi ws = some n) :
    ∃ w : Word, ws = [w] ∧ w.toNat ≤ hi := by
  obtain ⟨w, hw, -, hp⟩ := argsRange_eq h
  exact ⟨w, hw, hp⟩

theorem and_decide {p q : Prop} [Decidable p] [Decidable q] (h : p ∧ q) : (decide p && decide q) = true := by
  simpa using h

theorem exists_isCommand : (i : Instr) → Instr.linkCommand i = some (code, req) →
    ∃ (α : Type) (parse : List Word → Option α) (act : State → α → Answer), IsCommand i code req parse act
  | .summary _, rfl => ⟨_, _, _, fun _ => rfl, fun _ h => none_inRange h rfl, fun _ _ => mild_of_done rfl⟩
  | .resetCore _ _, rfl => ⟨_, _, _, fun _ => rfl, fun _ h => none_inRange h rfl, fun _ _ => done_mild⟩
  | .timebase _, rfl => ⟨_, _, _, fun _ => rfl, fun _ h => one_inRange (argsRange_eq h) fun _ => and_decide,
      fun _ _ => done_mild⟩
  | .lineSetup _, rfl => ⟨_, _, _, fun _ => rfl, fun _ h => argsLineSetup_inRange h, fun _ _ => done_mild⟩
  | .boundary _ order, rfl => ⟨_, _, _, fun _ => rfl, fun _ h => argsBoundary_inRange h,
      fun _ x => actBoundaryCommand_mild order x⟩
  | .snap _, rfl => ⟨_, _, _, fun _ => rfl, fun _ h => none_inRange h rfl, fun _ _ => done_mild⟩
  | .ringSetup _, rfl => ⟨_, _, _, fun _ => rfl, fun _ h => argsRingSetup_inRange h,
      fun _ _ => ite_mild (fun _ => deny_mild _) fun _ => ite_mild (fun _ => deny_mild _) fun _ => done_mild⟩
  | .ringOn _, rfl => ⟨_, _, _, fun _ => rfl, fun _ h => one_inRange (argsRing_eq h) fun _ => decide_eq_true,
      fun _ _ => ite_mild (fun _ => done_mild) fun _ => deny_mild _⟩
  | .ringOff _, rfl => ⟨_, _, _, fun _ => rfl, fun _ h => one_inRange (argsRing_eq h) fun _ => decide_eq_true,
      fun _ _ => ite_mild (fun _ => done_mild) fun _ => deny_mild _⟩
  | .ringFlush _, rfl => ⟨_, _, _, fun _ => rfl, fun _ h => argsRingFlush_inRange h,
      fun _ _ => ite_mild (fun _ => done_mild) fun _ => done_mild⟩
  | .slotAssign _, rfl => ⟨_, _, _, fun _ => rfl, fun _ h => argsSlotAssign_inRange h, fun _ _ =>
      ite_mild (fun _ => deny_mild _) fun _ => ite_mild (fun _ => deny_mild _) fun _ =>
        ite_mild (fun _ => deny_mild _) fun _ => ite_mild (fun _ => deny_mild _) fun _ => done_mild⟩
  | .slotRetire _, rfl => ⟨_, _, _, fun _ => rfl, fun _ h => argsSlotRetire_inRange h,
      fun _ x => actSlotRetire_mild x⟩
  | .apertureSetup _, rfl => ⟨_, _, _, fun _ => rfl, fun _ h => argsApertureSetup_inRange h,
      fun _ x => actApertureSetup_mild x⟩
  | .apertureOn _, rfl => ⟨_, _, _, fun _ => rfl, fun _ h => one_inRange (argsAperture_eq h)
      fun _ => decide_eq_true, fun _ a => actApertureOn_mild a⟩
  | .apertureOff _, rfl => ⟨_, _, _, fun _ => rfl, fun _ h => argsApertureOff_inRange h,
      fun _ x => actApertureOff_mild x⟩
  | .apertureModify _, rfl => ⟨_, _, _, fun _ => rfl, fun _ h => argsApertureModify_inRange h,
      fun _ x => actApertureModify_mild x⟩
  | .setOverflow _, rfl => ⟨_, _, _, fun _ => rfl, fun _ h => argsSetOverflow_inRange h,
      fun _ x => actSetOverflow_mild x⟩
  | .cancelChange _, rfl => ⟨_, _, _, fun _ => rfl, fun _ h => one_inRange (argsRange_le h)
      fun _ => decide_eq_true, fun _ n => actCancelChange_mild n⟩
  | .scheduleSetup _, rfl => ⟨_, _, _, fun _ => rfl, fun _ h => argsScheduleSetup_inRange h,
      fun _ _ => ite_mild (fun _ => done_mild) fun _ => deny_mild _⟩
  | .scheduleStart _, rfl => ⟨_, _, _, fun _ => rfl, fun _ h => one_inRange (argsRing_eq h)
      fun _ => decide_eq_true, fun _ _ => ite_mild (fun _ => done_mild) fun _ => deny_mild _⟩
  | .scheduleStop _, rfl => ⟨_, _, _, fun _ => rfl, fun _ h => one_inRange (argsRing_eq h)
      fun _ => decide_eq_true, fun _ _ => done_mild⟩
  | .release _, rfl => ⟨_, _, _, fun _ => rfl, fun _ h => argsRelease_inRange h, fun _ x => actRelease_mild x⟩
  | .copy _, rfl => ⟨_, _, _, fun _ => rfl, fun _ h => argsCopy_inRange h, fun _ x => actCopy_mild x⟩
  | .copyCancel _, rfl => ⟨_, _, _, fun _ => rfl, fun _ h => one_inRange (argsRange_le h)
      fun _ => decide_eq_true, fun _ n => actCopyCancel_mild n⟩
  | .copyShare _, rfl => ⟨_, _, _, fun _ => rfl, fun _ h => one_inRange (argsRange_le h)
      fun _ => decide_eq_true, fun _ _ => done_mild⟩
  | .queryRing _, rfl => ⟨_, _, _, fun _ => rfl, fun _ h => one_inRange (argsRing_eq h)
      fun _ => decide_eq_true, fun _ _ => doneWith_mild _⟩
  | .querySlot _, rfl => ⟨_, _, _, fun _ => rfl, fun _ h => one_inRange (argsSlot_eq h)
      fun _ => decide_eq_true, fun _ _ => doneWith_mild _⟩
  | .queryAperture _, rfl => ⟨_, _, _, fun _ => rfl, fun _ h => one_inRange (argsAperture_eq h)
      fun _ => decide_eq_true, fun _ _ => doneWith_mild _⟩
  | .queryChanges _, rfl => ⟨_, _, _, fun _ => rfl, fun _ h => one_inRange (argsRange_le h)
      fun _ => decide_eq_true, fun _ _ => doneWith_mild _⟩
  | .queryJobs _, rfl => ⟨_, _, _, fun _ => rfl, fun _ h => none_inRange h rfl, fun _ _ => doneWith_mild _⟩
  | .readNotes _, rfl => ⟨_, _, _, fun _ => rfl, fun _ h => one_inRange (argsRange_eq h) fun _ => and_decide,
      fun _ _ => mild_of_done rfl⟩
  | .noteMask _, rfl => ⟨_, _, _, fun _ => rfl, fun _ h => argsNoteMask_inRange h, fun _ _ => done_mild⟩

end

/-! ### The checks in their order (R169, R170) -/

theorem excessCount_of_request {s : State} {code count : Byte} (h : s.link.phase = .request)
    (hc : 6 < count.toNat) : s.excessCount code count = s.answeredBytes [code, count] .badArg [] := by
  rw [State.excessCount, if_pos ⟨h, hc⟩]
  rfl

theorem unknownCommand_of_request {s : State} {code : Byte} {req : Request} (h : s.link.phase = .request)
    (hn : req.args.length ≤ 6) (hc : commandCodes.contains code = false) :
    s.unknownCommand code req = s.answeredBytes (requestBytes code req)
      (if byteSum (requestBytes code req) = 0 then .badCommand else .badCheck) [] := by
  have known : ¬ (s.link.phase ≠ .request ∨ commandCodes.contains code = true) := by
    rw [h, hc]; decide
  rw [State.unknownCommand, if_neg known, if_neg (Nat.not_lt.2 hn)]
  by_cases hb : byteSum (requestBytes code req) = 0
  · simp only [requestBalanced, hb, decide_true, if_true]; rfl
  · simp only [requestBalanced, hb, decide_false, if_false, Bool.false_eq_true]; rfl

/-- Settles O7: the checks of `State.takeCommand`, and the readers answer none outside their ranges. -/
theorem unreadableRequestsAreRefused : Obligations.UnreadableRequestsAreRefused := by
  refine ⟨fun s code count h hc => congrArg _ (excessCount_of_request h hc), fun i code req s hi h hn => ?_,
    fun s code req h hn hc => congrArg _ (unknownCommand_of_request h hn hc), fun i code req s hi h => ?_⟩
  · obtain ⟨α, parse, act, cmd⟩ := exists_isCommand i hi
    refine ⟨fun hb => ?_, fun hb hr => ?_⟩ <;> rw [cmd.exec]
    · exact congrArg _ (takeCommand_badCheck s code parse req act h hn (decide_eq_false hb))
    · have hp : parse req.args = none := Option.eq_none_iff_forall_ne_some.2 fun x hx => by
        rw [cmd.range x hx] at hr; cases hr
      exact congrArg _ (takeCommand_badArg s code parse req act h hn (decide_eq_true hb) hp)
  · obtain ⟨α, parse, act, cmd⟩ := exists_isCommand i hi
    rw [cmd.exec, takeCommand_outside s code parse req act h]

/-! ### A refusal changes only the link (R170, R171) -/

/-- What becomes of a request in REQUEST: a refusal by the controller, or the answer of the block. -/
theorem takeCommand_cases_of_request {α : Type} {s : State} {code : Byte} {parse : List Word → Option α}
    {req : Request} {act : State → α → Answer} (h : s.link.phase = .request) :
    (∃ bs x, s.takeCommand code parse req act = (s.received bs).reply x []) ∨
    ∃ x, s.takeCommand code parse req act =
        (((act (s.received (requestBytes code req)) x).state.reply
          (act (s.received (requestBytes code req)) x).status
          (act (s.received (requestBytes code req)) x).words).clearing
          (act (s.received (requestBytes code req)) x).clears) := by
  rcases takeCommand_cases s code parse req act with e | k | ⟨x, -, k⟩
  · refine absurd (congrArg (fun t : State => t.link.phase) e) ?_
    unfold State.takeCommand
    rw [if_neg (not_not.2 h), h]
    split
    · nofun
    · simp only
      split
      · nofun
      · split
        · nofun
        · next x _ => cases (act (s.received (requestBytes code req)) x).clears <;> nofun
  · exact .inl k
  · exact .inr ⟨x, k⟩

theorem clearing_response (s : State) (c : Clears) : (s.clearing c).link.response = s.link.response := by
  cases c <;> rfl

/-- Settles O9: a block that refuses has changed nothing, and the controller replies with what it says. -/
theorem refusalChangesOnlyTheLink : Obligations.RefusalChangesOnlyTheLink := by
  intro i code req s t r hi h ht hr hdone hqueued
  obtain ⟨α, parse, act, cmd⟩ := exists_isCommand i hi
  rw [cmd.exec] at ht
  cases ht
  rcases takeCommand_cases_of_request (code := code) (parse := parse) (req := req) (act := act) h with
    ⟨bs, x, e⟩ | ⟨x, e⟩
  · rw [e] at hr ⊢
    cases hr
    exact ⟨rfl, fun _ => rfl⟩
  · have mild := cmd.mild (s.received (requestBytes code req)) x
    rw [e, clearing_response] at hr
    cases hr
    refine ⟨?_, mild.words hdone hqueued⟩
    rw [e, mild.clears hdone, mild.state hdone hqueued]
    rfl

end Sys2Proof.Machine
end

section
/-! PROOFS: the setting commands (O10), the queries that answer with words (O41), notes (O43, O44), and
CANCEL_CHANGE (O33). -/

namespace Sys2Proof.Machine

section
variable {s t : State}

/-! ### The settings (R86, R93, R138, R165) -/

theorem argsLineSetup_words (l : PinLine) (e : Edge) :
    argsLineSetup [match l with | .frameA => 0 | .frameB => 1 | .snap => 2, if e = .rising then 1 else 0] =
      some (l, e) := by
  cases l <;> cases e <;> rfl

theorem readBool_word (b : Bool) : readBool (boolWord b) = some b := by cases b <;> rfl

theorem argsNoteMask_words (m : BitVec 19) (e : Bool) :
    argsNoteMask [numWord m.toNat, boolWord e] = some (m, e) := by
  have hm := m.isLt
  have hw : (numWord m.toNat).toNat = m.toNat := toNat_numWord (by omega)
  simp only [argsNoteMask, readBool_word, Option.bind_eq_bind, Option.bind_some, hw, if_pos hm,
    BitVec.ofNat_toNat, BitVec.setWidth_eq]

/-- What an update of its own leaves of the settings. -/
theorem Jump.settings {i : Instr} (j : Jump i s t) (core : ∀ req levels, i ≠ .resetCore req levels)
    (power : ∀ levels selLow, i ≠ .powerOnReset levels selLow) :
    ((∀ req, i ≠ .noteMask req) →
      t.notes.mask = s.notes.mask ∧ t.notes.attnEnable = s.notes.attnEnable) ∧
    ((∀ req, i ≠ .copyShare req) → t.arbiter.share = s.arbiter.share) ∧
    ((∀ req, i ≠ .timebase req) → t.lines.divisor = s.lines.divisor) ∧
    ((∀ req, i ≠ .lineSetup req) → t.lines.edgeA = s.lines.edgeA ∧ t.lines.edgeB = s.lines.edgeB ∧
      t.lines.edgeSnap = s.lines.edgeSnap) := by
  cases j with
  | core req levels => exact absurd rfl (core req levels)
  | power levels selLow => exact absurd rfl (power levels selLow)
  | timebase req => exact ⟨fun _ => ⟨rfl, rfl⟩, fun _ => rfl, fun h => absurd rfl (h req), fun _ => ⟨rfl, rfl, rfl⟩⟩
  | lineSetup req _ line =>
    exact ⟨fun _ => ⟨rfl, rfl⟩, fun _ => rfl, fun _ => by cases line <;> rfl, fun h => absurd rfl (h req)⟩
  | copyShare req => exact ⟨fun _ => ⟨rfl, rfl⟩, fun h => absurd rfl (h req), fun _ => rfl, fun _ => ⟨rfl, rfl, rfl⟩⟩
  | noteMask req => exact ⟨fun h => absurd rfl (h req), fun _ => rfl, fun _ => rfl, fun _ => ⟨rfl, rfl, rfl⟩⟩

/-- Settles O10: each setting command is one update, and every other event is a run of moves, which leave
the settings alone. -/
theorem settingsChangeByTheirCommandsAlone : Obligations.SettingsChangeByTheirCommandsAlone := by
  refine ⟨fun s h => ⟨fun d hlo hhi => ?_, fun e => ⟨?_, ?_, ?_⟩, fun k hk => ?_, fun m e => ?_⟩,
    fun i s t ht core power => ?_⟩
  · exact congrArg _ (takeCommand_done h (by simp) (readRange_numWord hlo hhi (by decide)) rfl)
  · exact congrArg _ (takeCommand_done h (by simp) (argsLineSetup_words .frameA e) rfl)
  · exact congrArg _ (takeCommand_done h (by simp) (argsLineSetup_words .frameB e) rfl)
  · exact congrArg _ (takeCommand_done h (by simp) (argsLineSetup_words .snap e) rfl)
  · exact congrArg _ (takeCommand_done h (by simp) (readRange_numWord (Nat.zero_le _) hk (by decide)) rfl)
  · exact congrArg _ (takeCommand_done h (by simp) (argsNoteMask_words m e) rfl)
  · have := moving_none
    have := stirring_none
    have := working_none
    have := opening_none
    obtain ⟨u, hu, run⟩ := exec_run i s.obeys_none
    rw [ht] at hu
    cases hu
    cases run with
    | moves m =>
      have k := m.settings
      exact ⟨fun _ => ⟨k.mask, k.attn⟩, fun _ => k.share, fun _ => k.divisor,
        fun _ => ⟨k.edgeA, k.edgeB, k.edgeSnap⟩⟩
    | jump u v before j after =>
      have hb := before.settings
      have ha := after.settings
      obtain ⟨notes, share, divisor, edges⟩ := j.settings core power
      refine ⟨fun k => ⟨?_, ?_⟩, fun k => ?_, fun k => ?_, fun k => ⟨?_, ?_, ?_⟩⟩
      · rw [ha.mask, (notes k).1, hb.mask]
      · rw [ha.attn, (notes k).2, hb.attn]
      · rw [ha.share, share k, hb.share]
      · rw [ha.divisor, divisor k, hb.divisor]
      · rw [ha.edgeA, (edges k).1, hb.edgeA]
      · rw [ha.edgeB, (edges k).2.1, hb.edgeB]
      · rw [ha.edgeSnap, (edges k).2.2, hb.edgeSnap]

/-! ### Notes (R160 to R166, R185) -/

theorem raise_of_masked {n : Note} (h : s.notes.enabled n.kind = false) : s.raise n = s := by
  rw [State.raise, NoteQueue.push, h]
  rfl

theorem raise_of_space {n : Note} (h : s.notes.enabled n.kind = true) (hl : s.notes.queue.length < 32) :
    s.raise n = { s with notes := { s.notes with queue := s.notes.queue ++ [n] } } := by
  rw [State.raise, NoteQueue.push, h, if_pos rfl, if_pos (show _ < Config.noteCapacity from hl)]

theorem raise_of_full {n : Note} (h : s.notes.enabled n.kind = true) (hl : 32 ≤ s.notes.queue.length) :
    s.raise n = { s with notes := { s.notes with lost := true } } := by
  rw [State.raise, NoteQueue.push, h, if_pos rfl, if_neg (show ¬ _ < Config.noteCapacity from Nat.not_lt.2 hl)]

/-- Settles O43: the three outcomes of raising a note. -/
theorem notesJoinTheQueueAndAssertAttn : Obligations.NotesJoinTheQueueAndAssertAttn := by
  refine ⟨fun s n => ⟨raise_of_masked, fun h => ⟨raise_of_space h, raise_of_full h⟩, rfl⟩, rfl, fun s => ?_⟩
  simp [State.attn]

theorem kindNumber_lt (k : NoteKind) : k.number < 256 := by cases k <;> decide

/-- The words of a note (R185). -/
theorem noteWords_eq (n : Note) :
    n.words =
      [ bytesWord n.kind.number (idOrFF n.ring) (idOrFF n.aperture) (idOrFF n.slot),
        numWord (numOrZero n.frame),
        numWord (n.detail % 65536 + 65536 * (numOrZero n.tag % 65536)) ] := by
  rw [Note.words, packWord_eq_bytesWord (kindNumber_lt _), idByte_eq_idOrFF, idByte_eq_idOrFF,
    idByte_eq_idOrFF, getD_zero, getD_zero]
  · rfl
  · rw [idByte_eq_idOrFF]; exact idOrFF_lt (by decide) _
  · rw [idByte_eq_idOrFF]; exact idOrFF_lt (by decide) _
  · rw [idByte_eq_idOrFF]; exact idOrFF_lt (by decide) _

/-- The part after READ_NOTES with these words in its response (R164). -/
def State.notesRead (s : State) (max : Nat) (ws : List Word) : State :=
  let u := State.answered { s with notes := { s.notes with queue := s.notes.queue.drop max } } 0x38
    [numWord max] .done ws
  { u with notes := { u.notes with lost := false } }

theorem exec_readNotes_taken (h : s.link.phase = .request) {max : Nat} (hlo : 1 ≤ max) (hhi : max ≤ 8) :
    exec (.readNotes (requestFor 0x38 [numWord max])) s =
      .next (s.notesRead max (numWord (s.notes.queue.take max).length ::
        (s.notes.queue.take max).flatMap Note.words)) := by
  have hp : argsRange 1 8 [numWord max] = some max := readRange_numWord hlo hhi (by decide)
  have hlen : (s.notes.queue.take max).length < 256 := by
    have := List.length_take_le max s.notes.queue
    omega
  have hcount : packWord (s.notes.queue.take max).length 0 0 0 = numWord (s.notes.queue.take max).length :=
    packWord_eq_bytesWord hlen (by decide) (by decide) (by decide)
  rw [← hcount]
  exact congrArg _ (takeCommand_taken s 0x38 _ (requestFor 0x38 [numWord max]) actReadNotes h (by simp)
    (requestFor_balanced _ _) hp)

/-- Settles O44: the answer of the block, with NOTES_LOST cleared once the response is built. -/
theorem readNotesRemovesTheOldest : Obligations.ReadNotesRemovesTheOldest := by
  intro s max h hlo hhi
  refine ⟨_, rfl, (exec_readNotes_taken h hlo hhi).trans
    (congrArg (fun ws => Host.Outcome.next (s.notesRead max ws)) ?_)⟩
  refine congrArg (List.cons _) (congrArg (fun f => List.flatMap f _) (funext fun n => ?_))
  rw [noteWords_eq]
  obtain ⟨kind, ring, aperture, slot, frame, tag, detail⟩ := n
  cases ring <;> cases aperture <;> cases slot <;> rfl

/-! ### SUMMARY (R176) and QUERY_CHANGES (R183) -/

theorem summaryRing_lt (r : RingId) : s.summaryRing r < 256 := by
  have := bit_le (s.ring r).on
  have := Nat.mod_lt (s.ring r).pool (show 0 < 32 by decide)
  unfold State.summaryRing
  omega

theorem byte_summaryRings (r : RingId) (h : (s.ring r).pool < 32) :
    Word.byte (packWord (s.summaryRing 0) (s.summaryRing 1) (s.summaryRing 2) (s.summaryRing 3)) r.val =
      flag (s.ring r).on 0 + 2 * (s.ring r).pool := by
  have hr : [s.summaryRing 0, s.summaryRing 1, s.summaryRing 2, s.summaryRing 3][r.val] = s.summaryRing r := by
    fin_cases r <;> rfl
  rw [byte_packWord _ _ _ _ r.isLt, hr, Nat.mod_eq_of_lt (summaryRing_lt r), State.summaryRing, bit_eq_flag,
    Nat.mod_eq_of_lt h]

theorem summaryAperture_lt (a : ApId) : s.summaryAperture a < 16 := by
  unfold State.summaryAperture
  have hstate : (s.ap a).state.code ≤ 2 := by cases (s.ap a).state <;> simp [ApState.code]
  cases (s.ap a).config with
  | none => simp [bit]; omega
  | some c => cases hc : c.role <;> simp [bit, Role.code, hc] <;> omega

/-- Two values of four bits to a byte. -/
theorem nibble_packWord (f : ApId → Nat) (h : ∀ a, f a < 16) (a : ApId) :
    (packWord (f 0 + 16 * f 1) (f 2 + 16 * f 3) (f 4 + 16 * f 5) (f 6 + 16 * f 7)).toNat / 16 ^ a.val % 16 =
      f a := by
  have h0 := h 0
  have h1 := h 1
  have h2 := h 2
  have h3 := h 3
  have h4 := h 4
  have h5 := h 5
  have h6 := h 6
  have h7 := h 7
  simp only [packWord, BitVec.toNat_ofNat]
  fin_cases a <;> simp <;> omega

theorem summaryAperture_eq (a : ApId) :
    s.summaryAperture a =
      (match (s.ap a).state with | .off => 0 | .unbound => 1 | .bound _ => 2) +
        (match (s.ap a).config with
          | none => 0
          | some d => (match d.role with | .producer => 0 | .consumer => 4) + 8) := by
  unfold State.summaryAperture
  have hstate : (s.ap a).state.code = (match (s.ap a).state with | .off => 0 | .unbound => 1 | .bound _ => 2) := by
    cases (s.ap a).state <;> rfl
  rw [hstate]
  cases (s.ap a).config with
  | none => rfl
  | some c => cases hc : c.role <;> simp only [bit, Role.code, hc, Option.isSome_some, if_true]

theorem summaryCounts_eq (hn : s.notes.queue.length < 256) (hc : s.changes.entries.length < 256)
    (hj : s.copy.count < 256) :
    packWord s.notes.queue.length s.changes.entries.length s.copy.count
        (s.steering.phase.code + 4 * bit s.lockOpen) =
      bytesWord s.notes.queue.length s.changes.entries.length s.copy.count
        ((match s.steering.phase with
          | .opened => 0 | .inFlight _ _ => 1 | .stalled _ _ _ _ => 2) + flag s.lockOpen 2) := by
  have hphase : s.steering.phase.code =
      (match s.steering.phase with | .opened => 0 | .inFlight _ _ => 1 | .stalled _ _ _ _ => 2) := by
    cases s.steering.phase <;> rfl
  have hlt : s.steering.phase.code ≤ 2 := by cases s.steering.phase <;> simp [SteeringPhase.code]
  have := bit_le s.lockOpen
  rw [packWord_eq_bytesWord hn hc hj (by omega), hphase, flag_eq]
  rfl

theorem exec_summary_taken (h : s.link.phase = .request) :
    exec (.summary (requestFor 0x01 [])) s =
      .next { s.answered 0x01 [] .done s.summaryWords with
        link := { (s.answered 0x01 [] .done s.summaryWords).link with resetSeen := false } } :=
  congrArg _ (takeCommand_taken s 0x01 argsNone (requestFor 0x01 []) actSummary h (by simp)
    (requestFor_balanced _ _) rfl)

theorem targetId_lt (op : ChangeOp) : op.targetId < 256 := by
  cases op with
  | aperture a x => exact val_lt_byte (by decide) a
  | setOverflow r o => exact val_lt_byte (by decide) r
  | retireSlot sl => exact val_lt_byte (by decide) sl

theorem changeNumber_lt (op : ChangeOp) : op.number < 256 := by
  cases op with
  | aperture a x => cases x <;> simp [ChangeOp.number]
  | setOverflow | retireSlot => simp [ChangeOp.number]

theorem targetId_eq (op : ChangeOp) : op.targetId = op.targetNumber := by cases op <;> rfl

theorem valueWord_eq (op : ChangeOp) : op.valueWord = op.valueField := by
  cases op with
  | aperture a x =>
    cases x with
    | setSources m => exact packWord_eq_bytesWord m.isLt (by decide) (by decide) (by decide)
    | setPick p oe => cases p <;> cases oe <;> rfl
    | setStall st t f => cases st <;> rfl
    | moveWindow | setDivider | detach => rfl
  | setOverflow r o => cases o <;> rfl
  | retireSlot => rfl

theorem changeWords_eq (e : Change) :
    e.words =
      [ numWord (e.seq % 65536 + 65536 * e.op.kindNumber + 16777216 * e.op.targetNumber),
        numWord (e.expiry % 256), e.op.valueField, e.op.value2Field ] := by
  have hk := changeNumber_lt e.op
  have ht := targetId_lt e.op
  have hfirst : packHalves e.seq (e.op.number + 256 * e.op.targetId) =
      numWord (e.seq % 65536 + 65536 * e.op.kindNumber + 16777216 * e.op.targetNumber) := by
    rw [packHalves, Nat.mod_eq_of_lt (show e.op.number + 256 * e.op.targetId < 65536 by omega),
      ← number_eq_kindNumber, ← targetId_eq]
    exact congrArg (BitVec.ofNat 32) (by omega)
  have hlast : e.op.value2Word = e.op.value2Field := by
    cases e.op with
    | aperture a x => cases x <;> rfl
    | setOverflow | retireSlot => rfl
  rw [Change.words, hfirst, valueWord_eq, hlast]
  rfl

theorem changesWords_eq (q : ChangeQueue) (n : Nat) :
    q.words n =
      numWord (q.entries.length % 256 + 256 * ((q.entries.drop n).take 7).length +
          65536 * (q.nextSeq % 65536)) ::
        ((q.entries.drop n).take 7).flatMap fun e =>
          [ numWord (e.seq % 65536 + 65536 * e.op.kindNumber + 16777216 * e.op.targetNumber),
            numWord (e.expiry % 256), e.op.valueField, e.op.value2Field ] := by
  have hlen : ((q.entries.drop n).take 7).length ≤ 7 := List.length_take_le _ _
  have hmod := Nat.mod_lt q.entries.length (show 0 < 256 by decide)
  rw [ChangeQueue.words, ChangeQueue.shown, packHalves, Nat.mod_eq_of_lt (a := _ + _) (by omega),
    show Change.words = _ from funext changeWords_eq]
  rfl

/-- Settles O41: each query answers with the words of its report. -/
theorem queriesReportWithoutChange : Obligations.QueriesReportWithoutChange := by
  intro s h
  refine ⟨⟨_, _, _, _, rfl, exec_summary_taken h, byte_summaryRings, fun p => ?_, summaryCounts_eq⟩,
    exec_queryRing_taken h, exec_querySlot_taken h, exec_queryAperture_taken h, fun n hn => ?_,
    exec_queryJobs_taken h⟩
  · rw [nibble_packWord s.summaryAperture summaryAperture_lt p]
    exact summaryAperture_eq p
  · have hp : argsRange 0 11 [numWord n] = some n := readRange_numWord (Nat.zero_le _) hn (by decide)
    rw [← changesWords_eq]
    exact congrArg _ (takeCommand_answered h (by simp) hp rfl)

/-! ### CANCEL_CHANGE (R157) -/

theorem find_append_of_seq {before after : List Change} {e : Change}
    (h : ∀ x ∈ before, x.seq ≠ e.seq) :
    (before ++ e :: after).find? (fun x => decide (x.seq = e.seq)) = some e := by
  rw [List.find?_append, List.find?_eq_none.2 fun x hx => by simpa using h x hx]
  simp

theorem erase_append_cons {before after : List Change} {e : Change} (h : ∀ x ∈ before, x.seq ≠ e.seq) :
    (before ++ e :: after).erase e = before ++ after := by
  rw [List.erase_append_right _ fun hm => h e hm rfl, List.erase_cons_head]

theorem cancelWord_eq (op : ChangeOp) :
    packWord op.number op.targetId 0 0 = numWord (op.kindNumber + 256 * op.targetNumber) := by
  rw [packWord_eq_bytesWord (changeNumber_lt op) (targetId_lt op) (by decide) (by decide),
    ← number_eq_kindNumber, ← targetId_eq]
  rfl

theorem clearRetirePending_slot (op : ChangeOp) (sl : SlotId) :
    (s.clearRetirePending op).slot sl =
      if op = .retireSlot sl then { s.slot sl with retirePending := false } else s.slot sl := by
  cases op with
  | aperture | setOverflow => rfl
  | retireSlot x =>
    show (s.setSlot x _).slot sl = _
    rw [setSlot_slot]
    by_cases hx : x = sl
    · subst hx; simp
    · simp [hx]

theorem clearRetirePending_rest (op : ChangeOp) :
    { s.clearRetirePending op with slots := s.slots } = s := by cases op <;> rfl

theorem clearRetirePending_received (op : ChangeOp) (bs : List Byte) :
    (s.received bs).clearRetirePending op = (s.clearRetirePending op).received bs := by cases op <;> rfl

/-- Settles O33: the entry found is the one with the seq. -/
theorem cancelChangeRemovesTheEntry : Obligations.CancelChangeRemovesTheEntry := by
  intro s seq h hseq
  have hp : argsRange 0 65535 [numWord seq] = some seq :=
    readRange_numWord (Nat.zero_le _) hseq (by decide)
  refine ⟨fun hnone => ?_, fun before e after hne he hes hothers => ?_⟩
  · refine congrArg _ (takeCommand_denied h (by simp) hp ?_)
    unfold actCancelChange
    split
    · rfl
    · next e hfound =>
      rcases hnone with rfl | hnone
      · rw [if_pos rfl]
      · exact absurd (by simpa using List.find?_some hfound) (hnone e (List.mem_of_find?_eq_some hfound))
  · subst hes
    have hbefore : ∀ x ∈ before, x.seq ≠ e.seq := fun x hx => hothers x (List.mem_append_left _ hx)
    have hact (bs : List Byte) : actCancelChange (s.received bs) e.seq =
        { state := ((s.removeChange e).clearRetirePending e.op).received bs, status := .done
          words := [packWord e.op.number e.op.targetId 0 0] } := by
      have hfound : (s.received bs).changes.entries.find? (fun x => decide (x.seq = e.seq)) = some e := by
        show s.changes.entries.find? _ = _
        rw [he, find_append_of_seq hbefore]
      rw [actCancelChange, hfound, ← clearRetirePending_received]
      exact if_neg hne
    have hleft : (s.removeChange e).changes.entries = before ++ after :=
      (congrArg (List.erase · e) he).trans (erase_append_cons hbefore)
    refine ⟨_, congrArg Host.Outcome.next (takeCommand_answered (code := 0x18) h (by simp) hp (hact _)),
      ?_, ?_, fun sl => ?_, ?_⟩
    · rw [cancelWord_eq]; exact ⟨rfl, _, rfl, rfl, rfl⟩
    · rw [← hleft]; cases e.op <;> rfl
    · exact clearRetirePending_slot (s := s.removeChange e) e.op sl
    · have k := clearRetirePending_rest (s := s.removeChange e) e.op
      exact congrArg (fun u : State => { u with link := s.link, changes := s.changes }) k

end

end Sys2Proof.Machine
end

section
/-! PROOFS: SLOT_RETIRE (O23), APERTURE_SETUP and the checks of APERTURE_ON (O24), APERTURE_MODIFY and
SET_OVERFLOW (O28), and the SNAP event (O11). -/

namespace Sys2Proof.Machine

section
variable {s t : State}

/-! ### Commands that queue an entry (R145) -/

/-- A block that queues an entry in a queue with space: the entry joins, and its seq is the result. -/
theorem takeCommand_queued {α : Type} {code : Byte} {args : List Word} {parse : List Word → Option α} {x : α}
    {act : State → α → Answer} {op : ChangeOp} {k : Nat} (h : s.link.phase = .request)
    (hn : args.length ≤ 6) (hp : parse args = some x) (hspace : t.changes.entries.length < 12)
    (ha : ∀ bs, act (s.received bs) x = (t.received bs).queueAnswer op k) :
    ∃ n, t.SeqMoves n ∧
      s.takeCommand code parse (requestFor code args) act =
        State.answered { t with changes := t.queued op k n } code args .queued [numWord t.changes.nextSeq] := by
  obtain ⟨n, hm, hq⟩ := queueChange_changes t op k hspace
  refine ⟨n, hm, ?_⟩
  rw [← hq]
  exact takeCommand_answered h hn hp ((ha _).trans
    (queueAnswer_of_space (s := t.received _) op k ((changesFull_eq_false _).2 hspace)))

theorem takeCommand_done_of {α : Type} {code : Byte} {args : List Word} {parse : List Word → Option α} {x : α}
    {act : State → α → Answer} (h : s.link.phase = .request) (hn : args.length ≤ 6) (hp : parse args = some x)
    (ha : ∀ bs, act (s.received bs) x = (t.received bs).done) :
    s.takeCommand code parse (requestFor code args) act = t.answered code args .done [] :=
  takeCommand_done h hn hp (ha _)

theorem takeCommand_denied_of {α : Type} {code : Byte} {args : List Word} {parse : List Word → Option α} {x : α}
    {act : State → α → Answer} {status : Status} (h : s.link.phase = .request) (hn : args.length ≤ 6)
    (hp : parse args = some x) (ha : ∀ bs, act (s.received bs) x = (s.received bs).deny status) :
    s.takeCommand code parse (requestFor code args) act = s.answered code args status [] :=
  takeCommand_denied h hn hp (ha _)

theorem changesFull_of_le (h : 12 ≤ s.changes.entries.length) : s.changesFull = true := by
  cases hf : s.changesFull with
  | true => rfl
  | false => have := (changesFull_eq_false s).1 hf; omega

theorem queueAnswer_of_twelve (op : ChangeOp) (k : Nat) (h : 12 ≤ s.changes.entries.length) :
    s.queueAnswer op k = s.deny .noSpace := queueAnswer_of_full op k (changesFull_of_le h)

/-! ### SLOT_RETIRE (R22) -/

theorem argsSlotRetire_words (sl : SlotId) {k : Nat} (hk : k ≤ 255) :
    argsSlotRetire [idWord sl, numWord k] = some (sl, k) := by
  simp only [argsSlotRetire, readFin_idWord sl (by decide), readRange_numWord (Nat.zero_le k) hk (by decide),
    Option.bind_eq_bind, Option.bind_some]

section
variable {sl : SlotId} {h : Home} {k : Nat}

theorem actSlotRetire_of_wrongState
    (hbad : (s.slot sl).home = none ∨ (s.slot sl).retirePending = true ∨
      ∃ h, (s.slot sl).home = some h ∧ (s.ring h.ring).on = true ∧ (s.ring h.ring).pool ≤ 2) :
    actSlotRetire s (sl, k) = s.deny .wrongState := by
  unfold actSlotRetire
  simp only
  rcases hbad with hb | hb | ⟨h, hh, hb⟩
  · rw [hb]
  · split
    · rfl
    · rw [if_pos hb]
  · simp only [hh, if_pos hb, ite_self]

/-- Past its checks the command retires a FREE slot and queues the others. -/
theorem actSlotRetire_of_passed (hh : (s.slot sl).home = some h) (hp : (s.slot sl).retirePending = false)
    (hok : (s.ring h.ring).on = false ∨ 2 < (s.ring h.ring).pool) :
    actSlotRetire s (sl, k) =
      if s.slotState sl = .free then (s.retire sl).done
      else if s.changesFull then s.deny .noSpace
      else (s.setSlot sl { s.slot sl with retirePending := true }).queueAnswer (.retireSlot sl) k := by
  have hfloor : ¬ ((s.ring h.ring).on = true ∧ (s.ring h.ring).pool ≤ 2) := by
    rintro ⟨hon, hpool⟩
    rcases hok with k | k
    · rw [hon] at k; cases k
    · omega
  unfold actSlotRetire
  simp only [hh, hp, if_neg hfloor, Bool.false_eq_true, if_false]

theorem slotState_free_iff (hh : (s.slot sl).home = some h) :
    s.slotState sl = .free ↔ sl ∈ (s.ring h.ring).free := by
  rw [State.slotState, hh]
  simp only
  by_cases hf : sl ∈ (s.ring h.ring).free
  · simp [hf]
  · simp only [List.contains_eq_mem, hf, decide_false, Bool.false_eq_true, if_false, iff_false]
    split
    · nofun
    · split <;> nofun

variable (hh : (s.slot sl).home = some h) (hp : (s.slot sl).retirePending = false)
  (hok : (s.ring h.ring).on = false ∨ 2 < (s.ring h.ring).pool)
include hh hp hok

theorem actSlotRetire_of_free (hfree : sl ∈ (s.ring h.ring).free) :
    actSlotRetire s (sl, k) =
      ((s.setRing h.ring { s.ring h.ring with
          free := (s.ring h.ring).free.erase sl, pool := (s.ring h.ring).pool - 1 }).setSlot sl Slot.unassigned).done := by
  rw [actSlotRetire_of_passed hh hp hok, if_pos ((slotState_free_iff hh).2 hfree), retire_of_home _ hh]

theorem actSlotRetire_of_full (hnot : sl ∉ (s.ring h.ring).free) (hfull : 12 ≤ s.changes.entries.length) :
    actSlotRetire s (sl, k) = s.deny .noSpace := by
  rw [actSlotRetire_of_passed hh hp hok, if_neg ((slotState_free_iff hh).not.2 hnot),
    if_pos (changesFull_of_le hfull)]

theorem actSlotRetire_of_space (hnot : sl ∉ (s.ring h.ring).free) (hspace : s.changes.entries.length < 12) :
    actSlotRetire s (sl, k) =
      (s.setSlot sl { s.slot sl with retirePending := true }).queueAnswer (.retireSlot sl) k := by
  rw [actSlotRetire_of_passed hh hp hok, if_neg ((slotState_free_iff hh).not.2 hnot),
    if_neg (Bool.eq_false_iff.1 ((changesFull_eq_false s).2 hspace))]

end

/-- Settles O23: the checks in order, then the state of the slot decides. -/
theorem slotRetireActsOrQueues : Obligations.SlotRetireActsOrQueues := by
  rintro s sl k args h hk rfl
  have hp := argsSlotRetire_words sl hk
  refine ⟨fun hbad => ?_, fun home hh hpend hok => ⟨fun hfree => ?_, fun hnot hfull => ?_, fun hnot hspace => ?_⟩⟩
  · exact congrArg _ (takeCommand_denied_of h (by simp) hp fun bs => (actSlotRetire_of_wrongState (s := s.received bs) hbad))
  · exact congrArg _ (takeCommand_done_of h (by simp) hp
      fun bs => (actSlotRetire_of_free (s := s.received bs) (h := home) hh hpend hok hfree))
  · exact congrArg _ (takeCommand_denied_of h (by simp) hp
      fun bs => (actSlotRetire_of_full (s := s.received bs) (h := home) hh hpend hok hnot hfull))
  · obtain ⟨n, hm, e⟩ := takeCommand_queued (code := 0x0D) (act := actSlotRetire)
      (t := s.setSlot sl { s.slot sl with retirePending := true }) h (by simp) hp hspace
      fun bs => actSlotRetire_of_space (s := s.received bs) (h := home) hh hpend hok hnot hspace
    exact ⟨n, hm, congrArg Host.Outcome.next e⟩

/-! ### Packed argument words (R179) -/

theorem toNat_bytesWord {b0 b1 b2 b3 : Nat} (h0 : b0 < 256) (h1 : b1 < 256) (h2 : b2 < 256) (h3 : b3 < 256) :
    (bytesWord b0 b1 b2 b3).toNat = b0 + 256 * b1 + 65536 * b2 + 16777216 * b3 :=
  (BitVec.toNat_ofNat _ 32).trans (Nat.mod_eq_of_lt (by omega))

/-- The bytes of a word of four bytes. -/
theorem byte_bytesWord {b0 b1 b2 b3 : Nat} (h0 : b0 < 256) (h1 : b1 < 256) (h2 : b2 < 256) (h3 : b3 < 256) :
    Word.byte (bytesWord b0 b1 b2 b3) 0 = b0 ∧ Word.byte (bytesWord b0 b1 b2 b3) 1 = b1 ∧
      Word.byte (bytesWord b0 b1 b2 b3) 2 = b2 ∧ Word.byte (bytesWord b0 b1 b2 b3) 3 = b3 := by
  simp only [Word.byte, toNat_bytesWord h0 h1 h2 h3]
  omega

theorem finOf_val {n : Nat} (i : Fin n) : finOf n i.val = some i := dif_pos i.isLt

theorem sourcesOf_toNat {m : ApSet} (h : m ≠ 0) : sourcesOf m.toNat = some m := by
  have : m.toNat ≠ 0 := fun e => h (BitVec.eq_of_toNat_eq e)
  rw [sourcesOf, if_neg this, BitVec.ofNat_toNat, BitVec.setWidth_eq]

theorem dividerOf_self {k : Nat} (h : 1 ≤ k ∧ k ≤ 16) : dividerOf k = some k := if_pos h

/-- The word of timeout and stall policy (R179). -/
theorem stallWord_fields {t b : Nat} (ht : t < 65536) (hb : b < 256) :
    Word.low (numWord (t + 65536 * b)) = t ∧ Word.byte (numWord (t + 65536 * b)) 2 = b ∧
      Word.byte (numWord (t + 65536 * b)) 3 = 0 := by
  have h : (numWord (t + 65536 * b)).toNat = t + 65536 * b := toNat_numWord (by omega)
  simp only [Word.low, Word.byte, h]
  omega

/-! ### The codes of the enumerated fields (R179) -/

theorem roleOf_code (x : Role) : roleOf (match x with | .producer => 0 | .consumer => 1) = some x := by
  cases x <;> rfl

theorem lineOf_code (x : LineSel) : lineOf (match x with | .a => 0 | .b => 1 | .noLine => 2) = some x := by
  cases x <;> rfl

theorem pickOf_code (x : Pick) : pickOf (match x with | .newest => 0 | .ordered => 1) = some x := by
  cases x <;> rfl

theorem onEmptyOf_code (x : OnEmpty) :
    onEmptyOf (match x with | .repeatFrame => 0 | .strict => 1) = some x := by
  cases x <;> rfl

theorem stallOf_code (x : StallPolicy) : stallOf (match x with | .wait => 0 | .blank => 1) = some x := by
  cases x <;> rfl

/-! ### APERTURE_SETUP (R49, R179) -/

/-- The words of a configuration in range read back as it, but for the window size. -/
theorem argsApertureSetup_words (a : ApId) {c : ApConfig} (hc : c.InRange) :
    argsApertureSetup
      [ bytesWord a.val c.ring.val (match c.role with | .producer => 0 | .consumer => 1)
          (match c.line with | .a => 0 | .b => 1 | .noLine => 2),
        c.windowBase,
        bytesWord c.sources.toNat c.divider (match c.pick with | .newest => 0 | .ordered => 1)
          (match c.onEmpty with | .repeatFrame => 0 | .strict => 1),
        numWord (c.timeout + 65536 * match c.stall with | .wait => 0 | .blank => 1),
        c.fill ] = some { aperture := a, config := { c with windowSize := 0 } } := by
  obtain ⟨ring, role, base, size, sources, line, divider, fill, pick, onEmpty, stall, timeout⟩ := c
  obtain ⟨hdiv, htime, hsrc, -⟩ := hc
  simp only at hdiv htime hsrc ⊢
  have hrole : (match role with | .producer => 0 | .consumer => 1 : Nat) < 256 := by cases role <;> decide
  have hline : (match line with | .a => 0 | .b => 1 | .noLine => 2 : Nat) < 256 := by cases line <;> decide
  have hpick : (match pick with | .newest => 0 | .ordered => 1 : Nat) < 256 := by cases pick <;> decide
  have hempty : (match onEmpty with | .repeatFrame => 0 | .strict => 1 : Nat) < 256 := by
    cases onEmpty <;> decide
  have hstall : (match stall with | .wait => 0 | .blank => 1 : Nat) < 256 := by cases stall <;> decide
  obtain ⟨e0, e1, e2, e3⟩ := byte_bytesWord (val_lt_byte (by decide) a) (val_lt_byte (by decide) ring) hrole hline
  obtain ⟨f0, f1, f2, f3⟩ := byte_bytesWord sources.isLt (show divider < 256 by omega) hpick hempty
  obtain ⟨g0, g1, g2⟩ := stallWord_fields (show timeout < 65536 by omega) hstall
  simp only [argsApertureSetup, e0, e1, e2, e3, f0, f1, f2, f3, g0, g1, g2, finOf_val, roleOf_code, lineOf_code, pickOf_code,
    onEmptyOf_code, stallOf_code, sourcesOf_toNat hsrc, dividerOf_self hdiv, Option.bind_eq_bind, Option.bind_some, if_true]

section
variable {a : ApId} {c : ApConfig} {e : Nat}

theorem actApertureSetup_of_wrongState (h : s.apOn a = true ∨ (s.ring c.ring).slotSize = none) :
    actApertureSetup s { aperture := a, config := c } = s.deny .wrongState := by
  unfold actApertureSetup
  rcases h with h | h
  · rw [if_pos h]
  · split
    · rfl
    · simp only [h]

theorem actApertureSetup_of_sized (hoff : s.apOn a = false) (hsize : (s.ring c.ring).slotSize = some e) :
    actApertureSetup s { aperture := a, config := c } =
      if c.windowBase.toNat % 2 ^ e ≠ 0 then s.deny .badArg
      else (s.setConfig a { c with windowSize := e }).done := by
  rw [actApertureSetup, if_neg (by rw [hoff]; decide)]
  simp only [hsize]

theorem actApertureSetup_of_unaligned (hoff : s.apOn a = false) (hsize : (s.ring c.ring).slotSize = some e)
    (hmis : c.windowBase.toNat % 2 ^ e ≠ 0) :
    actApertureSetup s { aperture := a, config := c } = s.deny .badArg := by
  rw [actApertureSetup_of_sized hoff hsize, if_pos hmis]

theorem actApertureSetup_of_aligned (hoff : s.apOn a = false) (hsize : (s.ring c.ring).slotSize = some e)
    (hal : c.windowBase.toNat % 2 ^ e = 0) :
    actApertureSetup s { aperture := a, config := c } = (s.setConfig a { c with windowSize := e }).done := by
  rw [actApertureSetup_of_sized hoff hsize, if_neg (not_not.2 hal)]

/-! ### APERTURE_ON (R178) -/

theorem actApertureOn_of_wrongState (h : s.apOn a = true ∨ (s.ap a).config = none) :
    actApertureOn s a = s.deny .wrongState := by
  unfold actApertureOn
  rcases h with h | h
  · rw [if_pos h]
  · split
    · rfl
    · rw [h]

theorem actApertureOn_of_setUp (hoff : s.apOn a = false) (hc : (s.ap a).config = some c) :
    actApertureOn s a =
      if !(s.ring c.ring).on then s.deny .wrongState
      else if s.roleTaken c then s.deny .conflict
      else if s.windowTaken c then s.deny .conflict
      else if c.role = .producer then (s.producerOn a c.ring).done
      else (s.consumerOn a c).done := by
  rw [actApertureOn, if_neg (by rw [hoff]; decide)]
  simp only [hc]
  cases c.role <;> rfl

theorem actApertureOn_of_ringOff (hoff : s.apOn a = false) (hc : (s.ap a).config = some c)
    (hring : (s.ring c.ring).on = false) : actApertureOn s a = s.deny .wrongState := by
  rw [actApertureOn_of_setUp hoff hc, if_pos (by rw [hring]; rfl)]

theorem roleTaken_of_producer (hrole : c.role = .producer) :
    s.roleTaken c = (s.ring c.ring).producer.isSome := by rw [State.roleTaken, hrole]

theorem roleTaken_of_consumer (hrole : c.role = .consumer) :
    s.roleTaken c = decide (3 ≤ (allAps.filter fun b => ApSet.has (s.ring c.ring).consumers b).length) := by
  rw [State.roleTaken, hrole, size_eq_filter]

theorem actApertureOn_of_conflict (hoff : s.apOn a = false) (hc : (s.ap a).config = some c)
    (hon : (s.ring c.ring).on = true)
    (h : c.role = .producer ∧ (s.ring c.ring).producer.isSome = true ∨
      c.role = .consumer ∧ 3 ≤ (allAps.filter fun b => ApSet.has (s.ring c.ring).consumers b).length ∨
      ¬ s.WindowFree c.windowBase (2 ^ c.windowSize)) :
    actApertureOn s a = s.deny .conflict := by
  rw [actApertureOn_of_setUp hoff hc, if_neg (by rw [hon]; decide)]
  by_cases hr : s.roleTaken c = true
  · rw [if_pos hr]
  · rw [if_neg hr]
    rcases h with ⟨hrole, hp⟩ | ⟨hrole, hcount⟩ | hw
    · exact absurd ((roleTaken_of_producer hrole).trans hp) hr
    · exact absurd ((roleTaken_of_consumer hrole).trans (decide_eq_true hcount)) hr
    · rw [if_pos]
      rw [← windowTaken_eq_false_iff] at hw
      exact Bool.not_eq_false _ ▸ hw

end

/-- Settles O24: the checks of the two commands in their order. -/
theorem apertureSetupAndOnCheckInOrder : Obligations.ApertureSetupAndOnCheckInOrder := by
  refine ⟨?_, fun s a h => ?_⟩
  · rintro s a c args h hc rfl
    have hp := argsApertureSetup_words a hc
    refine ⟨fun hbad => ?_, fun e hoff hsize => ⟨fun hmis => ?_, fun hal => ?_⟩⟩
    · exact congrArg _ (takeCommand_denied_of h (by simp) hp fun bs => (actApertureSetup_of_wrongState (s := s.received bs) hbad))
    · exact congrArg _ (takeCommand_denied_of h (by simp) hp
        fun bs => (actApertureSetup_of_unaligned (s := s.received bs) (e := e) hoff hsize hmis))
    · exact congrArg _ (takeCommand_done_of h (by simp) hp
        fun bs => (actApertureSetup_of_aligned (s := s.received bs) (e := e) hoff hsize hal))
  · have hp : argsAperture [idWord a] = some a := readFin_idWord a (by decide)
    refine ⟨fun hbad => ?_, fun c hoff hc => ⟨fun hring => ?_, fun hring hbad => ?_⟩⟩
    · exact congrArg _ (takeCommand_denied_of h (by simp) hp fun bs => (actApertureOn_of_wrongState (s := s.received bs) hbad))
    · exact congrArg _ (takeCommand_denied_of h (by simp) hp
        fun bs => (actApertureOn_of_ringOff (s := s.received bs) (c := c) hoff hc hring))
    · exact congrArg _ (takeCommand_denied_of h (by simp) hp
        fun bs => (actApertureOn_of_conflict (s := s.received bs) (c := c) hoff hc hring hbad))

/-! ### APERTURE_MODIFY and SET_OVERFLOW (R146, R148) -/

theorem readApChange_setPick (p : Pick) (oe : OnEmpty) :
    readApChange (numWord 3)
      (numWord ((match p with | .newest => 0 | .ordered => 1) + 256 * match oe with | .repeatFrame => 0 | .strict => 1))
      0 = some (.setPick p oe) := by
  cases p <;> cases oe <;> decide

/-- The kind number and value words of a change in range read back as it (R179). -/
theorem readApChange_words (a : ApId) {x : ApChange} (hd : x ≠ .detach) (hx : x.InRange) :
    readApChange (numWord (ChangeOp.aperture a x).kindNumber) (ChangeOp.aperture a x).valueField
      (ChangeOp.aperture a x).value2Field = some x := by
  cases x with
  | moveWindow base => rfl
  | setSources m =>
    have hm : (numWord m.toNat).toNat = m.toNat := toNat_numWord (by have := m.isLt; omega)
    show (if (numWord m.toNat).toNat < 256 then (sourcesOf (numWord m.toNat).toNat).map ApChange.setSources
      else none) = _
    rw [hm, if_pos m.isLt, sourcesOf_toNat hx]
    rfl
  | setPick p oe => exact readApChange_setPick p oe
  | setStall st t f =>
    have ht : t < 65536 := Nat.lt_succ_of_le hx
    obtain ⟨g0, g1, g2⟩ := stallWord_fields ht (b := st.code) (by cases st <;> decide)
    have hword : (ChangeOp.aperture a (.setStall st t f)).valueField = numWord (t + 65536 * st.code) := by
      show numWord (t % 65536 + 65536 * _) = _
      rw [Nat.mod_eq_of_lt ht]
      cases st <;> rfl
    have hcode : stallOf st.code = some st := by cases st <;> rfl
    rw [hword]
    show ((stallOf (Word.byte _ 2)).bind fun st => if Word.byte _ 3 = 0 then
      some (ApChange.setStall st (Word.low _) f) else none) = _
    rw [g0, g1, g2, hcode]
    rfl
  | setDivider k =>
    have hk : (numWord (k % 256)).toNat = k := by
      rw [Nat.mod_eq_of_lt (show k < 256 by have := hx.2; omega)]
      exact toNat_numWord (by have := hx.2; omega)
    show (dividerOf (numWord (k % 256)).toNat).map ApChange.setDivider = _
    rw [hk, dividerOf_self hx]
    rfl
  | detach => exact absurd rfl hd

theorem argsApertureModify_words (a : ApId) {x : ApChange} {k : Nat} (hd : x ≠ .detach) (hx : x.InRange)
    (hk : k ≤ 255) :
    argsApertureModify [idWord a, numWord (ChangeOp.aperture a x).kindNumber, numWord k,
      (ChangeOp.aperture a x).valueField, (ChangeOp.aperture a x).value2Field] = some (a, x, k) := by
  simp only [argsApertureModify, readFin_idWord a (by decide),
    readRange_numWord (Nat.zero_le k) hk (by decide), readApChange_words a hd hx, Option.bind_eq_bind,
    Option.bind_some]

theorem argsSetOverflow_words (r : RingId) (o : Overflow) {k : Nat} (hk : k ≤ 255) :
    argsSetOverflow [idWord r, if o = .dropNew then 0 else 1, numWord k] = some (r, o, k) := by
  simp only [argsSetOverflow, readFin_idWord r (by decide), readOverflow_word,
    readRange_numWord (Nat.zero_le k) hk (by decide), Option.bind_eq_bind, Option.bind_some]

section
variable {a : ApId} {c : ApConfig} {x : ApChange} {k : Nat}

theorem actApertureModify_of_fresh (hc : (s.ap a).config = none) :
    actApertureModify s (a, x, k) = s.deny .wrongState := by
  unfold actApertureModify
  simp only [hc]

theorem actApertureModify_of_setUp (hc : (s.ap a).config = some c) :
    actApertureModify s (a, x, k) =
      if s.baseUnaligned c x then s.deny .badArg
      else if s.apOn a then
        if s.moveBlocked a c x then s.deny .conflict else s.queueAnswer (.aperture a x) k
      else (s.writeChange a c x).done := by
  unfold actApertureModify
  simp only [hc]

theorem baseUnaligned_eq_false
    (h : ∀ base, x = .moveWindow base → base.toNat % s.slotBytes c.ring = 0) :
    s.baseUnaligned c x = false := by
  cases x with
  | moveWindow base => exact decide_eq_false (not_not.2 (h base rfl))
  | setSources | setPick | setStall | setDivider | detach => rfl

theorem moveBlocked_eq_false
    (h : ∀ base, x = .moveWindow base → s.MoveFree a base (2 ^ c.windowSize)) :
    s.moveBlocked a c x = false := by
  cases x with
  | moveWindow base => exact (windowBlocked_eq_false_iff s a c base).2 (h base rfl)
  | setSources | setPick | setStall | setDivider | detach => rfl

section
variable (hc : (s.ap a).config = some c)
include hc

theorem actApertureModify_of_unaligned {base : Addr} (hx : x = .moveWindow base)
    (hmis : base.toNat % s.slotBytes c.ring ≠ 0) : actApertureModify s (a, x, k) = s.deny .badArg := by
  subst hx
  rw [actApertureModify_of_setUp hc]
  exact if_pos (decide_eq_true hmis)

variable (hal : ∀ base, x = .moveWindow base → base.toNat % s.slotBytes c.ring = 0)
include hal

theorem actApertureModify_of_off (hoff : s.apOn a = false) :
    actApertureModify s (a, x, k) = (s.writeChange a c x).done := by
  rw [actApertureModify_of_setUp hc, if_neg (Bool.eq_false_iff.1 (baseUnaligned_eq_false hal)),
    if_neg (Bool.eq_false_iff.1 hoff)]

theorem actApertureModify_of_blocked {base : Addr} (hon : s.apOn a = true) (hx : x = .moveWindow base)
    (hw : ¬ s.MoveFree a base (2 ^ c.windowSize)) : actApertureModify s (a, x, k) = s.deny .conflict := by
  subst hx
  have blocked : s.windowBlocked a c base = true :=
    Bool.not_eq_false _ ▸ (windowBlocked_eq_false_iff s a c base).not.2 hw
  rw [actApertureModify_of_setUp hc, if_neg (Bool.eq_false_iff.1 (baseUnaligned_eq_false hal)), if_pos hon]
  exact if_pos blocked

theorem actApertureModify_of_on (hon : s.apOn a = true)
    (hfree : ∀ base, x = .moveWindow base → s.MoveFree a base (2 ^ c.windowSize)) :
    actApertureModify s (a, x, k) = s.queueAnswer (.aperture a x) k := by
  rw [actApertureModify_of_setUp hc, if_neg (Bool.eq_false_iff.1 (baseUnaligned_eq_false hal)), if_pos hon,
    if_neg (Bool.eq_false_iff.1 (moveBlocked_eq_false hfree))]

end

end

/-- Settles O28: the checks in order, and the state of the target decides between writing and queueing. -/
theorem modifyCommandsActOrQueue : Obligations.ModifyCommandsActOrQueue := by
  refine ⟨?_, ?_⟩
  · rintro s a x k args h hd hx hk rfl
    have hp := argsApertureModify_words a hd hx hk
    refine ⟨fun hnone => ?_, fun c hc => ⟨fun base hb hmis => ?_, fun hal => ⟨fun hoff => ?_, fun hon =>
      ⟨fun base hb hw => ?_, fun hfree => ⟨fun hfull => ?_, fun hspace => ?_⟩⟩⟩⟩⟩
    · exact congrArg _ (takeCommand_denied_of h (by simp) hp fun bs => (actApertureModify_of_fresh (s := s.received bs) hnone))
    · exact congrArg _ (takeCommand_denied_of h (by simp) hp
        fun bs => (actApertureModify_of_unaligned (s := s.received bs) (c := c) hc hb hmis))
    · refine (congrArg _ (takeCommand_done_of (t := s.writeChange a c x) h (by simp) hp fun bs =>
        (actApertureModify_of_off (s := s.received bs) (c := c) hc hal hoff).trans ?_)).trans ?_
      · cases x <;> rfl
      · cases x <;> rfl
    · exact congrArg _ (takeCommand_denied_of h (by simp) hp
        fun bs => (actApertureModify_of_blocked (s := s.received bs) (c := c) hc hal hon hb hw))
    · exact congrArg _ (takeCommand_denied_of h (by simp) hp
        fun bs => ((actApertureModify_of_on (s := s.received bs) (c := c) hc hal hon hfree).trans
          (queueAnswer_of_twelve (s := s.received bs) _ _ hfull)))
    · obtain ⟨n, hm, e⟩ := takeCommand_queued (code := 0x13) (t := s) h (by simp) hp hspace
        fun bs => actApertureModify_of_on (s := s.received bs) (c := c) hc hal hon hfree
      exact ⟨n, hm, congrArg Host.Outcome.next e⟩
  · rintro s r o k args h hk rfl
    have hp := argsSetOverflow_words r o hk
    refine ⟨fun hnone => ?_, fun hsome hfull => ?_, fun hsome hspace => ?_⟩
    · refine congrArg _ (takeCommand_done h (by simp) hp ?_)
      exact if_neg (show ¬ (s.ring r).producer.isSome = true by rw [hnone]; decide)
    · exact congrArg _ (takeCommand_denied_of h (by simp) hp
        fun bs => ((if_pos hsome).trans (queueAnswer_of_twelve (s := s.received bs) _ _ hfull)))
    · obtain ⟨n, hm, e⟩ := takeCommand_queued (code := 0x14) (act := actSetOverflow) (t := s) h (by simp) hp
        hspace fun bs => if_pos hsome
      exact ⟨n, hm, congrArg Host.Outcome.next e⟩

/-! ### The SNAP event (R92, R100) -/

/-- A schedule after a SNAP event. -/
def Schedule.onSnap (x : Schedule) : Schedule := if x.start = .snap ∧ x.state = .armed then x.run else x

/-- The Notification Queue after a SNAP event at the schedule `x` of ring `r`. -/
def NoteQueue.onSnap (q : NoteQueue) (r : RingId) (x : Schedule) : NoteQueue :=
  if x.start = .snap then
    match x.state with
    | .delay => q.push { kind := .triggerIgnored, ring := some r, detail := 1 }
    | .retaining => q.push { kind := .triggerIgnored, ring := some r, detail := 2 }
    | .gap => q.push { kind := .triggerIgnored, ring := some r, detail := 3 }
    | .idle | .armed => q
  else q

theorem snapAt_eq (s : State) (r : RingId) :
    s.snapAt r =
      { s with schedules := s.schedules.set r (s.sched r).onSnap, notes := s.notes.onSnap r (s.sched r) } := by
  have keep : s.schedules.set r (s.sched r) = s.schedules := Vector.set_getElem_self r.isLt
  unfold State.snapAt Schedule.onSnap NoteQueue.onSnap
  cases hstart : (s.sched r).start with
  | command => simp only [hstart, reduceCtorEq, false_and, if_false, keep]
  | snap =>
    cases hstate : (s.sched r).state <;>
      simp only [hstart, hstate, reduceCtorEq, SchedState.busy, and_true, and_false, if_true, if_false,
        Bool.false_eq_true, keep] <;>
      rfl

/-- The SNAP event at some rings: each schedule is treated as it stood before. -/
theorem foldl_snapAt {rs : List RingId} (hnd : rs.Nodup) (s : State) :
    rs.foldl State.snapAt s =
      { s with
        schedules := .ofFn fun r => if r ∈ rs then (s.sched r).onSnap else s.sched r
        notes := rs.foldl (fun q r => q.onSnap r (s.sched r)) s.notes } := by
  induction rs generalizing s with
  | nil =>
    have : s.schedules = .ofFn fun r => s.sched r := Vector.ext fun i hi => by rw [Vector.getElem_ofFn]; rfl
    simp only [List.foldl_nil, List.not_mem_nil, if_false]
    rw [← this]
  | cons r rs ih =>
    obtain ⟨hr, hrs⟩ := List.nodup_cons.1 hnd
    have sched_eq (j : RingId) : (s.snapAt r).sched j = if j = r then (s.sched r).onSnap else s.sched j := by
      rw [snapAt_eq]
      show (s.schedules.set r _)[j] = _
      by_cases hj : j = r
      · subst hj; rw [if_pos rfl]; exact Vector.getElem_set_self j.isLt
      · rw [if_neg hj]
        exact Vector.getElem_set_ne r.isLt j.isLt (fun e => hj (Fin.ext e.symm))
    have others : ∀ j ∈ rs, (s.snapAt r).sched j = s.sched j := fun j hj => by
      rw [sched_eq, if_neg (ne_of_mem_of_not_mem hj hr)]
    have notes_eq : rs.foldl (fun q j => q.onSnap j ((s.snapAt r).sched j)) (s.notes.onSnap r (s.sched r)) =
        rs.foldl (fun q j => q.onSnap j (s.sched j)) (s.notes.onSnap r (s.sched r)) :=
      List.foldl_ext _ _ _ fun q j hj => by rw [others j hj]
    have sched_all (j : RingId) : (if j ∈ rs then ((s.snapAt r).sched j).onSnap else (s.snapAt r).sched j) =
        if j ∈ r :: rs then (s.sched j).onSnap else s.sched j := by
      by_cases hj : j = r
      · subst hj
        rw [if_neg hr, sched_eq, if_pos rfl, if_pos List.mem_cons_self]
      · rw [sched_eq, if_neg hj]
        simp only [List.mem_cons, hj, false_or]
    rw [List.foldl_cons, ih hrs, List.foldl_cons, ← notes_eq]
    simp only [sched_all]
    rw [snapAt_eq]

/-- The schedules after a SNAP event. -/
def State.snapped (s : State) : Vector Schedule 4 := .ofFn fun r => (s.sched r).onSnap

theorem snapEvent_eq (s : State) :
    s.snapEvent =
      { s with
        schedules := s.snapped
        notes := allRings.foldl (fun q r => q.onSnap r (s.sched r)) s.notes } := by
  rw [State.snapEvent, foldl_snapAt (by decide)]
  have all (r : RingId) : r ∈ allRings := by decide +revert
  simp only [all, if_true, State.snapped]

theorem sampleSnap_of_active {level : Bool} (h : s.lines.edgeSnap.isActive s.lines.levelSnap level = true) :
    s.sampleSnap level = { s.snapEvent with lines := { s.lines with levelSnap := level } } := by
  rw [State.sampleSnap, if_pos h, snapEvent_eq, snapEvent_eq]
  rfl

/-- Settles O11, from what the event leaves of the four schedules. -/
theorem snapEventActsOnEverySchedule : Obligations.SnapEventActsOnEverySchedule := by
  intro s
  refine ⟨s.snapped, _, fun r => Vector.getElem_ofFn (f := fun r => (s.sched r).onSnap) r.isLt, rfl, fun h => ?_, fun level => ?_⟩
  · refine congrArg Host.Outcome.next
      (takeCommand_done_of (code := 0x06) (args := []) (parse := argsNone) (x := ()) (act := actSnap)
        (t := { s with
          schedules := s.snapped
          notes := allRings.foldl (fun q r => q.onSnap r (s.sched r)) s.notes }) h (by decide) rfl fun bs => ?_)
    rw [actSnap, snapEvent_eq]
    rfl
  · split
    · next hact =>
      refine congrArg Host.Outcome.next ((sampleSnap_of_active hact).trans ?_)
      rw [snapEvent_eq]
      rfl
    · next hact => exact congrArg Host.Outcome.next (if_neg hact)

end

end Sys2Proof.Machine
end

section
/-! PROOFS: the A-side port (O45 to O49) and the timers (O51). -/

namespace Sys2Proof.Machine

section
variable {s t u : State} {x : Txn} {a : ApId} {c : ApConfig}

/-! ### The lock window (R44, R45) -/

theorem accept_eq_lockAfterAccept (w : LockWindow) (x : Txn) (o : Option ApId) :
    w.accept x o = lockAfterAccept w x o := by
  unfold LockWindow.accept lockAfterAccept
  cases x.lock <;> cases w <;> rfl

theorem complete_eq_lockAfterResponse (w : LockWindow) (x : Txn) : w.complete x.lock = lockAfterResponse w x := by
  unfold LockWindow.complete lockAfterResponse
  cases x.lock <;> cases w <;> rfl

/-! ### The windows that a transaction touches (R28) -/

theorem mem_windowsHit : a ∈ s.windowsHit x.address.toNat (bytesBelowTop x) ↔ s.touches x a := by
  simp only [State.windowsHit, List.mem_filter, mem_allAps, true_and, State.touches, bytesBelowTop]
  cases (s.ap a).config <;> simp [ApConfig.overlapsWindow, overlaps]

theorem windowsHit_of_untouched (h : ∀ a, ¬ s.touches x a) :
    s.windowsHit x.address.toNat (bytesBelowTop x) = [] :=
  List.eq_nil_iff_forall_not_mem.2 fun a ha => h a (mem_windowsHit.1 ha)

theorem windowsHit_sorted (s : State) (n k : Nat) : (s.windowsHit n k).Pairwise (· < ·) :=
  List.Pairwise.filter _ (by decide)

theorem eq_cons_of_least {l : List ApId} (hl : l.Pairwise (· < ·)) (ha : a ∈ l) (h : ∀ b ∈ l, a ≤ b) :
    ∃ rest, l = a :: rest := by
  cases l with
  | nil => cases ha
  | cons b rest =>
    rcases List.mem_cons.1 ha with rfl | ha
    · exact ⟨rest, rfl⟩
    · exact absurd (h b List.mem_cons_self) (not_le.2 (List.rel_of_pairwise_cons hl ha))

theorem touches_of_inside (h : s.Inside x a c) : s.touches x a := by
  have hx := x.address.isLt
  have := h.above
  have := h.below
  have := h.some
  exact ⟨h.on, c, h.config, by omega, by omega⟩

theorem windowsHit_of_inside (h : s.Inside x a c) : s.windowsHit x.address.toNat (bytesBelowTop x) = [a] := by
  obtain ⟨rest, hr⟩ := eq_cons_of_least (windowsHit_sorted s _ _) (mem_windowsHit.2 (touches_of_inside h))
    fun b hb => (h.alone b (mem_windowsHit.1 hb)).ge
  have hl := windowsHit_sorted s x.address.toNat (bytesBelowTop x)
  cases rest with
  | nil => exact hr
  | cons b rest =>
    have hb : s.touches x b := mem_windowsHit.1 (by rw [hr]; exact .tail _ (.head _))
    rw [hr, h.alone b hb] at hl
    exact absurd (List.rel_of_pairwise_cons hl List.mem_cons_self) (lt_irrefl a)

/-! ### Acceptance (R30 to R32) -/

theorem accept_of_untouched (h : ∀ a, ¬ s.touches x a) : s.accept x = (s.lockAccept x none).forward x x none := by
  rw [State.accept, windowsHit_of_untouched h]

theorem holdsWhole_iff (c : ApConfig) (x : Txn) :
    c.holdsWhole x = true ↔
      c.windowBase.toNat ≤ x.address.toNat ∧
        x.address.toNat + 8 * x.beats ≤ c.windowBase.toNat + 2 ^ c.windowSize := by
  simp [ApConfig.holdsWhole]

theorem accept_of_inside (h : s.Inside x a c) : s.accept x = s.acceptInside x a c := by
  rw [State.accept, windowsHit_of_inside h]
  simp only [h.config]
  exact if_pos ((holdsWhole_iff c x).2 ⟨h.above, h.below⟩)

/-- A transaction that touches windows and lies in none is refused at the lowest (R31). -/
theorem accept_of_straddle (hx : 1 ≤ x.beats) (ha : s.touches x a) (least : ∀ b, s.touches x b → a ≤ b)
    (out : ∀ c, ¬ s.Inside x a c) : s.accept x = s.refuse x a none 1 := by
  obtain ⟨rest, hr⟩ := eq_cons_of_least (windowsHit_sorted s _ _) (mem_windowsHit.2 ha)
    fun b hb => least b (mem_windowsHit.1 hb)
  rw [State.accept, hr]
  cases rest with
  | cons b rest => rfl
  | nil =>
    obtain ⟨on, c, hc, -⟩ := ha
    simp only [hc]
    refine if_neg fun hw => ?_
    obtain ⟨above, below⟩ := (holdsWhole_iff c x).1 hw
    exact out c ⟨on, hc, above, below, hx, fun b hb => by
      have := mem_windowsHit.2 hb
      rw [hr] at this
      exact List.mem_singleton.1 this⟩

theorem acceptInside_of_source (h : ApSet.has c.sources x.source = false) :
    s.acceptInside x a c = s.refuse x a (s.boundSlot a) 2 := if_pos (by rw [h]; rfl)

theorem acceptInside_of_role (h : ApSet.has c.sources x.source = true) (hx : x.kind = .write)
    (hc : c.role = .consumer) : s.acceptInside x a c = s.refuse x a (s.boundSlot a) 3 := by
  rw [State.acceptInside, if_neg (by rw [h]; decide), if_pos ⟨hx, hc⟩]

theorem acceptInside_of_passed (h : ApSet.has c.sources x.source = true)
    (hx : c.role = .producer ∨ x.kind = .read) :
    s.acceptInside x a c = (s.lockAccept x (some a)).acceptPassed x a c := by
  rw [State.acceptInside, if_neg (by rw [h]; decide), if_neg]
  rintro ⟨hw, hc⟩
  rcases hx with k | k
  · rw [k] at hc; cases hc
  · rw [k] at hw; cases hw

/-! ### What the event leaves after acceptance -/

theorem canRun_of_nonePending (h : s.NonePending) (a : ApId) : s.canRun a = false := by
  simp [State.canRun, h a]

theorem runPending_of_idle (h : ∀ a, s.canRun a = false) (order : List ApId) : s.runPending order = s := by
  have : (inOrder order).find? s.canRun = none := List.find?_eq_none.2 fun a _ => by simp [h a]
  simp only [State.runPending, State.runPendingUpTo, this]

theorem drainAll_of_empty (h : s.steering.waiting = []) : s.drainAll = s := by
  rw [State.drainAll, h]
  rfl

theorem arbitrate_frame (s : State) : ∃ a c, s.arbitrate = { s with arbiter := a, copy := c } := by
  unfold State.arbitrate
  split
  · exact ⟨_, _, rfl⟩
  · exact ⟨_, _, rfl⟩
  · exact ⟨_, _, rfl⟩
  · split <;> exact ⟨_, _, rfl⟩
  · split <;> exact ⟨_, _, rfl⟩

theorem arbitrate_sameRecords (h : SameRecords s t) : SameRecords s t.arbitrate := by
  obtain ⟨ar, cp, e⟩ := arbitrate_frame t
  rw [e]
  exact ⟨h.pending, h.link, h.lines, h.slots, h.rings, h.apertures, h.schedules, h.changes⟩

@[simp] theorem arbitrate_notes (s : State) : s.arbitrate.notes = s.notes := by
  obtain ⟨ar, cp, e⟩ := arbitrate_frame s
  rw [e]

@[simp] theorem arbitrate_aOut (s : State) : s.arbitrate.aOut = s.aOut := by
  obtain ⟨ar, cp, e⟩ := arbitrate_frame s
  rw [e]

/-- The Arbiter takes the STEERING claim to the port or leaves it waiting. -/
theorem arbitrate_presented (h : s.arbiter.steeringClaim = some x) : s.arbitrate.presented x := by
  unfold State.arbitrate
  split
  · exact .inl h
  · next hc _ => rw [h] at hc; cases hc
  · next hc _ => rw [h] at hc; cases hc; exact .inr rfl
  · next hc _ => rw [h] at hc; cases hc
  · next hc _ =>
    rw [h] at hc
    cases hc
    split
    · exact .inl h
    · exact .inr rfl

theorem arbitrate_unclaimed (h : s.arbiter.steeringClaim = none) : s.arbitrate.arbiter.steeringClaim = none := by
  unfold State.arbitrate
  split
  · exact h
  · exact h
  · rfl
  · split
    · exact h
    · exact h
  · split
    · exact h
    · rfl

theorem arbitrate_alone (hport : s.arbiter.port = none) (h : s.arbiter.steeringClaim = some x)
    (hcopy : s.arbiter.copyClaim = none) :
    s.arbitrate.arbiter.port = some { claimant := .steering, txn := x } := by
  rw [arbitrate_of_steeringAlone hport h hcopy]
  rfl

theorem arbitrate_copyAlone_port (hport : s.arbiter.port = none) (hst : s.arbiter.steeringClaim = none)
    (hcopy : s.arbiter.copyClaim = some x) (hlock : s.lockOpen = false) :
    s.arbitrate.arbiter.port = some { claimant := .copy, txn := x } := by
  rw [arbitrate_of_copyAlone hport hst hcopy, if_neg (by rw [hlock]; decide)]
  rfl

/-- Acceptance touches neither the marks of pending boundaries nor what waits. -/
structure Accepted (s t : State) : Prop where
  apertures : t.apertures = s.apertures
  waiting   : t.steering.waiting = s.steering.waiting

theorem Accepted.nonePending (h : Accepted s t) (hn : s.NonePending) : t.NonePending := fun a => by
  rw [State.ap, h.apertures]
  exact hn a

theorem answerFault_eq (s : State) (x : Txn) :
    ∃ d k, s.answerFault x = { s.answer x .fault d with freeReads := k } ∧
      (x.kind = .write → d = []) ∧ (x.kind = .read → d.length = x.beats) := by
  unfold State.answerFault
  cases x.kind with
  | write => exact ⟨[], s.freeReads, rfl, fun _ => rfl, nofun⟩
  | read => exact ⟨_, _, rfl, nofun, fun _ => by rw [List.length_map, List.length_range]⟩

/-- From an open port with nothing pending, a transaction is accepted and the Arbiter decides. -/
theorem presentA_of_open (ho : s.PortOpen) (hn : s.NonePending) (h : Accepted s (s.accept x)) :
    s.presentA x = (s.accept x).arbitrate := by
  obtain ⟨hphase, hwait⟩ := ho
  have next : { s with steering := { s.steering with waiting := s.steering.waiting ++ [x] } }.acceptNext =
      s.accept x := by
    rw [State.acceptNext]
    simp only [hphase, hwait, List.nil_append]
    congr 1
    rw [← hwait, ← hphase]
  show State.drainPort (s.steering.waiting ++ [x]).length _ = _
  rw [hwait, List.nil_append]
  show State.drainPort 1 _ = _
  rw [State.drainPort]
  simp only [hphase]
  rw [State.drainPort, ← runPending_of_idle (canRun_of_nonePending (h.nonePending hn)) [], ← next]
  simp only [hwait, hphase, List.nil_append]

/-! ### Passed through (O45) -/

/-- Settles O45: nothing but the STEERING claim is new before the Arbiter decides. -/
theorem outsideEveryWindowPassesThrough : Obligations.OutsideEveryWindowPassesThrough := by
  intro s x ho hn hx
  have hacc := accept_of_untouched hx
  have hpres : s.presentA x = (s.accept x).arbitrate := presentA_of_open ho hn (by rw [hacc]; exact ⟨rfl, rfl⟩)
  rw [hacc] at hpres
  refine ⟨_, congrArg Host.Outcome.next hpres, arbitrate_sameRecords ⟨rfl, rfl, rfl, rfl, rfl, rfl, rfl, rfl⟩,
    arbitrate_notes _, arbitrate_aOut _, (arbitrate_steering _).trans ?_, arbitrate_presented rfl,
    fun hport hcopy => arbitrate_alone hport rfl hcopy⟩
  rw [← accept_eq_lockAfterAccept, ← ho.2]
  rfl

/-! ### Refused (O46) -/

/-- A refusal answers the transaction and raises its note, and no record changes. -/
theorem refuse_eq (s : State) (x : Txn) (a : ApId) (slot : Option SlotId) (cause : Nat) :
    ∃ d k, s.refuse x a slot cause =
        { s with
          steering :=
            { s.steering with
              phase := .opened, lock := lockAfterResponse (lockAfterAccept s.steering.lock x none) x }
          aOut := s.aOut ++ [{ source := x.source, kind := x.kind, outcome := .fault, data := d }]
          freeReads := k
          notes := s.notes.push
            { kind := .accessFault, ring := s.ringOf a, aperture := some a, slot := slot
              frame := some x.address.toNat, detail := cause * 256 + x.source.val } } ∧
      (x.kind = .write → d = []) ∧ (x.kind = .read → d.length = x.beats) := by
  obtain ⟨d, k, h, hd⟩ := answerFault_eq (s.lockAccept x none) x
  refine ⟨d, k, ?_, hd⟩
  rw [State.refuse, h, ← accept_eq_lockAfterAccept, ← complete_eq_lockAfterResponse]
  rfl

/-- What the refusal leaves once the Arbiter has decided. -/
theorem presentA_of_refused {slot : Option SlotId} {cause : Nat} (ho : s.PortOpen) (hn : s.NonePending)
    (h : s.accept x = s.refuse x a slot cause) :
    ∃ t d, exec (.aSideTransaction x) s = .next t ∧ SameRecords s t ∧
      t.notes = s.notes.push
        { kind := .accessFault, ring := s.ringOf a, aperture := some a, slot := slot
          frame := some x.address.toNat, detail := cause * 256 + x.source.val } ∧
      t.aOut = s.aOut ++ [{ source := x.source, kind := x.kind, outcome := .fault, data := d }] ∧
      (x.kind = .write → d = []) ∧ (x.kind = .read → d.length = x.beats) ∧
      t.steering =
        { phase := .opened, waiting := []
          lock := lockAfterResponse (lockAfterAccept s.steering.lock x none) x } ∧
      (s.arbiter.steeringClaim = none → t.arbiter.steeringClaim = none) := by
  obtain ⟨d, k, he, hw, hr⟩ := refuse_eq s x a slot cause
  have hpres : s.presentA x = (s.accept x).arbitrate := presentA_of_open ho hn (by rw [h, he]; exact ⟨rfl, rfl⟩)
  rw [h, he] at hpres
  refine ⟨_, d, congrArg Host.Outcome.next hpres, arbitrate_sameRecords ⟨rfl, rfl, rfl, rfl, rfl, rfl, rfl, rfl⟩,
    arbitrate_notes _, arbitrate_aOut _, hw, hr, (arbitrate_steering _).trans ?_, fun hc => arbitrate_unclaimed hc⟩
  simp only [ho.2]

theorem ringOf_of_inside (h : s.Inside x a c) : s.ringOf a = some c.ring := by rw [State.ringOf, h.config]; rfl

/-- Settles O46: each of the three causes is one branch of the acceptance. -/
theorem refusedTransactionsFault : Obligations.RefusedTransactionsFault := by
  rintro s x n ho hn hx (⟨a, ha, least, out, rfl⟩ | ⟨a, c, hi, hsrc, rfl⟩ | ⟨a, c, hi, hsrc, hk, hrole, rfl⟩)
  · exact presentA_of_refused ho hn (accept_of_straddle hx ha least out)
  · rw [← ringOf_of_inside hi]
    exact presentA_of_refused ho hn ((accept_of_inside hi).trans (acceptInside_of_source hsrc))
  · rw [← ringOf_of_inside hi]
    exact presentA_of_refused ho hn ((accept_of_inside hi).trans (acceptInside_of_role hsrc hk hrole))

/-! ### Translated (O47) -/

theorem markWritten_eq (s : State) (x : Txn) (sl : SlotId) :
    s.markWritten x sl = if x.kind = .write then s.setSlot sl { s.slot sl with written := true } else s := by
  unfold State.markWritten
  cases x.kind <;> rfl

theorem acceptPassed_of_bound {sl : SlotId} (hst : (s.ap a).state = .bound sl) :
    s.acceptPassed x a c =
      (if c.role = .producer then s.markWritten x sl else s).forwardInto x a c.ring c.windowBase sl := by
  unfold State.acceptPassed
  rw [hst]
  cases c.role <;> rfl

theorem forwardInto_eq (s : State) (x : Txn) (a : ApId) (r : RingId) (base : Addr) (sl : SlotId) :
    s.forwardInto x a r base sl =
      { s with
        steering :=
          { s.steering with
            phase := .inFlight x (some { ap := a, ring := r, slot := sl, frame := (s.slot sl).frame }) }
        arbiter :=
          { s.arbiter with
            steeringClaim := some { x with address := s.slotBase sl + (x.address - base) } } } := rfl

/-- Settles O47: the transaction is translated, and the slot is marked before it is forwarded. -/
theorem boundAperturesTranslate : Obligations.BoundAperturesTranslate := by
  intro s x a c sl ho hn hi hsrc hst hrole
  have hmark : ∃ slots : Vector Slot 16,
      (if c.role = .producer then (s.lockAccept x (some a)).markWritten x sl else s.lockAccept x (some a)) =
        { s.lockAccept x (some a) with slots := slots } ∧
      ∀ y : SlotId, slots[y] = if y = sl ∧ x.kind = .write then { s.slot y with written := true } else s.slot y := by
    rw [markWritten_eq]
    by_cases hw : x.kind = .write
    · rw [if_pos (hrole.resolve_right (by rw [hw]; nofun)), if_pos hw]
      refine ⟨s.slots.set sl { s.slot sl with written := true }, rfl, fun y => ?_⟩
      refine (setSlot_slot s sl y _).trans ?_
      by_cases hy : y = sl
      · subst hy; simp [hw]
      · simp [hy, Ne.symm hy]
    · simp only [ite_self, hw, and_false, if_false]
      exact ⟨s.slots, rfl, fun y => rfl⟩
  obtain ⟨slots, he, hslots⟩ := hmark
  have hframe : slots[sl].frame = (s.slot sl).frame := by rw [hslots]; split <;> rfl
  have hhome : slots[sl].home = (s.slot sl).home := by rw [hslots]; split <;> rfl
  have hbase : ({ s.lockAccept x (some a) with slots := slots } : State).slotBase sl = s.slotBase sl := by
    show (match slots[sl].home with | some h => h.base | none => 0) = _
    rw [hhome]
    rfl
  have hacc : s.accept x =
      ({ s.lockAccept x (some a) with slots := slots } : State).forwardInto x a c.ring c.windowBase sl := by
    rw [accept_of_inside hi, acceptInside_of_passed hsrc hrole,
      acceptPassed_of_bound (s := s.lockAccept x (some a)) hst, he]
  rw [forwardInto_eq, hbase, show ({ s.lockAccept x (some a) with slots := slots } : State).slot sl = slots[sl] from rfl,
    hframe] at hacc
  have hpres : s.presentA x = (s.accept x).arbitrate := presentA_of_open ho hn (by rw [hacc]; exact ⟨rfl, rfl⟩)
  rw [hacc] at hpres
  obtain ⟨ar, cp, hfr⟩ := arbitrate_frame (s.accept x)
  rw [hacc] at hfr
  refine ⟨_, congrArg Host.Outcome.next hpres, ?_, arbitrate_presented rfl, fun y => ?_, ?_⟩
  · rw [hfr, ← accept_eq_lockAfterAccept, ← ho.2]
    rfl
  · rw [hfr]
    exact hslots y
  · rw [hfr]
    exact ⟨rfl, rfl, rfl, rfl, rfl, rfl, rfl, rfl⟩

/-! ### Answered by the part (O48) -/

/-- An aperture without a slot answers at once, but for a read that stalls (R34, R36). -/
theorem acceptPassed_of_unbound (hst : (s.ap a).state = .unbound)
    (h : c.role = .producer ∨ (x.kind = .read ∧ c.stall = .blank)) :
    s.acceptPassed x a c = s.answer x .okay (if x.kind = .read then fillData c.fill x.beats else []) := by
  unfold State.acceptPassed
  rw [hst]
  rcases h with h | ⟨hk, hb⟩
  · rw [h]
    cases x.kind <;> rfl
  · rw [hk, hb]
    cases c.role <;> rfl

/-- Byte `i` of a beat of fill data is byte `i` modulo 4 of the pattern (R36). -/
theorem fillData_byte (fill : Word) (n : Nat) {beat : Beat} (hb : beat ∈ fillData fill n) {i : Nat} (hi : i < 8) :
    beat.extractLsb' (8 * i) 8 = fill.extractLsb' (8 * (i % 4)) 8 := by
  rw [List.eq_of_mem_replicate hb]
  apply BitVec.eq_of_getLsbD_eq
  intro j hj
  simp only [BitVec.getLsbD_extractLsb', hj, decide_true, Bool.true_and, BitVec.getLsbD_append]
  by_cases h4 : i < 4
  · rw [if_pos (by omega), Nat.mod_eq_of_lt h4]
  · rw [if_neg (by omega)]
    congr 1
    omega

/-- Settles O48: the answer is given at acceptance. -/
theorem unboundAperturesAnswerLocally : Obligations.UnboundAperturesAnswerLocally := by
  intro s x a c ho hn hi hsrc hst hrole
  have hacc : s.accept x = (s.lockAccept x (some a)).answer x .okay
      (if x.kind = .read then fillData c.fill x.beats else []) := by
    rw [accept_of_inside hi, acceptInside_of_passed hsrc (hrole.imp_right And.left),
      acceptPassed_of_unbound (s := s.lockAccept x (some a)) hst hrole]
  have hpres : s.presentA x = (s.accept x).arbitrate := presentA_of_open ho hn (by rw [hacc]; exact ⟨rfl, rfl⟩)
  rw [hacc] at hpres
  refine ⟨_, if x.kind = .read then fillData c.fill x.beats else [], congrArg Host.Outcome.next hpres,
    arbitrate_sameRecords ⟨rfl, rfl, rfl, rfl, rfl, rfl, rfl, rfl⟩, arbitrate_notes _, arbitrate_aOut _,
    fun hw => ?_, fun hr => ?_, (arbitrate_steering _).trans ?_, fun hc => arbitrate_unclaimed hc⟩
  · rw [hw]; rfl
  · rw [if_pos hr]
    exact ⟨List.length_replicate, fun beat hb i hi => fillData_byte _ _ hb hi⟩
  · rw [← accept_eq_lockAfterAccept, ← complete_eq_lockAfterResponse, ← ho.2]
    rfl

/-! ### Stalled, and waiting at the port (O49) -/

theorem acceptPassed_of_stall (hst : (s.ap a).state = .unbound) (hrole : c.role = .consumer)
    (hb : c.stall = .wait) :
    s.acceptPassed x a c =
      { s with steering := { s.steering with
          phase := .stalled x a c.windowBase (if c.timeout = 0 then none else some c.timeout) } } := by
  unfold State.acceptPassed
  rw [hst, hrole, hb]

/-- Where a STEERING claim does not wait at a FREE port, nor a COPY claim but behind an open lock window, the
Arbiter has nothing to grant. -/
theorem arbitrate_of_rest (granted : s.arbiter.port = none → s.arbiter.steeringClaim = none)
    (behind : s.arbiter.port = none → s.arbiter.copyClaim.isSome = true → s.lockOpen = true) : s.arbitrate = s := by
  unfold State.arbitrate
  split
  · rfl
  · rfl
  · next hp hc _ => rw [granted hp] at hc; cases hc
  · next hp _ hc => rw [if_pos (behind hp (by rw [hc]; rfl))]
  · next hp hc _ => rw [granted hp] at hc; cases hc

/-- An acceptance leaves an open lock window open (R44). -/
theorem lockOpen_lockAccept (o : Option ApId) (h : s.lockOpen = true) : (s.lockAccept x o).lockOpen = true := by
  refine decide_eq_true fun e => ?_
  have e : s.steering.lock.accept x o = .closed := e
  rw [accept_eq_lockAfterAccept] at e
  unfold lockAfterAccept at e
  split at e
  · cases e
  · next hw => exact of_decide_eq_true h hw
  · cases e

/-- Settles O49: a read that stalls claims nothing, and behind a transaction in progress nothing is accepted. -/
theorem readsStallAndTransactionsWait : Obligations.ReadsStallAndTransactionsWait := by
  refine ⟨fun s x a c hs ho hn hi hsrc hst hrole hk hwait => ?_, fun s x hphase => ?_⟩
  · have hacc : s.accept x = { s.lockAccept x (some a) with
        steering := { (s.lockAccept x (some a)).steering with
          phase := .stalled x a c.windowBase (if c.timeout = 0 then none else some c.timeout) } } := by
      rw [accept_of_inside hi, acceptInside_of_passed hsrc (.inr hk),
        acceptPassed_of_stall (s := s.lockAccept x (some a)) hst hrole hwait]
    have hpres : s.presentA x = (s.accept x).arbitrate := presentA_of_open ho hn (by rw [hacc]; exact ⟨rfl, rfl⟩)
    rw [hacc] at hpres
    refine congrArg Host.Outcome.next ((hpres.trans (arbitrate_of_rest hs.granted fun hp hcl =>
      lockOpen_lockAccept (x := x) (some a) (hs.behind hp hcl))).trans ?_)
    rw [← accept_eq_lockAfterAccept, ← ho.2]
    rfl
  · refine congrArg Host.Outcome.next ?_
    show State.drainPort (s.steering.waiting ++ [x]).length _ = _
    rw [List.length_append]
    show State.drainPort (_ + 1) _ = _
    rw [State.drainPort]
    split
    · next hp _ => exact absurd hp hphase
    · rfl

/-! ### The clock and the timers (O51) -/

/-- With no boundary to run and nothing waiting at the port, the Arbiter alone decides at the end of an event. -/
theorem finish_of_rest (h : ∀ a, s.canRun a = false) (hw : s.steering.waiting = []) (order : List ApId) :
    s.finish order = s.arbitrate := by
  rw [State.finish, runPending_of_idle h, drainAll_of_empty]
  rw [arbitrate_steering]
  exact hw

theorem tick_phase (p : SteeringPhase) :
    (∀ x a base n, p = .stalled x a base (some n) → p.tick = .stalled x a base (some (n - 1))) ∧
      ((∀ x a base n, p ≠ .stalled x a base (some n)) → p.tick = p) := by
  refine ⟨fun x a base n h => h ▸ rfl, fun h => ?_⟩
  unfold SteeringPhase.tick
  split
  · exact absurd rfl (h _ _ _ _)
  · rfl

theorem tick_lock (w : LockWindow) :
    (∀ o src n, w = .opened o src (some n) → w.tick = .opened o src (some (n - 1))) ∧
      ((∀ o src n, w ≠ .opened o src (some n)) → w.tick = w) := by
  refine ⟨fun o src n h => h ▸ rfl, fun h => ?_⟩
  unfold LockWindow.tick
  split
  · exact absurd rfl (h _ _ _)
  · rfl

theorem stallTimeout_of_out {base : Addr} (hp : s.steering.phase = .stalled x a base (some 0)) :
    s.stallTimeout =
      ((s.answerFault x).raise
        { kind := .consumerTimeout, ring := s.ringOf a, aperture := some a
          frame := some x.address.toNat, detail := x.source.val }).finish [] := by
  rw [State.stallTimeout, hp]
  rfl

theorem stallTimeout_of_running (h : ∀ x a base, s.steering.phase ≠ .stalled x a base (some 0)) :
    s.stallTimeout = s := by
  unfold State.stallTimeout
  split
  · next hp => exact absurd hp (h _ _ _)
  · rfl

theorem lockExpiry_of_out {o : Option ApId} {src : Tag} (hp : s.steering.lock = .opened o src (some 0)) :
    s.lockExpiry =
      ({ s with steering := { s.steering with lock := .closed } }.raise
        { kind := .lockExpired, ring := o.bind s.ringOf, aperture := o, detail := src.val }).finish [] := by
  rw [State.lockExpiry, hp]
  rfl

theorem lockExpiry_of_running (h : ∀ o src, s.steering.lock ≠ .opened o src (some 0)) : s.lockExpiry = s := by
  unfold State.lockExpiry
  split
  · next hp => exact absurd hp (h _ _)
  · rfl

/-- Settles O51: the period count decides between the two clock rows, and a timer acts at 0 alone. -/
theorem timersCountDownAndRunOut : Obligations.TimersCountDownAndRunOut := by
  refine ⟨fun s => ⟨fun h => ⟨congrArg Host.Outcome.next (if_pos h), congrArg Host.Outcome.next (if_neg (by omega))⟩,
      fun h => ⟨congrArg Host.Outcome.next (if_neg (by omega)), _, _, congrArg Host.Outcome.next (if_pos h), ?_⟩⟩,
    fun s x a base hp hw hn => ?_, fun s h => congrArg Host.Outcome.next (stallTimeout_of_running h),
    fun s o src hp hw hn => ?_, fun s h => congrArg Host.Outcome.next (lockExpiry_of_running h)⟩
  · obtain ⟨p1, p2⟩ := tick_phase s.steering.phase
    obtain ⟨l1, l2⟩ := tick_lock s.steering.lock
    exact ⟨p1, p2, l1, l2⟩
  · obtain ⟨d, k, he, -⟩ := answerFault_eq s x
    have hfin := (stallTimeout_of_out hp).trans
      (finish_of_rest (canRun_of_nonePending fun b => by rw [he]; exact hn b) (by rw [he]; exact hw) [])
    rw [he] at hfin
    refine ⟨_, d, congrArg Host.Outcome.next hfin, arbitrate_sameRecords ⟨rfl, rfl, rfl, rfl, rfl, rfl, rfl, rfl⟩,
      arbitrate_aOut _, (arbitrate_steering _).trans ?_, arbitrate_notes _⟩
    rw [← complete_eq_lockAfterResponse, ← hw]
    rfl
  · refine ⟨_, congrArg Host.Outcome.next ((lockExpiry_of_out hp).trans
        (finish_of_rest (fun b => canRun_of_nonePending (fun b => ?_) b) ?_ [])), arbitrate_sameRecords ⟨rfl, rfl, rfl, rfl, rfl, rfl, rfl, rfl⟩,
      arbitrate_aOut _, arbitrate_steering _, arbitrate_notes _, fun y hport hst hcopy => ?_⟩
    · exact hn b
    · exact hw
    · exact arbitrate_copyAlone_port hport hst hcopy rfl

end

end Sys2Proof.Machine
end

section
/-! PROOFS: what the Management Link and the lines hold has no part in a boundary: each operation of a
boundary gives the same result whatever link and lines stand beside it. -/

namespace Sys2Proof.Machine

/-- The part with another link and other lines. -/
def State.outside (s : State) (l : Link) (x : Lines) : State := { s with link := l, lines := x }

section
variable (s : State) (l : Link) (x : Lines)

/-! ### Records -/

@[simp] theorem outside_slot (i : SlotId) : (s.outside l x).slot i = s.slot i := rfl
@[simp] theorem outside_ring (i : RingId) : (s.outside l x).ring i = s.ring i := rfl
@[simp] theorem outside_ap (i : ApId) : (s.outside l x).ap i = s.ap i := rfl
@[simp] theorem outside_sched (i : RingId) : (s.outside l x).sched i = s.sched i := rfl
@[simp] theorem outside_steering : (s.outside l x).steering = s.steering := rfl
@[simp] theorem outside_arbiter : (s.outside l x).arbiter = s.arbiter := rfl
@[simp] theorem outside_copy : (s.outside l x).copy = s.copy := rfl
@[simp] theorem outside_changes : (s.outside l x).changes = s.changes := rfl
@[simp] theorem outside_notes : (s.outside l x).notes = s.notes := rfl
@[simp] theorem outside_apOn (a : ApId) : (s.outside l x).apOn a = s.apOn a := rfl
@[simp] theorem outside_boundSlot (a : ApId) : (s.outside l x).boundSlot a = s.boundSlot a := rfl
@[simp] theorem outside_newestReady (r : RingId) : (s.outside l x).newestReady r = s.newestReady r := rfl
@[simp] theorem outside_outside (l' : Link) (x' : Lines) : (s.outside l x).outside l' x' = s.outside l' x' := rfl
theorem outside_self : s.outside s.link s.lines = s := rfl

@[simp] theorem outside_setSlot (i : SlotId) (y : Slot) :
    (s.outside l x).setSlot i y = (s.setSlot i y).outside l x := rfl
@[simp] theorem outside_setRing (i : RingId) (y : Ring) :
    (s.outside l x).setRing i y = (s.setRing i y).outside l x := rfl
@[simp] theorem outside_setAp (i : ApId) (y : Aperture) :
    (s.outside l x).setAp i y = (s.setAp i y).outside l x := rfl
@[simp] theorem outside_setSched (i : RingId) (y : Schedule) :
    (s.outside l x).setSched i y = (s.setSched i y).outside l x := rfl
@[simp] theorem outside_setApState (a : ApId) (y : ApState) :
    (s.outside l x).setApState a y = (s.setApState a y).outside l x := rfl
@[simp] theorem outside_raise (n : Note) : (s.outside l x).raise n = (s.raise n).outside l x := rfl

theorem outside_ite (p : Prop) [Decidable p] (u v : State) :
    (if p then u else v).outside l x = if p then u.outside l x else v.outside l x :=
  apply_ite (fun w : State => w.outside l x) p u v

/-- A run of operations that the link and the lines have no part in. -/
theorem foldl_outside {β : Type} {f : State → β → State}
    (h : ∀ (s : State) (b : β), f (s.outside l x) b = (f s b).outside l x) (bs : List β) :
    bs.foldl f (s.outside l x) = (bs.foldl f s).outside l x := by
  induction bs generalizing s with
  | nil => rfl
  | cons b bs ih => rw [List.foldl_cons, List.foldl_cons, h, ih]

/-! ### Slots and the frame lists -/

@[simp] theorem outside_dropReady (r : RingId) (sl : SlotId) :
    (s.outside l x).dropReady r sl = (s.dropReady r sl).outside l x := by
  rw [State.dropReady, State.dropReady, outside_ite]
  rfl

@[simp] theorem outside_retire (sl : SlotId) : (s.outside l x).retire sl = (s.retire sl).outside l x := by
  unfold State.retire
  rw [outside_slot]
  cases (s.slot sl).home <;> rfl

@[simp] theorem outside_removeChange (e : Change) :
    (s.outside l x).removeChange e = (s.removeChange e).outside l x := rfl

@[simp] theorem outside_changeNote (k : NoteKind) (e : Change) :
    (s.outside l x).changeNote k e = s.changeNote k e := rfl

@[simp] theorem outside_applyRetirement (sl : SlotId) :
    (s.outside l x).applyRetirement sl = (s.applyRetirement sl).outside l x := by
  unfold State.applyRetirement
  rw [show (s.outside l x).waitingRetirement sl = s.waitingRetirement sl from rfl]
  cases s.waitingRetirement sl with
  | none => rfl
  | some e =>
    simp only [outside_removeChange, outside_slot, outside_setSlot, outside_retire, outside_ite, outside_raise,
      outside_changeNote]
    cases (s.slot sl).home <;> rfl

@[simp] theorem outside_applyRetirements (sls : List SlotId) :
    (s.outside l x).applyRetirements sls = (s.applyRetirements sls).outside l x :=
  foldl_outside s l x (fun s sl => outside_applyRetirement s l x sl) sls

@[simp] theorem outside_reclaim (r : RingId) (sls : List SlotId) :
    (s.outside l x).reclaim r sls = (s.reclaim r sls).outside l x := by
  have hr (sl : SlotId) : (s.outside l x).reclaimable r sl = s.reclaimable r sl := rfl
  simp only [State.reclaim, outside_ring, outside_slot, hr]
  rw [foldl_outside s l x fun s sl => outside_dropReady s l x r sl, outside_applyRetirements]

@[simp] theorem outside_reclaimAll (r : RingId) : (s.outside l x).reclaimAll r = (s.reclaimAll r).outside l x :=
  outside_reclaim s l x r _

/-! ### The Steering Unit and the Arbiter -/

@[simp] theorem outside_answer (t : Txn) (o : BusOutcome) (d : List Beat) :
    (s.outside l x).answer t o d = (s.answer t o d).outside l x := rfl

@[simp] theorem outside_answerFault (t : Txn) :
    (s.outside l x).answerFault t = (s.answerFault t).outside l x := by
  unfold State.answerFault
  cases t.kind <;> rfl

@[simp] theorem outside_arbitrate : (s.outside l x).arbitrate = s.arbitrate.outside l x := by
  unfold State.arbitrate
  rw [outside_arbiter]
  rcases s.arbiter.port with - | g
  · rcases s.arbiter.steeringClaim with - | t <;> rcases s.arbiter.copyClaim with - | c
    · rfl
    · simp only [outside_ite]; rfl
    · rfl
    · simp only [outside_ite]; rfl
  · rfl

@[simp] theorem outside_forwardInto (t : Txn) (a : ApId) (r : RingId) (base : Addr) (sl : SlotId) :
    (s.outside l x).forwardInto t a r base sl = (s.forwardInto t a r base sl).outside l x := rfl

@[simp] theorem outside_detachStall (a : ApId) :
    (s.outside l x).detachStall a = (s.detachStall a).outside l x := by
  unfold State.detachStall
  rw [outside_steering]
  cases s.steering.phase with
  | stalled t b base n => simp only [outside_answerFault, outside_ite]
  | opened => rfl
  | inFlight => rfl

@[simp] theorem outside_lockAccept (t : Txn) (o : Option ApId) :
    (s.outside l x).lockAccept t o = (s.lockAccept t o).outside l x := rfl

@[simp] theorem outside_refuse (t : Txn) (a : ApId) (sl : Option SlotId) (cause : Nat) :
    (s.outside l x).refuse t a sl cause = (s.refuse t a sl cause).outside l x := by
  simp only [State.refuse, outside_lockAccept, outside_answerFault]
  rfl

@[simp] theorem outside_markWritten (t : Txn) (sl : SlotId) :
    (s.outside l x).markWritten t sl = (s.markWritten t sl).outside l x := by
  unfold State.markWritten
  cases t.kind <;> rfl

@[simp] theorem outside_acceptPassed (t : Txn) (a : ApId) (c : ApConfig) :
    (s.outside l x).acceptPassed t a c = (s.acceptPassed t a c).outside l x := by
  unfold State.acceptPassed
  rw [outside_ap]
  cases c.role <;> cases (s.ap a).state <;> cases t.kind <;> cases c.stall <;>
    simp only [outside_markWritten, outside_forwardInto, outside_answer] <;> rfl

@[simp] theorem outside_acceptInside (t : Txn) (a : ApId) (c : ApConfig) :
    (s.outside l x).acceptInside t a c = (s.acceptInside t a c).outside l x := by
  simp only [State.acceptInside, outside_boundSlot, outside_refuse, outside_lockAccept, outside_acceptPassed,
    outside_ite]

@[simp] theorem outside_accept (t : Txn) : (s.outside l x).accept t = (s.accept t).outside l x := by
  unfold State.accept
  rw [show (s.outside l x).windowsHit t.address.toNat (bytesBelowTop t) =
    s.windowsHit t.address.toNat (bytesBelowTop t) from rfl]
  rcases s.windowsHit t.address.toNat (bytesBelowTop t) with - | ⟨a, - | ⟨b, rest⟩⟩
  · rfl
  · simp only [outside_ap, outside_refuse, outside_acceptInside]
    cases (s.ap a).config with
    | none => rfl
    | some c => simp only [outside_ite]
  · exact outside_refuse s l x t a none 1

@[simp] theorem outside_acceptNext : (s.outside l x).acceptNext = s.acceptNext.outside l x := by
  unfold State.acceptNext
  rw [outside_steering]
  rcases s.steering.phase with - | - | - <;> rcases s.steering.waiting with - | ⟨t, rest⟩
  · rfl
  · exact outside_accept { s with steering := { s.steering with waiting := rest } } l x t
  all_goals rfl

/-! ### The Change Queue -/

@[simp] theorem outside_markPassed (a : ApId) (sls : List SlotId) :
    (s.outside l x).markPassed a sls = (s.markPassed a sls).outside l x :=
  foldl_outside s l x (fun _ _ => rfl) sls

@[simp] theorem outside_unmarkPassed (a : ApId) (sls : List SlotId) :
    (s.outside l x).unmarkPassed a sls = (s.unmarkPassed a sls).outside l x :=
  foldl_outside s l x (fun _ _ => rfl) sls

@[simp] theorem outside_slotsOf (r : RingId) : (s.outside l x).slotsOf r = s.slotsOf r := rfl

@[simp] theorem outside_producerOff (a : ApId) (r : RingId) :
    (s.outside l x).producerOff a r = (s.producerOff a r).outside l x := rfl

@[simp] theorem outside_consumerOff (a : ApId) (r : RingId) :
    (s.outside l x).consumerOff a r = (s.consumerOff a r).outside l x := by
  simp only [State.consumerOff, outside_detachStall, outside_ap, outside_setAp, outside_ring, outside_setRing,
    outside_slotsOf, outside_unmarkPassed]

@[simp] theorem outside_releaseHold (a : ApId) :
    (s.outside l x).releaseHold a = (s.releaseHold a).outside l x := by
  unfold State.releaseHold
  rw [outside_ap]
  cases (s.ap a).state <;> rfl

@[simp] theorem outside_repick (a : ApId) (r : RingId) (p : Pick) :
    (s.outside l x).repick a r p = (s.repick a r p).outside l x := by
  unfold State.repick
  rw [outside_ap]
  cases p <;> cases (s.ap a).state <;>
    simp only [outside_markPassed, outside_unmarkPassed, outside_ring, outside_slotsOf]
  all_goals rfl

@[simp] theorem outside_writeChange (a : ApId) (c : ApConfig) (y : ApChange) :
    (s.outside l x).writeChange a c y = (s.writeChange a c y).outside l x := by
  cases y <;> rfl

@[simp] theorem outside_applied (e : Change) : (s.outside l x).applied e = (s.applied e).outside l x := rfl

@[simp] theorem outside_offChecks (r : RingId) (p : Pick) (o : Option SlotId) :
    (s.outside l x).offChecks r p o = s.offChecks r p o := rfl

@[simp] theorem outside_windowBlocked (a : ApId) (c : ApConfig) (base : Addr) :
    (s.outside l x).windowBlocked a c base = s.windowBlocked a c base := rfl

@[simp] theorem outside_applyApChange (e : Change) (a : ApId) (c : ApConfig) (y : ApChange) :
    (s.outside l x).applyApChange e a c y = (s.applyApChange e a c y).outside l x := by
  cases y with
  | moveWindow | setSources | setStall | setDivider =>
    simp only [State.applyApChange, outside_apOn, outside_windowBlocked, outside_changeNote, outside_raise,
      outside_writeChange, outside_applied, outside_ite]
  | setPick p oe =>
    simp only [State.applyApChange, outside_apOn, outside_writeChange, outside_applied, outside_repick,
      outside_reclaimAll, outside_ite]
  | detach =>
    unfold State.applyApChange
    simp only [outside_apOn, outside_producerOff, outside_releaseHold, outside_consumerOff, outside_applied,
      outside_boundSlot, outside_offChecks, outside_reclaim, outside_ite]
    cases c.role <;> rfl

@[simp] theorem outside_applyChange (e : Change) :
    (s.outside l x).applyChange e = (s.applyChange e).outside l x := by
  obtain ⟨seq, op, expiry⟩ := e
  cases op with
  | aperture a y =>
    simp only [State.applyChange, outside_ap, outside_removeChange, outside_applyApChange, outside_applied]
    cases (s.ap a).config <;> rfl
  | setOverflow r p => rfl
  | retireSlot sl => rfl

@[simp] theorem outside_applyForAperture (a : ApId) :
    (s.outside l x).applyForAperture a = (s.applyForAperture a).outside l x :=
  foldl_outside s l x (fun s e => outside_applyChange s l x e) _

@[simp] theorem outside_countExpiry (e : Change) :
    (s.outside l x).countExpiry e = (s.countExpiry e).outside l x := by
  obtain ⟨seq, op, expiry⟩ := e
  rcases expiry with - | - | n
  · rfl
  · cases op <;> rfl
  · rfl

@[simp] theorem outside_walkOne (a : ApId) (r : RingId) (e : Change) :
    State.walkOne a r (s.outside l x) e = (State.walkOne a r s e).outside l x := by
  simp only [State.walkOne, outside_applyChange, outside_countExpiry, outside_ite]
  rfl

@[simp] theorem outside_walkChanges (a : ApId) (r : RingId) :
    (s.outside l x).walkChanges a r = (s.walkChanges a r).outside l x :=
  foldl_outside s l x (fun s e => outside_walkOne s l x a r e) _

/-! ### The boundary operations -/

@[simp] theorem outside_bind (a : ApId) (r : RingId) : (s.outside l x).bind a r = (s.bind a r).outside l x := by
  unfold State.bind
  have hadv : (s.outside l x).advanceFrame r = (s.advanceFrame r).outside l x := rfl
  simp only [hadv, outside_ring]
  generalize s.advanceFrame r = u
  have hst : (u.outside l x).stealable r = u.stealable r := rfl
  rw [hst]
  cases (u.ring r).free with
  | cons sl rest => rfl
  | nil =>
    cases (u.ring r).overflow with
    | dropNew => rfl
    | overwriteOldest =>
      simp only
      cases (u.ring r).ready.find? (u.stealable r) <;> rfl

@[simp] theorem outside_acquire (a : ApId) (r : RingId) (p : Pick) (sl : SlotId) :
    (s.outside l x).acquire a r p sl = (s.acquire a r p sl).outside l x := by
  cases p with
  | newest => rfl
  | ordered => exact outside_markPassed ((s.setSlot sl { s.slot sl with
      holders := ApSet.insert (s.slot sl).holders a }).setApState a (.bound sl)) l x a (s.readyThrough r sl)

@[simp] theorem outside_forwardStall (a : ApId) (r : RingId) (sl : SlotId) :
    (s.outside l x).forwardStall a r sl = (s.forwardStall a r sl).outside l x := by
  unfold State.forwardStall
  rw [outside_steering]
  cases s.steering.phase with
  | stalled t b base n => simp only [outside_forwardInto, outside_ite]
  | opened => rfl
  | inFlight => rfl

@[simp] theorem outside_acquireAtPublish (r : RingId) (a : ApId) :
    State.acquireAtPublish r (s.outside l x) a = (State.acquireAtPublish r s a).outside l x := by
  unfold State.acquireAtPublish
  have hcand : (s.outside l x).candidate a r = s.candidate a r := rfl
  simp only [outside_ring, outside_ap, outside_newestReady, hcand, outside_ite]
  congr 1
  cases (s.ap a).config with
  | none => rfl
  | some c =>
    simp only [outside_acquire, outside_forwardStall]
    cases c.pick with
    | newest => simp only; cases s.newestReady r <;> rfl
    | ordered => simp only; cases s.candidate a r <;> rfl

@[simp] theorem outside_publish (a : ApId) (r : RingId) (sl : SlotId) :
    (s.outside l x).publish a r sl = (s.publish a r sl).outside l x := by
  have hd : (s.outside l x).decideRetain a r sl = (s.decideRetain a r sl).outside l x := by
    simp only [State.decideRetain, outside_ite]
    rfl
  have ht (u : State) : (u.outside l x).toReady a r sl = (u.toReady a r sl).outside l x := rfl
  simp only [State.publish, hd, ht]
  rw [foldl_outside _ l x fun s b => outside_acquireAtPublish s l x r b, outside_reclaimAll]

@[simp] theorem outside_publishStage (a : ApId) (r : RingId) :
    (s.outside l x).publishStage a r = (s.publishStage a r).outside l x := by
  unfold State.publishStage
  rw [outside_ap]
  cases (s.ap a).state with
  | off => rfl
  | unbound => rfl
  | bound sl =>
    have he : (s.outside l x).emptyReturn a r sl = (s.emptyReturn a r sl).outside l x :=
      outside_applyRetirement (((s.setApState a .unbound).joinFreeHead r sl).raise
        { kind := .frameEmpty, ring := some r, aperture := some a, slot := some sl
          frame := (s.slot sl).frame }) l x sl
    simp only [outside_slot, outside_publish, he, outside_ite]

@[simp] theorem outside_stepSchedule (r : RingId) (n : Option Nat) :
    (s.outside l x).stepSchedule r n = (s.stepSchedule r n).outside l x := by
  simp only [State.stepSchedule, outside_ite]
  rfl

@[simp] theorem outside_producerBoundary (a : ApId) (r : RingId) :
    (s.outside l x).producerBoundary a r = (s.producerBoundary a r).outside l x := by
  have hf : (s.outside l x).publishedFrame a = s.publishedFrame a := rfl
  simp only [State.producerBoundary, hf, outside_publishStage, outside_stepSchedule, outside_walkChanges,
    outside_apOn, outside_bind, outside_ite]

@[simp] theorem outside_pickStage (a : ApId) (c : ApConfig) :
    (s.outside l x).pickStage a c = (s.pickStage a c).outside l x := by
  unfold State.pickStage
  rw [outside_ap]
  cases (s.ap a).state with
  | off => rfl
  | unbound => rfl
  | bound sl =>
    have hp : (s.outside l x).pickNext a c.ring c.pick sl = s.pickNext a c.ring c.pick sl := rfl
    have hg (y : SlotId) : (s.outside l x).growing a c.ring c.pick y = s.growing a c.ring c.pick y := rfl
    simp only [hp, hg, outside_releaseHold, outside_acquire, outside_reclaim]
    cases s.pickNext a c.ring c.pick sl with
    | some y => rfl
    | none => cases c.onEmpty <;> rfl

@[simp] theorem outside_consumerBoundary (a : ApId) :
    (s.outside l x).consumerBoundary a = (s.consumerBoundary a).outside l x := by
  simp only [State.consumerBoundary, outside_applyForAperture, outside_ap, outside_pickStage]
  cases ((s.applyForAperture a).ap a).config <;> rfl

@[simp] theorem outside_runBoundary (a : ApId) :
    (s.outside l x).runBoundary a = (s.runBoundary a).outside l x := by
  simp only [State.runBoundary, outside_ap, outside_setAp, outside_producerBoundary, outside_consumerBoundary]
  cases (s.ap a).config with
  | none => rfl
  | some c => simp only; cases c.role <;> rfl

@[simp] theorem outside_actBoundary (a : ApId) :
    (s.outside l x).actBoundary a = (s.actBoundary a).outside l x := by
  simp only [State.actBoundary, outside_ap, outside_setAp, outside_runBoundary, outside_ite]
  rfl

@[simp] theorem outside_deliver (a : ApId) : (s.outside l x).deliver a = (s.deliver a).outside l x := by
  simp only [State.deliver, outside_ap, outside_apOn, outside_setAp, outside_actBoundary]
  cases (s.ap a).config with
  | none => rfl
  | some c => simp only [outside_ite]

/-! ### The end of an event -/

@[simp] theorem outside_runPendingUpTo (n : Nat) (order : List ApId) :
    State.runPendingUpTo n order (s.outside l x) = (State.runPendingUpTo n order s).outside l x := by
  induction n generalizing s with
  | zero => rfl
  | succ n ih =>
    have hc : (s.outside l x).canRun = s.canRun := rfl
    simp only [State.runPendingUpTo, hc]
    cases order.find? s.canRun with
    | none => rfl
    | some a => simp only [outside_runBoundary, ih]

@[simp] theorem outside_runPending (order : List ApId) :
    (s.outside l x).runPending order = (s.runPending order).outside l x := outside_runPendingUpTo s l x 8 _

@[simp] theorem outside_drainPort (n : Nat) :
    State.drainPort n (s.outside l x) = (State.drainPort n s).outside l x := by
  induction n generalizing s with
  | zero => rfl
  | succ n ih =>
    simp only [State.drainPort, outside_steering, outside_acceptNext, outside_runPending, outside_arbitrate, ih]
    rcases s.steering.phase with - | - | - <;> rcases s.steering.waiting with - | ⟨t, rest⟩ <;> rfl

@[simp] theorem outside_finish (order : List ApId) :
    (s.outside l x).finish order = (s.finish order).outside l x := by
  simp only [State.finish, outside_runPending, outside_arbitrate]
  exact outside_drainPort _ l x _

@[simp] theorem outside_boundaryAt (a : ApId) :
    (s.outside l x).boundaryAt a = (s.boundaryAt a).outside l x := by
  simp only [State.boundaryAt, outside_deliver, outside_finish]

@[simp] theorem outside_lineEvent (f : FrameLine) (order : List ApId) :
    (s.outside l x).lineEvent f order = (s.lineEvent f order).outside l x := by
  refine foldl_outside s l x (fun s a => ?_) _
  simp only [outside_ap, outside_apOn, outside_boundaryAt]
  cases (s.ap a).config with
  | none => rfl
  | some c => simp only [outside_ite]

end

end Sys2Proof.Machine
end

section
/-! PROOFS: what every event inside the part leaves as it finds it (`Onward`), and the boundary of a line
(O12). -/

namespace Sys2Proof.Machine

/-! ### Plain runs -/

/-- Notes only join the queue, under the mask that stands; no aperture turns ON, and each keeps its line. -/
structure Onward (s t : State) : Prop where
  mask  : t.notes.mask = s.notes.mask
  notes : s.notes.queue <+: t.notes.queue
  off   : ∀ b, t.apOn b = true → s.apOn b = true
  line  : ∀ b, (t.ap b).config.map (·.line) = (s.ap b).config.map (·.line)

/-- What an aperture record may become: not ON again, and with the same line. -/
structure Aperture.Onward (p q : Aperture) : Prop where
  off  : q.state ≠ .off → p.state ≠ .off
  line : q.config.map (·.line) = p.config.map (·.line)

section
variable {L : Laws} {s t u : State} {g g' : Ghost}

theorem Onward.refl (s : State) : Onward s s := ⟨rfl, List.prefix_rfl, fun _ => id, fun _ => rfl⟩

theorem Onward.trans (h : Onward s t) (k : Onward t u) : Onward s u :=
  ⟨k.mask.trans h.mask, h.notes.trans k.notes, fun b e => h.off b (k.off b e), fun b => (k.line b).trans (h.line b)⟩

theorem Onward.congr (notes : t.notes = s.notes) (aps : t.apertures = s.apertures) : Onward s t := by
  refine ⟨by rw [notes], by rw [notes], fun b e => ?_, fun b => ?_⟩
  · rw [State.apOn, State.ap, aps] at e
    exact e
  · rw [State.ap, aps]
    rfl

theorem Onward.setAp (a : ApId) {x : Aperture} (h : (s.ap a).Onward x) : Onward s (s.setAp a x) := by
  refine ⟨rfl, List.prefix_rfl, fun b e => ?_, fun b => ?_⟩
  · rw [apOn_eq_true, setAp_ap] at e
    split at e
    · next k => exact k ▸ apOn_eq_true.2 (h.off e)
    · exact apOn_eq_true.2 e
  · rw [setAp_ap]
    split
    · next k => exact k ▸ h.line
    · rfl

theorem Onward.raise (s : State) (n : Note) : Onward s (s.raise n) := by
  refine ⟨?_, ?_, fun _ => id, fun _ => rfl⟩
  · rcases push_cases s.notes n with ⟨-, e⟩ | ⟨-, -, e⟩ | ⟨-, -, e⟩ <;> rw [raise_notes, e]
  · rcases push_cases s.notes n with ⟨-, e⟩ | ⟨-, -, e⟩ | ⟨-, -, e⟩ <;> rw [raise_notes, e]
    exact List.prefix_append _ _

/-- A note raised on the way is among the new notes, unless the queue is full (R162). -/
theorem Onward.raised {n : Note} (before : Onward s u) (after : Onward (u.raise n) t) : Raised s t n := by
  intro enabled
  have enabled : u.notes.enabled n.kind = true := by rw [NoteQueue.enabled, before.mask]; exact enabled
  have grown := after.notes
  rw [raise_notes] at grown
  rcases push_cases u.notes n with ⟨e, -⟩ | ⟨-, -, e⟩ | ⟨-, full, e⟩
  · rw [e] at enabled; cases enabled
  · rw [e] at grown
    obtain ⟨xs, hxs⟩ := before.notes
    obtain ⟨ys, hys⟩ := grown
    refine .inl ?_
    rw [← hys, ← hxs, List.append_assoc, List.append_assoc, List.drop_left]
    exact List.mem_append_right _ (List.mem_append_left _ (List.mem_singleton.2 rfl))
  · rw [e] at grown
    exact .inr (full.trans grown.length_le)

/-! ### Every move of a plain run -/

theorem Onward.state {a : ApId} (x : ApState) (h : x ≠ .off → (s.ap a).state ≠ .off) :
    Onward s (s.setApState a x) := .setAp a ⟨h, rfl⟩

theorem Onward.turnOff (s : State) (a : ApId) :
    Onward s (s.setAp a { s.ap a with state := .off, deferred := false }) :=
  .setAp a ⟨fun h => absurd rfl h, rfl⟩

theorem PortMove.onward (hp : L.plain) (m : PortMove L s t) : Onward s t := by
  cases m with
  | raise n => exact .raise s n
  | notes x queue mask _ whole => exact ⟨mask, by rw [whole hp], fun _ => id, fun _ => rfl⟩
  | _ => exact .congr rfl rfl

theorem Move.onward (hp : L.plain) (m : Move L s g t g') : Onward s t := by
  cases m with
  | port m => exact m.onward hp
  | count a n d _ _ => exact .setAp a ⟨id, rfl⟩
  | configure a c d n u config _ _ _ _ _ _ _ line =>
    exact .setAp a ⟨id, by rw [config]; exact congrArg some (line hp)⟩
  | setUp | producerOn | consumerOn => exact absurd hp Fact.out
  | toReady a r sl k => exact (Onward.state .unbound fun _ => apOn_eq_true.1 k.servesAs.1).trans (.congr rfl rfl)
  | returnHead a r sl k =>
    exact (Onward.state .unbound fun _ => apOn_eq_true.1 k.servesAs.1).trans (.congr rfl rfl)
  | takeFree a r sl rest n _ on _ _ =>
    exact (Onward.congr (s := s) (t := (s.setRing r { s.ring r with free := rest }).setSlot sl _) rfl rfl).trans
      (.state _ fun _ => apOn_eq_true.1 on)
  | steal a r sl n _ _ on _ _ =>
    exact (Onward.congr (s := s) (t := (s.leaveReady r sl).setSlot sl _) rfl rfl).trans
      (.state _ fun _ => apOn_eq_true.1 on)
  | unbind a on _ => exact .state _ fun _ => apOn_eq_true.1 on
  | producerOff a r _ _ _ => exact (Onward.turnOff s a).trans (.congr rfl rfl)
  | acquire a r sl state _ _ =>
    exact (Onward.congr (s := s) (t := s.setSlot sl _) rfl rfl).trans
      (.state _ fun _ => by rw [setSlot_ap, state]; nofun)
  | release a c sl bound _ =>
    exact (Onward.congr (s := s) (t := s.setSlot sl _) rfl rfl).trans
      (.state _ fun _ => by rw [setSlot_ap, bound]; nofun)
  | consumerOff a c u _ _ _ _ _ => exact (Onward.turnOff s a).trans (.congr rfl rfl)
  | settle sl _ =>
    rcases applyRetirement_cases s sl with ⟨_, e⟩ | ⟨x, _, _, e⟩ | ⟨x, _, _, e⟩ <;> rw [e]
    · exact .refl s
    · exact (Onward.congr (s := s) (t := (s.removeChange x).setSlot sl _) rfl rfl).trans (.raise _ _)
    · exact ((Onward.congr (s := s) (t := (s.removeChange x).setSlot sl _) rfl rfl).trans
        (.congr (retire_notes _ _) (retire_apertures _ _))).trans (.raise _ _)
  | retireNow sl => exact .congr (retire_notes s sl) (retire_apertures s sl)
  | dropEntry e _ =>
    rcases clearRetirePending_cases (s.removeChange e) e.op with ⟨_, k⟩ | ⟨x, _, k⟩ <;> rw [k] <;>
      exact .congr rfl rfl
  | dropActive => exact .congr (by split <;> rfl) (by split <;> rfl)
  | activateNext =>
    rcases activateNext_cases s with ⟨_, k⟩ | ⟨_, _, _, k⟩ <;> rw [k] <;> exact .congr rfl rfl
  | _ => exact .congr rfl rfl

theorem Moves.onward (hp : L.plain) (m : Moves L s g t g') : Onward s t :=
  m.keeps (P := fun u _ => Onward s u) (fun h m => h.trans (m.onward hp)) (.refl s)

end

section
variable {s t : State}

/-- A run of an event that is no command of the link. -/
def Laws.event : Laws := { Laws.none with plain := True }

theorem moving_event : Fact (¬ Laws.event.calm) := ⟨id⟩

theorem stirring_event : Fact (¬ Laws.event.still) := ⟨id⟩

theorem working_event : Fact (¬ Laws.event.idle) := ⟨id⟩

theorem State.obeys_event (s : State) : s.Obeys Laws.event := ⟨nofun, nofun, nofun, nofun⟩

theorem finish_onward (s : State) (order : List ApId) : Onward s (s.finish order) := by
  have := moving_event
  have := stirring_event
  have := working_event
  exact (finish_moves s.obeys_event order).onward trivial

theorem boundaryAt_onward (s : State) (a : ApId) : Onward s (s.boundaryAt a) := by
  have := moving_event
  have := stirring_event
  have := working_event
  exact (boundaryAt_moves s.obeys_event a).onward trivial

/-! ### Operations that the link and the lines have no part in -/

/-- The operation gives the same whatever link and lines stand beside the rest. -/
def Unlinked (f : State → State) : Prop := ∀ s l x, f (s.outside l x) = (f s).outside l x

section
variable {f : State → State} (h : Unlinked f) (s : State)
include h

theorem Unlinked.link : (f s).link = s.link := (congrArg State.link (h s s.link s.lines) :)

theorem Unlinked.lines : (f s).lines = s.lines := (congrArg State.lines (h s s.link s.lines) :)

theorem Unlinked.received (bs : List Byte) : f (s.received bs) = (f s).received bs := by
  have e : f (s.received bs) = (f s).outside { s.link with request := bs } s.lines :=
    h s { s.link with request := bs } s.lines
  rw [e, State.received, h.link, ← h.lines s]
  rfl

end

theorem unlinked_boundaryAt (a : ApId) : Unlinked fun s => s.boundaryAt a :=
  fun s l x => outside_boundaryAt s l x a

theorem unlinked_lineEvent (f : FrameLine) (order : List ApId) : Unlinked fun s => s.lineEvent f order :=
  fun s l x => outside_lineEvent s l x f order

/-! ### BOUNDARY (R87, R88) -/

theorem argsBoundary_aperture (a : ApId) : argsBoundary [idWord a] = some (.aperture a) := by
  revert a
  decide

section
variable {a : ApId} {order : List ApId} (h : s.link.phase = .request)
include h

/-- BOUNDARY to an ON aperture is the boundary event of that aperture. -/
theorem exec_boundary_of_on (hon : s.apOn a = true) :
    exec (.boundary (requestFor 0x05 [idWord a]) order) s =
      .next ((s.boundaryAt a).answered 0x05 [idWord a] .done []) := by
  have hp := argsBoundary_aperture a
  exact congrArg Host.Outcome.next (takeCommand_done_of (act := actBoundaryCommand order) h (by simp) hp fun bs =>
    (if_pos hon).trans (congrArg State.done ((unlinked_boundaryAt a).received s bs)))

theorem exec_boundary_of_off (hoff : s.apOn a = false) :
    exec (.boundary (requestFor 0x05 [idWord a]) order) s =
      .next (s.answered 0x05 [idWord a] .wrongState []) := by
  have hp := argsBoundary_aperture a
  exact congrArg Host.Outcome.next (takeCommand_denied_of (act := actBoundaryCommand order) h (by simp) hp fun bs =>
    if_neg (by rw [show (s.received bs).apOn a = false from hoff]; decide))

/-- BOUNDARY to a line is the boundary event of that line. -/
theorem exec_boundary_of_line {line : FrameLine} {target : Word}
    (ht : target = (match line with | .a => 8 | .b => 9)) :
    exec (.boundary (requestFor 0x05 [target]) order) s =
      .next ((s.lineEvent line order).answered 0x05 [target] .done []) := by
  have hp : argsBoundary [target] = some (.line line) := by subst ht; cases line <;> rfl
  exact congrArg Host.Outcome.next (takeCommand_done_of (act := actBoundaryCommand order) h (by simp) hp fun bs =>
    congrArg State.done ((unlinked_lineEvent line order).received s bs))

end

/-! ### A line event, aperture by aperture (R89, R91) -/

section
variable {line : FrameLine} {a : ApId}

theorem lineSelected_iff (line : FrameLine) (c : ApConfig) :
    lineSelected line c = true ↔ c.line = (match line with | .a => LineSel.a | .b => LineSel.b) := by
  unfold lineSelected
  cases line <;> cases c.line <;> simp

theorem lineAt_of_selects (h : s.selects line a) : State.lineAt line s a = s.boundaryAt a := by
  obtain ⟨on, c, hc, hl⟩ := h
  rw [State.lineAt, hc]
  exact if_pos (by rw [on, (lineSelected_iff line c).2 hl]; rfl)

theorem lineAt_of_not_selects (h : ¬ s.selects line a) : State.lineAt line s a = s := by
  unfold State.lineAt
  cases hc : (s.ap a).config with
  | none => rfl
  | some c =>
    refine if_neg fun e => h ?_
    obtain ⟨on, hl⟩ := Bool.and_eq_true_iff.1 e
    exact ⟨on, c, hc, (lineSelected_iff line c).1 hl⟩

/-- What selects a line later selected it before. -/
theorem Onward.selects (h : Onward s t) (k : t.selects line a) : s.selects line a := by
  obtain ⟨on, c, hc, hl⟩ := k
  have e := h.line a
  rw [hc] at e
  obtain ⟨d, hd, hdc⟩ := Option.map_eq_some_iff.1 e.symm
  exact ⟨h.off a on, d, hd, hdc.trans hl⟩

theorem foldl_lineAt_of_none {as : List ApId} (h : ∀ b ∈ as, ¬ s.selects line b) :
    as.foldl (State.lineAt line) s = s := by
  induction as with
  | nil => rfl
  | cons b as ih =>
    rw [List.foldl_cons, lineAt_of_not_selects (h b List.mem_cons_self)]
    exact ih fun c hc => h c (List.mem_cons_of_mem _ hc)

/-- With one aperture on the line the event is a boundary of it. -/
theorem foldl_lineAt_of_one {as : List ApId} (hnd : as.Nodup) (ha : a ∈ as) (hsel : s.selects line a)
    (hone : ∀ b, b ≠ a → ¬ s.selects line b) : as.foldl (State.lineAt line) s = s.boundaryAt a := by
  induction as with
  | nil => cases ha
  | cons b as ih =>
    obtain ⟨hb, hnd⟩ := List.nodup_cons.1 hnd
    rw [List.foldl_cons]
    by_cases h : b = a
    · subst h
      rw [lineAt_of_selects hsel]
      exact foldl_lineAt_of_none fun c hc k => hone c (ne_of_mem_of_not_mem hc hb) ((boundaryAt_onward s b).selects k)
    · rw [lineAt_of_not_selects (hone b h)]
      exact ih hnd ((List.mem_cons.1 ha).resolve_left (Ne.symm h))

theorem nodup_eraseDups (l : List ApId) : l.eraseDups.Nodup := by
  match l with
  | [] => exact List.nodup_nil
  | a :: l =>
    rw [List.eraseDups_cons]
    refine List.nodup_cons.2 ⟨fun h => ?_, nodup_eraseDups _⟩
    simpa using List.mem_eraseDups.1 h
termination_by l.length
decreasing_by exact Nat.lt_succ_of_le (List.length_filter_le _ _)

theorem nodup_inOrder (order : List ApId) : (inOrder order).Nodup := by
  refine List.nodup_append.2 ⟨nodup_eraseDups order, (by decide : allAps.Nodup).filter _, fun a ha b hb e => ?_⟩
  have := (List.mem_filter.1 hb).2
  rw [← e] at this
  simp [List.mem_eraseDups.1 ha] at this

/-- Under the link of the part, an answer is forgotten. -/
theorem answered_with_link (t : State) {l : Link} (h : t.link = l) (code : Byte) (args : List Word) (x : Status)
    (ws : List Word) : { t.answered code args x ws with link := l } = t := by
  subst h
  rfl

/-- The apertures take the event one after another, each as a BOUNDARY of its own. -/
theorem delivered_foldl (h : s.link.phase = .request) (order as : List ApId) :
    Delivered line order as s (as.foldl (State.lineAt line) s) := by
  induction as generalizing s with
  | nil => rfl
  | cons a as ih =>
    rw [List.foldl_cons, Delivered]
    refine ⟨fun hsel => ⟨_, exec_boundary_of_on h hsel.1, ?_⟩, fun hno => ?_⟩
    · have hl : (s.boundaryAt a).link = s.link := (unlinked_boundaryAt a).link s
      rw [lineAt_of_selects hsel, answered_with_link _ hl]
      exact ih (s := s.boundaryAt a) (hl ▸ h)
    · rw [lineAt_of_not_selects hno]
      exact ih h

/-- Settles O12: edge and command are the same line event, which is a run over the apertures. -/
theorem boundaryCommandActsAsAnEdge : Obligations.BoundaryCommandActsAsAnEdge := by
  intro s line level active order target lines h ht hactive hlines
  have hexec := exec_boundary_of_line (order := order) h ht
  have hl := (unlinked_lineEvent line order).link s
  have hx := (unlinked_lineEvent line order).lines s
  have hs : s.sampleFrame line level order =
      if active then (s.lineEvent line order).outside s.link lines else s.outside s.link lines := by
    rw [← outside_lineEvent, hactive, hlines]
    cases line <;> rfl
  have hanswers : ((s.lineEvent line order).answered 0x05 [target] .done []).answers .done [] :=
    ⟨rfl, _, rfl, rfl, rfl⟩
  refine ⟨fun hact => ⟨_, _, congrArg Host.Outcome.next (hs.trans (if_pos hact)), hexec, hanswers, rfl, rfl, hx, rfl⟩,
    fun hact => congrArg Host.Outcome.next (hs.trans (if_neg (by rw [hact]; decide))), fun turn hturn => ?_,
    fun hnone => ?_, fun a hsel hone => ?_⟩
  · have hin : turn = inOrder order := by
      rw [hturn, inOrder]
      congr 2
      funext a
      simp
    refine ⟨_, hexec, hanswers, ?_⟩
    rw [hin, answered_with_link _ hl]
    exact delivered_foldl h order _
  · rw [hexec, lineEvent_eq, foldl_lineAt_of_none fun b _ => hnone b]
  · have he : s.lineEvent line order = s.boundaryAt a :=
      foldl_lineAt_of_one (nodup_inOrder order) (mem_inOrder order a) hsel hone
    refine ⟨_, _, hexec, exec_boundary_of_on h hsel.1, ?_⟩
    rw [he]
    rfl

end

end

end Sys2Proof.Machine
end

section
/-! PROOFS: a boundary of one aperture: counted, deferred, merged (O13), run for a producer whose slot is
unwritten (O16), and run late (O52). -/

namespace Sys2Proof.Machine

section
variable {s t : State} {a : ApId} {c : ApConfig} {order : List ApId}

/-! ### The end of an event that left both ports at rest -/

theorem drainPort_of_settled (h : s.Settled) (n : Nat) : State.drainPort n s = s := by
  cases n with
  | zero => rfl
  | succ n =>
    unfold State.drainPort
    split
    · next x xs hp hw => rw [h.accepted hp] at hw; cases hw
    · rfl

theorem finish_of_settled (h : s.Settled) (order : List ApId) : s.finish order = s := by
  rw [State.finish, runPending_of_idle h.deferred, arbitrate_of_rest h.granted h.behind]
  exact drainPort_of_settled h _

/-! ### The divider, deferral and merging (R55, R56, R90) -/

theorem deliver_of_count (hon : s.apOn a = true) (hc : (s.ap a).config = some c)
    (hcount : (s.ap a).count + 1 ≠ c.divider) :
    s.deliver a = s.setAp a { s.ap a with count := (s.ap a).count + 1 } := by
  rw [State.deliver, hc]
  exact (if_pos hon).trans (if_neg hcount)

/-- The aperture with its divider count back at 0. -/
def State.counted (s : State) (a : ApId) : State := s.setAp a { s.ap a with count := 0 }

theorem counted_ap_self (s : State) (a : ApId) : (s.counted a).ap a = { s.ap a with count := 0 } :=
  setAp_ap_self s a _

theorem deliver_of_passed (hon : s.apOn a = true) (hc : (s.ap a).config = some c)
    (hcount : (s.ap a).count + 1 = c.divider) : s.deliver a = (s.counted a).actBoundary a := by
  rw [State.deliver, hc]
  exact (if_pos hon).trans (if_pos hcount)

theorem actBoundary_of_deferred (hd : (s.ap a).deferred = true) :
    s.actBoundary a = s.raise
      { kind := .boundaryMerged, ring := s.ringOf a, aperture := some a, detail := (s.deferReasonNow a).code } :=
  if_pos hd

theorem actBoundary_of_mustDefer (hd : (s.ap a).deferred = false) (hm : s.mustDefer a = true) :
    s.actBoundary a = s.setAp a { s.ap a with deferred := true } := by
  rw [State.actBoundary, if_neg (by rw [hd]; decide), if_pos hm]

theorem actBoundary_of_free (hd : (s.ap a).deferred = false) (hm : s.mustDefer a = false) :
    s.actBoundary a = s.runBoundary a := by
  rw [State.actBoundary, if_neg (by rw [hd]; decide), if_neg (by rw [hm]; decide)]

theorem counted_pending (hon : s.apOn a = true) : PendingLe s (s.counted a) :=
  .setAp a _ fun _ d => ⟨hon, d⟩

theorem counted_settled (hs : s.Settled) (hon : s.apOn a = true) : (s.counted a).Settled :=
  hs.calm rfl rfl (counted_pending hon)

/-- Making pending a boundary that a condition defers leaves the ports at rest. -/
theorem setDeferred_settled (hs : s.Settled) (x : Aperture) (hm : s.mustDefer a = true) :
    (s.setAp a x).Settled := by
  refine ⟨hs.accepted, hs.granted, hs.behind, fun b => ?_⟩
  by_cases hb : a = b
  · subst hb
    have : (s.setAp a x).mustDefer a = true := hm
    rw [State.canRun, this, Bool.not_true, Bool.and_false]
  · rw [canRun_congr (t := s.setAp a x) (s := s) (a := b) rfl (setAp_ap_ne s x hb)]
    exact hs.deferred b

/-- Settles O13: none of the three outcomes moves a port. -/
theorem boundariesCountDeferAndMerge : Obligations.BoundariesCountDeferAndMerge := by
  intro s a order h
  refine ⟨exec_boundary_of_off h, fun c hs hon hc => ?_⟩
  have of_deliver {u : State} (hu : s.deliver a = u) (settled : u.Settled) :
      exec (.boundary (requestFor 0x05 [idWord a]) order) s = .next (u.answered 0x05 [idWord a] .done []) := by
    rw [exec_boundary_of_on h hon, State.boundaryAt, hu, finish_of_settled settled]
  have hap := counted_ap_self s a
  refine ⟨fun hcount => of_deliver (deliver_of_count hon hc hcount) ?_, fun hcount hd hm => ?_,
    fun hcount hd => of_deliver ((deliver_of_passed hon hc hcount).trans ?_) ?_⟩
  · exact hs.calm rfl rfl (.setAp a _ fun _ d => ⟨hon, d⟩)
  · have must : s.mustDefer a = true := by rw [State.mustDefer]; rcases hm with k | k <;> simp [k]
    refine of_deliver ((deliver_of_passed hon hc hcount).trans ?_) (setDeferred_settled hs _ must)
    rw [actBoundary_of_mustDefer (s := s.counted a) (by rw [hap]; exact hd) must, hap, State.counted, setAp_setAp]
  · have hring : (s.counted a).ringOf a = some c.ring := by rw [State.ringOf, hap, hc]; rfl
    have hcode : ((s.counted a).deferReasonNow a).code = if s.inFlightThrough a then 1 else 2 := by
      rw [State.deferReasonNow, show (s.counted a).inFlightThrough a = s.inFlightThrough a from rfl]
      cases s.inFlightThrough a <;> rfl
    rw [actBoundary_of_deferred (s := s.counted a) (by rw [hap]; exact hd), hring, hcode]
    rfl
  · exact (counted_settled hs hon).calm rfl rfl (.congr rfl)

/-! ### An acted boundary -/

theorem mustDefer_of_acts (h : s.ActsNow a c) : s.mustDefer a = false := by
  rw [State.mustDefer, h.free, h.unlocked]
  rfl

theorem runBoundary_producer (hc : (s.ap a).config = some c) (hrole : c.role = .producer) :
    s.runBoundary a = (s.undefer a).producerBoundary a c.ring := by
  rw [State.runBoundary, hc]
  simp only [hrole]
  rfl

theorem runBoundary_consumer (hc : (s.ap a).config = some c) (hrole : c.role = .consumer) :
    s.runBoundary a = (s.undefer a).consumerBoundary a := by
  rw [State.runBoundary, hc]
  simp only [hrole]
  rfl

theorem deliver_of_acts (h : s.ActsNow a c) : s.deliver a = (s.counted a).runBoundary a := by
  have must : (s.counted a).mustDefer a = false := mustDefer_of_acts (s := s) h
  rw [deliver_of_passed h.on h.config h.passed]
  exact actBoundary_of_free (by rw [counted_ap_self]; exact h.fresh) must

theorem undefer_counted (h : s.ActsNow a c) : (s.counted a).undefer a = s.counted a := by
  have : ({ (s.counted a).ap a with deferred := false } : Aperture) = (s.counted a).ap a := by
    rw [counted_ap_self, ← h.fresh]
  rw [State.undefer, this, setAp_self]

theorem counted_config (h : s.ActsNow a c) : ((s.counted a).ap a).config = some c := by
  rw [counted_ap_self]; exact h.config

theorem boundaryAt_producer (h : s.ActsNow a c) (hrole : c.role = .producer) :
    s.boundaryAt a = ((s.counted a).producerBoundary a c.ring).finish [] := by
  rw [State.boundaryAt, deliver_of_acts h, runBoundary_producer (counted_config h) hrole, undefer_counted h]

theorem boundaryAt_consumer (h : s.ActsNow a c) (hrole : c.role = .consumer) :
    s.boundaryAt a = ((s.counted a).consumerBoundary a).finish [] := by
  rw [State.boundaryAt, deliver_of_acts h, runBoundary_consumer (counted_config h) hrole, undefer_counted h]

/-! ### The stages of a producer boundary (R54) -/

section
variable {r : RingId} {sl : SlotId}

theorem stepSchedule_of_idle (h : (s.sched r).state = .idle) (n : Option Nat) : s.stepSchedule r n = s := by
  have step : (s.sched r).step = s.sched r := by rw [Schedule.step, h]
  have same : s.setSched r (s.sched r) = s := by simp [State.setSched, State.sched]
  rw [State.stepSchedule]
  simp only [step, h, same, reduceCtorEq, false_and, if_false]

theorem walkChanges_of_empty (h : s.changes.entries = []) : s.walkChanges a r = s := by
  rw [State.walkChanges, h]
  rfl

/-- The bind of a producer whose ring has a FREE slot (R63). -/
theorem bind_of_free {rest : List SlotId} (h : (s.ring r).free = sl :: rest) :
    s.bind a r =
      (s.setRing r { s.ring r with
        free := rest, frameCounter := wrapNext 0xFFFFFFFF (s.ring r).frameCounter }).fill a sl
        (wrapNext 0xFFFFFFFF (s.ring r).frameCounter) := by
  rcases bind_cases s a r with ⟨y, ys, hf, e⟩ | ⟨_, hf, _⟩ | ⟨_, hf, _⟩
  · rw [h] at hf
    obtain ⟨rfl, rfl⟩ := List.cons.inj hf
    rw [e, advanceFrame_ring_self, State.advanceFrame, setRing_setRing]
  · rw [h] at hf; cases hf
  · rw [h] at hf; cases hf

theorem publishStage_of_unbound (h : (s.ap a).state = .unbound) : s.publishStage a r = s := by
  rw [State.publishStage, h]

theorem publishStage_of_unwritten (h : (s.ap a).state = .bound sl) (hw : (s.slot sl).written = false) :
    s.publishStage a r = s.emptyReturn a r sl := by
  rw [State.publishStage, h]
  exact if_neg (by rw [hw]; decide)

theorem publishStage_of_written (h : (s.ap a).state = .bound sl) (hw : (s.slot sl).written = true) :
    s.publishStage a r = s.publish a r sl := by
  rw [State.publishStage, h]
  exact if_pos hw

/-- The empty return with no retirement waiting on the slot (R59). -/
theorem emptyReturn_of_none (h : s.waitingRetirement sl = none) :
    s.emptyReturn a r sl =
      ((s.setApState a .unbound).joinFreeHead r sl).raise
        { kind := .frameEmpty, ring := some r, aperture := some a, slot := some sl
          frame := (s.slot sl).frame } :=
  applyRetirement_of_none _ h

end

/-- The empty return and the bind behind it give the slot back for the next frame (R59, R63). -/
theorem emptyReturn_bind {r : RingId} {sl : SlotId} (hst : (s.ap a).state = .bound sl)
    (h : s.waitingRetirement sl = none) :
    (s.emptyReturn a r sl).bind a r =
      { (s.setRing r { s.ring r with frameCounter := wrapNext 0xFFFFFFFF (s.ring r).frameCounter }).setSlot sl
          ((s.slot sl).filling (wrapNext 0xFFFFFFFF (s.ring r).frameCounter)) with
        notes := s.notes.push
          { kind := .frameEmpty, ring := some r, aperture := some a, slot := some sl
            frame := (s.slot sl).frame } } := by
  have hap : s.setAp a { s.ap a with state := .bound sl } = s := by rw [← hst]; exact setAp_self s a
  rw [emptyReturn_of_none h, bind_of_free (sl := sl) (rest := (s.ring r).free) (by simp [State.joinFreeHead])]
  simp only [State.setAp, State.ap] at hap
  simp [State.fill, State.joinFreeHead, State.setSlot, State.setRing, State.setAp, State.setApState, State.raise,
    Slot.filling, Slot.freed, State.slot, State.ring, State.ap]
  exact congrArg State.apertures hap

/-- The stages behind an empty return with no change waiting and the schedule IDLE. -/
theorem producerBoundary_of_unwritten {r : RingId} {sl : SlotId} (hst : (s.ap a).state = .bound sl)
    (hw : (s.slot sl).written = false) (he : s.changes.entries = []) (hx : (s.sched r).state = .idle) :
    s.producerBoundary a r = (s.emptyReturn a r sl).bind a r := by
  have hnone : s.waitingRetirement sl = none := by rw [State.waitingRetirement, he]; rfl
  have hempty := emptyReturn_of_none (a := a) (r := r) hnone
  have on : (s.emptyReturn a r sl).apOn a = true := by
    rw [hempty]
    simp [State.apOn, State.joinFreeHead]
  rw [State.producerBoundary, publishStage_of_unwritten hst hw, stepSchedule_of_idle (by rw [hempty]; exact hx),
    walkChanges_of_empty (by rw [hempty]; exact he), if_pos on]

/-- Settles O16: the slot returns to the free head and is bound from there. -/
theorem emptyBoundaryRebindsTheSlot : Obligations.EmptyBoundaryRebindsTheSlot := by
  intro s a c sl order h hs hacts hrole hst hw he hx
  have hst' : ((s.counted a).ap a).state = .bound sl := by rw [counted_ap_self]; exact hst
  have hnone : (s.counted a).waitingRetirement sl = none := by
    show (s.changes.entries.find? _) = none
    rw [he]
    rfl
  rw [exec_boundary_of_on h hacts.on, boundaryAt_producer hacts hrole,
    producerBoundary_of_unwritten (s := s.counted a) hst' hw he hx, emptyReturn_bind hst' hnone, finish_of_settled]
  · rfl
  · exact (counted_settled hs hacts.on).calm rfl rfl (.congr rfl)

/-! ### A pending boundary (O52) -/

theorem canRun_iff : s.canRun a = true ↔
    s.apOn a = true ∧ (s.ap a).deferred = true ∧ s.inFlightThrough a = false ∧ s.lockedThrough a = false := by
  simp [State.canRun, State.mustDefer, and_assoc]

/-- No aperture has a boundary pending that had none. -/
def DeferredLe (s t : State) : Prop := ∀ b, (t.ap b).deferred = true → (s.ap b).deferred = true

theorem DeferredLe.congr (aps : t.apertures = s.apertures) : DeferredLe s t := fun b e => by
  rw [State.ap, aps] at e
  exact e

theorem DeferredLe.trans {u : State} (h : DeferredLe s t) (k : DeferredLe t u) : DeferredLe s u :=
  fun b e => h b (k b e)

theorem DeferredLe.setAp (a : ApId) (x : Aperture) (h : x.deferred = true → (s.ap a).deferred = true) :
    DeferredLe s (s.setAp a x) := fun b e => by
  rw [setAp_ap] at e
  split at e
  · next k => exact k ▸ h e
  · exact e

theorem DeferredLe.setState (a : ApId) (x : ApState) : DeferredLe s (s.setApState a x) := .setAp a _ id

theorem DeferredLe.turnOff (s : State) (a : ApId) :
    DeferredLe s (s.setAp a { s.ap a with state := .off, deferred := false }) := .setAp a _ nofun

theorem Move.deferred {L : Laws} {g g' : Ghost} (hs : L.still) (m : Move L s g t g') : DeferredLe s t := by
  cases m with
  | port m => exact .congr m.books.apertures
  | count a n d _ stirring => exact .setAp a _ (stirring hs)
  | configure a c d n u _ _ _ _ _ _ _ _ => exact .setAp a _ id
  | setUp a c _ _ _ => exact .setAp a _ id
  | toReady a r sl _ => exact (DeferredLe.setState a .unbound).trans (.congr rfl)
  | returnHead a r sl _ => exact (DeferredLe.setState a .unbound).trans (.congr rfl)
  | takeFree a r sl rest n _ on _ _ => exact .setAp a _ id
  | steal a r sl n _ _ on _ _ => exact .setAp a _ id
  | unbind a on _ => exact .setAp a _ id
  | producerOn a c _ _ _ _ _ => exact .setAp a _ nofun
  | producerOff a r _ _ _ => exact (DeferredLe.turnOff s a).trans (.congr rfl)
  | acquire a r sl state _ _ => exact .setAp a _ id
  | release a c sl bound _ => exact .setAp a _ id
  | consumerOn a c _ _ _ _ _ => exact .setAp a _ nofun
  | consumerOff a c u _ _ _ _ _ => exact (DeferredLe.turnOff s a).trans (.congr rfl)
  | settle sl _ => exact .congr (applyRetirement_apertures s sl)
  | retireNow sl => exact .congr (retire_apertures s sl)
  | dropEntry e _ =>
    rcases clearRetirePending_cases (s.removeChange e) e.op with ⟨_, k⟩ | ⟨x, _, k⟩ <;> rw [k] <;>
      exact .congr rfl
  | dropActive => exact .congr (by split <;> rfl)
  | activateNext =>
    rcases activateNext_cases s with ⟨_, k⟩ | ⟨_, _, _, k⟩ <;> rw [k] <;> exact .congr rfl
  | _ => exact .congr rfl

theorem Moves.deferred {L : Laws} {g g' : Ghost} (hs : L.still) (m : Moves L s g t g') : DeferredLe s t :=
  m.keeps (P := fun u _ => DeferredLe s u) (fun h m => h.trans (m.deferred hs)) fun _ e => e

theorem runPending_deferred (s : State) (order : List ApId) : DeferredLe s (s.runPending order) := by
  have := moving_boundary
  have := working_boundary
  exact (runPending_moves s.obeys_boundary order).deferred trivial

theorem drainPort_deferred (n : Nat) (s : State) : DeferredLe s (State.drainPort n s) := by
  have := moving_boundary
  have := working_boundary
  induction n generalizing s with
  | zero => exact fun _ e => e
  | succ n ih =>
    unfold State.drainPort
    split
    · next x xs hp hw =>
      have next : DeferredLe s s.acceptNext := by
        rw [State.acceptNext, hp, hw]
        exact DeferredLe.trans (t := { s with steering := { s.steering with waiting := xs } }) (.congr rfl)
          (Moves.deferred trivial (accept_moves (g := .rest) (State.obeys_boundary _) x hp))
      refine ((next.trans (runPending_deferred _ [])).trans (.congr ?_)).trans (ih _)
      obtain ⟨_, _, e⟩ := arbitrate_frame (s.acceptNext.runPending [])
      rw [e]
    · exact fun _ e => e

theorem finish_deferred (s : State) (order : List ApId) : DeferredLe s (s.finish order) := by
  refine ((runPending_deferred s order).trans (.congr ?_)).trans (drainPort_deferred _ _)
  obtain ⟨_, _, e⟩ := arbitrate_frame (s.runPending order)
  rw [e]

theorem runPendingAt_of_blocked (h : s.canRun a = false) : s.runPendingAt a = s := by
  rw [State.runPendingAt, h]
  rfl

theorem runPendingAt_of_canRun (h : s.canRun a = true) : s.runPendingAt a = (s.runBoundary a).finish [] :=
  if_pos h

theorem applyForAperture_of_none (h : s.NoEntriesFor a) : s.applyForAperture a = s := by
  have : s.changes.entries.filter (fun e => e.op.forAperture a) = [] := by
    rw [entriesFor_eq]
    refine List.eq_nil_iff_forall_not_mem.2 fun e he => ?_
    obtain ⟨hm, x, hx⟩ := mem_entriesFor.1 he
    exact h e hm x hx
  rw [State.applyForAperture, this]
  rfl

/-- A consumer without changes waiting goes straight to its pick. -/
theorem consumerBoundary_of_none (hc : (s.ap a).config = some c) (h : s.NoEntriesFor a) :
    s.consumerBoundary a = s.pickStage a c := by
  rw [State.consumerBoundary, applyForAperture_of_none h]
  simp only [hc]

theorem consumerBoundary_of_idle (hc : (s.ap a).config = some c) (h : s.NoEntriesFor a)
    (hst : (s.ap a).state = .unbound) : s.consumerBoundary a = s := by
  rw [consumerBoundary_of_none hc h, State.pickStage, hst]

/-- Settles O52: the stages run once on the aperture without its mark. -/
theorem pendingBoundaryRunsOnce : Obligations.PendingBoundaryRunsOnce := by
  intro s a c hc
  refine ⟨fun hno => ?_, fun hon hd hfl hlk => ?_⟩
  · refine congrArg Host.Outcome.next (runPendingAt_of_blocked (Bool.eq_false_iff.2 fun hr => ?_))
    obtain ⟨on, d, fl, lk⟩ := canRun_iff.1 hr
    rcases hno with k | k | k | k
    · rw [on] at k; cases k
    · rw [d] at k; cases k
    · rw [fl] at k; cases k
    · rw [lk] at k; cases k
  · have hrun := runPendingAt_of_canRun (canRun_iff.2 ⟨hon, hd, hfl, hlk⟩)
    have rest (u : State) (hsteering : u.steering = s.steering) (harbiter : u.arbiter = s.arbiter)
        (hd : ∀ b, (u.ap b).deferred = false) (hwait : s.steering.waiting = [])
        (hsteer : s.arbiter.steeringClaim = none) (hcopy : s.arbiter.copyClaim = none) : u.finish [] = u := by
      rw [finish_of_rest (canRun_of_nonePending hd) (by rw [hsteering]; exact hwait),
        arbitrate_of_rest (fun _ => by rw [harbiter]; exact hsteer)
          fun _ e => by rw [harbiter, hcopy] at e; cases e]
    refine ⟨?_, fun halone hwait hsteer hcopy hst => ⟨fun hrole hno => ?_, fun sl rest' n hrole he hx hfree hn => ?_⟩⟩
    · refine ⟨_, congrArg Host.Outcome.next hrun, Bool.eq_false_iff.2 fun d => ?_⟩
      have := (stages_still s a).deferred trivial a (finish_deferred _ [] a d)
      rw [State.undefer, setAp_ap_self] at this
      cases this
    · have stage : (s.undefer a).consumerBoundary a = s.undefer a :=
        consumerBoundary_of_idle (c := c) (by rw [State.undefer, setAp_ap_self]; exact hc) hno
          (by rw [State.undefer, setAp_ap_self]; exact hst)
      rw [runBoundary_consumer hc hrole, stage, rest (s.undefer a) rfl rfl (fun b => ?_) hwait hsteer hcopy] at hrun
      · exact congrArg Host.Outcome.next hrun
      · rw [State.undefer, setAp_ap]
        split
        · rfl
        · next hb => exact halone b (Ne.symm hb)
    · have hap : (s.undefer a).ap a = { s.ap a with deferred := false } := setAp_ap_self s a _
      have hst' : ((s.undefer a).ap a).state = .unbound := by rw [hap]; exact hst
      have stage : (s.undefer a).producerBoundary a c.ring = (s.undefer a).bind a c.ring := by
        rw [State.producerBoundary, publishStage_of_unbound hst', stepSchedule_of_idle (s := s.undefer a) hx,
          walkChanges_of_empty (s := s.undefer a) he, if_pos]
        rw [apOn_eq_true, hst']
        nofun
      obtain rfl : n = wrapNext 0xFFFFFFFF (s.ring c.ring).frameCounter := hn
      have hfinal := bind_of_free (s := s.undefer a) (a := a) (r := c.ring) (sl := sl) (rest := rest') hfree
      rw [runBoundary_producer hc hrole, stage, hfinal] at hrun
      refine congrArg Host.Outcome.next ((hrun.trans (rest _ rfl rfl (fun b => ?_) hwait hsteer hcopy)).trans ?_)
      rotate_left
      · simp [State.fill, Slot.filling, State.undefer, State.setAp, State.setApState, State.setRing, State.setSlot,
          State.ap, State.ring, State.slot]
      · rw [State.fill, State.setApState, setAp_ap]
        split
        · show ((s.undefer a).ap a).deferred = false
          rw [hap]
        · next hb =>
          show ((s.undefer a).ap b).deferred = false
          rw [State.undefer, setAp_ap_ne s _ hb]
          exact halone b (Ne.symm hb)

end

end Sys2Proof.Machine
end

section
/-! PROOFS: what turning an aperture ON does to the records (O25, O26). First the reasoning rules on the
passed_by sets, on the acquisition of a slot and on the bind. -/

namespace Sys2Proof.Machine

section
variable {s t : State} {a b : ApId} {c : ApConfig} {r : RingId} {sl : SlotId}

/-! ### Marks of consumers on slots (R6, R7) -/

theorem insert_insert (m : ApSet) (a : ApId) :
    ApSet.insert (ApSet.insert m a) a = ApSet.insert m a := ApSet.insert_of_has (by simp)

theorem erase_erase (m : ApSet) (a : ApId) : ApSet.erase (ApSet.erase m a) a = ApSet.erase m a := by
  simp [ApSet.erase, BitVec.and_assoc]

theorem markPassed_slot (s : State) (a : ApId) (sls : List SlotId) (x : SlotId) :
    (s.markPassed a sls).slot x =
      { s.slot x with
        passedBy := if x ∈ sls then ApSet.insert (s.slot x).passedBy a else (s.slot x).passedBy } := by
  induction sls generalizing s with
  | nil => simp [State.markPassed]
  | cons sl sls ih =>
    rw [markPassed_cons, ih, setSlot_slot]
    by_cases e : sl = x
    · subst e
      by_cases hm : sl ∈ sls <;> simp [hm, insert_insert]
    · simp [e, Ne.symm e]

theorem unmarkPassed_slot (s : State) (a : ApId) (sls : List SlotId) (x : SlotId) :
    (s.unmarkPassed a sls).slot x =
      { s.slot x with
        passedBy := if x ∈ sls then ApSet.erase (s.slot x).passedBy a else (s.slot x).passedBy } := by
  induction sls generalizing s with
  | nil => simp [State.unmarkPassed]
  | cons sl sls ih =>
    show ((State.setSlot _ _ _).unmarkPassed a sls).slot x = _
    rw [ih, setSlot_slot]
    by_cases e : sl = x
    · subst e
      by_cases hm : sl ∈ sls <;> simp [hm, erase_erase]
    · simp [e, Ne.symm e]

/-- The slot records after a consumer has acquired a slot (R6, R7). -/
theorem acquire_slot (s : State) (a : ApId) (r : RingId) (p : Pick) (sl x : SlotId) :
    (s.acquire a r p sl).slot x =
      { s.slot x with
        holders := if x = sl then ApSet.insert (s.slot x).holders a else (s.slot x).holders
        passedBy :=
          if p = .ordered ∧ x ∈ takeThrough sl (s.ring r).ready then
            ApSet.insert (s.slot x).passedBy a
          else (s.slot x).passedBy } := by
  have base : ((s.setSlot sl { s.slot sl with holders := ApSet.insert (s.slot sl).holders a }).setApState
      a (.bound sl)).slot x =
      { s.slot x with
        holders := if x = sl then ApSet.insert (s.slot x).holders a else (s.slot x).holders } := by
    rw [setApState_slot, setSlot_slot]
    by_cases e : sl = x
    · subst e; simp
    · simp [e, Ne.symm e]
  cases p with
  | newest => simpa [State.acquire] using base
  | ordered =>
    simp only [State.acquire]
    rw [markPassed_slot, base]
    simp only [true_and]
    rfl

theorem markPassed_frame (s : State) (a : ApId) (sls : List SlotId) :
    { s.markPassed a sls with slots := s.slots } = s := by
  induction sls generalizing s with
  | nil => rfl
  | cons sl sls ih => rw [markPassed_cons]; exact congrArg (fun u => { u with slots := s.slots }) (ih _)

/-- Acquiring a slot changes only slots and the aperture. -/
theorem acquire_frame (s : State) (a : ApId) (r : RingId) (p : Pick) (sl : SlotId) :
    { s.acquire a r p sl with slots := s.slots, apertures := s.apertures } = s := by
  cases p with
  | newest => rfl
  | ordered =>
    exact congrArg (fun u : State => { u with slots := s.slots, apertures := s.apertures })
      (markPassed_frame _ a _)

/-- Every member of a list without repetitions stands up to its last one. -/
theorem takeThrough_getLast {α : Type} [DecidableEq α] {x : α} {l : List α} (hn : l.Nodup)
    (h : l.getLast? = some x) : takeThrough x l = l := by
  induction l with
  | nil => rfl
  | cons y ys ih =>
    unfold takeThrough
    split
    · next e =>
      subst e
      cases ys with
      | nil => rfl
      | cons z zs =>
        rw [List.getLast?_cons_cons] at h
        exact absurd (List.mem_of_getLast? h) (List.nodup_cons.1 hn).1
    · next e =>
      cases ys with
      | nil => exact absurd (Option.some.inj h) e
      | cons z zs => rw [ih (List.nodup_cons.1 hn).2 (by rwa [List.getLast?_cons_cons] at h)]

/-! ### The bind (R63 to R65) -/

/-- The ON ORDERED consumers that a slot has not been passed by (R64). -/
theorem has_missedBy (s : State) (r : RingId) (sl : SlotId) (b : ApId) :
    ApSet.has (s.missedBy r sl) b = true ↔
      ApSet.has (s.ring r).consumers b = true ∧ (s.ap b).config.map (·.pick) = some .ordered ∧
        ApSet.has (s.slot sl).passedBy b = false := by
  rw [State.missedBy, ApSet.has_diff, Bool.and_eq_true, Bool.not_eq_true', has_orderedConsumers, and_assoc]

/-- The set of consumers that a steal reports depends on the consumers, their configuration and the
passed_by set alone. -/
theorem missedBy_congr {t : State} (consumers : (t.ring r).consumers = (s.ring r).consumers)
    (config : ∀ b, (t.ap b).config = (s.ap b).config)
    (passed : (t.slot sl).passedBy = (s.slot sl).passedBy) : t.missedBy r sl = s.missedBy r sl := by
  refine BitVec.eq_of_getLsbD_eq fun i hi => Bool.eq_iff_iff.2 ?_
  have ht := has_missedBy t r sl ⟨i, hi⟩
  have hs := has_missedBy s r sl ⟨i, hi⟩
  rw [consumers, config, passed] at ht
  exact ht.trans hs.symm

/-- What the bind records of the ring: the next frame number. -/
def Ring.numbered (x : Ring) : Ring :=
  { x with frameCounter := wrapNext 0xFFFFFFFF x.frameCounter }

theorem advanceFrame_eq (s : State) (r : RingId) : s.advanceFrame r = s.setRing r (s.ring r).numbered := rfl

theorem stealable_congr {t : State} (slots : t.slots = s.slots) (ready : (t.ring r).ready = (s.ring r).ready) :
    t.stealable r = s.stealable r := by
  funext x
  unfold State.stealable State.newestReady State.slot
  rw [slots, ready]

theorem stealable_advanceFrame (s : State) (r : RingId) :
    (s.advanceFrame r).stealable r = s.stealable r := stealable_congr rfl (by simp)

/-- A slot that a bind may steal (R64). -/
theorem stealable_iff_fields (s : State) (r : RingId) (x : SlotId) :
    s.stealable r x = true ↔ (s.slot x).holders = 0 ∧ (s.slot x).retained = false ∧
      (s.ring r).ready.getLast? ≠ some x := by
  rw [State.stealable, Bool.and_eq_true, Bool.and_eq_true, decide_eq_true_iff, decide_eq_true_iff,
    Bool.not_eq_true', and_assoc, State.newestReady]

/-- A bind that finds no FREE slot and steals one (R64). -/
theorem bind_of_steal (hfree : (s.ring r).free = []) (ho : (s.ring r).overflow = .overwriteOldest)
    (hf : (s.ring r).ready.find? (s.stealable r) = some sl) :
    s.bind a r =
      ((s.setRing r { (s.ring r).numbered with ready := (s.ring r).ready.erase sl }).fill a sl
        (wrapNext 0xFFFFFFFF (s.ring r).frameCounter)).raise
        { kind := .frameDropped, ring := some r, aperture := some a, slot := some sl,
          frame := (s.slot sl).frame, detail := (s.missedBy r sl).toNat } := by
  have hst : (s.advanceFrame r).stealable r = s.stealable r := stealable_advanceFrame s r
  have missed : (s.advanceFrame r).missedBy r sl = s.missedBy r sl :=
    missedBy_congr (by simp) (fun b => rfl) rfl
  unfold State.bind
  simp only [advanceFrame_ring_self, hfree, ho, hst, hf, State.steal, missed]
  rw [State.leaveReady, advanceFrame_ring_self, advanceFrame_eq, setRing_setRing]
  rfl

/-- A bind that finds no slot at all (R65). -/
theorem bind_of_starve {d : Nat} (hfree : (s.ring r).free = [])
    (h : (s.ring r).overflow = .dropNew ∧ d = 0 ∨
      (s.ring r).overflow = .overwriteOldest ∧ (s.ring r).ready.find? (s.stealable r) = none ∧ d = 1) :
    s.bind a r =
      ((s.setRing r (s.ring r).numbered).setApState a .unbound).raise
        { kind := .producerStarved, ring := some r, aperture := some a,
          frame := some (wrapNext 0xFFFFFFFF (s.ring r).frameCounter), detail := d } := by
  have hst : (s.advanceFrame r).stealable r = s.stealable r := stealable_advanceFrame s r
  unfold State.bind
  rcases h with ⟨ho, rfl⟩ | ⟨ho, hf, rfl⟩
  · simp only [advanceFrame_ring_self, hfree, ho]; rfl
  · simp only [advanceFrame_ring_self, hfree, ho, hst, hf]; rfl

/-! ### A producer turned ON (R51, R63 to R65) -/

/-- The part with the producer of a ring turned ON, before the bind. -/
theorem producerOn_eq (s : State) (a : ApId) (r : RingId) :
    s.producerOn a r =
      ((s.setRing r { s.ring r with producer := some a }).setAp a
        { s.ap a with state := .unbound, count := 0, deferred := false }).bind a r := rfl

/-- Of two writes to a ring and two to an aperture the later ones stay. -/
theorem on_then_bound (s : State) (r : RingId) (a : ApId) (sl : SlotId) (u v : Ring) (x w : Aperture)
    (y : Slot) :
    ((((s.setRing r u).setAp a x).setRing r v).setSlot sl y).setAp a w =
      ((s.setRing r v).setSlot sl y).setAp a w :=
  (setAp_setAp (a := a) (s := ((s.setRing r u).setRing r v).setSlot sl y) x w).trans
    (by rw [setRing_setRing])

theorem on_then_unbound (s : State) (r : RingId) (a : ApId) (u v : Ring) (x w : Aperture) :
    (((s.setRing r u).setAp a x).setRing r v).setAp a w = (s.setRing r v).setAp a w :=
  (setAp_setAp (a := a) (s := (s.setRing r u).setRing r v) x w).trans (by rw [setRing_setRing])

theorem producerOn_of_free {rest : List SlotId} (h : (s.ring r).free = sl :: rest) :
    s.producerOn a r =
      ((s.setRing r { (s.ring r).numbered with producer := some a, free := rest }).setSlot sl
        ((s.slot sl).filling (wrapNext 0xFFFFFFFF (s.ring r).frameCounter))).setAp a
        { s.ap a with state := .bound sl, count := 0, deferred := false } := by
  rw [producerOn_eq, bind_of_free (sl := sl) (rest := rest) (by simpa using h)]
  simp only [State.fill, State.setApState, setAp_ring, setRing_ring_self, setSlot_ap, setRing_ap,
    setAp_ap_self, setRing_slot, setAp_slot]
  exact on_then_bound s r a sl _ _ _ _ _

theorem producerOn_of_steal (hfree : (s.ring r).free = [])
    (ho : (s.ring r).overflow = .overwriteOldest)
    (hf : (s.ring r).ready.find? (s.stealable r) = some sl) :
    s.producerOn a r =
      (((s.setRing r { (s.ring r).numbered with
          producer := some a, ready := (s.ring r).ready.erase sl }).setSlot sl
        ((s.slot sl).filling (wrapNext 0xFFFFFFFF (s.ring r).frameCounter))).setAp a
        { s.ap a with state := .bound sl, count := 0, deferred := false }).raise
        { kind := .frameDropped, ring := some r, aperture := some a, slot := some sl,
          frame := (s.slot sl).frame, detail := (s.missedBy r sl).toNat } := by
  have hst : State.stealable ((s.setRing r { s.ring r with producer := some a }).setAp a
      { s.ap a with state := .unbound, count := 0, deferred := false }) r = s.stealable r :=
    stealable_congr rfl (by simp)
  have missed : State.missedBy ((s.setRing r { s.ring r with producer := some a }).setAp a
      { s.ap a with state := .unbound, count := 0, deferred := false }) r sl = s.missedBy r sl :=
    missedBy_congr (by simp) (fun b => by rw [setAp_ap]; split <;> simp_all) rfl
  rw [producerOn_eq, bind_of_steal (sl := sl) (by simpa using hfree) (by simpa using ho)
    (by rw [hst]; simpa using hf), missed]
  simp only [State.fill, State.setApState, setAp_ring, setRing_ring_self, setSlot_ap, setRing_ap,
    setAp_ap_self, setRing_slot, setAp_slot]
  exact congrArg (State.raise · _) (on_then_bound s r a sl _ _ _ _ _)

theorem producerOn_of_starve {d : Nat} (hfree : (s.ring r).free = [])
    (h : (s.ring r).overflow = .dropNew ∧ d = 0 ∨
      (s.ring r).overflow = .overwriteOldest ∧ (s.ring r).ready.find? (s.stealable r) = none ∧ d = 1) :
    s.producerOn a r =
      ((s.setRing r { (s.ring r).numbered with producer := some a }).setAp a
        { s.ap a with state := .unbound, count := 0, deferred := false }).raise
        { kind := .producerStarved, ring := some r, aperture := some a,
          frame := some (wrapNext 0xFFFFFFFF (s.ring r).frameCounter), detail := d } := by
  have hst : State.stealable ((s.setRing r { s.ring r with producer := some a }).setAp a
      { s.ap a with state := .unbound, count := 0, deferred := false }) r = s.stealable r :=
    stealable_congr rfl (by simp)
  rw [producerOn_eq, bind_of_starve (d := d) (by simpa using hfree) (by rw [hst]; simpa using h)]
  simp only [State.setApState, setAp_ring, setRing_ring_self, setRing_ap, setAp_ap_self]
  exact congrArg (State.raise · _) (on_then_unbound s r a _ _ _ _)

/-! ### A consumer turned ON (R69) -/

/-- The part with a consumer of a ring turned ON, before it acquires a slot. -/
def State.joined (s : State) (a : ApId) (r : RingId) : State :=
  (s.setRing r { s.ring r with consumers := ApSet.insert (s.ring r).consumers a }).setAp a
    { s.ap a with state := .unbound, count := 0, deferred := false }

theorem joined_ring_self (s : State) (a : ApId) (r : RingId) :
    (s.joined a r).ring r = { s.ring r with consumers := ApSet.insert (s.ring r).consumers a } := by
  simp [State.joined]

theorem joined_ring_ne (s : State) (a : ApId) {r q : RingId} (h : r ≠ q) :
    (s.joined a r).ring q = s.ring q := by
  simp [State.joined, setRing_ring_ne, h]

theorem joined_slot (s : State) (a : ApId) (r : RingId) (x : SlotId) :
    (s.joined a r).slot x = s.slot x := rfl

theorem joined_ap_self (s : State) (a : ApId) (r : RingId) :
    (s.joined a r).ap a = { s.ap a with state := .unbound, count := 0, deferred := false } :=
  setAp_ap_self _ a _

theorem joined_ap_ne (s : State) {a b : ApId} (r : RingId) (h : a ≠ b) :
    (s.joined a r).ap b = s.ap b := (setAp_ap_ne _ _ h).trans rfl

theorem consumerOn_of_empty (h : (s.ring c.ring).ready = []) : s.consumerOn a c = s.joined a c.ring := by
  have e : (s.joined a c.ring).newestReady c.ring = none := by
    rw [State.newestReady, joined_ring_self]; simp [h]
  unfold State.consumerOn
  simp only [State.joined] at e ⊢
  simp only [State.freshOn, setRing_ap, e]

theorem consumerOn_of_newest (h : (s.ring c.ring).ready.getLast? = some sl) :
    s.consumerOn a c =
      ((s.joined a c.ring).acquire a c.ring c.pick sl).reclaim c.ring
        ((s.joined a c.ring).growing a c.ring c.pick sl) := by
  have e : (s.joined a c.ring).newestReady c.ring = some sl := by
    rw [State.newestReady, joined_ring_self]; exact h
  unfold State.consumerOn
  simp only [State.joined] at e ⊢
  simp only [State.freshOn, setRing_ap, e]

/-- A reclamation check that finds no slot to let go changes nothing. -/
theorem reclaim_of_none {cands : List SlotId}
    (h : ∀ x ∈ (s.ring r).ready, x ∈ cands → ¬ s.MeetsReclamation r x) : s.reclaim r cands = s := by
  have e : s.leaving r cands = [] :=
    List.eq_nil_iff_forall_not_mem.2 fun x hx => by
      obtain ⟨hr, hc, hm⟩ := (mem_leaving s r cands).1 hx
      exact h x hr hc hm
  rw [reclaim_eq, e]
  rfl

/-- A consumer that turns ON leaves no slot behind for reclamation. -/
theorem consumerOn_reclaims_none (hp : s.Placed) (hpr : s.PromptlyReclaimed)
    (h : (s.ring c.ring).ready.getLast? = some sl)
    (hoff : s.apOn a = false) :
    s.consumerOn a c = (s.joined a c.ring).acquire a c.ring c.pick sl := by
  rw [consumerOn_of_newest h]
  refine reclaim_of_none fun x hx _ hm => hpr c.ring x ?_ ?_
  · simpa [joined_ring_self] using hx
  · have hcons (b : ApId) (hb : ApSet.has (s.ring c.ring).consumers b = true) : b ≠ a := fun e => by
      obtain ⟨on, _⟩ := (hp.consumers c.ring b).1 hb
      rw [e, hoff] at on
      cases on
    obtain ⟨h1, h2, h3⟩ := hm
    have hne : x ≠ sl := fun e => h3 (by subst e; simpa [joined_ring_self] using h)
    simp only [acquire_slot, joined_slot, joined_ring_self, acquire_ring, acquire_ap, hne, if_false] at h1 h2 h3
    refine ⟨h1, fun b d hb hd ho => ?_, h3⟩
    have passed := h2 b d (by rw [has_insert, hb]; rfl) (by
      rw [setApState_config]
      rwa [joined_ap_ne s _ (hcons b hb).symm]) ho
    split at passed
    · simpa [hcons b hb] using passed
    · exact passed

end

/-! ### The records behind an answer -/

section
variable (s : State) (code : Byte) (args : List Word) (y : Status) (ws : List Word)

@[simp] theorem answered_slot (i : SlotId) : (s.answered code args y ws).slot i = s.slot i := rfl
@[simp] theorem answered_ring (i : RingId) : (s.answered code args y ws).ring i = s.ring i := rfl
@[simp] theorem answered_ap (i : ApId) : (s.answered code args y ws).ap i = s.ap i := rfl
@[simp] theorem answered_sched (i : RingId) : (s.answered code args y ws).sched i = s.sched i := rfl
@[simp] theorem answered_apOn (i : ApId) : (s.answered code args y ws).apOn i = s.apOn i := rfl
@[simp] theorem answered_boundSlot (i : ApId) : (s.answered code args y ws).boundSlot i = s.boundSlot i := rfl
@[simp] theorem answered_slots : (s.answered code args y ws).slots = s.slots := rfl
@[simp] theorem answered_rings : (s.answered code args y ws).rings = s.rings := rfl
@[simp] theorem answered_apertures : (s.answered code args y ws).apertures = s.apertures := rfl
@[simp] theorem answered_schedules : (s.answered code args y ws).schedules = s.schedules := rfl
@[simp] theorem answered_steering : (s.answered code args y ws).steering = s.steering := rfl
@[simp] theorem answered_arbiter : (s.answered code args y ws).arbiter = s.arbiter := rfl
@[simp] theorem answered_copy : (s.answered code args y ws).copy = s.copy := rfl
@[simp] theorem answered_changes : (s.answered code args y ws).changes = s.changes := rfl
@[simp] theorem answered_notes : (s.answered code args y ws).notes = s.notes := rfl
@[simp] theorem answered_aOut : (s.answered code args y ws).aOut = s.aOut := rfl

theorem answered_answers : (s.answered code args y ws).answers y ws := ⟨rfl, _, rfl, rfl, rfl⟩

end

/-! ### APERTURE_ON (R51, R69, R178) -/

section
variable {s : State} {a : ApId} {c : ApConfig}

theorem actApertureOn_of_producer (hoff : s.apOn a = false) (hc : (s.ap a).config = some c)
    (hon : (s.ring c.ring).on = true) (hrole : c.role = .producer)
    (hnone : (s.ring c.ring).producer = none) (hw : s.WindowFree c.windowBase (2 ^ c.windowSize)) :
    actApertureOn s a = (s.producerOn a c.ring).done := by
  have role : s.roleTaken c = false := by rw [roleTaken_of_producer hrole, hnone]; rfl
  rw [actApertureOn_of_setUp hoff hc, if_neg (by rw [hon]; decide), if_neg (Bool.eq_false_iff.1 role),
    if_neg (Bool.eq_false_iff.1 ((windowTaken_eq_false_iff s c).2 hw)), if_pos hrole]

theorem actApertureOn_of_consumer (hoff : s.apOn a = false) (hc : (s.ap a).config = some c)
    (hon : (s.ring c.ring).on = true) (hrole : c.role = .consumer)
    (hfew : (allAps.filter fun b => ApSet.has (s.ring c.ring).consumers b).length < 3)
    (hw : s.WindowFree c.windowBase (2 ^ c.windowSize)) :
    actApertureOn s a = (s.consumerOn a c).done := by
  have role : s.roleTaken c = false := by
    rw [roleTaken_of_consumer hrole]; exact decide_eq_false (Nat.not_le.2 hfew)
  rw [actApertureOn_of_setUp hoff hc, if_neg (by rw [hon]; decide), if_neg (Bool.eq_false_iff.1 role),
    if_neg (Bool.eq_false_iff.1 ((windowTaken_eq_false_iff s c).2 hw)), if_neg (by rw [hrole]; nofun)]

/-- An operation that reads neither link nor lines, accepted with DONE: the link answers beside what it
leaves. -/
theorem takeCommand_unlinked {α : Type} {code : Byte} {args : List Word} {parse : List Word → Option α}
    {x : α} {act : State → α → Answer} {f : State → State} (hu : Unlinked f)
    (h : s.link.phase = .request) (hn : args.length ≤ 6) (hp : parse args = some x)
    (ha : ∀ bs, act (s.received bs) x = (f (s.received bs)).done) :
    s.takeCommand code parse (requestFor code args) act = (f s).answered code args .done [] :=
  takeCommand_done_of h hn hp fun bs => (ha bs).trans (congrArg State.done (hu.received s bs))

theorem unlinked_producerOn (a : ApId) (r : RingId) : Unlinked fun s => s.producerOn a r := by
  intro s l x
  simp only [producerOn_eq, outside_ring, outside_ap, outside_setRing, outside_setAp, outside_bind]

theorem unlinked_consumerOn (a : ApId) (c : ApConfig) : Unlinked fun s => s.consumerOn a c := by
  intro s l x
  have joined : (s.outside l x).joined a c.ring = (s.joined a c.ring).outside l x := rfl
  show (s.outside l x).consumerOn a c = (s.consumerOn a c).outside l x
  cases h : (s.ring c.ring).ready.getLast? with
  | none =>
    have hr : (s.ring c.ring).ready = [] := List.getLast?_eq_none_iff.1 h
    rw [consumerOn_of_empty hr, consumerOn_of_empty (s := s.outside l x) hr, joined]
  | some sl =>
    rw [consumerOn_of_newest h, consumerOn_of_newest (s := s.outside l x) h, joined, outside_acquire]
    exact outside_reclaim _ l x c.ring _

section
variable (h : s.link.phase = .request) (hoff : s.apOn a = false) (hc : (s.ap a).config = some c)
  (hon : (s.ring c.ring).on = true) (hw : s.WindowFree c.windowBase (2 ^ c.windowSize))
include h hoff hc hon hw

theorem exec_apertureOn_producer (hrole : c.role = .producer)
    (hnone : (s.ring c.ring).producer = none) :
    exec (.apertureOn (requestFor 0x11 [idWord a])) s =
      .next ((s.producerOn a c.ring).answered 0x11 [idWord a] .done []) :=
  congrArg Host.Outcome.next (takeCommand_unlinked (unlinked_producerOn a c.ring) h (by simp)
    (readFin_idWord a (by decide)) fun bs =>
      actApertureOn_of_producer (s := s.received bs) hoff hc hon hrole hnone hw)

theorem exec_apertureOn_consumer (hrole : c.role = .consumer)
    (hfew : (allAps.filter fun b => ApSet.has (s.ring c.ring).consumers b).length < 3) :
    exec (.apertureOn (requestFor 0x11 [idWord a])) s =
      .next ((s.consumerOn a c).answered 0x11 [idWord a] .done []) :=
  congrArg Host.Outcome.next (takeCommand_unlinked (unlinked_consumerOn a c) h (by simp)
    (readFin_idWord a (by decide)) fun bs =>
      actApertureOn_of_consumer (s := s.received bs) hoff hc hon hrole hfew hw)

end

end

/-- Settles O25: the bind finds a FREE slot, one to steal, or none. -/
theorem producerOnBinds : Obligations.ProducerOnBinds := by
  intro s a c n filled h hoff hc hrole hon hnone hw hn hfilled
  have e := exec_apertureOn_producer h hoff hc hon hw hrole hnone
  have hn' : n = wrapNext 0xFFFFFFFF (s.ring c.ring).frameCounter := hn
  have hfill (sl : SlotId) : filled sl = (s.slot sl).filling n := hfilled sl
  subst hn'
  refine ⟨fun sl rest hf => ?_, fun sl hf ho hfind => ⟨s.missedBy c.ring sl, fun b => has_missedBy s _ sl b, ?_⟩,
    fun d hf hd => ?_⟩
  · rw [e, producerOn_of_free hf, hfill]; rfl
  · have hst : (s.ring c.ring).ready.find? (s.stealable c.ring) = some sl := by
      rw [← hfind]
      refine List.find?_congr fun x _ => ?_
      exact Bool.eq_iff_iff.2 ((stealable_iff_fields s c.ring x).trans decide_eq_true_iff.symm)
    rw [e, producerOn_of_steal hf ho hst, hfill]; rfl
  · rw [e, producerOn_of_starve hf (d := d)]
    · rfl
    · refine hd.imp_right fun ⟨ho, hd, hall⟩ => ⟨ho, List.find?_eq_none.2 fun x hx hst => ?_, hd⟩
      obtain ⟨h1, h2, h3⟩ := (stealable_iff_fields s c.ring x).1 hst
      rcases hall x hx with g | g | g
      · exact g h1
      · rw [h2] at g; cases g
      · exact h3 g

/-- Settles O26: the newest READY slot is acquired, and none is reclaimed. -/
theorem consumerOnAcquiresTheNewest : Obligations.ConsumerOnAcquiresTheNewest := by
  intro s a c h hoff hc hrole hon hw hp hfew hpr
  have e := exec_apertureOn_consumer h hoff hc hon hw hrole hfew
  refine ⟨fun hr => ?_, fun sl hl => ⟨_, e, answered_answers .., ?_⟩⟩
  · rw [e, consumerOn_of_empty hr]; rfl
  · rw [consumerOn_reclaims_none hp hpr hl hoff]
    have whole := takeThrough_getLast (hp.ready_nodup c.ring) hl
    have frame := acquire_frame (s.joined a c.ring) a c.ring c.pick sl
    refine ⟨?_, ?_, fun x => ?_, fun b hb => ?_, fun q hq => ?_, ?_, ?_, ?_⟩
    · rw [answered_ap, acquire_ap, setApState_ap_self, joined_ap_self]
    · rw [answered_ring, acquire_ring, joined_ring_self]
    · rw [answered_slot, acquire_slot, joined_slot, joined_ring_self, whole]
    · rw [answered_ap, acquire_ap, setApState_ap_ne _ _ hb.symm, joined_ap_ne s _ hb.symm]
    · rw [answered_ring, acquire_ring, joined_ring_ne s a hq.symm]
    · exact (congrArg State.steering frame :)
    · exact (congrArg State.arbiter frame :)
    · exact (congrArg State.notes frame :)

end Sys2Proof.Machine
end

section
/-! PROOFS: RING_OFF (O20) and RELEASE FRAME (O36). First the notes that a run of pushes raises, and the
commands that read neither link nor lines. -/

namespace Sys2Proof.Machine

section
variable {s t : State} {r : RingId} {sl : SlotId} {cands : List SlotId}

/-! ### Notes raised one after another (R162) -/

/-- Notes raised one after another. -/
def State.raiseAll (s : State) (ns : List Note) : State := ns.foldl State.raise s

theorem raiseAll_notes (s : State) (ns : List Note) :
    (s.raiseAll ns).notes = ns.foldl NoteQueue.push s.notes := by
  induction ns generalizing s with
  | nil => rfl
  | cons n ns ih => exact ih (s.raise n)

theorem raiseAll_onward (s : State) (ns : List Note) : Onward s (s.raiseAll ns) := by
  induction ns generalizing s with
  | nil => exact .refl s
  | cons n ns ih => exact (Onward.raise s n).trans (ih (s.raise n))

/-- Every note of a run of pushes is raised. -/
theorem raised_of_pushes {ns : List Note} {n : Note}
    (h : t.notes = ns.foldl NoteQueue.push s.notes) (hn : n ∈ ns) : Raised s t n := by
  obtain ⟨l, m, rfl⟩ := List.append_of_mem hn
  have whole : (((s.raiseAll l).raise n).raiseAll m).notes = t.notes := by
    rw [h, raiseAll_notes, raise_notes, raiseAll_notes, List.foldl_append]; rfl
  have raised := Onward.raised (raiseAll_onward s l) (raiseAll_onward ((s.raiseAll l).raise n) m)
  unfold Raised at raised ⊢
  rwa [whole] at raised

theorem State.NoRetirements.congr (h : s.NoRetirements) (changes : t.changes = s.changes) :
    t.NoRetirements := by
  rw [State.NoRetirements, changes]; exact h

/-- An operation that reads neither link nor lines: the link answers beside what it leaves. -/
theorem takeCommand_unlinked_words {α : Type} {code : Byte} {args : List Word}
    {parse : List Word → Option α} {x : α} {act : State → α → Answer} {f : State → State}
    {status : Status} {words : List Word} (hu : Unlinked f)
    (h : s.link.phase = .request) (hn : args.length ≤ 6) (hp : parse args = some x)
    (ha : ∀ bs, act (s.received bs) x = { state := f (s.received bs), status := status, words := words }) :
    s.takeCommand code parse (requestFor code args) act = (f s).answered code args status words :=
  takeCommand_answered h hn hp ((ha _).trans (by rw [hu.received]))

theorem takeCommand_words_of {α : Type} {code : Byte} {args : List Word} {parse : List Word → Option α}
    {x : α} {act : State → α → Answer} {status : Status} {words : List Word}
    (h : s.link.phase = .request) (hn : args.length ≤ 6) (hp : parse args = some x)
    (ha : ∀ bs, act (s.received bs) x = { state := t.received bs, status := status, words := words }) :
    s.takeCommand code parse (requestFor code args) act = t.answered code args status words :=
  takeCommand_answered h hn hp (ha _)

/-! ### RING_OFF (R18) -/

theorem heldNote_map (s : State) (r : RingId) (sls : List SlotId) (q : NoteQueue) :
    sls.foldl (fun q x => q.push (s.heldNote r x)) q = (sls.map (s.heldNote r)).foldl NoteQueue.push q :=
  (List.foldl_map ..).symm

/-- The note of a schedule that RING_OFF stops (R18). -/
def State.stopNotes (s : State) (r : RingId) : List Note :=
  if (s.sched r).state = .idle then [] else [{ kind := .scheduleDone, ring := some r, detail := 2 }]

theorem stopSchedule_notes (s : State) (r : RingId) :
    (s.stopSchedule r).notes = (s.stopNotes r).foldl NoteQueue.push s.notes := by
  unfold State.stopNotes
  by_cases h : (s.sched r).state = .idle
  · rw [stopSchedule_of_idle h, if_pos h]; rfl
  · rw [stopSchedule_of_not_idle h, if_neg h]; rfl

theorem stopSchedule_sched (s : State) (r : RingId) :
    (s.stopSchedule r).sched r =
      { s.sched r with
        state := .idle, remaining := if (s.sched r).state = .idle then (s.sched r).remaining else 0 } := by
  by_cases h : (s.sched r).state = .idle
  · rw [stopSchedule_of_idle h, if_pos h, ← h]
  · rw [stopSchedule_of_not_idle h, if_neg h]
    exact setSched_sched_self s r _

theorem dropAll_sched (s : State) (r q : RingId) (sls : List SlotId) :
    (s.dropAll r sls).sched q = s.sched q :=
  (congrArg (fun u : State => u.sched q) (dropAll_frame s r sls) :)

/-- RING_OFF with no retirement waiting, before the ring is OFF. -/
theorem ringOff_of_noRetirements (h : s.NoRetirements) (r : RingId) :
    s.ringOff r =
      ((s.dropAll r (s.ring r).ready).stopSchedule r).setRing r
        { (s.dropAll r (s.ring r).ready).ring r with on := false } := by
  have changes : ((s.dropAll r (s.ring r).ready).stopSchedule r).changes = s.changes :=
    (congrArg State.changes (stopSchedule_frame (s.dropAll r (s.ring r).ready) r) :).trans
      (dropAll_changes s r _)
  have none : State.NoRetirements (((s.dropAll r (s.ring r).ready).stopSchedule r).setRing r
      { (s.dropAll r (s.ring r).ready).ring r with on := false }) := h.congr changes
  rw [ringOff_eq, stopSchedule_ring]
  exact applyRetirements_of_noRetirements none _

/-- RING_OFF with no retirement waiting changes slots, rings, schedules and notes alone. -/
theorem ringOff_frame (h : s.NoRetirements) (r : RingId) :
    { s.ringOff r with
      slots := s.slots, rings := s.rings, schedules := s.schedules, notes := s.notes } = s := by
  have stop := congrArg (fun u : State =>
    { u with slots := s.slots, rings := s.rings, schedules := s.schedules, notes := s.notes })
    (stopSchedule_frame (s.dropAll r (s.ring r).ready) r)
  have drop := congrArg (fun u : State => { u with schedules := s.schedules })
    (dropAll_frame s r (s.ring r).ready)
  rw [ringOff_of_noRetirements h]
  exact stop.trans drop

theorem outside_stopSchedule (s : State) (l : Link) (x : Lines) (r : RingId) :
    (s.outside l x).stopSchedule r = (s.stopSchedule r).outside l x := by
  unfold State.stopSchedule
  rw [outside_sched, outside_ite]
  rfl

theorem outside_dropAll (s : State) (l : Link) (x : Lines) (r : RingId) (sls : List SlotId) :
    (s.outside l x).dropAll r sls = (s.dropAll r sls).outside l x :=
  foldl_outside s l x (fun s y => outside_dropReady s l x r y) sls

theorem unlinked_ringOff (r : RingId) : Unlinked fun s => s.ringOff r := by
  intro s l x
  show (s.outside l x).ringOff r = (s.ringOff r).outside l x
  rw [ringOff_eq, ringOff_eq, outside_ring, outside_dropAll, outside_stopSchedule, outside_ring,
    outside_setRing]
  exact outside_applyRetirements _ l x _

theorem actRingOff_of_on (hon : (s.ring r).on = true)
    (hoff : ∀ a c, s.apOn a = true → (s.ap a).config = some c → c.ring ≠ r) :
    actRingOff s r = (s.ringOff r).done := by
  refine if_pos ?_
  rw [hon, Bool.true_and, Bool.not_eq_true', State.anyOnFor, List.any_eq_false]
  intro a _ h
  rw [Bool.and_eq_true, decide_eq_true_iff, State.ringOf, Option.map_eq_some_iff] at h
  obtain ⟨on, c, hc, hr⟩ := h
  exact hoff a c on hc hr

theorem actRingOff_of_refused
    (h : (s.ring r).on = false ∨ ∃ a c, s.apOn a = true ∧ (s.ap a).config = some c ∧ c.ring = r) :
    actRingOff s r = s.deny .wrongState := by
  refine if_neg ?_
  rw [Bool.and_eq_true, Bool.not_eq_true', State.anyOnFor, List.any_eq_false]
  rintro ⟨hon, hall⟩
  rcases h with h | ⟨a, c, on, hc, hr⟩
  · rw [hon] at h; cases h
  · refine hall a (mem_allAps a) ?_
    rw [on, State.ringOf, hc]
    simp [hr]

theorem exec_ringOff_of_on (h : s.link.phase = .request) (hon : (s.ring r).on = true)
    (hoff : ∀ a c, s.apOn a = true → (s.ap a).config = some c → c.ring ≠ r) :
    exec (.ringOff (requestFor 0x0A [idWord r])) s =
      .next ((s.ringOff r).answered 0x0A [idWord r] .done []) :=
  congrArg Host.Outcome.next (takeCommand_unlinked (unlinked_ringOff r) h (by simp)
    (argsRing_idWord r) fun bs => actRingOff_of_on (s := s.received bs) hon hoff)

end

/-- Settles O20: the READY slots leave one after another, and the schedule stops. -/
theorem ringOffEmptiesTheReadyList : Obligations.RingOffEmptiesTheReadyList := by
  intro s r h
  refine ⟨fun hbad => ?_, fun hon hoff hno _ => ⟨_, exec_ringOff_of_on h hon hoff, answered_answers .., ?_⟩⟩
  · exact congrArg Host.Outcome.next (takeCommand_denied_of h (by simp) (argsRing_idWord r)
      fun bs => actRingOff_of_refused (s := s.received bs) hbad)
  · have frame := ringOff_frame hno r
    rw [ringOff_of_noRetirements hno] at frame ⊢
    have notes : ((s.dropAll r (s.ring r).ready).stopSchedule r).notes =
        ((s.keptOf (s.ring r).ready).map (s.heldNote r) ++ s.stopNotes r).foldl NoteQueue.push s.notes := by
      rw [stopSchedule_notes, dropAll_notes, heldNote_map, List.foldl_append]
      simp only [State.stopNotes, dropAll_sched]
    refine ⟨?_, fun q hq => ?_, fun x => ?_, fun x hx hret => ?_, ?_, fun hbusy => ?_, ?_, ?_, ?_, ?_, ?_⟩
    · rw [answered_ring, setRing_ring_self, dropAll_ring_self, diff_self_eq_nil]
      rfl
    · rw [answered_ring, setRing_ring_ne _ _ hq.symm, stopSchedule_ring, dropAll_ring_ne s r _ hq.symm]
    · rw [answered_slot, setRing_slot, stopSchedule_slot, dropAll_slot]
      rfl
    · exact raised_of_pushes notes (List.mem_append_left _ (List.mem_map_of_mem (f := s.heldNote r)
        (List.mem_filter.2 ⟨hx, hret⟩)))
    · rw [answered_sched, setRing_sched, stopSchedule_sched, dropAll_sched]
    · refine raised_of_pushes notes (List.mem_append_right _ ?_)
      rw [State.stopNotes, if_neg hbusy]
      exact List.mem_singleton.2 rfl
    · exact (congrArg State.apertures frame :)
    · exact (congrArg State.copy frame :)
    · exact (congrArg State.arbiter frame :)
    · exact (congrArg State.steering frame :)
    · exact (congrArg State.changes frame :)

/-! ### RELEASE FRAME (R112) -/

section
variable {s : State} {r : RingId} {sl : SlotId} {n : Nat}

theorem argsRelease_frame (r : RingId) (h : n ≤ 0xFFFFFFFF) :
    argsRelease [idWord r, 1, numWord n] = some (r, .frame n) := by
  simp [argsRelease, readFin_idWord r, toNat_numWord (n := n) (by omega)]

theorem heldWith_of_pos (h : n ≠ 0) :
    s.heldWith r n = (s.ring r).held.find? fun x => decide ((s.slot x).frame = some n) := by
  unfold State.heldWith
  refine List.find?_congr fun x _ => ?_
  simp [h]

theorem heldWith_eq_none (h : ∀ x ∈ (s.ring r).held, (s.slot x).frame ≠ some n) : s.heldWith r n = none :=
  List.find?_eq_none.2 fun x hx => by simp [h x hx]

theorem retainedReadyWith_of_pos (h : n ≠ 0) :
    s.retainedReadyWith r n =
      (s.ring r).ready.find? fun x => decide ((s.slot x).frame = some n ∧ (s.slot x).retained = true) := by
  unfold State.retainedReadyWith
  refine List.find?_congr fun x _ => ?_
  simp [h]

theorem heldWith_zero : s.heldWith r 0 = none := List.find?_eq_none.2 fun x _ => by simp

theorem retainedReadyWith_eq_none
    (h : n = 0 ∨ ∀ x ∈ (s.ring r).ready, (s.slot x).frame ≠ some n ∨ (s.slot x).retained = false) :
    s.retainedReadyWith r n = none := by
  refine List.find?_eq_none.2 fun x hx => ?_
  rcases h with rfl | h
  · simp
  · rcases h x hx with g | g <;> simp [g]

theorem releaseFrame_of_held (hf : s.heldWith r n = some sl) (hjobs : (s.slot sl).jobs = 0) :
    releaseFrame s r n = (s.releaseHeld r sl).doneWith [1] := by
  simp only [releaseFrame, hf, hjobs, if_true]

theorem releaseFrame_of_busy (hf : s.heldWith r n = some sl) (hjobs : 0 < (s.slot sl).jobs) :
    releaseFrame s r n = s.busyZero := by
  simp only [releaseFrame, hf, Nat.ne_of_gt hjobs, if_false]

theorem releaseFrame_of_ready (hf : s.heldWith r n = none) (hr : s.retainedReadyWith r n = some sl) :
    releaseFrame s r n =
      ((s.setSlot sl { s.slot sl with retained := false }).reclaim r [sl]).doneWith [0] := by
  simp only [releaseFrame, hf, hr]

theorem releaseFrame_of_none (hf : s.heldWith r n = none) (hr : s.retainedReadyWith r n = none) :
    releaseFrame s r n = s.deny .noEntry := by
  simp only [releaseFrame, hf, hr]

theorem filter_eq_singleton {l : List SlotId} {x : SlotId} (hn : l.Nodup) (hx : x ∈ l) {p : SlotId → Bool}
    (hp : ∀ y ∈ l, p y = true ↔ y = x) : l.filter p = [x] := by
  have e : l.filter p = l.filter (· == x) :=
    List.filter_congr fun y hy => Bool.eq_iff_iff.2 ((hp y hy).trans beq_iff_eq.symm)
  rw [e, List.filter_beq, List.count_eq_one_of_mem hn hx]
  rfl

/-- The record whose mark a RELEASE FRAME takes away meets the condition exactly if it did before. -/
theorem meets_unretained (s : State) (r : RingId) (sl x : SlotId) :
    (s.setSlot sl { s.slot sl with retained := false }).MeetsReclamation r x ↔ s.MeetsReclamation r x := by
  have e : ((s.setSlot sl { s.slot sl with retained := false }).slot x).holders = (s.slot x).holders ∧
      ((s.setSlot sl { s.slot sl with retained := false }).slot x).passedBy = (s.slot x).passedBy := by
    rw [setSlot_slot]
    split
    · next h => subst h; exact ⟨rfl, rfl⟩
    · exact ⟨rfl, rfl⟩
  unfold State.MeetsReclamation
  rw [e.1, e.2]
  rfl

/-- The one candidate of a check leaves if it meets the condition. -/
theorem leaving_singleton (hp : s.Placed) (hr : sl ∈ (s.ring r).ready) (hm : s.MeetsReclamation r sl) :
    s.leaving r [sl] = [sl] := by
  refine filter_eq_singleton (hp.ready_nodup r) hr fun y _ => ?_
  rw [Bool.and_eq_true, reclaimable_iff]
  refine ⟨fun h => by simpa using h.1, ?_⟩
  rintro rfl
  exact ⟨by simp, hm⟩

/-- A READY slot that loses its mark and meets the condition goes free (R13, R112). -/
theorem unretain_reclaimed (hp : s.Placed) (hr : sl ∈ (s.ring r).ready) (hm : s.MeetsReclamation r sl) :
    (s.setSlot sl { s.slot sl with retained := false }).reclaim r [sl] =
      ((s.setRing r { s.ring r with
        ready := (s.ring r).ready.erase sl, free := (s.ring r).free ++ [sl] }).setSlot sl
        (s.slot sl).freed).applyRetirements [sl] := by
  have hp' : (s.setSlot sl { s.slot sl with retained := false }).Placed := hp.setSlot sl _ rfl
  have loose : ((s.setSlot sl { s.slot sl with retained := false }).slot sl).retained = false := by simp
  rw [reclaim_eq, leaving_singleton hp' hr ((meets_unretained s r sl sl).2 hm), dropAll_cons, dropAll_nil,
    dropReady_of_unretained _ r loose]
  simp only [State.looseOf, loose, List.filter_cons_of_pos, Bool.not_false, List.filter_nil]
  refine congrArg (State.applyRetirements · [sl]) ?_
  rw [State.joinFreeTail, State.leaveReady]
  simp only [setRing_slot, setSlot_ring, setSlot_slot_self, setRing_ring_self]
  have hs := setSlot_setSlot (s.setRing r { s.ring r with
    ready := (s.ring r).ready.erase sl, free := (s.ring r).free ++ [sl] }) sl
    { s.slot sl with retained := false } (s.slot sl).freed
  refine Eq.trans ?_ hs
  have hr := setRing_setRing s r { s.ring r with ready := (s.ring r).ready.erase sl }
    { s.ring r with ready := (s.ring r).ready.erase sl, free := (s.ring r).free ++ [sl] }
  exact congrArg (fun u : State => (u.setSlot sl { s.slot sl with retained := false }).setSlot sl
    (s.slot sl).freed) hr

/-- The oldest held match without jobs goes free, with no retirement waiting. -/
theorem releaseFrame_of_idle (hno : s.NoRetirements) (hf : s.heldWith r n = some sl)
    (hjobs : (s.slot sl).jobs = 0) :
    releaseFrame s r n =
      ((s.setRing r { s.ring r with
        held := (s.ring r).held.erase sl, free := (s.ring r).free ++ [sl] }).setSlot sl
        (s.slot sl).freed).doneWith [1] := by
  rw [releaseFrame_of_held hf hjobs, releaseHeld_of_noRetirements hno, freeHeld_eq]

/-- A retained READY match that meets the condition goes free, with no retirement waiting. -/
theorem releaseFrame_of_reclaimed (hno : s.NoRetirements) (hp : s.Placed) (hf : s.heldWith r n = none)
    (hr : s.retainedReadyWith r n = some sl) (hready : sl ∈ (s.ring r).ready)
    (hm : s.MeetsReclamation r sl) :
    releaseFrame s r n =
      ((s.setRing r { s.ring r with
        ready := (s.ring r).ready.erase sl, free := (s.ring r).free ++ [sl] }).setSlot sl
        (s.slot sl).freed).doneWith [0] := by
  have none : State.NoRetirements ((s.setRing r { s.ring r with
      ready := (s.ring r).ready.erase sl, free := (s.ring r).free ++ [sl] }).setSlot sl
      (s.slot sl).freed) := hno.congr rfl
  rw [releaseFrame_of_ready hf hr, unretain_reclaimed hp hready hm, applyRetirements_of_noRetirements none]

/-- A retained READY match that does not meet the condition only loses its mark. -/
theorem releaseFrame_of_unretained (hf : s.heldWith r n = none) (hr : s.retainedReadyWith r n = some sl)
    (hm : ¬ s.MeetsReclamation r sl) :
    releaseFrame s r n = (s.setSlot sl { s.slot sl with retained := false }).doneWith [0] := by
  rw [releaseFrame_of_ready hf hr, reclaim_of_none]
  intro x _ hx
  rwa [List.mem_singleton.1 hx, meets_unretained]

end

/-- Settles O36: the held match, then the retained READY match, then nothing. -/
theorem releaseFrameFreesOrUnretains : Obligations.ReleaseFrameFreesOrUnretains := by
  rintro s r n args h hno hp hn rfl
  have hargs := argsRelease_frame r hn
  refine ⟨fun sl hn0 hf => ?_, fun hnone => ⟨fun sl hn0 hf => ?_, fun hnone' => ?_⟩⟩
  · rw [← heldWith_of_pos hn0] at hf
    refine ⟨fun hjobs => ?_, fun hjobs => ?_⟩
    · exact congrArg Host.Outcome.next (takeCommand_words_of h (by simp) hargs fun bs =>
        releaseFrame_of_idle (s := s.received bs) hno hf hjobs)
    · exact congrArg Host.Outcome.next (takeCommand_words_of h (by simp) hargs fun bs =>
        releaseFrame_of_busy (s := s.received bs) hf hjobs)
  · have hheld := heldWith_eq_none hnone
    have hready : sl ∈ (s.ring r).ready := List.mem_of_find?_eq_some hf
    rw [← retainedReadyWith_of_pos hn0] at hf
    refine ⟨fun hm => ?_, fun hm => ?_⟩
    · exact congrArg Host.Outcome.next (takeCommand_words_of h (by simp) hargs fun bs =>
        releaseFrame_of_reclaimed (s := s.received bs) hno (hp.congr rfl rfl rfl) hheld hf hready hm)
    · exact congrArg Host.Outcome.next (takeCommand_words_of h (by simp) hargs fun bs =>
        releaseFrame_of_unretained (s := s.received bs) hheld hf hm)
  · exact congrArg Host.Outcome.next (takeCommand_denied_of h (by simp) hargs fun bs =>
      releaseFrame_of_none (s := s.received bs) (heldWith_eq_none hnone) (retainedReadyWith_eq_none hnone'))

end Sys2Proof.Machine
end

section
/-! PROOFS: COPY with its checks and the job it submits (O37). First what the grant decision leaves of a COPY
claim. -/

namespace Sys2Proof.Machine

section
variable {s t : State} {r : RingId} {sl : SlotId} {j : Job} {x : Txn}

/-! ### The grant decision at the copy engine (R121, R135) -/

/-- The grant decision leaves a COPY claim waiting, or grants it and tells the engine. -/
theorem arbitrate_copy (s : State) :
    (s.arbitrate.copy = s.copy ∧ s.arbitrate.arbiter.copyClaim = s.arbiter.copyClaim) ∨
      ∃ x, s.arbiter.copyClaim = some x ∧ s.arbitrate = s.grantCopy x := by
  rcases arbitrate_cases s with e | ⟨_, _, _, _, _, e⟩ | ⟨x, _, hx, _, e⟩
  · exact .inl (by rw [e]; exact ⟨rfl, rfl⟩)
  · exact .inl (by rw [e]; exact ⟨rfl, rfl⟩)
  · exact .inr ⟨x, hx, e⟩

/-- The grant decision at an engine with a job whose claim waits. -/
theorem arbitrate_claimed {k : ActiveJob} (active : s.copy.active = some k) (waits : k.granted = false)
    (claim : s.arbiter.copyClaim = some x) :
    ∃ g, s.arbitrate.copy = { s.copy with active := some { k with granted := g } } ∧
      (g = false → s.arbitrate.arbiter.copyClaim = some x) ∧
      (g = true → s.arbitrate.arbiter.copyClaim = none ∧
        s.arbitrate.arbiter.port = some { claimant := .copy, txn := x }) := by
  rcases arbitrate_copy s with ⟨hc, hclaim⟩ | ⟨y, hy, e⟩
  · refine ⟨false, hc.trans ?_, fun _ => hclaim.trans claim, nofun⟩
    have same : ({ k with granted := false } : ActiveJob) = k := by rw [← waits]
    rw [same, ← active]
  · cases hy.symm.trans claim
    refine ⟨true, ?_, nofun, fun _ => ?_⟩
    · rw [e, State.grantCopy, active]; rfl
    · rw [e]; exact ⟨rfl, rfl⟩

theorem arbitrate_copyPresented (claim : s.arbiter.copyClaim = some x) : s.arbitrate.copyPresented x := by
  rcases arbitrate_copy s with ⟨_, hclaim⟩ | ⟨y, hy, e⟩
  · exact .inl (hclaim.trans claim)
  · cases hy.symm.trans claim
    rw [e]; exact .inr rfl

theorem min_beats (n : Nat) : (if 128 ≤ n then 16 else n / 8) = min 16 (n / 8) := by
  split <;> omega

theorem nextBeats_eq (j : Job) : j.nextBeats = min 16 ((j.length - j.doneBytes) / 8) := min_beats _

theorem slotBase_congr {t : State} (h : (t.slot sl).home = (s.slot sl).home) :
    t.slotBase sl = s.slotBase sl := by
  unfold State.slotBase; rw [h]

/-- The read claim of a job (R122, R124). -/
theorem readClaim_eq (s : State) (j : Job) :
    s.readClaim j =
      { source := 7, kind := .read, address := s.slotBase j.slot + BitVec.ofNat 32 j.doneBytes
        beats := min 16 ((j.length - j.doneBytes) / 8), masks := [], data := [], lock := false } := by
  rw [← nextBeats_eq]; rfl

theorem enrol_home (s : State) (j : Job) (y : SlotId) : ((s.enrol j).slot y).home = (s.slot y).home := by
  show ((s.setSlot j.slot _).slot y).home = _
  rw [setSlot_slot]
  split
  · next e => subst e; rfl
  · rfl

/-- What a job that becomes ACTIVE at an idle engine leaves (R120 to R122). -/
theorem presentRead_arbitrate (s : State) (j : Job) :
    SameRecords s (s.presentRead j).arbitrate ∧
      (s.presentRead j).arbitrate.copyPresented (s.readClaim j) ∧
      ∃ g, (s.presentRead j).arbitrate.copy =
        { s.copy with active := some { job := j, half := .read, cancelled := false, granted := g } } := by
  obtain ⟨g, hcopy, -, -⟩ := arbitrate_claimed (s := s.presentRead j) rfl rfl rfl
  exact ⟨arbitrate_sameRecords ⟨rfl, rfl, rfl, rfl, rfl, rfl, rfl, rfl⟩, arbitrate_copyPresented rfl, g, hcopy⟩

/-! ### COPY (R119, R120) -/

theorem argsCopy_words (r : RingId) {n len : Nat} {dest : Addr} (auto : Bool) (hn : n ≤ 0xFFFFFFFF)
    (hl : len ≤ 0xFFFFFFFF) (hd : dest.toNat % 8 = 0) :
    argsCopy [idWord r, numWord n, dest, numWord len, boolWord auto] =
      some { ring := r, frame := n, dest := dest, length := len, autoRelease := auto } := by
  have auto' : readBool (boolWord auto) = some auto := by cases auto <;> rfl
  simp only [argsCopy, readFin_idWord r (by decide), auto', toNat_numWord (n := n) (by omega),
    toNat_numWord (n := len) (by omega), Option.bind_eq_bind, Option.bind_some, if_pos hd]

section
variable {y : CopyArgs}

theorem actCopy_of_none (h : s.heldWith y.ring y.frame = none) : actCopy s y = s.deny .noEntry := by
  simp only [actCopy, h]

theorem lengthOk_iff : s.lengthOk y = true ↔ y.length % 8 = 0 ∧ 8 ≤ y.length ∧ y.length ≤ s.slotBytes y.ring := by
  simp [State.lengthOk, and_assoc]

theorem actCopy_of_some (h : s.heldWith y.ring y.frame = some sl) :
    actCopy s y =
      if !s.lengthOk y then s.deny .badArg
      else if 2 ^ 32 < y.dest.toNat + y.length then s.deny .badArg
      else if s.regionTaken y.dest.toNat y.length then s.deny .conflict
      else if Config.jobCapacity ≤ s.copy.count then s.deny .noSpace
      else (s.submitJob y sl).doneWith [numWord s.copy.nextId] := by
  simp only [actCopy, h, numWord]

theorem actCopy_of_badLength (h : s.heldWith y.ring y.frame = some sl)
    (bad : y.length % 8 ≠ 0 ∨ y.length < 8 ∨ s.slotBytes y.ring < y.length ∨
      2 ^ 32 < y.dest.toNat + y.length) : actCopy s y = s.deny .badArg := by
  rw [actCopy_of_some h]
  by_cases ok : s.lengthOk y = true
  · obtain ⟨h1, h2, h3⟩ := lengthOk_iff.1 ok
    rw [if_neg (by rw [ok]; decide), if_pos]
    rcases bad with g | g | g | g <;> omega
  · rw [if_pos (by rw [Bool.eq_false_iff.2 ok]; rfl)]

section
variable (h : s.heldWith y.ring y.frame = some sl) (h8 : y.length % 8 = 0) (hmin : 8 ≤ y.length)
  (hmax : y.length ≤ s.slotBytes y.ring) (htop : y.dest.toNat + y.length ≤ 2 ^ 32)
include h h8 hmin hmax htop

theorem actCopy_of_goodLength :
    actCopy s y =
      if s.regionTaken y.dest.toNat y.length then s.deny .conflict
      else if Config.jobCapacity ≤ s.copy.count then s.deny .noSpace
      else (s.submitJob y sl).doneWith [numWord s.copy.nextId] := by
  rw [actCopy_of_some h, if_neg (by rw [lengthOk_iff.2 ⟨h8, hmin, hmax⟩]; decide), if_neg (Nat.not_lt.2 htop)]

theorem actCopy_of_conflict (hw : ¬ s.WindowFree y.dest y.length) : actCopy s y = s.deny .conflict := by
  rw [actCopy_of_goodLength h h8 hmin hmax htop, if_pos]
  rw [← regionTaken_eq_false_iff] at hw
  exact Bool.not_eq_false _ ▸ hw

theorem actCopy_of_full (hw : s.WindowFree y.dest y.length) (full : 4 ≤ s.copy.count) :
    actCopy s y = s.deny .noSpace := by
  rw [actCopy_of_goodLength h h8 hmin hmax htop,
    if_neg (Bool.eq_false_iff.1 ((regionTaken_eq_false_iff s _ _).2 hw))]
  exact if_pos full

theorem actCopy_of_accepted (hw : s.WindowFree y.dest y.length) (space : s.copy.count < 4) :
    actCopy s y = (s.submitJob y sl).doneWith [numWord s.copy.nextId] := by
  rw [actCopy_of_goodLength h h8 hmin hmax htop,
    if_neg (Bool.eq_false_iff.1 ((regionTaken_eq_false_iff s _ _).2 hw))]
  exact if_neg (Nat.not_le.2 space)

end

/-- The next-id counter after a job is accepted. -/
theorem submitted_idMoves (space : s.copy.count < 4) :
    s.IdMoves (nextUnused 255 (s.copy.ids ++ [s.copy.nextId]) s.copy.nextId) := by
  have hlen : (s.copy.ids ++ [s.copy.nextId]).length < 255 := by
    rw [CopyEngine.ids_eq, List.length_append, List.length_map, ← CopyEngine.count_eq]
    simp only [List.length_cons, List.length_nil]
    omega
  have moves := nextUnused_moves 255 (s.copy.ids ++ [s.copy.nextId]) s.copy.nextId hlen
  unfold State.IdMoves
  rwa [← CopyEngine.ids_eq]

theorem outside_submitJob (s : State) (l : Link) (z : Lines) (y : CopyArgs) (sl : SlotId) :
    (s.outside l z).submitJob y sl = (s.submitJob y sl).outside l z := by
  by_cases h : s.copy.active = none
  · rw [submitJob_idle h, submitJob_idle (s := s.outside l z) h]
    exact outside_arbitrate ((s.enrol (y.job s.copy.nextId sl)).presentRead (y.job s.copy.nextId sl)) l z
  · rw [submitJob_busy h, submitJob_busy (s := s.outside l z) h]
    rfl

end

end

/-- Settles O37: the checks in their order; an accepted job is QUEUED behind an ACTIVE one, and otherwise
ACTIVE with its first read claim waiting or granted. -/
theorem copyChecksAndSubmits : Obligations.CopyChecksAndSubmits := by
  rintro s r n len dest auto args h hn hl hd rfl
  have hp := argsCopy_words r auto hn hl hd
  refine ⟨fun hnone => ?_, fun sl hn0 hf => ?_⟩
  · have hheld : s.heldWith r n = none := by
      rcases hnone with rfl | hnone
      · exact heldWith_zero
      · exact heldWith_eq_none hnone
    exact congrArg Host.Outcome.next (takeCommand_denied_of h (by simp) hp fun bs =>
      actCopy_of_none (s := s.received bs) hheld)
  · rw [← heldWith_of_pos hn0] at hf
    refine ⟨fun hbad => ?_, fun h8 hmin hmax htop => ⟨fun hw => ?_, fun hw => ⟨fun full => ?_, ?_⟩⟩⟩
    · exact congrArg Host.Outcome.next (takeCommand_denied_of h (by simp) hp fun bs =>
        actCopy_of_badLength (s := s.received bs) hf hbad)
    · exact congrArg Host.Outcome.next (takeCommand_denied_of h (by simp) hp fun bs =>
        actCopy_of_conflict (s := s.received bs) hf h8 hmin hmax htop hw)
    · exact congrArg Host.Outcome.next (takeCommand_denied_of h (by simp) hp fun bs =>
        actCopy_of_full (s := s.received bs) hf h8 hmin hmax htop hw full)
    · rintro j space rfl
      have e : exec (.copy (requestFor 0x28 [idWord r, numWord n, dest, numWord len, boolWord auto])) s =
          .next ((s.submitJob ⟨r, n, dest, len, auto⟩ sl).answered 0x28
            [idWord r, numWord n, dest, numWord len, boolWord auto] .done [numWord s.copy.nextId]) :=
        congrArg Host.Outcome.next (takeCommand_unlinked_words
          (f := fun u => u.submitJob ⟨r, n, dest, len, auto⟩ sl)
          (fun u l z => outside_submitJob u l z _ sl) h (by simp) hp fun bs =>
            actCopy_of_accepted (s := s.received bs) hf h8 hmin hmax htop hw space)
      refine ⟨fun busy => ⟨_, submitted_idMoves space, ?_⟩, fun idle => ?_⟩
      · rw [e, submitJob_busy (Option.isSome_iff_ne_none.1 busy)]
        rfl
      · rw [e, submitJob_idle idle]
        obtain ⟨records, presented, g, hcopy⟩ := presentRead_arbitrate (s.enrol
          (CopyArgs.job ⟨r, n, dest, len, auto⟩ s.copy.nextId sl))
          (CopyArgs.job ⟨r, n, dest, len, auto⟩ s.copy.nextId sl)
        refine ⟨_, g, rfl, answered_answers .., records.slots, ?_, ?_, ?_, ?_, records.rings,
          records.apertures, arbitrate_notes _, arbitrate_steering _⟩
        · rw [answered_copy, hcopy]; rfl
        · rw [answered_copy, hcopy]; rfl
        · rw [answered_copy, hcopy]; exact submitted_idMoves space
        · rw [readClaim_eq, slotBase_congr (s := s) (enrol_home s _ _)] at presented
          simp only [CopyArgs.job, Nat.sub_zero, BitVec.add_zero] at presented
          exact presented

end Sys2Proof.Machine
end

section
/-! PROOFS: how copy jobs end (R4, R15, R121, R125 to R127), by COPY_CANCEL (O38) and by the responses to
their claims (O39, O40). -/

namespace Sys2Proof.Machine

section
variable {s t u : State} {j q : Job} {k : NoteKind} {f h : Nat} {release : Bool} {x : Txn}

/-! ### A job that leaves its slot (R4, R15) -/

/-- The slot of a job that has left the queue, with its release_requested field. -/
def State.jobGone (s : State) (j : Job) (release : Bool) : State :=
  s.setSlot j.slot
    { s.slot j.slot with jobs := (s.slot j.slot).jobs - 1, releaseRequested := release }

/-- The slot of a last job that goes free (R15). -/
def State.jobFreed (s : State) (j : Job) : State :=
  (s.setRing j.ring
    { s.ring j.ring with
      held := (s.ring j.ring).held.erase j.slot, free := (s.ring j.ring).free ++ [j.slot] }).setSlot j.slot
    { s.slot j.slot with
      jobs := 0, frame := none, retained := false, releaseRequested := false, passedBy := 0 }

/-- The note of the end of a job (R125 to R127, R130). -/
def Job.endNote (j : Job) (k : NoteKind) (d : Nat) : Note :=
  { kind := k, ring := some j.ring, slot := some j.slot, frame := some j.frame, tag := some j.id, detail := d }

theorem dueFree_jobGone : (s.jobGone j release).dueFree j.ring j.slot = true ↔ s.FreesAtEnd j release := by
  rw [State.dueFree, State.jobGone, setSlot_slot_self, setSlot_ring, Bool.and_eq_true, Bool.and_eq_true,
    decide_eq_true_iff, List.contains_iff_mem, and_assoc]
  rfl

theorem freeHeld_jobGone (hf : s.FreesAtEnd j release) :
    (s.jobGone j release).freeHeld j.ring j.slot = s.jobFreed j := by
  obtain ⟨-, hjobs, -⟩ := hf
  have hs := setSlot_setSlot (s.setRing j.ring
    { s.ring j.ring with
      held := (s.ring j.ring).held.erase j.slot, free := (s.ring j.ring).free ++ [j.slot] }) j.slot
    { s.slot j.slot with jobs := (s.slot j.slot).jobs - 1, releaseRequested := release }
    { s.slot j.slot with
      jobs := 0, frame := none, retained := false, releaseRequested := false, passedBy := 0 }
  rw [freeHeld_eq, State.jobGone, setSlot_slot_self, setSlot_ring, Slot.freed]
  rw [hjobs] at hs ⊢
  exact hs

theorem settleJob_of_freed (hf : s.FreesAtEnd j release) :
    (s.jobGone j release).settleJob j k f h =
      ((s.jobFreed j).raise (j.endNote k f)).applyRetirement j.slot := by
  have due := dueFree_jobGone.2 hf
  unfold State.settleJob
  simp only [due, if_true, freeHeld_jobGone hf]
  rfl

theorem settleJob_of_kept (hf : ¬ s.FreesAtEnd j release) :
    (s.jobGone j release).settleJob j k f h = (s.jobGone j release).raise (j.endNote k h) := by
  have due : (s.jobGone j release).dueFree j.ring j.slot = false :=
    Bool.eq_false_iff.2 fun e => hf (dueFree_jobGone.1 e)
  unfold State.settleJob
  simp only [due, if_false, Bool.false_eq_true]
  rfl

/-- What the end of a job does to slots, rings and notes, with no retirement waiting. -/
structure JobSettled (s u : State) (j : Job) (k : NoteKind) (release : Bool) (f h : Nat) : Prop where
  frame     : { u with slots := s.slots, rings := s.rings, notes := s.notes } = s
  home      : ∀ x, (u.slot x).home = (s.slot x).home
  others    : ∀ x, x ≠ j.slot → u.slot x = s.slot x
  kept      : ¬ s.FreesAtEnd j release →
    u.rings = s.rings ∧ u.notes = s.notes.push (j.endNote k h) ∧
      u.slot j.slot =
        { s.slot j.slot with jobs := (s.slot j.slot).jobs - 1, releaseRequested := release }
  freed     : s.FreesAtEnd j release →
    u.notes = s.notes.push (j.endNote k f) ∧
    u.ring j.ring =
        { s.ring j.ring with
          held := (s.ring j.ring).held.erase j.slot, free := (s.ring j.ring).free ++ [j.slot] } ∧
    u.slot j.slot =
        { s.slot j.slot with
          jobs := 0, frame := none, retained := false, releaseRequested := false, passedBy := 0 }

theorem settleJob_settled (hno : s.NoRetirements) (j : Job) (k : NoteKind) (release : Bool) (f h : Nat) :
    JobSettled s ((s.jobGone j release).settleJob j k f h) j k release f h := by
  by_cases hf : s.FreesAtEnd j release
  · have none : State.NoRetirements ((s.jobFreed j).raise (j.endNote k f)) := hno.congr rfl
    rw [settleJob_of_freed hf, applyRetirement_of_none _ (waitingRetirement_of_noRetirements none _)]
    refine ⟨rfl, fun x => ?_, fun x hx => setSlot_slot_ne _ _ hx.symm, fun e => absurd hf e, fun _ => ⟨rfl, ?_, ?_⟩⟩
    · show ((s.jobFreed j).slot x).home = _
      rw [State.jobFreed, setSlot_slot]
      split
      · next e => subst e; rfl
      · rfl
    · exact setRing_ring_self s j.ring _
    · exact setSlot_slot_self _ j.slot _
  · rw [settleJob_of_kept hf]
    refine ⟨rfl, fun x => ?_, fun x hx => setSlot_slot_ne _ _ hx.symm,
      fun _ => ⟨rfl, rfl, setSlot_slot_self s j.slot _⟩, fun e => absurd e hf⟩
    show ((s.jobGone j release).slot x).home = _
    rw [State.jobGone, setSlot_slot]
    split
    · next e => subst e; rfl
    · rfl

/-! ### The end of the ACTIVE job (R121, R125 to R127) -/

theorem endActive_eq (s : State) (j : Job) (k : NoteKind) (d : Nat) :
    s.endActive j k d =
      ((s.clearActive.jobGone j (s.slot j.slot).releaseRequested).settleJob j k d d).activateNext := rfl

theorem endDone_eq (s : State) (j : Job) :
    s.endDone j =
      ((s.clearActive.jobGone j ((s.slot j.slot).releaseRequested || j.autoRelease)).settleJob j
        .copyDone 1 0).activateNext := by
  unfold State.endDone
  cases hj : j.autoRelease with
  | false => rw [Bool.or_false]; rfl
  | true =>
    have drop : State.setSlot (s.clearActive.dropJobCount j.slot) j.slot
        { (s.clearActive.dropJobCount j.slot).slot j.slot with releaseRequested := true } =
        s.clearActive.jobGone j true := by
      rw [State.dropJobCount, setSlot_setSlot, setSlot_slot_self]; rfl
    rw [Bool.or_true]
    simp only [if_true, drop]

theorem abortQueued_eq (s : State) (j : Job) :
    s.abortQueued j =
      (State.jobGone { s with copy := { s.copy with queued := s.copy.queued.erase j } } j
        (s.slot j.slot).releaseRequested).settleJob j .copyAborted 0 0 := rfl

theorem activateNext_of_empty (hq : u.copy.queued = []) :
    u.activateNext = { u with arbiter := { u.arbiter with shareCount := 0 } } := by
  unfold State.activateNext; rw [hq]

theorem activateNext_of_next {js : List Job} (hq : u.copy.queued = q :: js) :
    u.activateNext = State.presentRead { u with copy := { u.copy with queued := js } } q := by
  unfold State.activateNext; rw [hq]

/-- With no COPY claim the grant decision has no part in the engine and the share count. -/
theorem arbitrate_of_noCopyClaim (hc : s.arbiter.copyClaim = none) :
    s.arbitrate.copy = s.copy ∧ s.arbitrate.arbiter.copyClaim = none ∧
      s.arbitrate.arbiter.shareCount = s.arbiter.shareCount := by
  cases hp : s.arbiter.port with
  | some g => rw [arbitrate_of_busy hp]; exact ⟨rfl, hc, rfl⟩
  | none =>
    cases hs : s.arbiter.steeringClaim with
    | none => rw [arbitrate_of_noClaim hp hs hc]; exact ⟨rfl, hc, rfl⟩
    | some y => rw [arbitrate_of_steeringAlone hp hs hc]; exact ⟨rfl, hc, rfl⟩

theorem activateNext_frame (u : State) :
    { u.activateNext with arbiter := u.arbiter, copy := u.copy } = u := by
  unfold State.activateNext
  split <;> rfl

theorem arbitrate_copyFrame (u : State) :
    { u.arbitrate with arbiter := u.arbiter, copy := u.copy } = u := by
  obtain ⟨a, c, e⟩ := arbitrate_frame u
  rw [e]

/-- The engine after a job has left it: the next one is ACTIVE, and the records are not touched. -/
theorem nextActive_frame (u : State) :
    { u.activateNext.arbitrate with arbiter := u.arbiter, copy := u.copy } = u :=
  (congrArg (fun v : State => { v with arbiter := u.arbiter, copy := u.copy })
    (arbitrate_copyFrame u.activateNext)).trans (activateNext_frame u)

/-- What the end of the ACTIVE job leaves: slots and rings as the end settles them, and the next job at
work. -/
theorem JobSettled.ended {s₀ : State} (hs : JobSettled s₀ u j k release f h)
    (copy : s₀.copy = { s.copy with active := none, staging := [] }) (claim : s₀.arbiter.copyClaim = none)
    (slots : s₀.slots = s.slots) (rings : s₀.rings = s.rings) :
    JobEnded s u.activateNext.arbitrate j release := by
  have frame := nextActive_frame u
  have ucopy : u.copy = { s.copy with active := none, staging := [] } := (congrArg State.copy hs.frame).trans copy
  have uclaim : u.arbiter.copyClaim = none :=
    (congrArg (fun v : State => v.arbiter.copyClaim) hs.frame :).trans claim
  have slot (y : SlotId) : u.activateNext.arbitrate.slot y = u.slot y :=
    (congrArg (fun v : State => v.slot y) frame :)
  have ring (y : RingId) : u.activateNext.arbitrate.ring y = u.ring y :=
    (congrArg (fun v : State => v.ring y) frame :)
  have before (y : SlotId) : s₀.slot y = s.slot y := by simp only [State.slot, slots]
  have ringBefore (y : RingId) : s₀.ring y = s.ring y := by simp only [State.ring, rings]
  have frees : s₀.FreesAtEnd j release ↔ s.FreesAtEnd j release := by
    unfold State.FreesAtEnd; rw [before, ringBefore]
  refine ⟨fun n hn => ?_, ?_, ?_, fun hq => ?_, fun y hy => ?_, fun hk => ?_, fun hk => ?_⟩
  · obtain ⟨js, hq⟩ := List.head?_eq_some_iff.1 hn
    rw [activateNext_of_next (u := u) (q := n) (js := js) (by rw [ucopy]; exact hq)]
    obtain ⟨g, hcopy, hwait, hgrant⟩ := arbitrate_claimed
      (s := State.presentRead { u with copy := { u.copy with queued := js } } n) rfl rfl rfl
    have home : (u.slot n.slot).home = (s.slot n.slot).home := (hs.home n.slot).trans (by rw [before])
    have same : State.readClaim { u with copy := { u.copy with queued := js } } n = _ :=
      (readClaim_eq _ n).trans (congrArg (fun b => ({
        source := 7, kind := .read, address := b + BitVec.ofNat 32 n.doneBytes
        beats := min 16 ((n.length - n.doneBytes) / 8), masks := [], data := [], lock := false } : Txn))
        (slotBase_congr (s := s) home))
    exact ⟨g, _, rfl, by rw [hcopy], fun e => (hwait e).trans (congrArg some same), fun e =>
      ⟨(hgrant e).1, (hgrant e).2.trans (by rw [same])⟩⟩
  · cases hq : u.copy.queued with
    | nil =>
      rw [activateNext_of_empty hq, (arbitrate_of_noCopyClaim (by exact uclaim)).1]
      rw [ucopy] at hq ⊢
      show s.copy.queued = _
      rw [show s.copy.queued = [] from hq]
      rfl
    | cons n js =>
      rw [activateNext_of_next hq]
      obtain ⟨g, hcopy, -, -⟩ := arbitrate_claimed
        (s := State.presentRead { u with copy := { u.copy with queued := js } } n) rfl rfl rfl
      rw [hcopy]
      rw [ucopy] at hq
      exact (congrArg List.tail hq).symm
  · cases hq : u.copy.queued with
    | nil =>
      rw [activateNext_of_empty hq, (arbitrate_of_noCopyClaim (by exact uclaim)).1]
      exact (congrArg CopyEngine.staging ucopy :)
    | cons n js =>
      rw [activateNext_of_next hq]
      obtain ⟨g, hcopy, -, -⟩ := arbitrate_claimed
        (s := State.presentRead { u with copy := { u.copy with queued := js } } n) rfl rfl rfl
      rw [hcopy]
      exact (congrArg CopyEngine.staging ucopy :)
  · rw [activateNext_of_empty (u := u) (by rw [ucopy]; exact hq)]
    obtain ⟨h1, h2, h3⟩ := arbitrate_of_noCopyClaim
      (s := { u with arbiter := { u.arbiter with shareCount := 0 } }) uclaim
    exact ⟨by rw [h1]; exact (congrArg CopyEngine.active ucopy :), h2, h3⟩
  · rw [slot, hs.others y hy, before]
  · obtain ⟨hr, -, hsl⟩ := hs.kept fun e => hk (frees.1 e)
    exact ⟨(congrArg State.rings frame :).trans (hr.trans rings), by rw [slot, hsl, before]⟩
  · obtain ⟨-, hr, hsl⟩ := hs.freed (frees.2 hk)
    exact ⟨by rw [ring, hr, ringBefore], by rw [slot, hsl, before]⟩

end

end Sys2Proof.Machine
end

section
/-! PROOFS: COPY_CANCEL (O38, R127) and the responses to read and write claims (O39, O40, R122, R123). -/

namespace Sys2Proof.Machine

section
variable {s s₀ t u : State} {j q : Job} {k : NoteKind} {f h d : Nat} {x : Txn}

/-! ### The ends of jobs beside the link -/

theorem outside_settleJob (s : State) (l : Link) (z : Lines) (j : Job) (k : NoteKind) (f h : Nat) :
    (s.outside l z).settleJob j k f h = (s.settleJob j k f h).outside l z := by
  have due : (s.outside l z).dueFree j.ring j.slot = s.dueFree j.ring j.slot := rfl
  unfold State.settleJob
  cases hd : s.dueFree j.ring j.slot with
  | false =>
    simp only [due, hd, if_false, Bool.false_eq_true]
    rfl
  | true =>
    simp only [due, hd, if_true]
    rw [show (s.outside l z).freeHeld j.ring j.slot = (s.freeHeld j.ring j.slot).outside l z from rfl,
      outside_raise, outside_applyRetirement]

theorem outside_activateNext (s : State) (l : Link) (z : Lines) :
    (s.outside l z).activateNext = s.activateNext.outside l z := by
  cases hq : s.copy.queued with
  | nil => rw [activateNext_of_empty hq, activateNext_of_empty (u := s.outside l z) hq]; rfl
  | cons q js =>
    rw [activateNext_of_next hq, activateNext_of_next (u := s.outside l z) hq]
    rfl

theorem unlinked_endActive (j : Job) (k : NoteKind) (d : Nat) :
    Unlinked fun s => (s.endActive j k d).arbitrate := fun s l z => by
  have settle := outside_settleJob (s.clearActive.jobGone j (s.slot j.slot).releaseRequested) l z j k d d
  refine (congrArg (fun v : State => v.activateNext.arbitrate) settle).trans ?_
  rw [outside_activateNext]
  exact outside_arbitrate _ l z

theorem unlinked_abortQueued (j : Job) : Unlinked fun s => s.abortQueued j := fun s l z =>
  outside_settleJob (State.jobGone { s with copy := { s.copy with queued := s.copy.queued.erase j } } j
    (s.slot j.slot).releaseRequested) l z j .copyAborted 0 0

/-! ### What the end of the ACTIVE job leaves (R121, R125 to R127) -/

/-- The next job at work after the end of the ACTIVE one, and what the end leaves alone. -/
theorem JobSettled.completed {release : Bool} (hs : JobSettled s₀.clearActive u j k release f h)
    (copy : s₀.copy = s.copy) (slots : s₀.slots = s.slots) (rings : s₀.rings = s.rings) :
    JobEnded s u.activateNext.arbitrate j release ∧ u.activateNext.arbitrate.notes = u.notes ∧
      u.activateNext.arbitrate.link = s₀.link ∧ u.activateNext.arbitrate.steering = s₀.steering ∧
      (∀ g, s₀.arbiter.port = some g → u.activateNext.arbitrate.arbiter.port = some g) := by
  have frame := nextActive_frame u
  refine ⟨hs.ended (by rw [← copy]; rfl) rfl slots rings, (congrArg State.notes frame :),
    (congrArg State.link frame :).trans (congrArg State.link hs.frame :),
    (congrArg State.steering frame :).trans (congrArg State.steering hs.frame :), fun g hg => ?_⟩
  have port : u.activateNext.arbiter.port = some g := by
    have before : u.arbiter.port = some g := (congrArg (fun v : State => v.arbiter.port) hs.frame :).trans hg
    rcases activateNext_cases u with ⟨-, e⟩ | ⟨_, _, -, e⟩ <;> rw [e] <;> exact before
  rw [arbitrate_of_busy port]
  exact port

theorem endActive_completed (hno : s₀.NoRetirements) (copy : s₀.copy = s.copy) (slots : s₀.slots = s.slots)
    (rings : s₀.rings = s.rings) (notes : s₀.notes = s.notes) :
    JobEnded s (s₀.endActive j k d).arbitrate j (s.slot j.slot).releaseRequested ∧
      (s₀.endActive j k d).arbitrate.notes = s.notes.push (j.endNote k d) ∧
      (s₀.endActive j k d).arbitrate.link = s₀.link ∧ (s₀.endActive j k d).arbitrate.steering = s₀.steering ∧
      (∀ g, s₀.arbiter.port = some g → (s₀.endActive j k d).arbitrate.arbiter.port = some g) := by
  have hs := settleJob_settled (s := s₀.clearActive) (hno.congr rfl) j k (s₀.slot j.slot).releaseRequested d d
  obtain ⟨ended, hn, hrest⟩ := hs.completed copy slots rings
  rw [show s₀.slot j.slot = s.slot j.slot by simp only [State.slot, slots]] at ended hn hrest hs
  rw [endActive_eq, show s₀.slot j.slot = s.slot j.slot by simp only [State.slot, slots]]
  refine ⟨ended, hn.trans ?_, hrest⟩
  by_cases hf : s₀.clearActive.FreesAtEnd j (s.slot j.slot).releaseRequested
  · rw [(hs.freed hf).1, ← notes]; rfl
  · rw [(hs.kept hf).2.1, ← notes]; rfl

theorem JobEnded.answered {release : Bool} (ht : JobEnded s t j release) (code : Byte) (args : List Word)
    (y : Status) (ws : List Word) : JobEnded s (t.answered code args y ws) j release :=
  ⟨ht.next, ht.queued, ht.staging, ht.last, ht.others, ht.kept, ht.freed⟩

/-! ### COPY_CANCEL (R127) -/

theorem actCopyCancel_of_none {id : Nat}
    (hno : id = 0 ∨ ((∀ j, s.copy.active = some j → j.job.id ≠ id) ∧ ∀ q ∈ s.copy.queued, q.id ≠ id)) :
    actCopyCancel s id = s.deny .noEntry := by
  unfold actCopyCancel
  rcases hno with rfl | ⟨active, queued⟩
  · rfl
  · split
    · rfl
    · split
      · rfl
      · next j hj =>
        rw [if_neg (active j hj), List.find?_eq_none.2 fun q hq => by simpa using queued q hq]

section
variable {id : Nat} {a : ActiveJob} (hid : id ≠ 0) (hj : s.copy.active = some a)
include hid hj

theorem actCopyCancel_of_granted (hjd : a.job.id = id) (hg : a.granted = true)
    {g : Grant} (port : s.arbiter.port = some g) :
    actCopyCancel s id =
      State.done { s with copy := { s.copy with active := some { a with cancelled := true } } } := by
  unfold actCopyCancel State.cancelActive
  rw [if_neg hid, hj]
  simp only [hjd, hg, if_true]
  exact congrArg State.done (arbitrate_of_busy (g := g) port)

theorem actCopyCancel_of_waiting (hjd : a.job.id = id) (hg : a.granted = false) :
    actCopyCancel s id = ((s.endActive a.job .copyAborted 1).arbitrate).done := by
  unfold actCopyCancel State.cancelActive
  rw [if_neg hid, hj]
  simp only [hjd, hg, if_true, if_false, Bool.false_eq_true]

theorem actCopyCancel_of_queued (hjd : a.job.id ≠ id)
    (hq : s.copy.queued.find? (fun x => decide (x.id = id)) = some q) :
    actCopyCancel s id = (s.abortQueued q).done := by
  unfold actCopyCancel
  rw [if_neg hid, hj]
  simp only [hjd, if_false, hq]

end

end

/-- Settles O38: no job, the ACTIVE job granted or waiting, and a QUEUED job. -/
theorem copyCancelEndsTheJob : Obligations.CopyCancelEndsTheJob := by
  intro s id h hid hc hno
  have hp : argsRange 0 255 [numWord id] = some id := readRange_numWord (Nat.zero_le _) hid (by decide)
  refine ⟨fun none => ?_, fun j hj hjd hid0 => ⟨fun hg => ?_, fun hg => ?_⟩, fun j q hj hjd hid0 hq => ?_⟩
  · exact congrArg Host.Outcome.next (takeCommand_denied_of h (by simp) hp fun bs =>
      actCopyCancel_of_none (s := s.received bs) none)
  · obtain ⟨-, x, port⟩ := hc.onPort j hj hg
    exact congrArg Host.Outcome.next (takeCommand_done_of h (by simp) hp fun bs =>
      actCopyCancel_of_granted (s := s.received bs) hid0 hj hjd hg port)
  · have e : exec (.copyCancel (requestFor 0x29 [numWord id])) s =
        .next (((s.endActive j.job .copyAborted 1).arbitrate).answered 0x29 [numWord id] .done []) :=
      congrArg Host.Outcome.next (takeCommand_unlinked (unlinked_endActive j.job .copyAborted 1) h
        (by simp) hp fun bs => actCopyCancel_of_waiting (s := s.received bs) hid0 hj hjd hg)
    obtain ⟨ended, notes, -, -, port⟩ := endActive_completed (j := j.job) (k := .copyAborted) (d := 1) hno
      (rfl : s.copy = s.copy) rfl rfl rfl
    exact ⟨_, e, answered_answers .., ended.answered .., port, notes⟩
  · have e : exec (.copyCancel (requestFor 0x29 [numWord id])) s =
        .next ((s.abortQueued q).answered 0x29 [numWord id] .done []) :=
      congrArg Host.Outcome.next (takeCommand_unlinked (unlinked_abortQueued q) h (by simp) hp
        fun bs => actCopyCancel_of_queued (s := s.received bs) hid0 hj hjd hq)
    have hs := settleJob_settled (s := { s with copy := { s.copy with queued := s.copy.queued.erase q } })
      (hno.congr rfl) q .copyAborted (s.slot q.slot).releaseRequested 0 0
    rw [abortQueued_eq] at e
    refine ⟨_, e, answered_answers .., (congrArg State.copy hs.frame :), (congrArg State.arbiter hs.frame :),
      hs.others, fun hk => ?_, fun hf => ?_, ?_⟩
    · obtain ⟨hr, -, hsl⟩ := hs.kept hk
      exact ⟨hr, hsl⟩
    · obtain ⟨-, hr, hsl⟩ := hs.freed hf
      exact ⟨hr, (congrArg Slot.frame hsl :), (congrArg Slot.releaseRequested hsl :)⟩
    · by_cases hf : s.FreesAtEnd q (s.slot q.slot).releaseRequested
      · exact (hs.freed hf).1
      · exact (hs.kept hf).2.1

section
variable {s : State} {x : Txn} {a : ActiveJob} {resp : MResponse} {o : BusOutcome} {kind : TxnKind}

/-! ### The responses to copy claims (R122, R123, R132) -/

theorem copyOnPort_of_port (port : s.arbiter.port = some { claimant := .copy, txn := x }) (hk : x.kind = kind) :
    s.copyOnPort kind = true := by
  unfold State.copyOnPort
  rw [port]
  simp [hk]

theorem jobOnPort_of_granted (hj : s.copy.active = some a) (hg : a.granted = true) : s.jobOnPort = some a := by
  unfold State.jobOnPort
  simp only [hj, hg, if_true]

theorem jobOnPort_of_waiting (hj : s.copy.active = some a) (hg : a.granted = false) : s.jobOnPort = none := by
  unfold State.jobOnPort
  simp only [hj, hg, if_false, Bool.false_eq_true]

theorem jobOnPort_of_none (hj : s.copy.active = none) : s.jobOnPort = none := by
  unfold State.jobOnPort
  rw [hj]

theorem copyReadResponse_of_job (port : s.copyOnPort .read = true) (hj : s.jobOnPort = some a) :
    s.copyReadResponse resp = (s.freePort.readDone a resp).arbitrate := by
  unfold State.copyReadResponse
  rw [if_pos port, hj]

theorem copyReadResponse_of_orphan (port : s.copyOnPort .read = true) (hj : s.jobOnPort = none) :
    s.copyReadResponse resp = s.freePort.arbitrate := by
  unfold State.copyReadResponse
  rw [if_pos port, hj]

theorem copyWriteResponse_of_job (port : s.copyOnPort .write = true) (hj : s.jobOnPort = some a) :
    s.copyWriteResponse o = (s.freePort.writeDone a o).arbitrate := by
  unfold State.copyWriteResponse
  rw [if_pos port, hj]

theorem copyWriteResponse_of_orphan (port : s.copyOnPort .write = true) (hj : s.jobOnPort = none) :
    s.copyWriteResponse o = s.freePort.arbitrate := by
  unfold State.copyWriteResponse
  rw [if_pos port, hj]

theorem freePort_sameRecords (s : State) : SameRecords s s.freePort :=
  ⟨rfl, rfl, rfl, rfl, rfl, rfl, rfl, rfl⟩

/-- A discarded response: the Arbiter may grant the claim that waits behind the transaction (R132). -/
theorem discarded_waiting (hj : s.copy.active = some a) (hg : a.granted = false) :
    ∃ g, SameRecords s s.freePort.arbitrate ∧ s.freePort.arbitrate.notes = s.notes ∧
      s.freePort.arbitrate.steering = s.steering ∧
      s.freePort.arbitrate.copy = { s.copy with active := some { a with granted := g } } ∧
      ∀ y, s.arbiter.copyClaim = some y → s.freePort.arbitrate.copyPresented y := by
  have stay : { s.copy with active := some { a with granted := false } } = s.copy := by
    rw [← hg, ← hj]
  have copy : ∃ g, s.freePort.arbitrate.copy = { s.copy with active := some { a with granted := g } } := by
    rcases arbitrate_copy s.freePort with ⟨e, -⟩ | ⟨y, -, e⟩
    · exact ⟨false, e.trans stay.symm⟩
    · refine ⟨true, (congrArg State.copy e).trans ?_⟩
      show ({ s.copy with active := s.copy.active.map fun j => { j with granted := true } } : CopyEngine) = _
      rw [hj]; rfl
  obtain ⟨g, hcopy⟩ := copy
  exact ⟨g, arbitrate_sameRecords (freePort_sameRecords s), arbitrate_notes _, arbitrate_steering _, hcopy,
    fun y hy => arbitrate_copyPresented (s := s.freePort) hy⟩

theorem discarded_idle (hj : s.copy.active = none) :
    SameRecords s s.freePort.arbitrate ∧ s.freePort.arbitrate.notes = s.notes ∧
      s.freePort.arbitrate.steering = s.steering ∧ s.freePort.arbitrate.copy = s.copy := by
  refine ⟨arbitrate_sameRecords (freePort_sameRecords s), arbitrate_notes _, arbitrate_steering _, ?_⟩
  rcases arbitrate_copy s.freePort with ⟨e, -⟩ | ⟨y, -, e⟩
  · exact e
  · refine (congrArg State.copy e).trans ?_
    show ({ s.copy with active := s.copy.active.map fun j => { j with granted := true } } : CopyEngine) = _
    rw [hj, Option.map_none, ← hj]

theorem readDone_of_cancelled (hc : a.cancelled = true) :
    s.readDone a resp = s.endActive a.job .copyAborted 1 := by
  unfold State.readDone
  rw [if_pos hc]

theorem readDone_of_fault (hc : a.cancelled = false) (ho : resp.outcome = .fault) :
    s.readDone a resp = s.endActive a.job .copyFailed 1 := by
  unfold State.readDone
  rw [if_neg (by rw [hc]; decide), ho]

theorem readDone_of_okay (hc : a.cancelled = false) (ho : resp.outcome = .okay) :
    s.readDone a resp = State.presentWrite
      { s with copy := { s.copy with staging := resp.data.take a.job.nextBeats } } a.job := by
  unfold State.readDone
  rw [if_neg (by rw [hc]; decide), ho]

theorem readDone_of_ended (he : a.cancelled = true ∨ resp.outcome = .fault) :
    s.readDone a resp = s.endActive a.job (if a.cancelled then .copyAborted else .copyFailed) 1 := by
  cases hc : a.cancelled with
  | true => exact readDone_of_cancelled hc
  | false => exact readDone_of_fault hc (he.resolve_left (by rw [hc]; decide))

theorem writeDone_of_cancelled (hc : a.cancelled = true) :
    s.writeDone a o = s.endActive a.job .copyAborted 1 := by
  unfold State.writeDone
  rw [if_pos hc]

theorem writeDone_of_fault (hc : a.cancelled = false) :
    s.writeDone a .fault = s.endActive a.job .copyFailed 2 := by
  unfold State.writeDone
  rw [if_neg (by rw [hc]; decide)]

theorem writeDone_of_ended (he : a.cancelled = true ∨ o = .fault) :
    s.writeDone a o = s.endActive a.job (if a.cancelled then .copyAborted else .copyFailed)
      (if a.cancelled then 1 else 2) := by
  cases hc : a.cancelled with
  | true => exact writeDone_of_cancelled hc
  | false =>
    obtain rfl := he.resolve_left (by rw [hc]; decide)
    exact writeDone_of_fault hc

theorem writeDone_of_last (hc : a.cancelled = false) (hl : a.job.advanced.length ≤ a.job.advanced.doneBytes) :
    s.writeDone a .okay = s.endDone a.job.advanced := by
  unfold State.writeDone
  rw [if_neg (by rw [hc]; decide)]
  exact if_pos hl

theorem writeDone_of_more (hc : a.cancelled = false) (hl : a.job.advanced.doneBytes < a.job.advanced.length) :
    s.writeDone a .okay = s.presentRead a.job.advanced := by
  unfold State.writeDone
  rw [if_neg (by rw [hc]; decide)]
  exact if_neg (Nat.not_le.2 hl)

theorem advanced_eq {b : Nat} {j : Job} (hb : b = min 16 ((j.length - j.doneBytes) / 8)) :
    j.advanced = { j with doneBytes := j.doneBytes + 8 * b } := by
  rw [hb, ← nextBeats_eq]; rfl

theorem presentWrite_arbitrate (s : State) (j : Job) :
    SameRecords s (s.presentWrite j).arbitrate ∧
      (s.presentWrite j).arbitrate.copyPresented (j.writeClaim s.copy.staging) ∧
      ∃ g, (s.presentWrite j).arbitrate.copy =
        { s.copy with
          active := some { job := j, half := .write, cancelled := false, granted := g }, staging := [] } := by
  obtain ⟨g, hcopy, -, -⟩ := arbitrate_claimed (s := s.presentWrite j) rfl rfl rfl
  exact ⟨arbitrate_sameRecords ⟨rfl, rfl, rfl, rfl, rfl, rfl, rfl, rfl⟩, arbitrate_copyPresented rfl, g, hcopy⟩

/-- What the end of a DONE job leaves, with the detail of COPY_DONE (R125). -/
theorem endDone_completed (hno : s.NoRetirements) (j : Job) {release : Bool}
    (hrel : release = ((s.slot j.slot).releaseRequested || j.autoRelease)) :
    JobEnded s (s.freePort.endDone j).arbitrate j release ∧
      (s.FreesAtEnd j release →
        (s.freePort.endDone j).arbitrate.notes = s.notes.push (j.endNote .copyDone 1)) ∧
      (¬ s.FreesAtEnd j release →
        (s.freePort.endDone j).arbitrate.notes = s.notes.push (j.endNote .copyDone 0)) ∧
      (s.freePort.endDone j).arbitrate.link = s.link ∧
      (s.freePort.endDone j).arbitrate.steering = s.steering := by
  have hs := settleJob_settled (s := s.freePort.clearActive) (hno.congr rfl) j .copyDone release 1 0
  obtain ⟨ended, notes, link, steering, -⟩ := hs.completed (s := s) rfl rfl rfl
  rw [endDone_eq, show (s.freePort.slot j.slot) = s.slot j.slot from rfl, ← hrel]
  exact ⟨ended, fun hf => notes.trans (hs.freed hf).1, fun hk => notes.trans (hs.kept hk).2.1, link, steering⟩

end

/-- Settles O39: the write claim follows, the job ends, or the response is discarded. -/
theorem copyReadResponseGoesOn : Obligations.CopyReadResponseGoesOn := by
  intro s resp x hno port hx
  have onPort := copyOnPort_of_port port hx
  refine ⟨fun j hj hg => ?_, fun j hj hg => ?_, fun hj => ?_⟩
  · have e : exec (.copyReadResponse resp) s = .next (s.freePort.readDone j resp).arbitrate :=
      congrArg Host.Outcome.next (copyReadResponse_of_job onPort (jobOnPort_of_granted hj hg))
    by_cases he : j.cancelled = true ∨ resp.outcome = .fault
    · obtain ⟨ended, notes, link, steering, -⟩ := endActive_completed (s := s) (s₀ := s.freePort) (j := j.job)
        (k := if j.cancelled then .copyAborted else .copyFailed) (d := 1) (hno.congr rfl) rfl rfl rfl rfl
      rw [readDone_of_ended he] at e
      refine ⟨_, e, link, steering, fun hc ho => ?_, fun _ => ⟨ended, notes⟩⟩
      rw [hc, ho] at he
      rcases he with he | he <;> cases he
    · obtain ⟨hc, ho⟩ := not_or.1 he
      have hc : j.cancelled = false := Bool.eq_false_iff.2 hc
      have ho : resp.outcome = .okay := by cases hr : resp.outcome with
        | okay => rfl
        | fault => exact absurd hr ho
      rw [readDone_of_okay hc ho] at e
      obtain ⟨records, presented, g, copy⟩ := presentWrite_arbitrate
        { s.freePort with copy := { s.copy with staging := resp.data.take j.job.nextBeats } } j.job
      refine ⟨_, e, records.link, arbitrate_steering _, fun _ _ => ⟨⟨records.pending, records.link, records.lines,
        records.slots, records.rings, records.apertures, records.schedules, records.changes⟩, arbitrate_notes _,
        ⟨g, copy⟩, fun b hb => ?_⟩, fun h => absurd h he⟩
      rw [← nextBeats_eq] at hb
      subst hb
      exact presented
  · obtain ⟨g, records, notes, steering, copy, presented⟩ := discarded_waiting hj hg
    exact ⟨_, g, congrArg Host.Outcome.next (copyReadResponse_of_orphan onPort (jobOnPort_of_waiting hj hg)),
      records, notes, steering, copy, presented⟩
  · obtain ⟨records, notes, steering, copy⟩ := discarded_idle hj
    exact ⟨_, congrArg Host.Outcome.next (copyReadResponse_of_orphan onPort (jobOnPort_of_none hj)),
      records, notes, steering, copy⟩

/-- Settles O40: the next read claim follows, the job ends DONE, FAILED or ABORTED, or the response is
discarded. -/
theorem copyWriteResponseGoesOn : Obligations.CopyWriteResponseGoesOn := by
  intro s o x hno port hx
  have onPort := copyOnPort_of_port port hx
  refine ⟨fun j b hj hg hb => ?_, fun j hj hg => ?_, fun hj => ?_⟩
  · have e : exec (.copyWriteResponse o) s = .next (s.freePort.writeDone j o).arbitrate :=
      congrArg Host.Outcome.next (copyWriteResponse_of_job onPort (jobOnPort_of_granted hj hg))
    by_cases he : j.cancelled = true ∨ o = .fault
    · obtain ⟨ended, notes, link, steering, -⟩ := endActive_completed (s := s) (s₀ := s.freePort) (j := j.job)
        (k := if j.cancelled then .copyAborted else .copyFailed) (d := if j.cancelled then 1 else 2)
        (hno.congr rfl) rfl rfl rfl rfl
      rw [writeDone_of_ended he] at e
      have gone (hc : j.cancelled = false) (ho : o = .okay) : False := by
        rw [hc, ho] at he
        rcases he with he | he <;> cases he
      exact ⟨_, e, link, steering, fun hc ho => (gone hc ho).elim, fun hc ho => (gone hc ho).elim,
        fun _ => ⟨ended, notes⟩⟩
    · obtain ⟨hc, ho⟩ := not_or.1 he
      have hc : j.cancelled = false := Bool.eq_false_iff.2 hc
      obtain rfl : o = .okay := by cases o with
        | okay => rfl
        | fault => exact absurd rfl ho
      have adv := advanced_eq hb
      by_cases hl : j.job.length ≤ j.job.doneBytes + 8 * b
      · rw [writeDone_of_last hc (by rw [adv]; exact hl), adv] at e
        obtain ⟨-, -, -, link, steering⟩ := endDone_completed hno
          { j.job with doneBytes := j.job.doneBytes + 8 * b } rfl
        refine ⟨_, e, link, steering, fun _ _ h => absurd h (Nat.not_lt.2 hl), fun _ _ _ release hrel => ?_,
          fun h => absurd h he⟩
        obtain ⟨ended, freed, kept, -, -⟩ := endDone_completed hno
          { j.job with doneBytes := j.job.doneBytes + 8 * b } hrel
        exact ⟨⟨ended.next, ended.queued, ended.staging, ended.last, ended.others, ended.kept, ended.freed⟩,
          freed, kept⟩
      · rw [writeDone_of_more hc (by rw [adv]; exact Nat.lt_of_not_le hl), adv] at e
        obtain ⟨records, presented, g, copy⟩ := presentRead_arbitrate s.freePort
          { j.job with doneBytes := j.job.doneBytes + 8 * b }
        rw [readClaim_eq] at presented
        exact ⟨_, e, records.link, arbitrate_steering _, fun _ _ _ => ⟨⟨records.pending, records.link, records.lines,
          records.slots, records.rings, records.apertures, records.schedules, records.changes⟩,
          arbitrate_notes _, ⟨g, copy⟩, presented⟩, fun _ _ h => absurd h hl, fun h => absurd h he⟩
  · obtain ⟨g, records, notes, steering, copy, presented⟩ := discarded_waiting hj hg
    exact ⟨_, g, congrArg Host.Outcome.next (copyWriteResponse_of_orphan onPort (jobOnPort_of_waiting hj hg)),
      records, notes, steering, copy, presented⟩
  · obtain ⟨records, notes, steering, copy⟩ := discarded_idle hj
    exact ⟨_, congrArg Host.Outcome.next (copyWriteResponse_of_orphan onPort (jobOnPort_of_none hj)),
      records, notes, steering, copy⟩

end Sys2Proof.Machine
end

section
/-! PROOFS: what RESET_CORE leaves (O4, R25, R48, R132, R143, R177). -/

namespace Sys2Proof.Machine

section
variable {s t u : State} {x : Txn}

/-- With every aperture OFF and no COPY claim, the Arbiter and the port move transactions alone. -/
structure Unclaimed (s t : State) : Prop where
  records : SameRecords s t
  notes   : t.notes = s.notes
  copy    : t.copy = s.copy
  claim   : t.arbiter.copyClaim = none
  count   : t.arbiter.shareCount = s.arbiter.shareCount
  share   : t.arbiter.share = s.arbiter.share
  port    : ∀ g, s.arbiter.port = some g → t.arbiter.port = some g
  aOut    : t.aOut = s.aOut

theorem Unclaimed.refl (hc : s.arbiter.copyClaim = none) : Unclaimed s s :=
  ⟨⟨rfl, rfl, rfl, rfl, rfl, rfl, rfl, rfl⟩, rfl, rfl, hc, rfl, rfl, fun _ h => h, rfl⟩

theorem Unclaimed.trans (h : Unclaimed s t) (k : Unclaimed t u) : Unclaimed s u where
  records := ⟨k.records.pending.trans h.records.pending, k.records.link.trans h.records.link,
    k.records.lines.trans h.records.lines, k.records.slots.trans h.records.slots,
    k.records.rings.trans h.records.rings, k.records.apertures.trans h.records.apertures,
    k.records.schedules.trans h.records.schedules, k.records.changes.trans h.records.changes⟩
  notes := k.notes.trans h.notes
  copy := k.copy.trans h.copy
  claim := k.claim
  count := k.count.trans h.count
  share := k.share.trans h.share
  port := fun g hg => k.port g (h.port g hg)
  aOut := k.aOut.trans h.aOut

theorem Unclaimed.arbitrate (h : Unclaimed s t) : Unclaimed s t.arbitrate := by
  refine h.trans ?_
  have hc := h.claim
  cases hp : t.arbiter.port with
  | some g => rw [arbitrate_of_busy hp]; exact .refl hc
  | none =>
    cases hs : t.arbiter.steeringClaim with
    | none => rw [arbitrate_of_noClaim hp hs hc]; exact .refl hc
    | some y =>
      rw [arbitrate_of_steeringAlone hp hs hc]
      exact ⟨⟨rfl, rfl, rfl, rfl, rfl, rfl, rfl, rfl⟩, rfl, rfl, hc, rfl, rfl,
        fun g hg => absurd (hp.symm.trans hg) nofun, rfl⟩

theorem drainPort_of_notOpened (h : s.steering.phase ≠ .opened) (n : Nat) : State.drainPort n s = s := by
  cases n with
  | zero => rfl
  | succ n =>
    unfold State.drainPort
    split
    · next e _ => exact absurd e h
    · rfl

theorem untouched_of_reset (ha : ∀ a, s.ap a = Aperture.atReset) (x : Txn) (a : ApId) : ¬ s.touches x a := by
  rintro ⟨on, -⟩
  exact apOn_eq_true.1 on (by rw [ha a]; rfl)

theorem nonePending_of_reset (ha : ∀ a, s.ap a = Aperture.atReset) : s.NonePending := fun a => by
  rw [ha a]; rfl

theorem drainPort_of_reset (ha : ∀ a, s.ap a = Aperture.atReset) (hc : s.arbiter.copyClaim = none) (n : Nat) :
    Unclaimed s (State.drainPort n s) := by
  cases n with
  | zero => exact .refl hc
  | succ n =>
    unfold State.drainPort
    split
    · next y rest hp hw =>
      have next : s.acceptNext = (State.lockAccept { s with steering := { s.steering with waiting := rest } } y
          none).forward y y none := by
        unfold State.acceptNext
        rw [hp, hw]
        exact accept_of_untouched fun a => untouched_of_reset (s := { s with steering := _ }) ha y a
      have un : Unclaimed s s.acceptNext.arbitrate := by
        refine Unclaimed.arbitrate ?_
        rw [next]
        exact ⟨⟨rfl, rfl, rfl, rfl, rfl, rfl, rfl, rfl⟩, rfl, rfl, hc, rfl, rfl, fun _ h => h, rfl⟩
      have none : s.acceptNext.NonePending := by
        rw [next]; exact nonePending_of_reset ha
      rw [runPending_of_idle fun a => canRun_of_nonePending none a, drainPort_of_notOpened]
      · exact un
      · rw [arbitrate_steering, next]
        exact fun e => by cases e
    · exact .refl hc

/-- What a RESET_CORE leaves after its own event has ended. -/
def State.afterReset (s : State) (levels : LineLevels) : State := (s.coreReset levels).finish []

theorem coreReset_ap (levels : LineLevels) (a : ApId) : (s.coreReset levels).ap a = Aperture.atReset :=
  Vector.getElem_replicate _

theorem afterReset_eq (levels : LineLevels) :
    s.afterReset levels = (s.coreReset levels).arbitrate.drainAll := by
  unfold State.afterReset State.finish
  rw [runPending_of_idle fun a => canRun_of_nonePending (nonePending_of_reset fun _ => coreReset_ap levels _) a]

theorem afterReset_unclaimed (levels : LineLevels) : Unclaimed (s.coreReset levels) (s.afterReset levels) := by
  have un : Unclaimed (s.coreReset levels) (s.coreReset levels).arbitrate := (Unclaimed.refl rfl).arbitrate
  rw [afterReset_eq]
  refine un.trans (drainPort_of_reset (fun a => ?_) un.claim _)
  rw [show State.ap _ a = (s.coreReset levels).ap a by unfold State.ap; rw [un.records.apertures]]
  exact coreReset_ap levels a

theorem afterReset_of_still (levels : LineLevels)
    (h : (s.coreReset levels).steering.phase ≠ .opened ∨ (s.coreReset levels).steering.waiting = []) :
    s.afterReset levels = (s.coreReset levels).arbitrate := by
  rw [afterReset_eq]
  rcases h with h | h
  · exact drainPort_of_notOpened (by rw [arbitrate_steering]; exact h) _
  · exact drainAll_of_empty (by rw [arbitrate_steering]; exact h)

theorem resetStall_of_notStalled (h : ∀ y a base timer, s.steering.phase ≠ .stalled y a base timer) :
    s.resetStall = s := by
  unfold State.resetStall
  split
  · next e => exact absurd e (h _ _ _ _)
  · rfl

theorem resetStall_of_stalled {a : ApId} {base : Addr} {timer : Option Nat}
    (h : s.steering.phase = .stalled x a base timer) : s.resetStall = s.answerFault x := by
  unfold State.resetStall
  rw [h]

theorem resetStall_link (s : State) : s.resetStall.link = s.link := by
  unfold State.resetStall
  split
  · next y _ _ _ _ =>
    obtain ⟨d, k, e, -⟩ := answerFault_eq s y
    rw [e]; rfl
  · rfl

theorem afterReset_link (levels : LineLevels) :
    (s.afterReset levels).link = { s.link with resetSeen := true } :=
  (afterReset_unclaimed levels).records.link.trans
    (congrArg (fun l : Link => { l with resetSeen := true }) (resetStall_link s))

theorem afterReset_flags (levels : LineLevels) :
    (s.afterReset levels).flagsByte =
      BitVec.ofNat 8 (16 + 4 * bit s.link.truncated + 8 * bit s.link.responseLost) := by
  unfold State.flagsByte
  rw [afterReset_link, (afterReset_unclaimed levels).notes]
  refine congrArg (BitVec.ofNat 8) ?_
  show 0 + 2 * 0 + 4 * bit s.link.truncated + 8 * bit s.link.responseLost + 16 * 1 = _
  omega

section
variable {levels : LineLevels}

theorem afterReset_of_inFlight {tg : Option Target} (hp : s.steering.phase = .inFlight x tg) :
    (s.afterReset levels).steering =
        { phase := .inFlight x none, waiting := s.steering.waiting, lock := .closed } ∧
      (s.afterReset levels).aOut = s.aOut ∧
      (s.arbiter.port.isSome = true → (s.afterReset levels).arbiter.steeringClaim = s.arbiter.steeringClaim) := by
  have stall : s.resetStall = s := resetStall_of_notStalled fun y a base timer k => by
    rw [hp] at k; cases k
  have steering : (s.coreReset levels).steering =
      { phase := .inFlight x none, waiting := s.steering.waiting, lock := .closed } := by
    show s.resetStall.steering.afterCoreReset = _
    rw [stall, Steering.afterCoreReset, hp]
  have aOut : (s.coreReset levels).aOut = s.aOut := (congrArg State.aOut stall :)
  have arbiter : (s.coreReset levels).arbiter =
      { Arbiter.atReset with port := s.arbiter.port, steeringClaim := s.arbiter.steeringClaim } :=
    (congrArg (fun v : State => { Arbiter.atReset with
      port := v.arbiter.port, steeringClaim := v.arbiter.steeringClaim }) stall :)
  rw [afterReset_of_still levels (.inl (by rw [steering]; exact nofun))]
  refine ⟨(arbitrate_steering _).trans steering, (arbitrate_aOut _).trans aOut, fun busy => ?_⟩
  obtain ⟨g, hg⟩ := Option.isSome_iff_exists.1 busy
  rw [arbitrate_of_busy (g := g) (by rw [arbiter]; exact hg), arbiter]

theorem afterReset_of_stalled {a : ApId} {base : Addr} {timer : Option Nat}
    (hp : s.steering.phase = .stalled x a base timer) :
    (∃ d, (s.afterReset levels).aOut =
      s.aOut ++ [{ source := x.source, kind := x.kind, outcome := .fault, data := d }]) ∧
      (s.steering.waiting = [] →
        (s.afterReset levels).steering = { phase := .opened, waiting := [], lock := .closed }) := by
  obtain ⟨d, k, fault, -⟩ := answerFault_eq s x
  have stall := (resetStall_of_stalled hp).trans fault
  refine ⟨⟨d, (afterReset_unclaimed levels).aOut.trans (congrArg State.aOut stall :)⟩, fun hw => ?_⟩
  have steering : (s.coreReset levels).steering = { phase := .opened, waiting := [], lock := .closed } := by
    show s.resetStall.steering.afterCoreReset = _
    rw [stall, ← hw]; rfl
  rw [afterReset_of_still levels (.inr (by rw [steering]))]
  exact (arbitrate_steering _).trans steering

theorem afterReset_of_open (ho : s.PortOpen) :
    (s.afterReset levels).steering = { phase := .opened, waiting := [], lock := .closed } ∧
      (s.afterReset levels).aOut = s.aOut := by
  obtain ⟨hp, hw⟩ := ho
  have stall : s.resetStall = s := resetStall_of_notStalled fun y a base timer k => by
    rw [hp] at k; cases k
  have steering : (s.coreReset levels).steering = { phase := .opened, waiting := [], lock := .closed } := by
    show s.resetStall.steering.afterCoreReset = _
    rw [stall, Steering.afterCoreReset, hp, hw]
  rw [afterReset_of_still levels (.inr (by rw [steering]))]
  exact ⟨(arbitrate_steering _).trans steering, (arbitrate_aOut _).trans (congrArg State.aOut stall :)⟩

end

end

/-- Settles O4: the records take their reset values, and after the event the Arbiter and the port have moved
transactions that belong to no aperture alone. -/
theorem resetCoreResetsTheBlocks : Obligations.ResetCoreResetsTheBlocks := by
  intro s levels h
  have e : exec (.resetCore (requestFor 0x02 []) levels) s =
      .next (((s.received (requestBytes 0x02 (requestFor 0x02 []))).afterReset levels).reply .done []) :=
    congrArg Host.Outcome.next (takeCommand_taken s 0x02 argsNone _ (actResetCore levels) h (by simp)
      (requestFor_balanced 0x02 []) rfl)
  generalize requestBytes 0x02 (requestFor 0x02 []) = bs at e ⊢
  have un := afterReset_unclaimed (s := s.received bs) levels
  have flags := afterReset_flags (s := s.received bs) levels
  have link := afterReset_link (s := s.received bs) levels
  have inFlight := fun x tg => @afterReset_of_inFlight (s.received bs) x levels tg
  have stalled := fun x a base timer => @afterReset_of_stalled (s.received bs) x levels a base timer
  have opened := @afterReset_of_open (s.received bs) levels
  generalize (s.received bs).afterReset levels = t at e un flags link inFlight stalled opened
  refine ⟨_, e, fun sl => ?_, fun r => ?_, fun a => ?_, fun r => ?_, un.records.lines, un.copy, un.records.changes,
    un.notes, ?_, un.claim, un.count, un.share, fun g hg => un.port g ?_, fun x tg hp => ?_,
    fun x a base timer hp => ?_, fun ho => ?_⟩
  · exact (congrArg (fun v => v.get sl) un.records.slots :).trans (Vector.getElem_replicate _)
  · exact (congrArg (fun v => v.get r) un.records.rings :).trans (Vector.getElem_replicate _)
  · exact (congrArg (fun v => v.get a) un.records.apertures :).trans (Vector.getElem_replicate _)
  · exact (congrArg (fun v => v.get r) un.records.schedules :).trans (Vector.getElem_replicate _)
  · show ({ State.link _ with phase := _, response := _ } : Link) = _
    rw [flags, link]; rfl
  · exact (congrArg Arbiter.port (resetStall_arbiter _)).trans hg
  · exact inFlight x tg hp
  · exact stalled x a base timer hp
  · exact opened ho

end Sys2Proof.Machine
end

section
/-! PROOFS: what reclamation leaves (R12, R13): the slots that leave the ready list, where they go, and what
stays as it was. Used for the boundaries that publish and pick, and for apertures that turn OFF. -/

namespace Sys2Proof.Machine

section
variable {s t u v : State} {r : RingId} {cands : List SlotId} {n : Note} {x y : SlotId}

/-! ### The part beside slots, rings, apertures, changes and notes -/

/-- Only slots, rings, apertures, changes and notes differ. -/
def OnShelf (s t : State) : Prop :=
  { t with
    slots := s.slots, rings := s.rings, apertures := s.apertures, changes := s.changes,
    notes := s.notes } = s

theorem OnShelf.refl (s : State) : OnShelf s s := rfl

theorem OnShelf.trans (h : OnShelf s t) (k : OnShelf t u) : OnShelf s u := by
  unfold OnShelf at h k ⊢
  exact (congrArg (fun w : State => { w with
    slots := s.slots, rings := s.rings, apertures := s.apertures, changes := s.changes,
    notes := s.notes }) k :).trans h

theorem OnShelf.foldl {β : Type} {f : State → β → State} (step : ∀ s b, OnShelf s (f s b)) (bs : List β)
    (s : State) : OnShelf s (bs.foldl f s) := by
  induction bs generalizing s with
  | nil => exact .refl s
  | cons b bs ih => exact (step s b).trans (ih (f s b))

section
variable (h : OnShelf s t)
include h

theorem OnShelf.steering : t.steering = s.steering := (congrArg State.steering h :)
theorem OnShelf.arbiter : t.arbiter = s.arbiter := (congrArg State.arbiter h :)
theorem OnShelf.copy : t.copy = s.copy := (congrArg State.copy h :)
theorem OnShelf.schedules : t.schedules = s.schedules := (congrArg State.schedules h :)
theorem OnShelf.aOut : t.aOut = s.aOut := (congrArg State.aOut h :)
theorem OnShelf.link : t.link = s.link := (congrArg State.link h :)
theorem OnShelf.lines : t.lines = s.lines := (congrArg State.lines h :)

end

theorem OnShelf.dropAll (s : State) (r : RingId) (sls : List SlotId) : OnShelf s (s.dropAll r sls) :=
  (congrArg (fun w : State => { w with
    apertures := s.apertures, changes := s.changes }) (dropAll_frame s r sls) :)

theorem OnShelf.applyRetirement (s : State) (sl : SlotId) : OnShelf s (s.applyRetirement sl) :=
  (congrArg (fun w : State => { w with apertures := s.apertures }) (applyRetirement_frame s sl) :)

theorem OnShelf.applyRetirements (s : State) (sls : List SlotId) : OnShelf s (s.applyRetirements sls) :=
  .foldl OnShelf.applyRetirement sls s

theorem OnShelf.reclaim (s : State) (r : RingId) (cands : List SlotId) : OnShelf s (s.reclaim r cands) :=
  (OnShelf.dropAll s r _).trans (.applyRetirements _ _)

theorem OnShelf.releaseHold (s : State) (a : ApId) : OnShelf s (s.releaseHold a) := by
  unfold State.releaseHold
  split <;> rfl

theorem OnShelf.acquire (s : State) (a : ApId) (r : RingId) (p : Pick) (sl : SlotId) :
    OnShelf s (s.acquire a r p sl) :=
  (congrArg (fun w : State => { w with rings := s.rings, changes := s.changes, notes := s.notes })
    (acquire_frame s a r p sl) :)

/-! ### Notes raised within an event -/

/-- A note of a run of pushes in the middle of an event is raised by the event. -/
theorem Onward.raised_of_pushes {ns : List Note} (before : Onward s u)
    (h : t.notes = ns.foldl NoteQueue.push u.notes) (hn : n ∈ ns) (after : Onward t v) : Raised s v n := by
  obtain ⟨l, m, rfl⟩ := List.append_of_mem hn
  have whole : (((u.raiseAll l).raise n).raiseAll m).notes = t.notes := by
    rw [h, raiseAll_notes, raise_notes, raiseAll_notes, List.foldl_append]; rfl
  have rest := raiseAll_onward ((u.raiseAll l).raise n) m
  have onward : Onward ((u.raiseAll l).raise n) { (u.raiseAll l).raise n with notes := v.notes } :=
    ⟨(after.mask.trans (congrArg NoteQueue.mask whole.symm)).trans rest.mask,
      rest.notes.trans ((congrArg NoteQueue.queue whole).symm ▸ after.notes), fun _ => id, fun _ => rfl⟩
  have raised := Onward.raised (before.trans (raiseAll_onward u l)) onward
  exact raised

theorem applyRetirements_onward (s : State) (sls : List SlotId) : Onward s (s.applyRetirements sls) :=
  (applyRetirements_moves (g := .rest) s.obeys_event nofun).onward trivial

theorem dropAll_onward (s : State) (r : RingId) (sls : List SlotId) : Onward s (s.dropAll r sls) :=
  (dropAll_moves (g := .rest) s.obeys_event nofun).onward trivial

theorem reclaim_onward (s : State) (r : RingId) (cands : List SlotId) : Onward s (s.reclaim r cands) :=
  (dropAll_onward s r _).trans (applyRetirements_onward _ _)

/-! ### The slots that leave the ready list (R12, R13) -/

theorem not_mem_diff_filter {l : List SlotId} {p : SlotId → Bool} (h : x ∈ l.diff (l.filter p)) : p x = false := by
  by_contra hp
  have hp : p x = true := by simpa using hp
  have count := List.count_pos_iff.2 h
  rw [List.count_diff, List.count_filter hp, Nat.sub_self] at count
  exact Nat.lt_irrefl 0 count

/-- A slot still READY after a check did not leave. -/
theorem not_leaving_of_ready (h : x ∈ ((s.reclaim r cands).ring r).ready) : x ∉ s.leaving r cands := by
  rw [reclaim_eq, (applyRetirements_ready _ _ r).1, dropAll_ring_self] at h
  intro hx
  have off := not_mem_diff_filter h
  rw [(List.mem_filter.1 hx).2] at off
  cases off

theorem leaving_not_loose (hx : (s.slot x).retained = true) : x ∉ s.looseOf (s.leaving r cands) := fun h => by
  have k := (List.mem_filter.1 h).2
  rw [hx] at k
  cases k

theorem reclaim_held (s : State) (r : RingId) (cands : List SlotId) :
    ((s.reclaim r cands).ring r).held = (s.ring r).held ++ s.keptOf (s.leaving r cands) := by
  rw [reclaim_eq, (applyRetirements_ready _ _ r).2.1, dropAll_ring_self]

theorem reclaim_free (hno : s.NoRetirements) (r : RingId) (cands : List SlotId) :
    ((s.reclaim r cands).ring r).free = (s.ring r).free ++ s.looseOf (s.leaving r cands) := by
  rw [reclaim_eq, applyRetirements_of_noRetirements (hno.congr (dropAll_changes _ _ _)), dropAll_ring_self]

theorem reclaim_slot_of_kept (hx : (s.slot x).retained = true) :
    (s.reclaim r cands).slot x = s.slot x := by
  rw [reclaim_eq, applyRetirements_slot_ne _ _ (leaving_not_loose hx), dropAll_slot, if_neg]
  rintro ⟨-, k⟩
  rw [hx] at k
  cases k

theorem reclaim_slot_of_freed (hno : s.NoRetirements) (hl : x ∈ s.leaving r cands)
    (hx : (s.slot x).retained = false) : (s.reclaim r cands).slot x = (s.slot x).freed := by
  rw [reclaim_eq, applyRetirements_of_noRetirements (hno.congr (dropAll_changes _ _ _)), dropAll_slot,
    if_pos ⟨hl, hx⟩]

theorem reclaim_frameHeld (before : Onward s v) (hl : x ∈ v.leaving r cands)
    (hx : (v.slot x).retained = true) : Raised s (v.reclaim r cands) (v.heldNote r x) := by
  refine Onward.raised_of_pushes (t := v.dropAll r (v.leaving r cands)) before
    ((dropAll_notes ..).trans (heldNote_map v r _ _)) (List.mem_map_of_mem ?_) (applyRetirements_onward _ _)
  exact List.mem_filter.2 ⟨hl, hx⟩

/-- What a check leaves, in terms of the state before the event: the records of the slots that leave differ
by their sets alone at the check. -/
theorem reclaim_reclaimed (onward : Onward s v) (changes : v.changes = s.changes)
    (oldest : (v.leaving r cands).Sublist (s.ring r).ready)
    (held : (v.ring r).held = (s.ring r).held) (free : (v.ring r).free = (s.ring r).free)
    (slots : ∀ y ∈ v.leaving r cands,
      v.slot y = { s.slot y with holders := (v.slot y).holders, passedBy := (v.slot y).passedBy }) :
    Reclaimed s (v.reclaim r cands) r (v.leaving r cands) none := by
  have retained (y : SlotId) (hy : y ∈ v.leaving r cands) : (v.slot y).retained = (s.slot y).retained :=
    (congrArg Slot.retained (slots y hy) :)
  have frame (y : SlotId) (hy : y ∈ v.leaving r cands) : (v.slot y).frame = (s.slot y).frame :=
    (congrArg Slot.frame (slots y hy) :)
  refine ⟨oldest, fun y hy h => not_leaving_of_ready h hy, ?_, fun y hy hr => ?_, fun hno => ?_,
    fun hno y hy hr _ => ?_⟩
  · rw [reclaim_held, held, State.keptOf, List.filter_congr retained]
  · rw [← retained y hy] at hr
    rw [reclaim_slot_of_kept hr, ← frame y hy]
    exact ⟨rfl, hr, reclaim_frameHeld onward hy hr⟩
  · rw [reclaim_free (hno.congr changes), free, State.looseOf,
      List.filter_congr fun y hy => congrArg not (retained y hy)]
    exact (List.filter_eq_self.2 fun _ _ => by simp).symm
  · have none : (v.slot y).holders = 0 := ((mem_leaving v r cands).1 hy).2.2.1
    rw [← retained y hy] at hr
    rw [reclaim_slot_of_freed (hno.congr changes) hy hr, Slot.freed]
    have e := slots y hy
    rw [none] at e
    rw [e]

/-! ### What a check leaves alone -/

theorem applyRetirements_ring_ne {q : RingId} {sls : List SlotId}
    (h : ∀ y ∈ sls, ∀ k, (s.slot y).home = some k → k.ring = r) (hn : sls.Nodup) (hq : q ≠ r) :
    (s.applyRetirements sls).ring q = s.ring q := by
  induction sls generalizing s with
  | nil => rfl
  | cons sl sls ih =>
    obtain ⟨hsl, hsls⟩ := List.nodup_cons.1 hn
    rw [applyRetirements_cons, ih (fun y hy k hk => ?_) hsls]
    · rcases applyRetirement_ring_cases s sl q with e | ⟨k, hk, rfl, -⟩
      · exact e
      · exact absurd (h sl (by simp) k hk) hq
    · rw [applyRetirement_slot_ne s fun e : sl = y => hsl (e ▸ hy)] at hk
      exact h y (by simp [hy]) k hk

/-- The check of a ring leaves the other rings. -/
theorem reclaim_ring_ne {q : RingId} (hp : s.Placed) (home : ∀ y, (v.slot y).home = (s.slot y).home)
    (ready : ∀ y ∈ v.leaving r cands, y ∈ (s.ring r).ready) (hn : (v.ring r).ready.Nodup) (hq : q ≠ r) :
    (v.reclaim r cands).ring q = v.ring q := by
  have loose : (v.looseOf (v.leaving r cands)).Nodup := (hn.filter _).filter _
  rw [reclaim_eq, applyRetirements_ring_ne (fun y hy k hk => ?_) loose hq, dropAll_ring_ne _ _ _ hq.symm]
  rw [dropAll_home, home] at hk
  have hr := hp.home_of_ready (ready y (List.mem_of_mem_filter hy))
  rw [hk] at hr
  exact Option.some.inj hr

theorem applyRetirements_frameCounter (s : State) (sls : List SlotId) (q : RingId) :
    ((s.applyRetirements sls).ring q).frameCounter = (s.ring q).frameCounter := by
  induction sls generalizing s with
  | nil => rfl
  | cons sl sls ih => exact (ih (s.applyRetirement sl)).trans (applyRetirement_ring_fields s sl q).2.2.2.2.2.2.2

theorem reclaim_frameCounter (s : State) (r : RingId) (cands : List SlotId) :
    ((s.reclaim r cands).ring r).frameCounter = (s.ring r).frameCounter := by
  rw [reclaim_eq, applyRetirements_frameCounter, dropAll_ring_self]

theorem applyRetirement_unheld (sl : SlotId) {a : ApId} (h : ApSet.has (s.slot x).holders a = false) :
    ApSet.has ((s.applyRetirement sl).slot x).holders a = false := by
  by_cases e : sl = x
  · subst e
    rcases applyRetirement_cases s sl with ⟨-, k⟩ | ⟨_, -, -, k⟩ | ⟨_, -, -, k⟩ <;> rw [k]
    · exact h
    · simpa using h
    · rw [raise_slot, State.retire]
      split
      · simpa using h
      · rw [setSlot_slot_self]; exact Bool.eq_false_iff.2 not_has_zero
  · rw [applyRetirement_slot_ne s e]; exact h

theorem applyRetirements_unheld (sls : List SlotId) {a : ApId} (h : ApSet.has (s.slot x).holders a = false) :
    ApSet.has ((s.applyRetirements sls).slot x).holders a = false := by
  induction sls generalizing s with
  | nil => exact h
  | cons sl sls ih => exact ih (applyRetirement_unheld sl h)

theorem reclaim_unheld {a : ApId} (h : ApSet.has (s.slot x).holders a = false) :
    ApSet.has ((s.reclaim r cands).slot x).holders a = false := by
  rw [reclaim_eq]
  refine applyRetirements_unheld _ ?_
  rw [dropAll_slot]
  split <;> exact h

end

end Sys2Proof.Machine
end

section
/-! PROOFS: the boundary of a consumer with no change waiting (O18, R76 to R80). -/

namespace Sys2Proof.Machine

section
variable {s t : State} {a b : ApId} {c : ApConfig} {sl x y : SlotId} {next : Option SlotId}

/-! ### The pick (R76, R77, R80) -/

/-- A consumer gives up its slot and takes the one it moves to. -/
def State.picked (s : State) (a : ApId) (c : ApConfig) : Option SlotId → State
  | none   => s.releaseHold a
  | some x => (s.releaseHold a).acquire a c.ring c.pick x

/-- The slots that the pick may leave to reclaim (R13). -/
def State.pickChecks (s : State) (a : ApId) (c : ApConfig) (sl : SlotId) : Option SlotId → List SlotId
  | none   => [sl]
  | some x => sl :: s.growing a c.ring c.pick x

/-- The slots a consumer passes as it moves (R77). -/
def State.passes (s : State) (c : ApConfig) (next : Option SlotId) (y : SlotId) : Prop :=
  c.pick = .ordered ∧ ∃ x, next = some x ∧ y ∈ takeThrough x (s.ring c.ring).ready

theorem pickNext_eq (s : State) (a : ApId) (c : ApConfig) (sl : SlotId) :
    s.pickNext a c.ring c.pick sl =
      match c.pick with
      | .newest =>
        if (s.ring c.ring).ready.getLast? = some sl then none else (s.ring c.ring).ready.getLast?
      | .ordered =>
        (s.ring c.ring).ready.find? fun x => !ApSet.has (s.slot x).passedBy a := by
  unfold State.pickNext
  cases c.pick <;> rfl

theorem pickStage_of_kept (hb : (s.ap a).state = .bound sl) (hn : s.pickNext a c.ring c.pick sl = none)
    (he : c.onEmpty = .repeatFrame) : s.pickStage a c = s := by
  unfold State.pickStage
  simp only [hb, hn, he]

theorem pickStage_of_moving (hb : (s.ap a).state = .bound sl) (hn : s.pickNext a c.ring c.pick sl = next)
    (he : next = none → c.onEmpty = .strict) :
    s.pickStage a c = (s.picked a c next).reclaim c.ring (s.pickChecks a c sl next) := by
  unfold State.pickStage
  cases next with
  | none => simp only [hb, hn, he rfl, State.picked, State.pickChecks]
  | some x => simp only [hb, hn, State.picked, State.pickChecks]

theorem picked_ring (s : State) (a : ApId) (c : ApConfig) (next : Option SlotId) (q : RingId) :
    (s.picked a c next).ring q = s.ring q := by
  cases next with
  | none => exact releaseHold_ring a q
  | some x => rw [State.picked, acquire_ring, releaseHold_ring]

theorem picked_ap_ne (h : a ≠ b) : (s.picked a c next).ap b = s.ap b := by
  cases next with
  | none => exact releaseHold_ap_ne h
  | some x => rw [State.picked, acquire_ap, setApState_ap_ne _ _ h, releaseHold_ap_ne h]

theorem picked_ap_self (hb : (s.ap a).state = .bound sl) :
    (s.picked a c next).ap a =
      { s.ap a with state := match next with | none => .unbound | some x => .bound x } := by
  have released : (s.releaseHold a).ap a = { s.ap a with state := .unbound } := by
    rw [releaseHold_of_bound hb]; simp
  cases next with
  | none => exact released
  | some x => rw [State.picked, acquire_ap, setApState_ap_self, released]

theorem picked_changes (s : State) (a : ApId) (c : ApConfig) (next : Option SlotId) :
    (s.picked a c next).changes = s.changes := by
  cases next with
  | none => exact releaseHold_changes a
  | some x => exact ((acquire_eq _ a c.ring c.pick x).2.2).trans (releaseHold_changes a)

theorem picked_notes (hb : (s.ap a).state = .bound sl) : (s.picked a c next).notes = s.notes := by
  have released : (s.releaseHold a).notes = s.notes := by rw [releaseHold_of_bound hb]; rfl
  cases next with
  | none => exact released
  | some x => exact ((congrArg State.notes (acquire_frame (s.releaseHold a) a c.ring c.pick x) :)).trans released

theorem picked_onShelf (s : State) (a : ApId) (c : ApConfig) (next : Option SlotId) :
    OnShelf s (s.picked a c next) := by
  cases next with
  | none => exact .releaseHold s a
  | some x => exact (OnShelf.releaseHold s a).trans (.acquire ..)

theorem picked_onward (hb : (s.ap a).state = .bound sl) : Onward s (s.picked a c next) := by
  have notes := picked_notes (c := c) (next := next) hb
  refine ⟨by rw [notes], by rw [notes], fun b on => ?_, fun b => ?_⟩
  all_goals by_cases e : a = b
  · subst e; rw [apOn_eq_true, hb]; exact nofun
  · rw [apOn_eq_true] at on ⊢; rwa [picked_ap_ne e] at on
  · subst e; rw [picked_ap_self hb]
  · rw [picked_ap_ne e]

open Classical in
/-- The slots as the pick leaves them, before any of them is reclaimed. -/
theorem picked_slot (hb : (s.ap a).state = .bound sl) (y : SlotId) :
    (s.picked a c next).slot y =
      { s.slot y with
        holders :=
          if next = some y then
            ApSet.insert (if y = sl then ApSet.erase (s.slot y).holders a else (s.slot y).holders) a
          else if y = sl then ApSet.erase (s.slot y).holders a else (s.slot y).holders
        passedBy := if s.passes c next y then ApSet.insert (s.slot y).passedBy a else (s.slot y).passedBy } := by
  have released : (s.releaseHold a).slot y =
      { s.slot y with holders := if y = sl then ApSet.erase (s.slot y).holders a else (s.slot y).holders } := by
    rw [releaseHold_of_bound hb, setApState_slot, setSlot_slot]
    by_cases e : sl = y
    · subst e; simp
    · simp [e, Ne.symm e]
  cases next with
  | none =>
    rw [State.picked, released]
    simp [State.passes]
  | some x =>
    rw [State.picked, acquire_slot, released, releaseHold_ring]
    by_cases e : y = x
    · subst e; simp [State.passes]
    · simp [State.passes, e, Ne.symm e]

/-! ### What the pick leaves to reclaim (R12, R13) -/

theorem picked_unheld_iff (hb : (s.ap a).state = .bound sl) (y : SlotId) :
    ((s.picked a c next).slot y).holders = 0 ↔
      next ≠ some y ∧ (if y = sl then ApSet.erase (s.slot y).holders a else (s.slot y).holders) = 0 := by
  rw [picked_slot hb y]
  by_cases hn : next = some y
  · refine iff_of_false (fun h => ?_) fun h => h.1 hn
    simp only [hn, if_true] at h
    have has := has_insert (if y = sl then ApSet.erase (s.slot y).holders a else (s.slot y).holders) a a
    rw [h] at has
    exact not_has_zero (has.trans (by simp))
  · simp only [hn, if_false, ne_eq, not_false_eq_true, true_and]

theorem picked_passed_iff (hb : (s.ap a).state = .bound sl) (y : SlotId) (b : ApId) :
    ApSet.has ((s.picked a c next).slot y).passedBy b = true ↔
      ApSet.has (s.slot y).passedBy b = true ∨ b = a ∧ s.passes c next y := by
  rw [picked_slot hb y]
  by_cases hp : s.passes c next y
  · simp only [hp, if_true, has_insert, and_true]
    by_cases e : b = a <;> simp [e]
  · simp only [hp, if_false, and_false, or_false]

theorem mem_pickChecks :
    y ∈ s.pickChecks a c sl next ↔ y = sl ∨
      c.pick = .ordered ∧ ∃ x, next = some x ∧ y ∈ takeThrough x (s.ring c.ring).ready ∧
        ApSet.has (s.slot y).passedBy a = false := by
  cases next with
  | none => simp [State.pickChecks]
  | some x =>
    unfold State.pickChecks State.growing State.readyThrough
    cases hp : c.pick <;> simp

/-- The slots that a moving consumer leaves to reclaim, where none was left before. -/
theorem mem_pick_leaving (hpr : s.PromptlyReclaimed) (hb : (s.ap a).state = .bound sl)
    (hc : (s.ap a).config = some c) (hy : y ∈ (s.ring c.ring).ready) :
    y ∈ (s.picked a c next).leaving c.ring (s.pickChecks a c sl next) ↔
      (s.ring c.ring).ready.getLast? ≠ some y ∧ next ≠ some y ∧
      (if y = sl then ApSet.erase (s.slot y).holders a else (s.slot y).holders) = 0 ∧
      ∀ b d, ApSet.has (s.ring c.ring).consumers b = true → (s.ap b).config = some d → d.pick = .ordered →
        ApSet.has (s.slot y).passedBy b = true ∨
        b = a ∧ ∃ x, next = some x ∧ y ∈ takeThrough x (s.ring c.ring).ready := by
  have config (b : ApId) : ((s.picked a c next).ap b).config = (s.ap b).config := by
    by_cases e : a = b
    · subst e; rw [picked_ap_self hb]
    · rw [picked_ap_ne e]
  rw [mem_leaving, picked_ring, State.MeetsReclamation, picked_ring, picked_unheld_iff hb]
  constructor
  · rintro ⟨-, -, ⟨hn, hh⟩, passed, last⟩
    refine ⟨last, hn, hh, fun b d hcons hd hp => ?_⟩
    rcases (picked_passed_iff hb y b).1 (passed b d hcons (by rw [config]; exact hd) hp) with h | ⟨e, -, h⟩
    · exact .inl h
    · exact .inr ⟨e, h⟩
  · rintro ⟨last, hn, hh, passed⟩
    refine ⟨hy, ?_, ⟨hn, hh⟩, fun b d hcons hd hp => (picked_passed_iff hb y b).2 ?_, last⟩
    · by_contra off
      refine hpr c.ring y hy ⟨?_, fun b d hcons hd hp => ?_, last⟩
      · rwa [if_neg fun e => off (mem_pickChecks.2 (.inl e))] at hh
      · rcases passed b d hcons hd hp with h | ⟨rfl, x, hx, through⟩
        · exact h
        · obtain rfl := Option.some.inj (hd.symm.trans hc)
          by_contra h
          exact off (mem_pickChecks.2 (.inr ⟨hp, x, hx, through, by simpa using h⟩))
    · rw [config] at hd
      rcases passed b d hcons hd hp with h | ⟨rfl, x, hx, through⟩
      · exact .inl h
      · obtain rfl := Option.some.inj (hd.symm.trans hc)
        exact .inr ⟨rfl, hp, x, hx, through⟩

/-! ### The whole boundary -/

theorem pickStage_onShelf (s : State) (a : ApId) (c : ApConfig) : OnShelf s (s.pickStage a c) := by
  unfold State.pickStage
  split
  · split
    · exact ((OnShelf.releaseHold s a).trans (.acquire ..)).trans (.reclaim ..)
    · split
      · exact .refl s
      · exact (OnShelf.releaseHold s a).trans (.reclaim ..)
  · exact .refl s

theorem pickStage_settled (hs : s.Settled) (hc : (s.ap a).config = some c) : (s.pickStage a c).Settled :=
  hs.calm (pickStage_onShelf s a c).steering (pickStage_onShelf s a c).arbiter
    ((pickStage_moves (g := .rest) s.obeys_boundary hc nofun).pending trivial)

/-- Without changes of its own, a consumer's boundary is its pick. -/
theorem exec_boundary_of_pick {order : List ApId} (h : s.link.phase = .request) (hs : s.Settled)
    (hacts : s.ActsNow a c) (hrole : c.role = .consumer) (hno : s.NoEntriesFor a) :
    exec (.boundary (requestFor 0x05 [idWord a]) order) s =
      .next (((s.counted a).pickStage a c).answered 0x05 [idWord a] .done []) := by
  rw [exec_boundary_of_on h hacts.on, boundaryAt_consumer hacts hrole,
    consumerBoundary_of_none (counted_config hacts) hno,
    finish_of_settled (pickStage_settled (counted_settled hs hacts.on) (counted_config hacts))]

theorem counted_ap_ne (h : a ≠ b) : (s.counted a).ap b = s.ap b := setAp_ap_ne _ _ h

theorem counted_apConfig (s : State) (a b : ApId) : ((s.counted a).ap b).config = (s.ap b).config := by
  by_cases e : a = b
  · subst e; rw [counted_ap_self]
  · rw [counted_ap_ne e]

theorem counted_prompt (h : s.PromptlyReclaimed) : (s.counted a).PromptlyReclaimed := by
  rintro r y hy ⟨h1, h2, h3⟩
  exact h r y hy ⟨h1, fun b d hb hd hp => h2 b d hb ((counted_apConfig s a b).trans hd) hp, h3⟩

/-- READY slots that leave because a consumer has moved from a slot, or given it up. -/
def State.LeftByPick (s : State) (a : ApId) (c : ApConfig) (sl : SlotId) (next : Option SlotId)
    (leaving : List SlotId) : Prop :=
  ∀ y ∈ (s.ring c.ring).ready, y ∈ leaving ↔
    (s.ring c.ring).ready.getLast? ≠ some y ∧ next ≠ some y ∧
    (if y = sl then ApSet.erase (s.slot y).holders a else (s.slot y).holders) = 0 ∧
    ∀ b d, ApSet.has (s.ring c.ring).consumers b = true → (s.ap b).config = some d → d.pick = .ordered →
      ApSet.has (s.slot y).passedBy b = true ∨
      b = a ∧ ∃ x, next = some x ∧ y ∈ takeThrough x (s.ring c.ring).ready

/-- The slots that go as a consumer moves, and where they go (R12, R13). -/
theorem pick_reclaimed (hb : (s.ap a).state = .bound sl) (hpr : s.PromptlyReclaimed) (hc : (s.ap a).config = some c)
    (hp : s.Placed) :
    ∃ leaving, Reclaimed s ((s.picked a c next).reclaim c.ring (s.pickChecks a c sl next)) c.ring leaving none ∧
      (((s.picked a c next).reclaim c.ring (s.pickChecks a c sl next)).ring c.ring).ready =
        (s.ring c.ring).ready.filter (fun y => decide (y ∉ leaving)) ∧
      s.LeftByPick a c sl next leaving := by
  have ring := picked_ring s a c next c.ring
  have oldest : ((s.picked a c next).leaving c.ring (s.pickChecks a c sl next)).Sublist (s.ring c.ring).ready :=
    ring ▸ leaving_sublist ..
  refine ⟨_, reclaim_reclaimed (picked_onward hb) (picked_changes s a c next) oldest (by rw [ring]) (by rw [ring])
    fun y _ => by rw [picked_slot hb], ?_, fun y hy => mem_pick_leaving hpr hb hc hy⟩
  rw [reclaim_eq, (applyRetirements_ready _ _ _).1, dropAll_ring_self, ring]
  exact (hp.ready_nodup c.ring).sdiff_eq_filter

theorem pick_ring_ne (hb : (s.ap a).state = .bound sl) (hp : s.Placed) {q : RingId} (hq : q ≠ c.ring)
    (cands : List SlotId) : ((s.picked a c next).reclaim c.ring cands).ring q = s.ring q := by
  have ring := picked_ring s a c next c.ring
  rw [reclaim_ring_ne (s := s) hp (fun y => by rw [picked_slot hb]) (fun y hy => ?_)
    (ring.symm ▸ hp.ready_nodup c.ring) hq, picked_ring]
  exact ring ▸ (leaving_sublist ..).subset hy

/-- The slot a consumer moves to has a holder, so that it does not leave. -/
theorem pick_next_bound (hb : (s.ap a).state = .bound sl) (cands : List SlotId) :
    ApSet.has (((s.picked a c (some x)).reclaim c.ring cands).slot x).holders a = true := by
  have held : ApSet.has ((s.picked a c (some x)).slot x).holders a = true := by
    rw [picked_slot hb]; simp
  rw [reclaim_slot_of_not_leaving]
  · exact held
  · intro hl
    have none := ((mem_leaving ..).1 hl).2.2.1
    rw [none] at held
    exact not_has_zero held

theorem pick_old_released (hb : (s.ap a).state = .bound sl) (hn : next ≠ some sl) (cands : List SlotId) :
    ApSet.has (((s.picked a c next).reclaim c.ring cands).slot sl).holders a = false := by
  refine reclaim_unheld ?_
  rw [picked_slot hb]
  simp [hn]

/-- What the boundary of a VIEWING consumer leaves that moves to its pick or gives up its slot. -/
structure PickMoves (s u : State) (a : ApId) (c : ApConfig) (sl : SlotId) (next : Option SlotId) : Prop where
  state     : (u.ap a).state = match next with | none => .unbound | some x => .bound x
  bound     : ∀ x, next = some x → ApSet.has (u.slot x).holders a = true
  released  : next ≠ some sl → ApSet.has (u.slot sl).holders a = false
  passed    : ∀ x, next = some x → c.pick = .ordered → ∀ y ∈ takeThrough x (s.ring c.ring).ready,
    y ∈ (u.ring c.ring).ready → ApSet.has (u.slot y).passedBy a = true
  reclaimed : s.Placed → s.PromptlyReclaimed → ∃ leaving, Reclaimed s u c.ring leaving none ∧
    (u.ring c.ring).ready = (s.ring c.ring).ready.filter (fun y => decide (y ∉ leaving)) ∧
    s.LeftByPick a c sl next leaving
  others    : ∀ b, b ≠ a → u.ap b = s.ap b
  config    : (u.ap a).config = (s.ap a).config
  shelf     : OnShelf s u
  counter   : (u.ring c.ring).frameCounter = (s.ring c.ring).frameCounter
  rings     : s.Placed → ∀ q, q ≠ c.ring → u.ring q = s.ring q

theorem pickStage_pickMoves (hb : (s.ap a).state = .bound sl) (hc : (s.ap a).config = some c)
    (hn : s.pickNext a c.ring c.pick sl = next) (he : next = none → c.onEmpty = .strict) :
    PickMoves s (s.pickStage a c) a c sl next := by
  have shelf := pickStage_onShelf s a c
  have moved := pickStage_of_moving hb hn he
  rw [moved] at shelf ⊢
  refine ⟨?_, fun x hx => ?_, fun hx => pick_old_released hb hx _, fun x hx hp y hy hr => ?_,
    fun hp hpr => pick_reclaimed hb hpr hc hp, fun b hab => ?_, ?_, shelf, ?_, fun hp q hq => pick_ring_ne hb hp hq _⟩
  · rw [reclaim_ap, picked_ap_self hb]
  · subst hx; exact pick_next_bound hb _
  · rw [reclaim_slot_of_not_leaving _ _ (not_leaving_of_ready hr)]
    exact (picked_passed_iff hb y a).2 (.inr ⟨rfl, hp, x, hx, hy⟩)
  · rw [reclaim_ap, picked_ap_ne hab.symm]
  · rw [reclaim_ap, picked_ap_self hb]
  · rw [reclaim_frameCounter, picked_ring]

theorem Reclaimed.of_counted {r : RingId} {leaving : List SlotId} {taken : Option SlotId}
    (h : Reclaimed (s.counted a) t r leaving taken) : Reclaimed s t r leaving taken :=
  ⟨h.oldestFirst, h.gone, h.held, h.kept, h.free, h.freed⟩

theorem counted_placed (h : s.Placed) : (s.counted a).Placed := h.setAp a _ rfl rfl

end

/-- Settles O18: WAITING stays, REPEAT keeps the slot, and a consumer that moves or gives up its slot leaves
to reclaim what it has not held back any longer. -/
theorem consumerBoundaryPicks : Obligations.ConsumerBoundaryPicks := by
  intro s a c order h hs hacts hrole hno
  have e := exec_boundary_of_pick (order := order) h hs hacts hrole hno
  have hc := counted_config hacts
  refine ⟨fun hst => ?_, fun sl next hst hnext => ?_⟩
  · have idle := consumerBoundary_of_idle (s := s.counted a) hc hno (by rw [counted_ap_self]; exact hst)
    rw [consumerBoundary_of_none hc hno] at idle
    rw [e, idle]; rfl
  · have hb : ((s.counted a).ap a).state = .bound sl := by rw [counted_ap_self]; exact hst
    have pick : (s.counted a).pickNext a c.ring c.pick sl = next := (pickNext_eq ..).trans hnext.symm
    refine ⟨fun hn he => ?_, _, e, answered_answers .., ?_⟩
    · rw [e, pickStage_of_kept hb (pick.trans hn) he]; rfl
    by_cases move : next = none → c.onEmpty = .strict
    · have m := pickStage_pickMoves hb hc pick move
      generalize (s.counted a).pickStage a c = u at m e
      refine ⟨fun hn _ => ⟨?_, m.released (by rw [hn]; nofun)⟩, fun x hx => ⟨?_, m.bound x hx, fun k =>
        m.released (by rw [hx]; exact fun j => k (Option.some.inj j)), m.passed x hx⟩, fun hp hpr _ => ?_,
        fun b hab => (m.others b hab).trans (counted_ap_ne hab.symm), m.config.trans (counted_apConfig s a a),
        m.shelf.steering, m.shelf.arbiter, m.shelf.copy, m.shelf.schedules, m.shelf.aOut, m.counter,
        fun hp => m.rings (counted_placed hp)⟩
      · rw [answered_ap, m.state, hn]
      · rw [answered_ap, m.state, hx]
      · obtain ⟨leaving, reclaimed, ready, left⟩ := m.reclaimed (counted_placed hp) (counted_prompt hpr)
        refine ⟨leaving, ⟨reclaimed.oldestFirst, reclaimed.gone, reclaimed.held, reclaimed.kept, reclaimed.free,
          reclaimed.freed⟩, ready, fun y hy => (left y hy).trans ?_⟩
        simp only [counted_apConfig]
        rfl
    · obtain ⟨hn, he⟩ := Classical.not_imp.1 move
      have he : c.onEmpty = .repeatFrame := by cases k : c.onEmpty with
        | repeatFrame => rfl
        | strict => exact absurd k he
      rw [pickStage_of_kept hb (pick.trans hn) he]
      refine ⟨fun _ k => ?_, fun x hx => ?_, fun _ _ k => absurd k move, fun b hab => counted_ap_ne hab.symm,
        counted_apConfig s a a, rfl, rfl, rfl, rfl, rfl, rfl, fun _ _ _ => rfl⟩
      · rw [he] at k; cases k
      · rw [hn] at hx; cases hx

end Sys2Proof.Machine
end

section
/-! PROOFS: what the stages of a producer's boundary have no part in, and the counting step of the schedule
(O17, R105 to R107). -/

namespace Sys2Proof.Machine

section
variable {s t u : State} {a b : ApId} {c : ApConfig} {r q : RingId} {sl : SlotId}

/-! ### The walk and the bind touch neither bus, nor job, nor schedule -/

theorem applyApChange_onShelf (hrole : c.role = .producer) (e : Change) (x : ApChange) :
    OnShelf s (s.applyApChange e a c x) := by
  have write : OnShelf s (s.writeChange a c x) := by rw [writeChange_eq]; rfl
  cases x with
  | moveWindow base =>
    simp only [State.applyApChange]
    split
    · rfl
    · exact write
  | setSources | setStall | setDivider => exact write
  | setPick p oe =>
    simp only [State.applyApChange]
    rw [if_neg fun h => by rw [hrole] at h; cases h.1]
    exact write
  | detach =>
    simp only [State.applyApChange, hrole]
    split <;> rfl

theorem countExpiry_onShelf (s : State) (e : Change) : OnShelf s (s.countExpiry e) := by
  rcases countExpiry_cases s e with ⟨-, k⟩ | ⟨-, k⟩ | ⟨n, -, k⟩ <;> rw [k]
  · rfl
  · exact (congrArg (fun w : State => { w with
      rings := s.rings, apertures := s.apertures, changes := s.changes, notes := s.notes })
      (clearRetirePending_frame (s.removeChange e) e.op) :)
  · rfl

theorem walkOne_onShelf {L : Laws} (hs : s.Serving L a .producer r) (e : Change) :
    OnShelf s (State.walkOne a r s e) ∧ (State.walkOne a r s e).Serving L a .producer r := by
  unfold State.walkOne
  split
  · next mine =>
    rcases Bool.or_eq_true_iff.1 mine with k | k
    · obtain ⟨x, hop⟩ := forAperture_eq_true k
      obtain ⟨d, hd, hrole, -⟩ := hs.config
      rw [applyChange_aperture s hop hd]
      have removed : (s.removeChange e).Serving L a .producer r := hs.of_ap rfl
      exact ⟨OnShelf.trans (t := s.removeChange e) rfl (applyApChange_onShelf hrole e x),
        removed.applyApChange hd e x⟩
    · obtain ⟨o, hop⟩ := forRing_eq_true k
      refine ⟨?_, hs.of_ap (applyChange_overflow_ap hop a)⟩
      rw [applyChange_overflow s hop]
      rfl
  · split
    · exact ⟨countExpiry_onShelf s e, hs.of_ap (countExpiry_ap s e a)⟩
    · exact ⟨.refl s, hs⟩

theorem walk_onShelf {L : Laws} (hs : s.Serving L a .producer r) (l : List Change) :
    OnShelf s (l.foldl (State.walkOne a r) s) ∧ (l.foldl (State.walkOne a r) s).Serving L a .producer r := by
  induction l generalizing s with
  | nil => exact ⟨.refl s, hs⟩
  | cons e l ih =>
    obtain ⟨one, serving⟩ := walkOne_onShelf hs e
    obtain ⟨rest, done⟩ := ih serving
    exact ⟨one.trans rest, done⟩

theorem walkChanges_onShelf {L : Laws} (hs : s.Serving L a .producer r) : OnShelf s (s.walkChanges a r) :=
  (walk_onShelf hs _).1

theorem bind_onShelf (s : State) (a : ApId) (r : RingId) : OnShelf s (s.bind a r) := by
  unfold State.bind
  simp only
  split
  · rfl
  · split
    · rfl
    · split <;> rfl

/-! ### A publish may forward a stalled read (R40), and does no more at the ports -/

/-- Only slots, rings, apertures, changes, notes and the two ports differ. -/
def Beside (s t : State) : Prop :=
  { t with
    slots := s.slots, rings := s.rings, apertures := s.apertures, changes := s.changes, notes := s.notes,
    steering := s.steering, arbiter := s.arbiter } = s

/-- A stalled read may have gone in flight, and nothing else has happened at the ports. -/
structure Forwarded (s t : State) : Prop where
  waiting : t.steering.waiting = s.steering.waiting
  lock    : t.steering.lock = s.steering.lock
  moved   : (t.steering.phase = s.steering.phase ∧ t.arbiter = s.arbiter) ∨
    (∃ x a base timer, s.steering.phase = .stalled x a base timer) ∧ ∃ x tg, t.steering.phase = .inFlight x tg

theorem OnShelf.beside (h : OnShelf s t) : Beside s t :=
  (congrArg (fun w : State => { w with steering := s.steering, arbiter := s.arbiter }) h :)

theorem Beside.trans (h : Beside s t) (k : Beside t u) : Beside s u := by
  unfold Beside at h k ⊢
  exact (congrArg (fun w : State => { w with
    slots := s.slots, rings := s.rings, apertures := s.apertures, changes := s.changes, notes := s.notes,
    steering := s.steering, arbiter := s.arbiter }) k :).trans h

theorem OnShelf.forwarded (h : OnShelf s t) : Forwarded s t :=
  ⟨by rw [h.steering], by rw [h.steering], .inl ⟨by rw [h.steering], h.arbiter⟩⟩

theorem Forwarded.trans (h : Forwarded s t) (k : Forwarded t u) : Forwarded s u := by
  refine ⟨k.waiting.trans h.waiting, k.lock.trans h.lock, ?_⟩
  rcases h.moved with ⟨h1, h2⟩ | ⟨h1, x, tg, h2⟩
  · rcases k.moved with ⟨k1, k2⟩ | ⟨k1, k2⟩
    · exact .inl ⟨k1.trans h1, k2.trans h2⟩
    · exact .inr ⟨h1 ▸ k1, k2⟩
  · rcases k.moved with ⟨k1, -⟩ | ⟨⟨_, _, _, _, k1⟩, -⟩
    · exact .inr ⟨h1, x, tg, k1.trans h2⟩
    · rw [h2] at k1; cases k1

theorem forwardStall_beside (s : State) (a : ApId) (r : RingId) (sl : SlotId) :
    Beside s (s.forwardStall a r sl) ∧ Forwarded s (s.forwardStall a r sl) := by
  unfold State.forwardStall
  split
  · next x b base timer hp =>
    split
    · rw [forwardInto_eq]
      exact ⟨rfl, rfl, rfl, .inr ⟨⟨x, b, base, timer, hp⟩, _, _, rfl⟩⟩
    · exact ⟨(OnShelf.refl s).beside, (OnShelf.refl s).forwarded⟩
  · exact ⟨(OnShelf.refl s).beside, (OnShelf.refl s).forwarded⟩

theorem acquireAtPublish_beside (r : RingId) (s : State) (a : ApId) :
    Beside s (State.acquireAtPublish r s a) ∧ Forwarded s (State.acquireAtPublish r s a) := by
  rcases acquireAtPublish_cases r s a with e | ⟨c, sl, -, -, -, -, e⟩ <;> rw [e]
  · exact ⟨(OnShelf.refl s).beside, (OnShelf.refl s).forwarded⟩
  · have acquired := OnShelf.acquire s a r c.pick sl
    obtain ⟨hb, hf⟩ := forwardStall_beside (s.acquire a r c.pick sl) a r sl
    exact ⟨acquired.beside.trans hb, acquired.forwarded.trans hf⟩

theorem acquisitions_beside (r : RingId) (as : List ApId) (s : State) :
    Beside s (as.foldl (State.acquireAtPublish r) s) ∧ Forwarded s (as.foldl (State.acquireAtPublish r) s) := by
  induction as generalizing s with
  | nil => exact ⟨(OnShelf.refl s).beside, (OnShelf.refl s).forwarded⟩
  | cons a as ih =>
    obtain ⟨hb, hf⟩ := acquireAtPublish_beside r s a
    obtain ⟨kb, kf⟩ := ih (State.acquireAtPublish r s a)
    exact ⟨hb.trans kb, hf.trans kf⟩

theorem decideRetain_onShelf (s : State) (a : ApId) (r : RingId) (sl : SlotId) :
    OnShelf s (s.decideRetain a r sl) := by
  unfold State.decideRetain
  split
  · split <;> rfl
  · rfl

theorem toReady_onShelf (s : State) (a : ApId) (r : RingId) (sl : SlotId) : OnShelf s (s.toReady a r sl) := rfl

theorem emptyReturn_onShelf (s : State) (a : ApId) (r : RingId) (sl : SlotId) :
    OnShelf s (s.emptyReturn a r sl) := by
  unfold State.emptyReturn
  refine OnShelf.trans ?_ (.applyRetirement _ sl)
  rfl

theorem publishStage_beside (s : State) (a : ApId) (r : RingId) :
    Beside s (s.publishStage a r) ∧ Forwarded s (s.publishStage a r) := by
  unfold State.publishStage
  split
  · next sl _ =>
    split
    · have ready : OnShelf s ((s.decideRetain a r sl).toReady a r sl) :=
        (decideRetain_onShelf s a r sl).trans (toReady_onShelf _ a r sl)
      obtain ⟨hb, hf⟩ := acquisitions_beside r allAps ((s.decideRetain a r sl).toReady a r sl)
      have checked := OnShelf.reclaim (allAps.foldl (State.acquireAtPublish r)
        ((s.decideRetain a r sl).toReady a r sl)) r
      rw [publish_eq]
      exact ⟨(ready.beside.trans hb).trans (checked _).beside, (ready.forwarded.trans hf).trans (checked _).forwarded⟩
    · have returned := emptyReturn_onShelf s a r sl
      exact ⟨returned.beside, returned.forwarded⟩
  · exact ⟨(OnShelf.refl s).beside, (OnShelf.refl s).forwarded⟩

/-- A boundary that at most forwards a stalled read ends with the grant decision. -/
theorem finish_of_forwarded (hs : s.Settled) (hf : Forwarded s t) (hp : PendingLe s t) (order : List ApId) :
    t.finish order = t.arbitrate := by
  have idle (b : ApId) : t.canRun b = false := by
    refine Bool.eq_false_iff.2 fun on => ?_
    obtain ⟨son, sdef⟩ := hp b (canRun_pends on)
    have must : s.mustDefer b = true := by
      have off := hs.deferred b
      by_contra k
      rw [State.canRun, son, sdef, Bool.eq_false_iff.2 k] at off
      cases off
    have still : t.mustDefer b = true := by
      rw [State.mustDefer, Bool.or_eq_true] at must ⊢
      rw [State.lockedThrough, hf.lock]
      rcases hf.moved with ⟨e, -⟩ | ⟨⟨x, d, base, timer, e⟩, -⟩
      · rw [State.inFlightThrough, e]; exact must
      · refine .inr (must.resolve_left fun k => ?_)
        rw [State.inFlightThrough, e] at k
        cases k
    rw [State.canRun, still, Bool.not_true, Bool.and_false] at on
    cases on
  rw [State.finish, runPending_of_idle idle]
  by_cases ho : t.steering.phase = .opened
  · refine drainAll_of_empty ?_
    rw [arbitrate_steering, hf.waiting]
    rcases hf.moved with ⟨e, -⟩ | ⟨-, x, tg, e⟩
    · exact hs.accepted (e ▸ ho)
    · rw [e] at ho; cases ho
  · exact drainPort_of_notOpened (by rw [arbitrate_steering]; exact ho) _

/-! ### The stages one after another -/

/-- The last stage: a producer that is still ON binds (R54, R62). -/
def State.bindIfOn (s : State) (a : ApId) (r : RingId) : State := if s.apOn a then s.bind a r else s

/-- The part after the publish stage and the counting step (R58 to R61). -/
def State.stepped (s : State) (a : ApId) (r : RingId) : State :=
  (s.publishStage a r).stepSchedule r (s.publishedFrame a)

theorem producerBoundary_eq (s : State) (a : ApId) (r : RingId) :
    s.producerBoundary a r = ((s.stepped a r).walkChanges a r).bindIfOn a r := rfl

theorem bindIfOn_onShelf (s : State) (a : ApId) (r : RingId) : OnShelf s (s.bindIfOn a r) := by
  unfold State.bindIfOn
  split
  · exact bind_onShelf s a r
  · exact .refl s

theorem stepSchedule_frame (s : State) (r : RingId) (n : Option Nat) :
    { s.stepSchedule r n with schedules := s.schedules, notes := s.notes } = s := by
  unfold State.stepSchedule
  simp only
  split <;> rfl

theorem stepSchedule_sched (s : State) (r q : RingId) (n : Option Nat) :
    (s.stepSchedule r n).sched q = if r = q then (s.sched q).step else s.sched q := by
  have stepped : (s.stepSchedule r n).sched q = (s.setSched r (s.sched r).step).sched q := by
    unfold State.stepSchedule
    simp only
    split <;> rfl
  rw [stepped, setSched_sched]
  split
  · next e => rw [e]
  · rfl

section
variable (hc : (s.ap a).config = some c) (hrole : c.role = .producer)
include hc hrole

theorem stepped_serving (L : Laws) (h : ¬ L.placed) : (s.stepped a c.ring).Serving L a .producer c.ring :=
  ⟨⟨c, by rw [State.stepped, stepSchedule_ap, publishStage_config, hc], hrole, rfl⟩, fun k => absurd k h⟩

/-- What the walk and the bind leave to the publish stage and the counting step. -/
theorem producerBoundary_onShelf : OnShelf (s.stepped a c.ring) (s.producerBoundary a c.ring) :=
  (walkChanges_onShelf (stepped_serving hc hrole Laws.none id)).trans (bindIfOn_onShelf _ a c.ring)

theorem producerBoundary_forwarded : Forwarded s (s.producerBoundary a c.ring) := by
  have frame := stepSchedule_frame (s.publishStage a c.ring) c.ring (s.publishedFrame a)
  have stepped : Forwarded (s.publishStage a c.ring) (s.stepped a c.ring) :=
    ⟨(congrArg (fun v : State => v.steering.waiting) frame :), (congrArg (fun v : State => v.steering.lock) frame :),
      .inl ⟨(congrArg (fun v : State => v.steering.phase) frame :), (congrArg State.arbiter frame :)⟩⟩
  exact ((publishStage_beside s a c.ring).2.trans stepped).trans (producerBoundary_onShelf hc hrole).forwarded

theorem producerBoundary_pending : PendingLe s (s.producerBoundary a c.ring) := by
  have := moving_boundary
  have := working_boundary
  exact (producerBoundary_moves s.obeys_boundary hc hrole).pending trivial

theorem producerBoundary_sched (q : RingId) :
    (s.producerBoundary a c.ring).sched q = if c.ring = q then (s.sched q).step else s.sched q := by
  have schedules := (producerBoundary_onShelf hc hrole).schedules
  have published : (s.publishStage a c.ring).schedules = s.schedules :=
    (congrArg State.schedules (publishStage_beside s a c.ring).1 :)
  have sched : (s.publishStage a c.ring).sched q = s.sched q := by unfold State.sched; rw [published]
  have whole : (s.producerBoundary a c.ring).sched q = (s.stepped a c.ring).sched q := by
    unfold State.sched; rw [schedules]
  rw [whole, State.stepped, stepSchedule_sched, sched]

theorem publishStage_onward : Onward s (s.publishStage a c.ring) := by
  have := moving_event
  have := working_event
  exact (publishStage_moves (g := .rest) s.obeys_event hc hrole).onward trivial

theorem walkAndBind_onward : Onward (s.stepped a c.ring) (s.producerBoundary a c.ring) := by
  have := moving_event
  have walk := (walkChanges_moves (g := .entriesOf a (some c.ring)) (s.stepped a c.ring).obeys_event
    ⟨rfl, fun _ => rfl⟩ (stepped_serving hc hrole Laws.event id)).1.onward trivial
  rw [producerBoundary_eq]
  refine walk.trans ?_
  unfold State.bindIfOn
  split
  · next on => exact (bind_moves (g := .rest) (State.obeys_event _) on nofun).onward trivial
  · exact .refl _

/-- The end of the last burst (R105). -/
theorem producerBoundary_done (hx : (s.sched c.ring).state = .retaining) (hd : (s.sched c.ring).step.state = .idle) :
    Raised s (s.producerBoundary a c.ring)
      { kind := .scheduleDone, ring := some c.ring, frame := s.publishedFrame a, detail := 1 } := by
  have published : (s.publishStage a c.ring).schedules = s.schedules :=
    (congrArg State.schedules (publishStage_beside s a c.ring).1 :)
  have sched : (s.publishStage a c.ring).sched c.ring = s.sched c.ring := by unfold State.sched; rw [published]
  have stepped : s.stepped a c.ring =
      ((s.publishStage a c.ring).setSched c.ring ((s.publishStage a c.ring).sched c.ring).step).raise
        { kind := .scheduleDone, ring := some c.ring, frame := s.publishedFrame a, detail := 1 } := by
    unfold State.stepped State.stepSchedule
    exact if_pos ⟨sched ▸ hx, sched ▸ hd⟩
  have before : Onward s ((s.publishStage a c.ring).setSched c.ring ((s.publishStage a c.ring).sched c.ring).step) :=
    (publishStage_onward hc hrole).trans (.congr rfl rfl)
  exact before.raised (stepped ▸ walkAndBind_onward hc hrole)

end

/-- The boundary of an ON producer: its stages, then the grant decision. -/
theorem exec_boundary_of_producer {order : List ApId} (h : s.link.phase = .request) (hs : s.Settled)
    (hacts : s.ActsNow a c) (hrole : c.role = .producer) :
    exec (.boundary (requestFor 0x05 [idWord a]) order) s =
      .next ((((s.counted a).producerBoundary a c.ring).arbitrate).answered 0x05 [idWord a] .done []) := by
  have hc := counted_config hacts
  rw [exec_boundary_of_on h hacts.on, boundaryAt_producer hacts hrole,
    finish_of_forwarded (counted_settled hs hacts.on) (producerBoundary_forwarded hc hrole)
      (producerBoundary_pending hc hrole)]

theorem Raised.congr {s' t' : State} {n : Note} (h : Raised s t n) (hs : s'.notes = s.notes)
    (ht : t'.notes = t.notes) : Raised s' t' n := by
  unfold Raised at h ⊢
  rwa [hs, ht]

theorem arbitrate_sched (s : State) (q : RingId) : s.arbitrate.sched q = s.sched q := by
  obtain ⟨_, _, e⟩ := arbitrate_frame s
  rw [e]; rfl

theorem counted_publishedFrame (s : State) (a : ApId) :
    (s.counted a).publishedFrame a =
      match (s.ap a).state with
      | .bound sl => if (s.slot sl).written then (s.slot sl).frame else none
      | _ => none := by
  unfold State.publishedFrame
  rw [counted_ap_self]
  cases (s.ap a).state <;> rfl

/-! ### The counting step (R105 to R107) -/

section
variable {x : Schedule}

theorem step_of_resting (h : x.state = .idle ∨ x.state = .armed) : x.step = x := by
  unfold Schedule.step
  rcases h with h | h <;> simp only [h]

theorem step_of_waiting (h : x.state = .delay ∨ x.state = .gap) :
    x.step = if x.remaining ≤ 1 then { x with state := .retaining, remaining := x.burst }
      else { x with remaining := x.remaining - 1 } := by
  unfold Schedule.step
  rcases h with h | h <;> simp only [h, Nat.sub_eq_zero_iff_le]

theorem step_of_retaining (h : x.state = .retaining) :
    x.step = if x.burst = 0 then x else if x.remaining ≤ 1 then x.burstEnd
      else { x with remaining := x.remaining - 1 } := by
  unfold Schedule.step
  simp only [h, Nat.sub_eq_zero_iff_le]

theorem step_of_burstEnd (h : x.state = .retaining) (hb : 0 < x.burst) (hr : x.remaining ≤ 1) :
    x.step = x.burstEnd := by
  rw [step_of_retaining h, if_neg (Nat.ne_of_gt hb), if_pos hr]

theorem burstEnd_of_last (hb : x.bursts ≠ 0) (hd : (x.burstsDone + 1) % 256 = x.bursts) :
    x.burstEnd = { x with state := .idle, remaining := 0, burstsDone := (x.burstsDone + 1) % 256 } := by
  unfold Schedule.burstEnd
  exact if_pos ⟨hb, hd⟩

theorem burstEnd_of_more (hb : x.bursts = 0 ∨ (x.burstsDone + 1) % 256 ≠ x.bursts) :
    x.burstEnd = if 0 < x.gap then
        { x with state := .gap, remaining := x.gap, burstsDone := (x.burstsDone + 1) % 256 }
      else { x with remaining := x.burst, burstsDone := (x.burstsDone + 1) % 256 } := by
  unfold Schedule.burstEnd
  exact if_neg fun h => hb.elim h.1 fun k => k h.2

end

end

/-- Settles O17: the schedule of the ring takes one counting step, and those of the others none. -/
theorem scheduleCountsProducerBoundaries : Obligations.ScheduleCountsProducerBoundaries := by
  intro s a c order h hs hacts hrole
  have e := exec_boundary_of_producer (order := order) h hs hacts hrole
  have hc := counted_config hacts
  have sched (q : RingId) : (((s.counted a).producerBoundary a c.ring).arbitrate).sched q =
      if c.ring = q then (s.sched q).step else s.sched q :=
    (arbitrate_sched _ q).trans (producerBoundary_sched hc hrole q)
  have done (hx : (s.sched c.ring).state = .retaining) (hd : (s.sched c.ring).step.state = .idle) :
      Raised s ((s.counted a).producerBoundary a c.ring).arbitrate
        { kind := .scheduleDone, ring := some c.ring, frame := (s.counted a).publishedFrame a, detail := 1 } :=
    (producerBoundary_done (s := s.counted a) hc hrole hx hd).congr rfl (arbitrate_notes _)
  rw [counted_publishedFrame] at done
  generalize ((s.counted a).producerBoundary a c.ring).arbitrate = u at e sched done
  refine ⟨_, e, fun q hq => (sched q).trans (if_neg hq.symm), ?_⟩
  rintro x rfl
  have own : u.sched c.ring = (s.sched c.ring).step := (sched c.ring).trans (if_pos rfl)
  refine ⟨fun hx => own.trans (step_of_resting hx), fun hx => ⟨fun hr => ?_, fun hr => ?_⟩, fun hx =>
    ⟨fun hb => ?_, fun hb hr => ?_, fun hb hr => ?_⟩⟩
  · exact own.trans ((step_of_waiting hx).trans (if_pos hr))
  · exact own.trans ((step_of_waiting hx).trans (if_neg (Nat.not_le.2 hr)))
  · exact own.trans ((step_of_retaining hx).trans (if_pos hb))
  · exact own.trans ((step_of_retaining hx).trans ((if_neg (Nat.ne_of_gt hb)).trans (if_neg (Nat.not_le.2 hr))))
  · rintro done' rfl
    have last := step_of_burstEnd hx hb hr
    refine ⟨fun hn hd => ?_, fun hm hg => ?_, fun hm hg => ?_⟩
    · have ended := last.trans (burstEnd_of_last hn hd)
      refine ⟨own.trans ended, ?_⟩
      exact done hx (by rw [ended])
    · exact own.trans (last.trans ((burstEnd_of_more hm).trans (if_pos hg)))
    · exact own.trans (last.trans ((burstEnd_of_more hm).trans (if_neg (by omega))))

end Sys2Proof.Machine
end

section
/-! PROOFS: the acquisitions at a publish (R81, R82): what each WAITING consumer takes, and what that leaves. -/

namespace Sys2Proof.Machine

section
variable {s t : State} {a b : ApId} {c d : ApConfig} {r q : RingId} {x y : SlotId}

/-! ### What one consumer takes (R81) -/

/-- The slot that an aperture acquires as a ring publishes: none unless it is a WAITING consumer. -/
def State.acquires (s : State) (r : RingId) (b : ApId) : Option SlotId :=
  if ApSet.has (s.ring r).consumers b = true ∧ (s.ap b).state = .unbound then
    (s.ap b).config.bind fun d =>
      match d.pick with
      | .newest  => (s.ring r).ready.getLast?
      | .ordered => (s.ring r).ready.find? fun y => !ApSet.has (s.slot y).passedBy b
  else none

/-- The slots that an aperture passes as a ring publishes (R7). -/
def State.passesAt (s : State) (r : RingId) (b : ApId) (y : SlotId) : Prop :=
  ∃ x d, s.acquires r b = some x ∧ (s.ap b).config = some d ∧ d.pick = .ordered ∧
    y ∈ takeThrough x (s.ring r).ready

theorem acquires_waiting (h : s.acquires r b = some x) :
    ApSet.has (s.ring r).consumers b = true ∧ (s.ap b).state = .unbound ∧ ∃ d, (s.ap b).config = some d := by
  unfold State.acquires at h
  split at h
  · next k =>
    obtain ⟨d, hd, -⟩ := Option.bind_eq_some_iff.1 h
    exact ⟨k.1, k.2, d, hd⟩
  · cases h

theorem acquires_of_waiting (hb : ApSet.has (s.ring r).consumers b = true) (hst : (s.ap b).state = .unbound)
    (hd : (s.ap b).config = some d) :
    s.acquires r b =
      match d.pick with
      | .newest  => (s.ring r).ready.getLast?
      | .ordered => (s.ring r).ready.find? fun y => !ApSet.has (s.slot y).passedBy b := by
  unfold State.acquires
  rw [if_pos ⟨hb, hst⟩, hd]
  rfl

theorem acquires_mem (h : s.acquires r b = some x) : x ∈ (s.ring r).ready := by
  obtain ⟨hb, hst, d, hd⟩ := acquires_waiting h
  rw [acquires_of_waiting hb hst hd] at h
  split at h
  · exact List.mem_of_getLast? h
  · exact List.mem_of_find?_eq_some h

theorem acquires_congr (ring : t.ring r = s.ring r) (ap : t.ap b = s.ap b)
    (passed : ∀ y, ApSet.has (t.slot y).passedBy b = ApSet.has (s.slot y).passedBy b) :
    t.acquires r b = s.acquires r b := by
  unfold State.acquires
  simp only [ring, ap, passed]

theorem acquireAtPublish_of_none (h : s.acquires r b = none) : State.acquireAtPublish r s b = s := by
  unfold State.acquireAtPublish
  split
  · next k =>
    obtain ⟨hb, hst⟩ := Bool.and_eq_true_iff.1 k
    split
    · rfl
    · next d hd =>
      rw [acquires_of_waiting hb (of_decide_eq_true hst) hd] at h
      split
      · next x hx =>
        cases hp : d.pick <;> rw [hp] at h hx <;> exact absurd (hx.symm.trans h) nofun
      · rfl
  · rfl

theorem acquireAtPublish_of_some (h : s.acquires r b = some x) (hd : (s.ap b).config = some d) :
    State.acquireAtPublish r s b = (s.acquire b r d.pick x).forwardStall b r x := by
  obtain ⟨hb, hst, -⟩ := acquires_waiting h
  rw [acquires_of_waiting hb hst hd] at h
  unfold State.acquireAtPublish
  rw [if_pos (Bool.and_eq_true_iff.2 ⟨hb, decide_eq_true hst⟩), hd]
  cases hp : d.pick with
  | newest =>
    rw [hp] at h
    simp only [State.newestReady, h, hp]
  | ordered =>
    rw [hp] at h
    simp only [State.candidate, h, hp]

theorem forwardStall_slot (s : State) (a : ApId) (r : RingId) (x y : SlotId) :
    (s.forwardStall a r x).slot y = s.slot y := by
  unfold State.forwardStall
  split
  · split <;> rfl
  · rfl

theorem forwardStall_ap (s : State) (a b : ApId) (r : RingId) (x : SlotId) :
    (s.forwardStall a r x).ap b = s.ap b := by
  unfold State.forwardStall
  split
  · split <;> rfl
  · rfl

/-- The aperture record that an acquisition leaves. -/
def Aperture.acquired (p : Aperture) : Option SlotId → Aperture
  | none   => p
  | some x => { p with state := .bound x }

theorem acquireAtPublish_ap (s : State) (r : RingId) (a b : ApId) :
    (State.acquireAtPublish r s a).ap b = if a = b then (s.ap b).acquired (s.acquires r b) else s.ap b := by
  cases h : s.acquires r a with
  | none =>
    rw [acquireAtPublish_of_none h]
    split
    · next e => rw [← e, h]; rfl
    · rfl
  | some x =>
    obtain ⟨-, -, d, hd⟩ := acquires_waiting h
    rw [acquireAtPublish_of_some h hd, forwardStall_ap, acquire_ap]
    split
    · next e => subst e; rw [h, setApState_ap_self]; rfl
    · next e => exact setApState_ap_ne _ _ e

open Classical in
theorem acquireAtPublish_slot (s : State) (r : RingId) (a : ApId) (y : SlotId) :
    (State.acquireAtPublish r s a).slot y =
      { s.slot y with
        holders := if s.acquires r a = some y then ApSet.insert (s.slot y).holders a else (s.slot y).holders
        passedBy := if s.passesAt r a y then ApSet.insert (s.slot y).passedBy a else (s.slot y).passedBy } := by
  cases h : s.acquires r a with
  | none =>
    have none : ¬ s.passesAt r a y := fun ⟨x, _, k, _⟩ => by rw [h] at k; cases k
    rw [acquireAtPublish_of_none h, if_neg none]
    simp
  | some x =>
    obtain ⟨-, -, d, hd⟩ := acquires_waiting h
    have passes : s.passesAt r a y ↔ d.pick = .ordered ∧ y ∈ takeThrough x (s.ring r).ready := by
      constructor
      · rintro ⟨x', d', h', hd', k⟩
        obtain rfl := Option.some.inj (h.symm.trans h')
        obtain rfl := Option.some.inj (hd.symm.trans hd')
        exact k
      · exact fun k => ⟨x, d, h, hd, k⟩
    rw [acquireAtPublish_of_some h hd, forwardStall_slot, acquire_slot]
    simp only [passes, Option.some.injEq, eq_comm (a := y)]

/-! ### All the acquisitions of a publish -/

/-- What the acquisitions of some apertures leave: each takes what it would take alone. -/
structure Acquired (s t : State) (r : RingId) (as : List ApId) : Prop where
  rings   : ∀ q, t.ring q = s.ring q
  ap      : ∀ b, t.ap b = if b ∈ as then (s.ap b).acquired (s.acquires r b) else s.ap b
  fields  : ∀ y, t.slot y = { s.slot y with holders := (t.slot y).holders, passedBy := (t.slot y).passedBy }
  holders : ∀ y b, ApSet.has (t.slot y).holders b = true ↔
    ApSet.has (s.slot y).holders b = true ∨ b ∈ as ∧ s.acquires r b = some y
  passed  : ∀ y b, ApSet.has (t.slot y).passedBy b = true ↔
    ApSet.has (s.slot y).passedBy b = true ∨ b ∈ as ∧ s.passesAt r b y

theorem Acquired.refl (s : State) (r : RingId) : Acquired s s r [] :=
  ⟨fun _ => rfl, fun _ => by simp, fun _ => rfl, fun _ _ => by simp, fun _ _ => by simp⟩

theorem Acquired.acquires {as : List ApId} (h : Acquired s t r as) (hb : b ∉ as) : t.acquires r b = s.acquires r b := by
  refine acquires_congr (h.rings r) ((h.ap b).trans (if_neg hb)) fun y => ?_
  have passed := h.passed y b
  simp only [hb, false_and, or_false] at passed
  exact Bool.eq_iff_iff.2 passed

theorem Acquired.next {as : List ApId} (h : Acquired s t r as) (ha : a ∉ as) :
    Acquired s (State.acquireAtPublish r t a) r (as ++ [a]) := by
  have same := h.acquires ha
  have ap := (h.ap a).trans (if_neg ha)
  have passes (y : SlotId) : t.passesAt r a y ↔ s.passesAt r a y := by
    unfold State.passesAt
    rw [same, ap, h.rings]
  refine ⟨fun q => ?_, fun b => ?_, fun y => ?_, fun y b => ?_, fun y b => ?_⟩
  · rw [acquireAtPublish_ring, h.rings]
  · rw [acquireAtPublish_ap, h.ap]
    by_cases e : a = b
    · subst e; simp [ha, same]
    · simp [e, Ne.symm e]
  · rw [acquireAtPublish_slot]
    have fields := h.fields y
    generalize t.slot y = z at fields
    rw [fields]
  · rw [acquireAtPublish_slot, same]
    have holders := h.holders y b
    by_cases k : s.acquires r a = some y
    · by_cases e : b = a
      · subst e; simp [k]
      · simp [k, e, holders]
    · by_cases e : b = a
      · subst e; simp [k, holders, ha]
      · simp [k, e, holders]
  · rw [acquireAtPublish_slot]
    have passed := h.passed y b
    by_cases k : s.passesAt r a y
    · by_cases e : b = a
      · subst e; simp [k, passes]
      · simp [k, e, passed, passes]
    · by_cases e : b = a
      · subst e; simp [k, passed, ha, passes]
      · simp [k, e, passed, passes]

theorem Acquired.foldl {as : List ApId} (h : Acquired s t r as) (bs : List ApId) (hn : (as ++ bs).Nodup) :
    Acquired s (bs.foldl (State.acquireAtPublish r) t) r (as ++ bs) := by
  induction bs generalizing t as with
  | nil => rw [List.append_nil]; exact h
  | cons b bs ih =>
    have hb : b ∉ as := fun k => (List.disjoint_of_nodup_append hn) k (by simp)
    rw [List.append_cons] at hn ⊢
    exact ih (h.next hb) hn

/-- The part as the acquisitions of a publish leave it. -/
def State.acquisitions (s : State) (r : RingId) : State := allAps.foldl (State.acquireAtPublish r) s

theorem acquisitions_acquired (s : State) (r : RingId) : Acquired s (s.acquisitions r) r allAps :=
  (Acquired.refl s r).foldl allAps (List.nodup_finRange 8)

/-! ### The stalled read (R40, R82) -/

theorem acquireAtPublish_ports (h : ∀ w base timer, s.steering.phase ≠ .stalled w a base timer) :
    (State.acquireAtPublish r s a).steering = s.steering ∧ (State.acquireAtPublish r s a).arbiter = s.arbiter := by
  rcases acquireAtPublish_cases r s a with e | ⟨d, x, -, -, -, -, e⟩ <;> rw [e]
  · exact ⟨rfl, rfl⟩
  · have shelf := OnShelf.acquire s a r d.pick x
    unfold State.forwardStall
    rw [shelf.steering]
    split
    · next w b base timer hp =>
      rw [if_neg fun k : b = a => h w base timer (k ▸ hp)]
      exact ⟨shelf.steering, shelf.arbiter⟩
    · exact ⟨shelf.steering, shelf.arbiter⟩

theorem acquisitions_ports {as : List ApId}
    (h : ∀ a ∈ as, ∀ w base timer, s.steering.phase ≠ .stalled w a base timer) :
    (as.foldl (State.acquireAtPublish r) s).steering = s.steering ∧
      (as.foldl (State.acquireAtPublish r) s).arbiter = s.arbiter := by
  induction as generalizing s with
  | nil => exact ⟨rfl, rfl⟩
  | cons a as ih =>
    obtain ⟨hs, ha⟩ := acquireAtPublish_ports (r := r) (h a (by simp))
    obtain ⟨ks, ka⟩ := ih (s := State.acquireAtPublish r s a) fun b hb => by rw [hs]; exact h b (by simp [hb])
    exact ⟨ks.trans hs, ka.trans ha⟩

/-- A read stalled on a consumer goes in flight into the slot the consumer acquires (R40). -/
theorem acquisitions_forward {w : Txn} {base : Addr} {timer : Option Nat}
    (hp : s.steering.phase = .stalled w b base timer) (hx : s.acquires r b = some x) :
    (s.acquisitions r).steering =
        { s.steering with
          phase := .inFlight w (some { ap := b, ring := r, slot := x, frame := (s.slot x).frame }) } ∧
      (s.acquisitions r).arbiter =
        { s.arbiter with steeringClaim := some { w with address := s.slotBase x + (w.address - base) } } := by
  obtain ⟨l, m, hl⟩ := List.append_of_mem (List.mem_finRange b)
  have nodup : (l ++ b :: m).Nodup := hl ▸ List.nodup_finRange 8
  have hb : b ∉ l := fun k => (List.disjoint_of_nodup_append nodup) k (by simp)
  have before : Acquired s (l.foldl (State.acquireAtPublish r) s) r l :=
    (Acquired.refl s r).foldl l (nodup.sublist (List.sublist_append_left l _))
  obtain ⟨hs, ha⟩ := acquisitions_ports (s := s) (r := r) (as := l) fun a hal w' base' timer' k => by
    rw [hp] at k
    cases k
    exact hb hal
  have whole : s.acquisitions r =
      m.foldl (State.acquireAtPublish r) (State.acquireAtPublish r (l.foldl (State.acquireAtPublish r) s) b) := by
    unfold State.acquisitions
    rw [show allAps = l ++ b :: m from hl, List.foldl_append]
    rfl
  generalize l.foldl (State.acquireAtPublish r) s = t at before hs ha whole
  obtain ⟨-, -, d, hd⟩ := acquires_waiting hx
  have forward := acquireAtPublish_of_some ((before.acquires hb).trans hx)
    (show (t.ap b).config = some d by rw [before.ap, if_neg hb]; exact hd)
  have shelf := OnShelf.acquire t b r d.pick x
  have home : ((t.acquire b r d.pick x).slot x).home = (s.slot x).home := by
    rw [acquire_slot]; exact (congrArg Slot.home (before.fields x) :)
  have frame : ((t.acquire b r d.pick x).slot x).frame = (s.slot x).frame := by
    rw [acquire_slot]; exact (congrArg Slot.frame (before.fields x) :)
  have into : State.acquireAtPublish r t b = (t.acquire b r d.pick x).forwardInto w b r base x := by
    rw [forward, State.forwardStall, shelf.steering, hs, hp]
    exact if_pos rfl
  obtain ⟨ks, ka⟩ := acquisitions_ports (s := State.acquireAtPublish r t b) (r := r) (as := m)
    fun a _ w' base' timer' k => by
      rw [into, forwardInto_eq] at k
      cases k
  rw [whole, ks, ka, into, forwardInto_eq, slotBase_congr home, frame, shelf.steering, shelf.arbiter, hs, ha]
  exact ⟨rfl, rfl⟩

end

end Sys2Proof.Machine
end

section
/-! PROOFS: what the publish of a written slot leaves (R58, R103, R104, R12, R13), before the schedule counts
and the Change Queue is walked. -/

namespace Sys2Proof.Machine

section
variable {s t : State} {a b : ApId} {c d : ApConfig} {r q : RingId} {sl x y : SlotId}

/-! ### The decision, and the slot at the ready tail (R58, R103, R104) -/

/-- The slot being published is to be retained, and the guard allows it. -/
def State.retains (s : State) (r : RingId) : Bool := s.wantsRetain r && s.guardAllows r

/-- The part with a slot just published, before anyone acquires it. -/
def State.laidOut (s : State) (a : ApId) (r : RingId) (sl : SlotId) : State :=
  (s.decideRetain a r sl).toReady a r sl

theorem decideRetain_slot (s : State) (a : ApId) (r : RingId) (sl y : SlotId) :
    (s.decideRetain a r sl).slot y =
      { s.slot y with retained := (s.slot y).retained || (decide (y = sl) && s.retains r) } := by
  unfold State.decideRetain State.retains
  cases hw : s.wantsRetain r <;> cases hg : s.guardAllows r <;> simp [setSlot_slot]
  split
  · next e => subst e; simp
  · next e => simp [Ne.symm e]

theorem laidOut_slot (s : State) (a : ApId) (r : RingId) (sl y : SlotId) :
    (s.laidOut a r sl).slot y =
      { s.slot y with retained := (s.slot y).retained || (decide (y = sl) && s.retains r) } :=
  decideRetain_slot s a r sl y

theorem laidOut_slot_ne (h : y ≠ sl) : (s.laidOut a r sl).slot y = s.slot y := by
  rw [laidOut_slot]; simp [h]

theorem laidOut_ring_self (s : State) (a : ApId) (r : RingId) (sl : SlotId) :
    (s.laidOut a r sl).ring r = { s.ring r with ready := (s.ring r).ready ++ [sl] } := by
  rw [State.laidOut, toReady_ring, if_pos rfl, decideRetain_ring]

theorem laidOut_ring_ne (h : q ≠ r) : (s.laidOut a r sl).ring q = s.ring q := by
  rw [State.laidOut, toReady_ring, if_neg h.symm, decideRetain_ring]

theorem laidOut_ap_self (s : State) (a : ApId) (r : RingId) (sl : SlotId) :
    (s.laidOut a r sl).ap a = { s.ap a with state := .unbound } := by
  rw [State.laidOut, toReady_ap, setApState_ap_self, decideRetain_ap]

theorem laidOut_ap_ne (h : a ≠ b) : (s.laidOut a r sl).ap b = s.ap b := by
  rw [State.laidOut, toReady_ap, setApState_ap_ne _ _ h, decideRetain_ap]

theorem laidOut_onShelf (s : State) (a : ApId) (r : RingId) (sl : SlotId) : OnShelf s (s.laidOut a r sl) :=
  (decideRetain_onShelf s a r sl).trans (toReady_onShelf _ a r sl)

theorem decideRetain_changes (s : State) (a : ApId) (r : RingId) (sl : SlotId) :
    (s.decideRetain a r sl).changes = s.changes := by
  unfold State.decideRetain
  split
  · split <;> rfl
  · rfl

theorem laidOut_changes (s : State) (a : ApId) (r : RingId) (sl : SlotId) :
    (s.laidOut a r sl).changes = s.changes := decideRetain_changes s a r sl

/-- The note of the publish (R58). -/
def State.publishedNote (s : State) (a : ApId) (r : RingId) (sl : SlotId) : Note :=
  { kind := .framePublished, ring := some r, aperture := some a, slot := some sl, frame := (s.slot sl).frame
    detail := bit ((s.slot sl).retained || s.retains r) }

/-- The note of a refusal by the guard (R104). -/
def State.refusedNote (s : State) (a : ApId) (r : RingId) (sl : SlotId) : Note :=
  { kind := .retainRefused, ring := some r, aperture := some a, slot := some sl, frame := (s.slot sl).frame
    detail := s.setAside r }

theorem decideRetain_onward (s : State) (a : ApId) (r : RingId) (sl : SlotId) :
    Onward s (s.decideRetain a r sl) :=
  (decideRetain_moves (g := .rest) s.obeys_event a r sl).onward trivial

/-- Everything of the layout but its note. -/
theorem unnoted_onward (on : s.apOn a = true) :
    Onward s (((s.decideRetain a r sl).setApState a .unbound).setRing r
      { (s.decideRetain a r sl).ring r with ready := ((s.decideRetain a r sl).ring r).ready ++ [sl] }) := by
  refine (decideRetain_onward s a r sl).trans ((Onward.state .unbound fun _ => ?_).trans (.congr rfl rfl))
  rw [decideRetain_ap]; exact apOn_eq_true.1 on

theorem laidOut_eq (s : State) (a : ApId) (r : RingId) (sl : SlotId) :
    s.laidOut a r sl = State.raise (((s.decideRetain a r sl).setApState a .unbound).setRing r
      { (s.decideRetain a r sl).ring r with ready := ((s.decideRetain a r sl).ring r).ready ++ [sl] })
      (s.publishedNote a r sl) := by
  have frame : ((s.decideRetain a r sl).slot sl).frame = (s.slot sl).frame := by rw [decideRetain_slot]
  have retained : ((s.decideRetain a r sl).slot sl).retained = ((s.slot sl).retained || s.retains r) := by
    rw [decideRetain_slot]; simp
  unfold State.laidOut State.toReady State.publishedNote
  rw [frame, retained]
  rfl

theorem laidOut_onward (on : s.apOn a = true) : Onward s (s.laidOut a r sl) := by
  rw [laidOut_eq]
  exact (unnoted_onward on).trans (.raise _ _)

theorem laidOut_published (on : s.apOn a = true) (after : Onward (s.laidOut a r sl) t) :
    Raised s t (s.publishedNote a r sl) :=
  (unnoted_onward on).raised (laidOut_eq s a r sl ▸ after)

theorem laidOut_refused (on : s.apOn a = true) (hw : s.wantsRetain r = true) (hg : s.guardAllows r = false)
    (after : Onward (s.laidOut a r sl) t) : Raised s t (s.refusedNote a r sl) := by
  have decided : s.decideRetain a r sl = s.raise (s.refusedNote a r sl) := by
    unfold State.decideRetain
    rw [if_pos hw, if_neg (by rw [hg]; nofun)]
    rfl
  refine (Onward.refl s).raised ?_
  rw [← decided]
  refine Onward.trans ?_ after
  rw [laidOut_eq]
  refine Onward.trans ?_ (.raise _ _)
  refine (Onward.state .unbound fun _ => ?_).trans (.congr rfl rfl)
  rw [decideRetain_ap]; exact apOn_eq_true.1 on

/-! ### The acquisitions, and the slots they leave to reclaim (R12, R13, R81) -/

/-- The part with a slot published and acquired, before the reclamation check. -/
def State.offered (s : State) (a : ApId) (r : RingId) (sl : SlotId) : State := (s.laidOut a r sl).acquisitions r

/-- The slots that leave the ready list at a publish. -/
def State.publishLeaving (s : State) (a : ApId) (r : RingId) (sl : SlotId) : List SlotId :=
  (s.offered a r sl).leaving r ((s.offered a r sl).ring r).ready

theorem publish_offered (s : State) (a : ApId) (r : RingId) (sl : SlotId) :
    s.publish a r sl = (s.offered a r sl).reclaimAll r := rfl

theorem offered_acquired (s : State) (a : ApId) (r : RingId) (sl : SlotId) :
    Acquired (s.laidOut a r sl) (s.offered a r sl) r allAps := acquisitions_acquired _ r

theorem offered_ring_self (s : State) (a : ApId) (r : RingId) (sl : SlotId) :
    (s.offered a r sl).ring r = { s.ring r with ready := (s.ring r).ready ++ [sl] } :=
  ((offered_acquired s a r sl).rings r).trans (laidOut_ring_self s a r sl)

theorem offered_ring_ne (h : q ≠ r) : (s.offered a r sl).ring q = s.ring q :=
  ((offered_acquired s a r sl).rings q).trans (laidOut_ring_ne h)

theorem offered_slot (s : State) (a : ApId) (r : RingId) (sl y : SlotId) :
    (s.offered a r sl).slot y =
      { s.slot y with
        retained := (s.slot y).retained || (decide (y = sl) && s.retains r)
        holders := ((s.offered a r sl).slot y).holders
        passedBy := ((s.offered a r sl).slot y).passedBy } := by
  have fields := (offered_acquired s a r sl).fields y
  rw [laidOut_slot] at fields
  exact fields

theorem offered_holders (y : SlotId) (b : ApId) :
    ApSet.has ((s.offered a r sl).slot y).holders b = true ↔
      ApSet.has (s.slot y).holders b = true ∨ (s.laidOut a r sl).acquires r b = some y := by
  have h := (offered_acquired s a r sl).holders y b
  rw [laidOut_slot] at h
  simpa only [show b ∈ allAps from List.mem_finRange b, true_and] using h

theorem offered_passed (y : SlotId) (b : ApId) :
    ApSet.has ((s.offered a r sl).slot y).passedBy b = true ↔
      ApSet.has (s.slot y).passedBy b = true ∨ (s.laidOut a r sl).passesAt r b y := by
  have h := (offered_acquired s a r sl).passed y b
  rw [laidOut_slot] at h
  simpa only [show b ∈ allAps from List.mem_finRange b, true_and] using h

theorem offered_ap (s : State) (a : ApId) (r : RingId) (sl : SlotId) (b : ApId) :
    (s.offered a r sl).ap b = ((s.laidOut a r sl).ap b).acquired ((s.laidOut a r sl).acquires r b) :=
  ((offered_acquired s a r sl).ap b).trans (if_pos (List.mem_finRange b))

theorem offered_config (b : ApId) : ((s.offered a r sl).ap b).config = (s.ap b).config := by
  have kept (p : Aperture) (o : Option SlotId) : (p.acquired o).config = p.config := by cases o <;> rfl
  rw [offered_ap, kept]
  by_cases e : a = b
  · subst e; rw [laidOut_ap_self]
  · rw [laidOut_ap_ne e]

/-- What a WAITING consumer takes, in terms of the part before the publish. -/
theorem laidOut_acquires (hab : a ≠ b) (hb : ApSet.has (s.ring r).consumers b = true)
    (hst : (s.ap b).state = .unbound) (hd : (s.ap b).config = some d) :
    (s.laidOut a r sl).acquires r b =
      match d.pick with
      | .newest  => some sl
      | .ordered => ((s.ring r).ready ++ [sl]).find? fun y => !ApSet.has (s.slot y).passedBy b := by
  rw [acquires_of_waiting (d := d) (by rw [laidOut_ring_self]; exact hb) (by rw [laidOut_ap_ne hab]; exact hst)
    (by rw [laidOut_ap_ne hab]; exact hd), laidOut_ring_self]
  cases d.pick with
  | newest => exact List.getLast?_concat ..
  | ordered => simp only [laidOut_slot]

theorem before_takeThrough {p : SlotId → Bool} {l : List SlotId} (h : l.find? p = some x)
    (hy : y ∈ takeThrough x l) (hne : y ≠ x) : p y = false := by
  induction l with
  | nil => cases h
  | cons z zs ih =>
    unfold takeThrough at hy
    rw [List.find?_cons] at h
    cases hz : p z with
    | true =>
      rw [hz] at h
      obtain rfl : z = x := Option.some.inj h
      rw [if_pos rfl] at hy
      exact absurd (List.mem_singleton.1 hy) hne
    | false =>
      rw [hz] at h
      split at hy
      · rw [List.mem_singleton.1 hy]; exact hz
      · rcases List.mem_cons.1 hy with rfl | hy
        · exact hz
        · exact ih h hy

theorem sl_not_leaving : sl ∉ s.publishLeaving a r sl :=
  newest_not_leaving _ _ _ (by rw [offered_ring_self]; exact List.getLast?_concat ..)

theorem publishLeaving_sublist : (s.publishLeaving a r sl).Sublist (s.ring r).ready := by
  have sub : (s.publishLeaving a r sl).Sublist ((s.ring r).ready ++ [sl]) := by
    have ready : ((s.offered a r sl).ring r).ready = (s.ring r).ready ++ [sl] := by rw [offered_ring_self]
    exact ready ▸ leaving_sublist ..
  obtain ⟨l, m, e, hl, hm⟩ := List.sublist_append_iff.1 sub
  rcases List.sublist_singleton.1 hm with rfl | rfl
  · rw [e, List.append_nil]; exact hl
  · exact absurd (e ▸ List.mem_append_right l (List.mem_singleton.2 rfl)) sl_not_leaving

section
variable (hp : s.Placed) (hc : (s.ap a).config = some c)
  (hrole : c.role = .producer)
include hp hc hrole

/-- The producer acquires nothing. -/
theorem acquires_ne_producer (h : (s.laidOut a r sl).acquires r b = some x) : a ≠ b := by
  rintro rfl
  have none := hp.not_consumer hc hrole r
  have some := (acquires_waiting h).1
  rw [laidOut_ring_self] at some
  exact absurd (none.symm.trans some) nofun

/-- A READY slot that a consumer acquires at a publish is one it had not passed (R81). -/
theorem not_passed_of_acquires (hy : y ≠ sl) (h : (s.laidOut a r sl).acquires r b = some y) :
    ∃ d, ApSet.has (s.ring r).consumers b = true ∧ (s.ap b).config = some d ∧ d.pick = .ordered ∧
      ApSet.has (s.slot y).passedBy b = false := by
  have hab := acquires_ne_producer hp hc hrole h
  obtain ⟨hcons, hst, d, hd⟩ := acquires_waiting h
  rw [laidOut_ring_self] at hcons
  rw [laidOut_ap_ne hab] at hst hd
  rw [laidOut_acquires hab hcons hst hd] at h
  cases hpick : d.pick with
  | newest => rw [hpick] at h; exact absurd (Option.some.inj h).symm hy
  | ordered =>
    rw [hpick] at h
    exact ⟨d, hcons, hd, hpick, by simpa using List.find?_some h⟩

/-- A slot that an ORDERED consumer passes without acquiring it is one that it had passed (R7, R81). -/
theorem passed_of_passesAt (h : (s.laidOut a r sl).passesAt r b y) (hne : (s.laidOut a r sl).acquires r b ≠ some y) :
    ApSet.has (s.slot y).passedBy b = true := by
  obtain ⟨x, d, hx, hd, hpick, hy⟩ := h
  have hab := acquires_ne_producer hp hc hrole hx
  obtain ⟨hcons, hst, -⟩ := acquires_waiting hx
  rw [laidOut_ring_self] at hcons hy
  rw [laidOut_ap_ne hab] at hst hd
  have found := hx
  rw [laidOut_acquires hab hcons hst hd, hpick] at found
  simpa using before_takeThrough found hy fun e => hne (e ▸ hx)

/-- Exactly the READY slots that no aperture holds and every ON ORDERED consumer has passed leave (R12). -/
theorem mem_publishLeaving (hy : y ∈ (s.ring r).ready) (hne : y ≠ sl) :
    y ∈ s.publishLeaving a r sl ↔ (s.slot y).holders = 0 ∧
      ∀ b d, ApSet.has (s.ring r).consumers b = true → (s.ap b).config = some d → d.pick = .ordered →
        ApSet.has (s.slot y).passedBy b = true := by
  have last : ((s.offered a r sl).ring r).ready.getLast? ≠ some y := by
    rw [offered_ring_self]
    exact fun e => hne (Option.some.inj ((List.getLast?_concat ..).symm.trans e)).symm
  have mem : y ∈ ((s.offered a r sl).ring r).ready := by
    rw [offered_ring_self]; exact List.mem_append_left _ hy
  unfold State.publishLeaving
  rw [mem_leaving, State.MeetsReclamation, ApSet.eq_zero_iff, ApSet.eq_zero_iff]
  constructor
  · rintro ⟨-, -, holders, passed, -⟩
    have unheld (b : ApId) : ¬ (ApSet.has (s.slot y).holders b = true ∨
        (s.laidOut a r sl).acquires r b = some y) := fun k => by
      have held := (offered_holders y b).2 k
      rw [holders b] at held
      cases held
    refine ⟨fun b => Bool.eq_false_iff.2 fun k => unheld b (.inl k), fun b d hcons hd hpick => ?_⟩
    have k := passed b d (by rw [offered_ring_self]; exact hcons) (by rw [offered_config]; exact hd) hpick
    rcases (offered_passed y b).1 k with k | k
    · exact k
    · exact passed_of_passesAt hp hc hrole k fun e => unheld b (.inr e)
  · rintro ⟨holders, passed⟩
    refine ⟨mem, mem, fun b => Bool.eq_false_iff.2 fun k => ?_, fun b d hcons hd hpick => ?_, last⟩
    · rcases (offered_holders y b).1 k with k | k
      · rw [holders b] at k; cases k
      · obtain ⟨d, hcons, hd, hpick, off⟩ := not_passed_of_acquires hp hc hrole hne k
        exact absurd (off.symm.trans (passed b d hcons hd hpick)) nofun
    · rw [offered_ring_self] at hcons
      rw [offered_config] at hd
      exact (offered_passed y b).2 (.inl (passed b d hcons hd hpick))


end

end

end Sys2Proof.Machine
end

section
/-! PROOFS: what the walk of a producer's boundary leaves alone (R150, R152, R156). -/

namespace Sys2Proof.Machine

section
variable {L : Laws} {s t u : State} {a b : ApId} {c : ApConfig} {r q : RingId} {sl x y : SlotId} {e : Change}

/-- What the entries of a producer and of its ring, and the counted ones, leave. -/
structure Walked (s t : State) (a : ApId) (r : RingId) : Prop where
  slots    : ∀ y, t.slot y = { s.slot y with retirePending := (t.slot y).retirePending }
  aps      : ∀ b, b ≠ a → t.ap b = s.ap b
  state    : (t.ap a).state = (s.ap a).state ∨ (t.ap a).state = .off ∧ (t.ring r).producer = none
  ring     : t.ring r = { s.ring r with overflow := (t.ring r).overflow, producer := (t.ring r).producer }
  producer : (t.ring r).producer = (s.ring r).producer ∨ (t.ring r).producer = none
  rings    : ∀ q, q ≠ r → t.ring q = s.ring q

theorem Walked.refl (s : State) (a : ApId) (r : RingId) : Walked s s a r :=
  ⟨fun _ => rfl, fun _ _ => rfl, .inl rfl, rfl, .inl rfl, fun _ _ => rfl⟩

theorem Walked.trans (h : Walked s t a r) (k : Walked t u a r) : Walked s u a r where
  slots y := by
    have hy := h.slots y
    have ky := k.slots y
    generalize u.slot y = z at ky
    rw [ky, hy]
  aps b hb := (k.aps b hb).trans (h.aps b hb)
  state := by
    rcases k.state with e | e
    · rcases h.state with f | ⟨f, g⟩
      · exact .inl (e.trans f)
      · exact .inr ⟨e.trans f, k.producer.elim (·.trans g) id⟩
    · exact .inr e
  ring := by
    have hr := h.ring
    have kr := k.ring
    generalize u.ring r = z at kr
    rw [kr, hr]
  producer := k.producer.elim (fun e => h.producer.elim (fun f => .inl (e.trans f)) fun f => .inr (e.trans f)) .inr
  rings q hq := (k.rings q hq).trans (h.rings q hq)

theorem Walked.congr (slots : t.slots = s.slots) (rings : t.rings = s.rings) (aps : t.apertures = s.apertures) :
    Walked s t a r := by
  have slot (y : SlotId) : t.slot y = s.slot y := by unfold State.slot; rw [slots]
  have ring (q : RingId) : t.ring q = s.ring q := by unfold State.ring; rw [rings]
  have ap (b : ApId) : t.ap b = s.ap b := by unfold State.ap; rw [aps]
  exact ⟨fun y => by rw [slot], fun b _ => ap b, .inl (by rw [ap]), by rw [ring], .inl (by rw [ring]),
    fun q _ => ring q⟩

/-- A record of the producer written, its state kept. -/
theorem Walked.setAp (p : Aperture) (h : p.state = (s.ap a).state) : Walked s (s.setAp a p) a r :=
  ⟨fun _ => rfl, fun _ hb => setAp_ap_ne _ _ hb.symm, .inl (by rw [setAp_ap_self, h]), rfl, .inl rfl, fun _ _ => rfl⟩

theorem Walked.producerOff (s : State) (a : ApId) (r : RingId) : Walked s (s.producerOff a r) a r :=
  ⟨fun _ => rfl, fun b hb => setAp_ap_ne s _ hb.symm,
    .inr ⟨(congrArg Aperture.state (setAp_ap_self s a _) :), (congrArg Ring.producer (setRing_ring_self _ r _) :)⟩,
    by rw [State.producerOff, setRing_ring_self], .inr (congrArg Ring.producer (setRing_ring_self _ r _) :),
    fun q hq => setRing_ring_ne _ _ hq.symm⟩

theorem Walked.overflow (s : State) (a : ApId) (r : RingId) (o : Overflow) :
    Walked s (s.setRing r { s.ring r with overflow := o }) a r :=
  ⟨fun _ => rfl, fun _ _ => rfl, .inl rfl, by rw [setRing_ring_self], .inl (by rw [setRing_ring_self]),
    fun q hq => setRing_ring_ne _ _ hq.symm⟩

theorem applyApChange_walked (hrole : c.role = .producer) (hring : c.ring = r) (e : Change) (x : ApChange) :
    Walked s (s.applyApChange e a c x) a r := by
  have noted {u : State} (n : Note) (h : Walked s u a r) : Walked s (u.raise n) a r :=
    h.trans (.congr rfl rfl rfl)
  have write : Walked s (s.writeChange a c x) a r := by rw [writeChange_eq]; exact .setAp _ rfl
  cases x with
  | moveWindow base =>
    simp only [State.applyApChange]
    split
    · exact noted _ (.refl s a r)
    · exact noted _ write
  | setSources | setStall | setDivider => exact noted _ write
  | setPick p oe =>
    simp only [State.applyApChange]
    rw [if_neg fun h => by rw [hrole] at h; cases h.1]
    exact noted _ write
  | detach =>
    simp only [State.applyApChange, hrole, hring]
    split
    · exact noted _ (.producerOff s a r)
    · exact noted _ (.refl s a r)

theorem countExpiry_walked (s : State) (e : Change) : Walked s (s.countExpiry e) a r := by
  rcases countExpiry_cases s e with ⟨-, k⟩ | ⟨-, k⟩ | ⟨n, -, k⟩ <;> rw [k]
  · exact .refl s a r
  · refine Walked.trans (t := (s.removeChange e).clearRetirePending e.op) ?_ (.congr rfl rfl rfl)
    refine Walked.trans (t := s.removeChange e) (.congr rfl rfl rfl) ?_
    rcases clearRetirePending_cases (s.removeChange e) e.op with ⟨_, k⟩ | ⟨z, _, k⟩ <;> rw [k]
    · exact .refl _ a r
    · refine ⟨fun y => ?_, fun _ _ => rfl, .inl rfl, rfl, .inl rfl, fun _ _ => rfl⟩
      rw [setSlot_slot]
      split
      · next e => rw [e]
      · rfl
  · exact .congr rfl rfl rfl

theorem walkOne_walked (hs : s.Serving L a .producer r) (e : Change) : Walked s (State.walkOne a r s e) a r := by
  unfold State.walkOne
  split
  · next mine =>
    rcases Bool.or_eq_true_iff.1 mine with k | k
    · obtain ⟨x, hop⟩ := forAperture_eq_true k
      obtain ⟨d, hd, hrole, hring⟩ := hs.config
      rw [applyChange_aperture s hop hd]
      exact Walked.trans (t := s.removeChange e) (.congr rfl rfl rfl) (applyApChange_walked hrole hring e x)
    · obtain ⟨o, hop⟩ := forRing_eq_true k
      rw [applyChange_overflow s hop]
      exact Walked.trans (t := s.removeChange e) (.congr rfl rfl rfl)
        ((Walked.overflow (s.removeChange e) a r o).trans (.congr rfl rfl rfl))
  · split
    · exact countExpiry_walked s e
    · exact .refl s a r

theorem walk_walked (hs : s.Serving L a .producer r) (l : List Change) :
    Walked s (l.foldl (State.walkOne a r) s) a r := by
  induction l generalizing s with
  | nil => exact .refl s a r
  | cons e l ih => exact (walkOne_walked hs e).trans (ih (walkOne_onShelf hs e).2)

/-! ### Without retirements, and without a DETACH -/

theorem applyApChange_slots (hrole : c.role = .producer) (e : Change) (x : ApChange) :
    (s.applyApChange e a c x).slots = s.slots := by
  have write : (s.writeChange a c x).slots = s.slots := by rw [writeChange_eq]; rfl
  cases x with
  | moveWindow base =>
    simp only [State.applyApChange]
    split
    · rfl
    · exact write
  | setSources | setStall | setDivider => exact write
  | setPick p oe =>
    simp only [State.applyApChange]
    rw [if_neg fun h => by rw [hrole] at h; cases h.1]
    exact write
  | detach =>
    simp only [State.applyApChange, hrole]
    split <;> rfl

theorem walkOne_slots (hs : s.Serving L a .producer r) (he : ∀ x, e.op ≠ .retireSlot x) :
    (State.walkOne a r s e).slots = s.slots := by
  unfold State.walkOne
  split
  · next mine =>
    rcases Bool.or_eq_true_iff.1 mine with k | k
    · obtain ⟨x, hop⟩ := forAperture_eq_true k
      obtain ⟨d, hd, hrole, hring⟩ := hs.config
      rw [applyChange_aperture s hop hd]
      exact applyApChange_slots (s := s.removeChange e) hrole e x
    · obtain ⟨o, hop⟩ := forRing_eq_true k
      rw [applyChange_overflow s hop]
      rfl
  · split
    · rcases countExpiry_cases s e with ⟨-, k⟩ | ⟨-, k⟩ | ⟨n, -, k⟩ <;> rw [k]
      rcases clearRetirePending_cases (s.removeChange e) e.op with ⟨_, k⟩ | ⟨z, hz, k⟩
      · rw [k]; rfl
      · exact absurd hz (he z)
    · rfl

theorem walk_slots (hs : s.Serving L a .producer r) {l : List Change} (hl : ∀ e ∈ l, ∀ x, e.op ≠ .retireSlot x) :
    (l.foldl (State.walkOne a r) s).slots = s.slots := by
  induction l generalizing s with
  | nil => rfl
  | cons e l ih =>
    exact (ih (walkOne_onShelf hs e).2 fun f hf => hl f (by simp [hf])).trans (walkOne_slots hs (hl e (by simp)))

theorem applyApChange_state {x : ApChange} (hrole : c.role = .producer) (hx : x ≠ .detach) (e : Change) :
    ((s.applyApChange e a c x).ap a).state = (s.ap a).state := by
  have write : ((s.writeChange a c x).ap a).state = (s.ap a).state := by rw [writeChange_eq, setAp_ap_self]
  cases x with
  | moveWindow base =>
    simp only [State.applyApChange]
    split
    · rfl
    · exact write
  | setSources | setStall | setDivider => exact write
  | setPick p oe =>
    simp only [State.applyApChange]
    rw [if_neg fun h => by rw [hrole] at h; cases h.1]
    exact write
  | detach => exact absurd rfl hx

theorem walkOne_state (hs : s.Serving L a .producer r) (he : e.op ≠ .aperture a .detach) :
    ((State.walkOne a r s e).ap a).state = (s.ap a).state := by
  unfold State.walkOne
  split
  · next mine =>
    rcases Bool.or_eq_true_iff.1 mine with k | k
    · obtain ⟨x, hop⟩ := forAperture_eq_true k
      obtain ⟨d, hd, hrole, hring⟩ := hs.config
      rw [applyChange_aperture s hop hd]
      exact applyApChange_state (s := s.removeChange e) hrole (fun hx => he (hx ▸ hop)) e
    · obtain ⟨o, hop⟩ := forRing_eq_true k
      rw [applyChange_overflow_ap hop]
  · split
    · rw [countExpiry_ap]
    · rfl

theorem walk_state (hs : s.Serving L a .producer r) {l : List Change} (hl : ∀ e ∈ l, e.op ≠ .aperture a .detach) :
    ((l.foldl (State.walkOne a r) s).ap a).state = (s.ap a).state := by
  induction l generalizing s with
  | nil => rfl
  | cons e l ih =>
    exact (ih (walkOne_onShelf hs e).2 fun f hf => hl f (by simp [hf])).trans (walkOne_state hs (hl e (by simp)))

end

end Sys2Proof.Machine
end

section
/-! PROOFS: the boundary of a producer with a written slot (O14): publish, reclamation, walk and bind one
after another. -/

namespace Sys2Proof.Machine

section
variable {s t u v w : State} {a b : ApId} {c d : ApConfig} {r q : RingId} {sl x y : SlotId} {n : Note}

/-! ### Notes of a part of an event -/

theorem Raised.mono (h : Raised s t n) (k : Onward t u) : Raised s u n := by
  intro enabled
  rcases h enabled with h | h
  · obtain ⟨xs, hxs⟩ := k.notes
    refine .inl ?_
    rw [← hxs, List.drop_append]
    exact List.mem_append_left _ h
  · exact .inr (h.trans k.notes.length_le)

/-! ### The bind (R63 to R65) -/

theorem State.Placed.free_nodup (h : s.Placed) (r : RingId) : (s.ring r).free.Nodup :=
  ((h.once r).of_append_left).of_append_left

/-- What a bind leaves, whatever slot it takes. -/
structure Bound (w u : State) (a : ApId) (r : RingId) (o : Option SlotId) : Prop where
  bound : u.boundSlot a = o
  slots : ∀ y, o ≠ some y → u.slot y = w.slot y
  taken : ∀ y, o = some y → y ∈ (w.ring r).free ∨
    y ∈ (w.ring r).ready ∧ (w.ring r).ready.getLast? ≠ some y ∧ (w.slot y).retained = false
  ready : (u.ring r).ready = (w.ring r).ready.filter fun y => decide (o ≠ some y)
  free  : (u.ring r).free = (w.ring r).free.filter fun y => decide (o ≠ some y)
  held  : (u.ring r).held = (w.ring r).held
  rest  : (u.ring r).consumers = (w.ring r).consumers ∧ (u.ring r).overflow = (w.ring r).overflow ∧
    (u.ring r).producer = (w.ring r).producer
  rings : ∀ q, q ≠ r → u.ring q = w.ring q

theorem filter_none (l : List SlotId) : (l.filter fun y => decide ((none : Option SlotId) ≠ some y)) = l :=
  List.filter_eq_self.2 fun _ _ => by simp

theorem filter_some_of_not_mem {l : List SlotId} (h : x ∉ l) :
    (l.filter fun y => decide (some x ≠ some y)) = l :=
  List.filter_eq_self.2 fun y hy => by
    simp only [ne_eq, Option.some.injEq, decide_not, Bool.not_eq_eq_eq_not, Bool.not_true, decide_eq_false_iff_not]
    rintro rfl
    exact h hy

theorem filter_some_of_nodup {l : List SlotId} (h : l.Nodup) (x : SlotId) :
    (l.filter fun y => decide (some x ≠ some y)) = l.erase x := by
  rw [h.erase_eq_filter]
  exact List.filter_congr fun y _ => by
    by_cases e : y = x
    · subst e; simp
    · simp [e, Ne.symm e]

theorem filter_some_cons {l : List SlotId} (h : (x :: l).Nodup) :
    ((x :: l).filter fun y => decide (some x ≠ some y)) = l := by
  rw [filter_some_of_nodup h, List.erase_cons_head]

theorem fill_boundSlot (s : State) (a : ApId) (sl : SlotId) (n : Nat) : (s.fill a sl n).boundSlot a = some sl := by
  unfold State.boundSlot State.fill
  rw [setApState_ap_self]

theorem boundSlot_eq_none (h : ∀ x, (s.ap a).state ≠ .bound x) : s.boundSlot a = none := by
  unfold State.boundSlot
  split
  · next x e => exact absurd e (h x)
  · rfl

theorem stealable_fields (h : (s.ring r).ready.find? (s.stealable r) = some x) :
    x ∈ (s.ring r).ready ∧ (s.ring r).ready.getLast? ≠ some x ∧ (s.slot x).retained = false := by
  obtain ⟨-, hr, hl⟩ := (stealable_iff_fields s r x).1 (List.find?_some h)
  exact ⟨List.mem_of_find?_eq_some h, hl, hr⟩

theorem bind_bound (hp : w.Placed) (a : ApId) (r : RingId) : ∃ o, Bound w (w.bind a r) a r o := by
  cases hf : (w.ring r).free with
  | cons z rest =>
    have nodup : (z :: rest).Nodup := hf ▸ hp.free_nodup r
    have notReady : z ∉ (w.ring r).ready := hp.free_not_ready (r := r) (hf ▸ List.mem_cons_self ..) r
    rw [bind_of_free hf]
    refine ⟨some z, fill_boundSlot .., fun y hy => ?_, fun y hy => ?_, ?_, ?_, ?_, ?_, fun q hq => ?_⟩
    · rw [fill_slot, if_neg fun e => hy (by rw [e])]; rfl
    · rw [← Option.some.inj hy, hf]; exact .inl (List.mem_cons_self ..)
    · rw [fill_ring, setRing_ring_self, filter_some_of_not_mem notReady]
    · rw [fill_ring, setRing_ring_self, hf, filter_some_cons nodup]
    · rw [fill_ring, setRing_ring_self]
    · rw [fill_ring, setRing_ring_self]; exact ⟨rfl, rfl, rfl⟩
    · rw [fill_ring, setRing_ring_ne _ _ hq.symm]
  | nil =>
    have starved (d : Nat) (h : (w.ring r).overflow = .dropNew ∧ d = 0 ∨ (w.ring r).overflow = .overwriteOldest ∧
        (w.ring r).ready.find? (w.stealable r) = none ∧ d = 1) : ∃ o, Bound w (w.bind a r) a r o := by
      rw [bind_of_starve hf h]
      refine ⟨none, boundSlot_eq_none fun x => ?_, fun y _ => rfl, nofun, ?_, ?_, ?_, ?_, fun q hq => ?_⟩
      · rw [raise_ap, setApState_ap_self]; nofun
      · rw [raise_ring, setApState_ring, setRing_ring_self, filter_none]; rfl
      · rw [raise_ring, setApState_ring, setRing_ring_self, hf]; exact hf
      · rw [raise_ring, setApState_ring, setRing_ring_self]; rfl
      · rw [raise_ring, setApState_ring, setRing_ring_self]; exact ⟨rfl, rfl, rfl⟩
      · rw [raise_ring, setApState_ring, setRing_ring_ne _ _ hq.symm]
    cases ho : (w.ring r).overflow with
    | dropNew => exact starved 0 (.inl ⟨ho, rfl⟩)
    | overwriteOldest =>
      cases hs : (w.ring r).ready.find? (w.stealable r) with
      | none => exact starved 1 (.inr ⟨ho, hs, rfl⟩)
      | some y =>
        rw [bind_of_steal hf ho hs]
        refine ⟨some y, fill_boundSlot .., fun z hz => ?_, fun z hz => ?_, ?_, ?_, ?_, ?_, fun q hq => ?_⟩
        · rw [raise_slot, fill_slot, if_neg fun e => hz (by rw [e])]; rfl
        · rw [← Option.some.inj hz]; exact .inr (stealable_fields hs)
        · rw [raise_ring, fill_ring, setRing_ring_self, filter_some_of_nodup (hp.ready_nodup r)]
        · rw [raise_ring, fill_ring, setRing_ring_self, hf]; exact hf
        · rw [raise_ring, fill_ring, setRing_ring_self]; rfl
        · rw [raise_ring, fill_ring, setRing_ring_self]; exact ⟨rfl, rfl, rfl⟩
        · rw [raise_ring, fill_ring, setRing_ring_ne _ _ hq.symm]

/-- The last stage of a producer's boundary, which binds only for a producer that is still ON. -/
theorem bindIfOn_bound (hp : w.Placed) (a : ApId) (r : RingId) : ∃ o, Bound w (w.bindIfOn a r) a r o := by
  unfold State.bindIfOn
  split
  · exact bind_bound hp a r
  · next off =>
    have off := apOn_eq_false.1 (Bool.eq_false_iff.2 off)
    refine ⟨none, boundSlot_eq_none fun x e => ?_, fun _ _ => rfl, nofun, (filter_none _).symm, (filter_none _).symm,
      rfl, ⟨rfl, rfl, rfl⟩, fun _ _ => rfl⟩
    rw [off] at e; cases e

end

end Sys2Proof.Machine
end

section
/-! PROOFS: the records after the publish of a written slot (R58, R12, R13), in terms of those before it. -/

namespace Sys2Proof.Machine

section
variable {s t : State} {a b : ApId} {c d : ApConfig} {r q : RingId} {sl x y : SlotId}

theorem reclaim_entries (s : State) (r : RingId) (cands : List SlotId) :
    ∀ e ∈ (s.reclaim r cands).changes.entries, e ∈ s.changes.entries := by
  have one (t : State) (y : SlotId) : ∀ e ∈ (t.applyRetirement y).changes.entries, e ∈ t.changes.entries := by
    rcases applyRetirement_changes t y with k | ⟨f, -, -, k⟩ <;> rw [k]
    · exact fun _ h => h
    · exact fun _ h => List.mem_of_mem_erase h
  have all (sls : List SlotId) (t : State) :
      ∀ e ∈ (t.applyRetirements sls).changes.entries, e ∈ t.changes.entries := by
    induction sls generalizing t with
    | nil => exact fun _ h => h
    | cons y sls ih => exact fun e h => one t y e (ih (t.applyRetirement y) e h)
  intro e h
  have k := all _ _ e (reclaim_eq s r cands ▸ h)
  rwa [dropAll_changes] at k

/-- A run that leans on the placement law. -/
def Laws.placing : Laws := { Laws.none with placed := True }

theorem moving_placing : Fact (¬ Laws.placing.calm) := ⟨id⟩

theorem working_placing : Fact (¬ Laws.placing.idle) := ⟨id⟩

theorem State.Placed.obeys (h : s.Placed) : s.Obeys Laws.placing := ⟨fun _ => h, nofun, nofun, nofun⟩

theorem State.Placed.moves (h : s.Placed) {g g' : Ghost} (m : Moves Laws.placing s g t g') : t.Placed :=
  (m.obeys h.obeys).placed trivial

theorem reclaim_changes (hno : s.NoRetirements) (r : RingId) (cands : List SlotId) :
    (s.reclaim r cands).changes = s.changes := by
  rw [reclaim_eq, applyRetirements_of_noRetirements (hno.congr (dropAll_changes _ _ _)), dropAll_changes]

theorem acquisitions_changes (s : State) (r : RingId) : (s.acquisitions r).changes = s.changes := by
  have one (t : State) (b : ApId) : (State.acquireAtPublish r t b).changes = t.changes := by
    rcases acquireAtPublish_cases r t b with e | ⟨d, x, -, -, -, -, e⟩ <;> rw [e]
    exact (forwardStall_books _ b r x).changes.trans (acquire_eq t b r d.pick x).2.2
  have all (as : List ApId) (t : State) : (as.foldl (State.acquireAtPublish r) t).changes = t.changes := by
    induction as generalizing t with
    | nil => rfl
    | cons b as ih => exact (ih _).trans (one t b)
  exact all allAps s

theorem offered_changes (s : State) (a : ApId) (r : RingId) (sl : SlotId) :
    (s.offered a r sl).changes = s.changes := (acquisitions_changes _ r).trans (laidOut_changes s a r sl)

theorem acquisitions_onward (s : State) (r : RingId) : Onward s (s.acquisitions r) := by
  have := moving_event
  have := working_event
  obtain ⟨u, m⟩ := acquisitions_moves (g := .rest) s.obeys_event r allAps
  exact m.onward trivial

theorem offered_onward (hb : (s.ap a).state = .bound sl) : Onward s (s.offered a r sl) :=
  (laidOut_onward (apOn_eq_true.2 (by rw [hb]; nofun))).trans (acquisitions_onward _ r)

theorem publish_reclaimed {r : RingId} (hb : (s.ap a).state = .bound sl) :
    Reclaimed s (s.publish a r sl) r (s.publishLeaving a r sl) none := by
  have ring := offered_ring_self s a r sl
  have oldest : (s.publishLeaving a r sl).Sublist (s.ring r).ready := publishLeaving_sublist
  rw [publish_offered, State.reclaimAll]
  unfold State.publishLeaving at oldest ⊢
  refine reclaim_reclaimed (offered_onward hb) (offered_changes s a r sl) oldest (by rw [ring]) (by rw [ring])
    fun y hy => ?_
  have ne : y ≠ sl := by rintro rfl; exact sl_not_leaving hy
  have slot := offered_slot s a r sl y
  generalize (s.offered a r sl).slot y = z at slot
  rw [slot]
  simp [ne]

/-- What a publish of a producer's slot leaves of its ring. -/
structure Published (s v : State) (a : ApId) (c : ApConfig) (sl : SlotId) : Prop where
  placed    : v.Placed
  reclaimed : Reclaimed s v c.ring (s.publishLeaving a c.ring sl) none
  ready     : (v.ring c.ring).ready =
    ((s.ring c.ring).ready ++ [sl]).filter fun y => decide (y ∉ s.publishLeaving a c.ring sl)
  counter   : (v.ring c.ring).frameCounter = (s.ring c.ring).frameCounter
  consumers : (v.ring c.ring).consumers = (s.ring c.ring).consumers
  kept      : ∀ y, y ∉ s.publishLeaving a c.ring sl → v.slot y = (s.offered a c.ring sl).slot y
  aps       : ∀ b, v.ap b = (s.offered a c.ring sl).ap b
  rings     : ∀ q, q ≠ c.ring → v.ring q = s.ring q
  entries   : ∀ e ∈ v.changes.entries, e ∈ s.changes.entries
  changes   : s.NoRetirements → v.changes = s.changes
  onward    : Onward (s.offered a c.ring sl) v

section
variable (hp : s.Placed) (hb : (s.ap a).state = .bound sl) (hc : (s.ap a).config = some c)
  (hrole : c.role = .producer)
include hp hb hc hrole

theorem bound_not_ready (q : RingId) : sl ∉ (s.ring q).ready :=
  hp.filling_not_ready (hp.fillingSlot_of_writes ⟨hb, c, hc, hrole, rfl⟩) q

omit hb in
theorem publishStage_placed : (s.publishStage a c.ring).Placed := by
  have := moving_placing
  have := working_placing
  exact hp.moves (publishStage_moves (g := .rest) hp.obeys hc hrole)

theorem offered_nodup : ((s.offered a c.ring sl).ring c.ring).ready.Nodup := by
  rw [offered_ring_self]
  exact (hp.ready_nodup c.ring).append (by simp)
    (List.disjoint_singleton.2 (bound_not_ready hp hb hc hrole c.ring))

theorem publish_published (hw : (s.slot sl).written = true) :
    Published s (s.publish a c.ring sl) a c sl := by
  have ring := offered_ring_self s a c.ring sl
  refine ⟨?_, ?_, ?_, ?_, ?_, fun y hy => ?_, fun b => ?_, fun q hq => ?_, ?_, fun hno => ?_, reclaim_onward _ _ _⟩
  · rw [← publishStage_of_written hb hw]
    exact publishStage_placed hp hc hrole
  · exact publish_reclaimed hb
  · have nodup := offered_nodup hp hb hc hrole
    rw [publish_offered, State.reclaimAll, reclaim_eq, (applyRetirements_ready _ _ _).1, dropAll_ring_self]
    refine (nodup.sdiff_eq_filter).trans ?_
    have ready : ((s.offered a c.ring sl).ring c.ring).ready = (s.ring c.ring).ready ++ [sl] := by rw [ring]
    exact congrArg (List.filter fun y => decide (y ∉ s.publishLeaving a c.ring sl)) ready
  · rw [publish_offered, State.reclaimAll, reclaim_frameCounter, ring]
  · rw [publish_offered, State.reclaimAll, reclaim_ring_consumers, ring]
  · rw [publish_offered, State.reclaimAll]
    exact reclaim_slot_of_not_leaving _ _ hy
  · rw [publish_offered, State.reclaimAll, reclaim_ap]
  · rw [publish_offered, State.reclaimAll, reclaim_ring_ne (s := s) hp (fun y => ?_)
      (fun y hy => publishLeaving_sublist.subset hy) (offered_nodup hp hb hc hrole) hq, offered_ring_ne hq]
    rw [offered_slot]
  · rw [publish_offered, ← offered_changes s a c.ring sl]
    exact reclaim_entries _ _ _
  · rw [publish_offered, State.reclaimAll, reclaim_changes (hno.congr (offered_changes ..)), offered_changes]

end

end

end Sys2Proof.Machine
end

section
/-! PROOFS: the boundary of a producer with a written slot from its publish to its bind (O14). -/

namespace Sys2Proof.Machine

section
variable {s t u v w : State} {a b : ApId} {c d : ApConfig} {r q : RingId} {sl x y : SlotId} {o : Option SlotId}

/-! ### From the publish stage to the end of the boundary -/

theorem bindIfOn_apOn (w : State) (a : ApId) (r : RingId) : (w.bindIfOn a r).apOn a = w.apOn a := by
  unfold State.bindIfOn
  split
  · next on =>
    rw [on]
    refine apOn_eq_true.2 ?_
    rcases bind_cases w a r with ⟨_, _, _, e⟩ | ⟨_, _, _, _, e⟩ | ⟨_, _, e⟩ <;> rw [e]
    · rw [State.fill, setApState_ap_self]; nofun
    · rw [State.steal, raise_ap, State.fill, setApState_ap_self]; nofun
    · rw [State.starve, raise_ap, setApState_ap_self]; nofun
  · rfl

theorem bindIfOn_frameCounter (w : State) (a : ApId) (r : RingId) :
    ((w.bindIfOn a r).ring r).frameCounter =
      if w.apOn a then wrapNext 0xFFFFFFFF (w.ring r).frameCounter else (w.ring r).frameCounter := by
  unfold State.bindIfOn
  split
  · rcases bind_cases w a r with ⟨_, _, _, e⟩ | ⟨_, _, _, _, e⟩ | ⟨_, _, e⟩ <;> rw [e]
    · rw [fill_ring, setRing_ring_self, advanceFrame_ring_self]
    · rw [State.steal, raise_ring, fill_ring, leaveReady_ring_self, advanceFrame_ring_self]
    · rw [State.starve, raise_ring, setApState_ring, advanceFrame_ring_self]
  · rfl

/-- What the stages after the publish stage leave of a ring and its slots. -/
structure Finished (v u : State) (a : ApId) (r : RingId) (o : Option SlotId) : Prop where
  bound   : u.boundSlot a = o
  slots   : ∀ y, o ≠ some y → u.slot y = { v.slot y with retirePending := (u.slot y).retirePending }
  same    : v.NoRetirements → ∀ y, o ≠ some y → u.slot y = v.slot y
  taken   : ∀ y, o = some y → y ∈ (v.ring r).free ∨
    y ∈ (v.ring r).ready ∧ (v.ring r).ready.getLast? ≠ some y ∧ (v.slot y).retained = false
  ready   : (u.ring r).ready = (v.ring r).ready.filter fun y => decide (o ≠ some y)
  free    : (u.ring r).free = (v.ring r).free.filter fun y => decide (o ≠ some y)
  held    : (u.ring r).held = (v.ring r).held
  counter : (u.ring r).frameCounter =
    if u.apOn a then wrapNext 0xFFFFFFFF (v.ring r).frameCounter else (v.ring r).frameCounter
  rings   : ∀ q, q ≠ r → u.ring q = v.ring q
  onward  : Onward v u

/-- The part after the walk of a producer's boundary. -/
def State.walkedOver (s : State) (a : ApId) (r : RingId) : State := (s.stepped a r).walkChanges a r

section
variable (hp : s.Placed) (hc : (s.ap a).config = some c) (hrole : c.role = .producer)

theorem stepped_onward (s : State) (a : ApId) (r : RingId) : Onward (s.publishStage a r) (s.stepped a r) := by
  refine Onward.trans ?_ ((stepSchedule_moves (g := .rest) (s.publishStage a r).obeys_event r
    (published := s.publishedFrame a) nofun).onward trivial)
  exact .refl _

theorem stepped_walked (s : State) (a : ApId) (r : RingId) : Walked (s.publishStage a r) (s.stepped a r) a r := by
  have frame := stepSchedule_frame (s.publishStage a r) r (s.publishedFrame a)
  exact .congr (congrArg State.slots frame :) (congrArg State.rings frame :) (congrArg State.apertures frame :)

theorem stepped_changes (s : State) (a : ApId) (r : RingId) :
    (s.stepped a r).changes = (s.publishStage a r).changes :=
  (congrArg State.changes (stepSchedule_frame (s.publishStage a r) r (s.publishedFrame a)) :)

theorem stepped_slots (s : State) (a : ApId) (r : RingId) :
    (s.stepped a r).slots = (s.publishStage a r).slots :=
  (congrArg State.slots (stepSchedule_frame (s.publishStage a r) r (s.publishedFrame a)) :)

include hp hc hrole

theorem walkedOver_placed : (s.walkedOver a c.ring).Placed := by
  have := moving_placing
  have := working_placing
  have published := publishStage_placed hp hc hrole
  have stepped : (s.stepped a c.ring).Placed := published.moves
    (stepSchedule_moves (g := .rest) published.obeys c.ring (published := s.publishedFrame a) nofun)
  have serving : (s.stepped a c.ring).Serving Laws.placing a .producer c.ring :=
    ⟨⟨c, by rw [State.stepped, stepSchedule_ap, publishStage_config, hc], hrole, rfl⟩, fun _ _ => by
      rw [State.stepped, stepSchedule_ap]; exact publishStage_unheld hp hc hrole c.ring⟩
  exact stepped.moves (walkChanges_moves (g := .entriesOf a (some c.ring)) stepped.obeys
    ⟨rfl, fun _ => rfl⟩ serving).1

omit hp in
theorem walkedOver_walked : Walked (s.publishStage a c.ring) (s.walkedOver a c.ring) a c.ring :=
  (stepped_walked s a c.ring).trans (walk_walked (stepped_serving hc hrole Laws.none id) _)

omit hp in
theorem walkedOver_slots (hno : (s.publishStage a c.ring).NoRetirements) :
    (s.walkedOver a c.ring).slots = (s.publishStage a c.ring).slots :=
  (walk_slots (stepped_serving hc hrole Laws.none id) fun e he x => hno e (stepped_changes s a c.ring ▸ he) x).trans
    (stepped_slots s a c.ring)

theorem producerBoundary_finished :
    ∃ o, Finished (s.publishStage a c.ring) (s.producerBoundary a c.ring) a c.ring o := by
  obtain ⟨o, b⟩ := bindIfOn_bound (walkedOver_placed hp hc hrole) a c.ring
  have walk := walkedOver_walked (s := s) hc hrole
  have ring := walk.ring
  refine ⟨o, b.bound, fun y hy => ?_, fun hno y hy => ?_, fun y hy => ?_, ?_, ?_, ?_, ?_, fun q hq => ?_,
    (stepped_onward s a c.ring).trans (walkAndBind_onward hc hrole)⟩
  · exact (b.slots y hy).trans ((walk.slots y).trans (by rw [show (s.producerBoundary a c.ring).slot y = _ from
      b.slots y hy]))
  · refine (b.slots y hy).trans ?_
    unfold State.slot
    rw [walkedOver_slots hc hrole hno]
  · have retained : ((s.walkedOver a c.ring).slot y).retained = ((s.publishStage a c.ring).slot y).retained :=
      (congrArg Slot.retained (walk.slots y) :)
    have taken := b.taken y hy
    rwa [ring, retained] at taken
  · exact b.ready.trans (by rw [ring])
  · exact b.free.trans (by rw [ring])
  · exact b.held.trans (by rw [ring])
  · have counter := bindIfOn_frameCounter (s.walkedOver a c.ring) a c.ring
    rw [← bindIfOn_apOn (s.walkedOver a c.ring) a c.ring, ring] at counter
    exact counter
  · exact (b.rings q hq).trans (walk.rings q hq)

end

/-- Where the reclaimed slots stand at the end of a boundary that takes a slot to fill. -/
theorem Reclaimed.finished {leaving : List SlotId} (h : Reclaimed s v r leaving none) (f : Finished v u a r o)
    (hp : v.Placed) (changes : s.NoRetirements → v.changes = s.changes) : Reclaimed s u r leaving o := by
  have untouched (y : SlotId) (hy : y ∈ leaving) (hr : (s.slot y).retained = true) : o ≠ some y := fun e => by
    have held : y ∈ (v.ring r).held := by
      rw [h.held]; exact List.mem_append_right _ (List.mem_filter.2 ⟨hy, hr⟩)
    rcases f.taken y e with k | ⟨k, -, -⟩
    · exact hp.free_not_held k r held
    · exact hp.held_not_ready held r k
  refine ⟨h.oldestFirst, fun y hy k => ?_, f.held.trans h.held, fun y hy hr => ?_, fun hno => ?_,
    fun hno y hy hr hy' => ?_⟩
  · rw [f.ready] at k
    exact h.gone y hy (List.mem_of_mem_filter k)
  · obtain ⟨frame, retained, raised⟩ := h.kept y hy hr
    have slot := f.slots y (untouched y hy hr)
    exact ⟨(congrArg Slot.frame slot).trans frame, (congrArg Slot.retained slot).trans retained, raised.mono f.onward⟩
  · rw [f.free, h.free hno, filter_none]
  · rw [f.same (hno.congr (changes hno)) y hy', h.freed hno y hy hr nofun]

end

end Sys2Proof.Machine
end

section
/-! PROOFS: a written slot is published (O14): the note, the counter, and the slot that is bound next. -/

namespace Sys2Proof.Machine

section
variable {s t u v w : State} {a b : ApId} {c d : ApConfig} {r q : RingId} {sl x y z : SlotId} {o : Option SlotId}

theorem retains_iff (s : State) (r : RingId) :
    s.retains r = true ↔ (s.sched r).state = .retaining ∧
      (s.ring r).held.length + ((s.ring r).ready.filter fun x => (s.slot x).retained).length <
        (s.ring r).pool - 2 :=
  Bool.and_eq_true_iff.trans (and_congr decide_eq_true_iff decide_eq_true_iff)

theorem bindIfOn_overflow (w : State) (a : ApId) (r : RingId) :
    ((w.bindIfOn a r).ring r).overflow = (w.ring r).overflow := by
  unfold State.bindIfOn
  split
  · rcases bind_cases w a r with ⟨_, _, _, e⟩ | ⟨_, _, _, _, e⟩ | ⟨_, _, e⟩ <;> rw [e]
    · rw [fill_ring, setRing_ring_self, advanceFrame_ring_self]
    · rw [State.steal, raise_ring, fill_ring, leaveReady_ring_self, advanceFrame_ring_self]
    · rw [State.starve, raise_ring, setApState_ring, advanceFrame_ring_self]
  · rfl

theorem applied_apOn (s : State) (e : Change) (b : ApId) : (s.applied e).apOn b = s.apOn b := rfl

theorem producerOff_apOn (s : State) (a : ApId) (r : RingId) : (s.producerOff a r).apOn a = false := by
  refine apOn_eq_false.2 ?_
  rw [State.producerOff, setRing_ap, setAp_ap_self]

theorem producerOff_producer (s : State) (a : ApId) (r : RingId) : ((s.producerOff a r).ring r).producer = none := by
  rw [State.producerOff, setRing_ring_self]

theorem fill_onward (on : s.apOn a = true) (x : SlotId) (n : Nat) : Onward s (s.fill a x n) :=
  (Onward.congr (s := s) (t := s.setSlot x _) rfl rfl).trans (.state _ fun _ => apOn_eq_true.1 on)

section
variable (hp : s.Placed) (hb : (s.ap a).state = .bound sl) (hc : (s.ap a).config = some c)
  (hrole : c.role = .producer) (hw : (s.slot sl).written = true)
include hp hb hc hrole hw

theorem publishStage_published : Published s (s.publishStage a c.ring) a c sl := by
  rw [publishStage_of_written hb hw]
  exact publish_published hp hb hc hrole hw

theorem published_last : ((s.publishStage a c.ring).ring c.ring).ready.getLast? = some sl := by
  have p := publishStage_published hp hb hc hrole hw
  rw [p.ready, getLast?_filter_of_last]
  · exact List.getLast?_concat ..
  · intro x hx
    rw [List.getLast?_concat] at hx
    rw [← Option.some.inj hx]
    exact decide_eq_true sl_not_leaving

theorem published_free (hno : s.NoRetirements) :
    ((s.publishStage a c.ring).ring c.ring).free =
      (s.ring c.ring).free ++ (s.publishLeaving a c.ring sl).filter fun y => !(s.slot y).retained := by
  have p := publishStage_published hp hb hc hrole hw
  rw [p.reclaimed.free hno, filter_none]

/-- The published slot is not the one bound next. -/
theorem published_not_taken (f : Finished (s.publishStage a c.ring) u a c.ring o) : o ≠ some sl := fun e => by
  have p := publishStage_published hp hb hc hrole hw
  have last := published_last hp hb hc hrole hw
  rcases f.taken sl e with k | ⟨-, k, -⟩
  · exact p.placed.free_not_ready k c.ring (List.mem_of_getLast? last)
  · exact k last

/-- The record of the published slot at the end of the boundary. -/
theorem published_slot (f : Finished (s.publishStage a c.ring) u a c.ring o) :
    (u.slot sl).frame = (s.slot sl).frame ∧ (u.slot sl).written = (s.slot sl).written ∧
      (u.slot sl).faulted = (s.slot sl).faulted ∧
      (u.slot sl).retained = ((s.slot sl).retained || s.retains c.ring) := by
  have p := publishStage_published hp hb hc hrole hw
  have slot := f.slots sl (published_not_taken hp hb hc hrole hw f)
  have kept := (p.kept sl sl_not_leaving).trans (offered_slot s a c.ring sl sl)
  refine ⟨(congrArg Slot.frame slot).trans (congrArg Slot.frame kept :),
    (congrArg Slot.written slot).trans (congrArg Slot.written kept :),
    (congrArg Slot.faulted slot).trans (congrArg Slot.faulted kept :),
    (congrArg Slot.retained slot).trans ((congrArg Slot.retained kept).trans ?_)⟩
  simp

theorem published_getLast (f : Finished (s.publishStage a c.ring) u a c.ring o) :
    (u.ring c.ring).ready.getLast? = some sl := by
  have last := published_last hp hb hc hrole hw
  rw [f.ready, getLast?_filter_of_last _ _ fun x hx => ?_]
  · exact last
  · rw [last] at hx
    rw [← Option.some.inj hx]
    exact decide_eq_true (published_not_taken hp hb hc hrole hw f)

theorem laidOut_to_end (f : Finished (s.publishStage a c.ring) u a c.ring o) : Onward (s.laidOut a c.ring sl) u :=
  ((acquisitions_onward _ c.ring).trans (publishStage_published hp hb hc hrole hw).onward).trans f.onward

theorem walkedOver_state (h : ∀ e ∈ s.changes.entries, e.op ≠ .aperture a .detach) :
    ((s.walkedOver a c.ring).ap a).state = .unbound := by
  have p := publishStage_published hp hb hc hrole hw
  have published := publishStage_ap hp hc hrole c.ring hb
  have walk := walk_state (stepped_serving hc hrole Laws.none id) (l := (s.stepped a c.ring).changes.entries)
    fun e he => h e (p.entries e (stepped_changes s a c.ring ▸ he))
  refine walk.trans ?_
  rw [State.stepped, stepSchedule_ap, published]

theorem published_stays (h : ∀ e ∈ s.changes.entries, e.op ≠ .aperture a .detach) :
    (s.producerBoundary a c.ring).apOn a = true := by
  refine (bindIfOn_apOn (s.walkedOver a c.ring) a c.ring).trans (apOn_eq_true.2 ?_)
  rw [walkedOver_state hp hb hc hrole hw h]
  nofun

/-- With a DETACH of the producer as the one entry, the walk turns it OFF (R62). -/
theorem published_detached {e : Change} (he : s.changes.entries = [e]) (hop : e.op = .aperture a .detach) :
    (s.producerBoundary a c.ring).apOn a = false ∧ ((s.producerBoundary a c.ring).ring c.ring).producer = none ∧
      (s.producerBoundary a c.ring).changes.entries = [] := by
  have p := publishStage_published hp hb hc hrole hw
  have hno : s.NoRetirements := fun f hf x => by
    rw [he] at hf
    rw [List.mem_singleton.1 hf, hop]
    nofun
  have entries : (s.stepped a c.ring).changes.entries = [e] := by
    rw [stepped_changes, p.changes hno, he]
  have ap : (s.stepped a c.ring).ap a = { s.ap a with state := .unbound } := by
    rw [State.stepped, stepSchedule_ap, publishStage_ap hp hc hrole c.ring hb]
  have config : ((s.stepped a c.ring).ap a).config = some c := by rw [ap]; exact hc
  have on : ((s.stepped a c.ring).removeChange e).apOn a = true :=
    apOn_eq_true.2 (by rw [show ((s.stepped a c.ring).removeChange e).ap a = _ from ap]; nofun)
  have walked : s.walkedOver a c.ring =
      (((s.stepped a c.ring).removeChange e).producerOff a c.ring).applied e := by
    have mine : (e.op.forAperture a || e.op.forRing c.ring) = true := by simp [hop, ChangeOp.forAperture]
    unfold State.walkedOver State.walkChanges
    rw [entries, List.foldl_cons, List.foldl_nil, State.walkOne, if_pos mine,
      applyChange_aperture _ hop config]
    simp only [State.applyApChange, hrole, on, if_true]
  have off : (s.walkedOver a c.ring).apOn a = false := by
    rw [walked]
    exact (applied_apOn _ e a).trans (producerOff_apOn _ a c.ring)
  have ended : s.producerBoundary a c.ring = s.walkedOver a c.ring := by
    refine (producerBoundary_eq s a c.ring).trans ?_
    unfold State.bindIfOn
    exact if_neg (Bool.eq_false_iff.1 off)
  rw [ended]
  refine ⟨off, ?_, ?_⟩
  · rw [walked]
    rw [applied_ring, producerOff_producer]
  · rw [walked]
    show (s.stepped a c.ring).changes.entries.erase e = []
    rw [entries, List.erase_cons_head]

end

end

end Sys2Proof.Machine
end

section
/-! PROOFS: the bind after a publish (O14): the free head, a stolen slot, or none. -/

namespace Sys2Proof.Machine

section
variable {s t u v w : State} {a b : ApId} {c d : ApConfig} {r q : RingId} {sl x y z : SlotId} {o : Option SlotId}

theorem producerBoundary_bind (on : (s.producerBoundary a r).apOn a = true) :
    s.producerBoundary a r = (s.walkedOver a r).bind a r := by
  have still : (s.walkedOver a r).apOn a = true := (bindIfOn_apOn _ a r).symm.trans on
  refine (producerBoundary_eq s a r).trans ?_
  unfold State.bindIfOn
  exact if_pos still

theorem producerBoundary_overflow (s : State) (a : ApId) (r : RingId) :
    ((s.producerBoundary a r).ring r).overflow = ((s.walkedOver a r).ring r).overflow :=
  bindIfOn_overflow (s.walkedOver a r) a r

section
variable (hp : s.Placed) (hb : (s.ap a).state = .bound sl) (hc : (s.ap a).config = some c)
  (hrole : c.role = .producer) (hw : (s.slot sl).written = true)
include hp hb hc hrole hw

omit hp hb hw in
theorem published_walked : Walked (s.publishStage a c.ring) (s.walkedOver a c.ring) a c.ring :=
  walkedOver_walked hc hrole

theorem walkedOver_free (hno : s.NoRetirements) :
    ((s.walkedOver a c.ring).ring c.ring).free =
      (s.ring c.ring).free ++ (s.publishLeaving a c.ring sl).filter fun y => !(s.slot y).retained :=
  (congrArg Ring.free (published_walked hc hrole).ring :).trans (published_free hp hb hc hrole hw hno)

theorem walkedOver_ready :
    ((s.walkedOver a c.ring).ring c.ring).ready =
      ((s.ring c.ring).ready ++ [sl]).filter fun y => decide (y ∉ s.publishLeaving a c.ring sl) :=
  (congrArg Ring.ready (published_walked hc hrole).ring :).trans
    (publishStage_published hp hb hc hrole hw).ready

theorem walkedOver_counter :
    ((s.walkedOver a c.ring).ring c.ring).frameCounter = (s.ring c.ring).frameCounter :=
  (congrArg Ring.frameCounter (published_walked hc hrole).ring :).trans
    (publishStage_published hp hb hc hrole hw).counter

theorem walkedOver_slot (hno : s.NoRetirements) (hy : y ∉ s.publishLeaving a c.ring sl) :
    (s.walkedOver a c.ring).slot y = (s.offered a c.ring sl).slot y := by
  have p := publishStage_published hp hb hc hrole hw
  have slots := walkedOver_slots hc hrole (s := s) fun e he => hno e (p.entries e he)
  have same : (s.walkedOver a c.ring).slot y = (s.publishStage a c.ring).slot y := by
    unfold State.slot; rw [slots]
  exact same.trans (p.kept y hy)

omit hp hb hw in
theorem walkedOver_onward : Onward s (s.walkedOver a c.ring) := by
  have := moving_event
  have walk := (walkChanges_moves (g := .entriesOf a (some c.ring)) (s.stepped a c.ring).obeys_event
    ⟨rfl, fun _ => rfl⟩ (stepped_serving hc hrole Laws.event id)).1.onward trivial
  exact ((publishStage_onward hc hrole).trans (stepped_onward s a c.ring)).trans walk

omit hb hw in
/-- A READY slot is acquired at the publish exactly by the WAITING ORDERED consumers that find it first (R81). -/
theorem acquires_ready_iff (hb : (s.ap a).state = .bound sl) (hne : y ≠ sl) :
    (s.laidOut a r sl).acquires r b = some y ↔
      ∃ d, ApSet.has (s.ring r).consumers b = true ∧ (s.ap b).config = some d ∧ d.pick = .ordered ∧
        (s.ap b).state = .unbound ∧
        ((s.ring r).ready ++ [sl]).find? (fun x => !ApSet.has (s.slot x).passedBy b) = some y := by
  constructor
  · intro h
    have hab := acquires_ne_producer hp hc hrole h
    obtain ⟨hcons, hst, d, hd⟩ := acquires_waiting h
    rw [laidOut_ring_self] at hcons
    rw [laidOut_ap_ne hab] at hst hd
    rw [laidOut_acquires hab hcons hst hd] at h
    cases hpick : d.pick with
    | newest => rw [hpick] at h; exact absurd (Option.some.inj h).symm hne
    | ordered => rw [hpick] at h; exact ⟨d, hcons, hd, hpick, hst, h⟩
  · rintro ⟨d, hcons, hd, hpick, hst, found⟩
    have hab : a ≠ b := by
      rintro rfl
      rw [hb] at hst
      cases hst
    rw [laidOut_acquires hab hcons hst hd, hpick]
    exact found

/-- A slot that the bind may steal after the publish: not held, not retained, not the newest and not acquired at
this publish (R64, R81). -/
theorem stealable_published (hno : s.NoRetirements)
    (hy : y ∈ ((s.walkedOver a c.ring).ring c.ring).ready) :
    (s.walkedOver a c.ring).stealable c.ring y = true ↔
      (s.slot y).holders = 0 ∧ (s.slot y).retained = false ∧ y ≠ sl ∧
        ∀ b d, ApSet.has (s.ring c.ring).consumers b = true → (s.ap b).config = some d →
          d.pick = .ordered → (s.ap b).state = .unbound →
            ((s.ring c.ring).ready ++ [sl]).find? (fun x => !ApSet.has (s.slot x).passedBy b) ≠ some y := by
  have stays : y ∉ s.publishLeaving a c.ring sl := by
    rw [walkedOver_ready hp hb hc hrole hw] at hy
    exact of_decide_eq_true (List.mem_filter.1 hy).2
  have slot := walkedOver_slot hp hb hc hrole hw hno stays
  have last : ((s.walkedOver a c.ring).ring c.ring).ready.getLast? = some sl :=
    (congrArg (fun x : Ring => x.ready.getLast?) (published_walked hc hrole).ring :).trans
      (published_last hp hb hc hrole hw)
  rw [stealable_iff_fields, slot, last, ApSet.eq_zero_iff, ApSet.eq_zero_iff]
  by_cases hne : y = sl
  · subst hne
    exact ⟨fun h => absurd rfl h.2.2, fun h => absurd rfl h.2.2.1⟩
  have retained : ((s.offered a c.ring sl).slot y).retained = (s.slot y).retained := by
    rw [offered_slot]
    simp [hne]
  rw [retained]
  constructor
  · rintro ⟨holders, hret, -⟩
    have unheld (b : ApId) : ¬ (ApSet.has (s.slot y).holders b = true ∨
        (s.laidOut a c.ring sl).acquires c.ring b = some y) := fun k => by
      have held := (offered_holders y b).2 k
      rw [holders b] at held
      cases held
    exact ⟨fun b => Bool.eq_false_iff.2 fun k => unheld b (.inl k), hret, hne, fun b d hcons hd hpick hst found =>
      unheld b (.inr ((acquires_ready_iff hp hc hrole hb hne).2 ⟨d, hcons, hd, hpick, hst, found⟩))⟩
  · rintro ⟨holders, hret, -, free⟩
    refine ⟨fun b => Bool.eq_false_iff.2 fun k => ?_, hret, fun e => hne (Option.some.inj e).symm⟩
    rcases (offered_holders y b).1 k with k | k
    · rw [holders b] at k; cases k
    · obtain ⟨d, hcons, hd, hpick, hst, found⟩ := (acquires_ready_iff hp hc hrole hb hne).1 k
      exact free b d hcons hd hpick hst found

/-- The bind after the publish takes the head of the free list that the publish leaves (R63). -/
theorem published_takes_free (hno : s.NoRetirements) (on : (s.producerBoundary a c.ring).apOn a = true)
    {rest : List SlotId} (hf : (s.ring c.ring).free ++ (s.publishLeaving a c.ring sl).filter (fun y => !(s.slot y).retained)
      = z :: rest) :
    ((s.producerBoundary a c.ring).ap a).state = .bound z ∧
      ((s.producerBoundary a c.ring).ring c.ring).ready =
        ((s.ring c.ring).ready ++ [sl]).filter fun y => decide (y ∉ s.publishLeaving a c.ring sl) := by
  have free := (walkedOver_free hp hb hc hrole hw hno).trans hf
  have ready := walkedOver_ready hp hb hc hrole hw
  rw [producerBoundary_bind on, bind_of_free free]
  generalize s.walkedOver a c.ring = w at ready
  refine ⟨?_, ?_⟩
  · rw [State.fill, setApState_ap_self]
  · rw [fill_ring, setRing_ring_self]
    exact ready

/-- Where there is no FREE slot and OVERWRITE_OLDEST is in force, the bind steals (R64). -/
theorem published_steals (hno : s.NoRetirements) (on : (s.producerBoundary a c.ring).apOn a = true)
    (hf : ((s.walkedOver a c.ring).ring c.ring).free = [])
    (ho : ((s.producerBoundary a c.ring).ring c.ring).overflow = .overwriteOldest)
    (hy : ((s.walkedOver a c.ring).ring c.ring).ready.find? ((s.walkedOver a c.ring).stealable c.ring) = some y) :
    ((s.producerBoundary a c.ring).ap a).state = .bound y ∧
      ((s.producerBoundary a c.ring).ring c.ring).ready = ((s.walkedOver a c.ring).ring c.ring).ready.erase y ∧
      ((s.producerBoundary a c.ring).ring c.ring).free = [] ∧
      (s.producerBoundary a c.ring).slot y =
        { s.slot y with
          frame := some (wrapNext 0xFFFFFFFF (s.ring c.ring).frameCounter)
          written := false, faulted := false, holders := 0, passedBy := 0
          retained := false, releaseRequested := false } ∧
      Raised s (s.producerBoundary a c.ring)
        { kind := .frameDropped, ring := some c.ring, aperture := some a, slot := some y
          frame := (s.slot y).frame, detail := ((s.walkedOver a c.ring).missedBy c.ring y).toNat } := by
  rw [producerBoundary_overflow] at ho
  have stays : y ∉ s.publishLeaving a c.ring sl := by
    have mem := List.mem_of_find?_eq_some hy
    rw [walkedOver_ready hp hb hc hrole hw] at mem
    exact of_decide_eq_true (List.mem_filter.1 mem).2
  have slot := (walkedOver_slot hp hb hc hrole hw hno stays).trans (offered_slot s a c.ring sl y)
  have counter := walkedOver_counter hp hb hc hrole hw
  have still : (s.walkedOver a c.ring).apOn a = true := (bindIfOn_apOn _ a c.ring).symm.trans on
  have onward := walkedOver_onward hc hrole
  rw [producerBoundary_bind on, bind_of_steal hf ho hy, counter]
  generalize s.walkedOver a c.ring = w at hf still onward slot
  refine ⟨?_, ?_, ?_, ?_, ?_⟩
  · rw [raise_ap, State.fill, setApState_ap_self]
  · rw [raise_ring, fill_ring, setRing_ring_self]
  · rw [raise_ring, fill_ring, setRing_ring_self]
    exact hf
  · rw [raise_slot, fill_slot, if_pos rfl, setRing_slot, Slot.filling, slot]
  · have frame := congrArg Slot.frame slot
    have note : (w.slot y).frame = (s.slot y).frame := frame
    rw [note]
    exact (onward.trans ((Onward.congr (s := w) (t := w.setRing c.ring _) rfl rfl).trans
      (fill_onward (s := w.setRing c.ring _) still y _))).raised (.refl _)

/-- Where there is no slot to bind, the producer is STARVED (R65). -/
theorem published_starves {detail : Nat} (on : (s.producerBoundary a c.ring).apOn a = true)
    (hf : ((s.walkedOver a c.ring).ring c.ring).free = [])
    (h : ((s.producerBoundary a c.ring).ring c.ring).overflow = .dropNew ∧ detail = 0 ∨
      ((s.producerBoundary a c.ring).ring c.ring).overflow = .overwriteOldest ∧
        ((s.walkedOver a c.ring).ring c.ring).ready.find? ((s.walkedOver a c.ring).stealable c.ring) = none ∧
        detail = 1) :
    ((s.producerBoundary a c.ring).ap a).state = .unbound ∧
      ((s.producerBoundary a c.ring).ring c.ring).ready = ((s.walkedOver a c.ring).ring c.ring).ready ∧
      ((s.producerBoundary a c.ring).ring c.ring).free = [] ∧
      Raised s (s.producerBoundary a c.ring)
        { kind := .producerStarved, ring := some c.ring, aperture := some a
          frame := some (wrapNext 0xFFFFFFFF (s.ring c.ring).frameCounter), detail := detail } := by
  rw [producerBoundary_overflow] at h
  have counter := walkedOver_counter hp hb hc hrole hw
  have still : (s.walkedOver a c.ring).apOn a = true := (bindIfOn_apOn _ a c.ring).symm.trans on
  have onward := walkedOver_onward hc hrole
  rw [producerBoundary_bind on, bind_of_starve hf h, counter]
  generalize s.walkedOver a c.ring = w at hf still onward
  refine ⟨?_, ?_, ?_, ?_⟩
  · rw [raise_ap, setApState_ap_self]
  · rw [raise_ring, setApState_ring, setRing_ring_self]; rfl
  · rw [raise_ring, setApState_ring, setRing_ring_self]
    exact hf
  · exact (onward.trans ((Onward.congr (s := w) (t := w.setRing c.ring _) rfl rfl).trans
      (.state (s := w.setRing c.ring _) .unbound fun _ => apOn_eq_true.1 still))).raised (.refl _)

/-- The consumers that a steal after the publish reports (R64). -/
theorem missed_published (hno : s.NoRetirements)
    (hy : ((s.walkedOver a c.ring).ring c.ring).ready.find? ((s.walkedOver a c.ring).stealable c.ring) = some y) :
    ApSet.has ((s.walkedOver a c.ring).missedBy c.ring y) b = true ↔
      ApSet.has (s.ring c.ring).consumers b = true ∧ (s.ap b).config.map (·.pick) = some .ordered ∧
        ApSet.has (s.slot y).passedBy b = false := by
  have p := publishStage_published hp hb hc hrole hw
  have mem := List.mem_of_find?_eq_some hy
  obtain ⟨-, -, hne, free⟩ := (stealable_published hp hb hc hrole hw hno mem).1 (List.find?_some hy)
  have stays : y ∉ s.publishLeaving a c.ring sl := by
    rw [walkedOver_ready hp hb hc hrole hw] at mem
    exact of_decide_eq_true (List.mem_filter.1 mem).2
  have consumers : ((s.walkedOver a c.ring).ring c.ring).consumers = (s.ring c.ring).consumers :=
    (congrArg Ring.consumers (published_walked hc hrole).ring :).trans p.consumers
  have passed : ApSet.has ((s.offered a c.ring sl).slot y).passedBy b = ApSet.has (s.slot y).passedBy b := by
    refine Bool.eq_iff_iff.2 ((offered_passed y b).trans (or_iff_left_of_imp fun k => ?_))
    refine passed_of_passesAt hp hc hrole k fun found => ?_
    obtain ⟨d, hcons, hd, hpick, hst, first⟩ := (acquires_ready_iff hp hc hrole hb hne).1 found
    exact free b d hcons hd hpick hst first
  rw [has_missedBy, consumers, walkedOver_slot hp hb hc hrole hw hno stays, passed]
  refine and_congr_right fun hcons => ?_
  have other : b ≠ a := by
    rintro rfl
    exact absurd ((hp.not_consumer hc hrole c.ring).symm.trans hcons) nofun
  rw [(published_walked hc hrole).aps b other, p.aps, offered_config]

end

end

section
variable {s : State} {a : ApId} {c : ApConfig}

theorem counted_apState (s : State) (a b : ApId) : ((s.counted a).ap b).state = (s.ap b).state := by
  by_cases e : a = b
  · subst e; rw [counted_ap_self]
  · rw [counted_ap_ne e]

end

/-- Settles O14: the publish and its reclamation, then the walk, then the bind from what they leave free; the steal
and STARVED are the two other outcomes of the bind. -/
theorem boundaryPublishesTheWrittenSlot : Obligations.BoundaryPublishesTheWrittenSlot := by
  intro s a c sl order h hs hp hacts hrole hst hw hret
  have e := exec_boundary_of_producer (order := order) h hs hacts hrole
  have hp' := counted_placed (a := a) hp
  have hc := counted_config hacts
  have hb : ((s.counted a).ap a).state = .bound sl := (counted_apState s a a).trans hst
  have p := publishStage_published hp' hb hc hrole hw
  obtain ⟨o, f⟩ := producerBoundary_finished hp' hc hrole
  have slot := published_slot hp' hb hc hrole hw f
  have getLast := published_getLast hp' hb hc hrole hw f
  have on : (s.counted a).apOn a = true := apOn_eq_true.2 (by rw [hb]; nofun)
  have published := laidOut_published on (laidOut_to_end hp' hb hc hrole hw f)
  have refused (k : (s.sched c.ring).state = .retaining) (g : (s.counted a).guardAllows c.ring = false) :=
    laidOut_refused on (decide_eq_true k) g (laidOut_to_end hp' hb hc hrole hw f)
  have stays := published_stays hp' hb hc hrole hw
  have detached (e : Change) := published_detached hp' hb hc hrole hw (e := e)
  have reclaimed := p.reclaimed.finished f p.placed p.changes
  have takesFree (hno : s.NoRetirements) (k) (z : SlotId) (rest : List SlotId) :=
    published_takes_free hp' hb hc hrole hw hno k (z := z) (rest := rest)
  have steals (hno : s.NoRetirements) (k) (y : SlotId) :=
    published_steals hp' hb hc hrole hw hno k (y := y)
  have starves (d : Nat) := published_starves hp' hb hc hrole hw (detail := d)
  have missed (hno : s.NoRetirements) (y : SlotId) (b : ApId) :=
    missed_published hp' hb hc hrole hw hno (y := y) (b := b)
  have free := walkedOver_free hp' hb hc hrole hw
  have ready := walkedOver_ready hp' hb hc hrole hw
  have stealable (hno : s.NoRetirements) (y : SlotId) := stealable_published hp' hb hc hrole hw hno (y := y)
  have retains := retains_iff (s.counted a) c.ring
  have rings (q : RingId) (hq : q ≠ c.ring) := (f.rings q hq).trans (p.rings q hq)
  have counter := f.counter.trans (by rw [p.counter])
  have leaves (y : SlotId) (hy : y ∈ (s.ring c.ring).ready) :=
    mem_publishLeaving (s := s.counted a) (a := a) (sl := sl) hp' hc hrole hy fun k =>
      bound_not_ready hp' hb hc hrole c.ring (k ▸ hy)
  simp only [counted_apConfig, counted_apState] at missed leaves stealable
  obtain ⟨ar, cp, after⟩ := arbitrate_frame ((s.counted a).producerBoundary a c.ring)
  rw [after] at e
  have bound := f.bound
  clear f p after
  generalize (s.counted a).producerBoundary a c.ring = u at *
  generalize (s.counted a).publishLeaving a c.ring sl = leaving at *
  generalize (s.counted a).walkedOver a c.ring = w at *
  have raised {n : Note} (k : Raised (s.counted a) u n) :
      Raised s (State.answered { u with arbiter := ar, copy := cp } 0x05 [idWord a] .done []) n := k
  refine ⟨_, e, answered_answers .., getLast, slot.1, slot.2.1.trans hw, slot.2.2.1, ?_, ?_, ?_, ?_, ?_,
    ⟨leaving, ?_, leaves, ?_, ?_⟩, rings⟩
  · rw [show (State.answered { u with arbiter := ar, copy := cp } 0x05 [idWord a] .done []).slot sl = u.slot sl
      from rfl, slot.2.2.2, show ((s.counted a).slot sl).retained = false from hret, Bool.false_or]
    exact retains
  · refine raised ?_
    have note : (((s.counted a).slot sl).retained || (s.counted a).retains c.ring) = (u.slot sl).retained :=
      slot.2.2.2.symm
    unfold State.publishedNote at published
    rw [note] at published
    exact published
  · intro k hr
    refine raised (refused k ?_)
    have none : (s.counted a).retains c.ring = false := by
      have no := slot.2.2.2.symm.trans hr
      exact (Bool.or_eq_false_iff.1 no).2
    exact Bool.eq_false_iff.2 fun g => absurd ((Bool.and_eq_true_iff.2 ⟨decide_eq_true k, g⟩).symm.trans none) nofun
  · intro hno
    have up := stays hno
    exact ⟨up, counter.trans (if_pos up)⟩
  · rintro ⟨seq, expiry, he⟩
    obtain ⟨off, gone, none⟩ := detached _ he rfl
    exact ⟨off, gone, none, counter.trans (if_neg (by rw [off]; nofun))⟩
  · rw [show State.boundSlot (State.answered { u with arbiter := ar, copy := cp } 0x05 [idWord a] .done []) a = o
      from bound]
    have moved := Reclaimed.of_counted reclaimed
    exact ⟨moved.oldestFirst, moved.gone, moved.held, moved.kept, moved.free, moved.freed⟩
  · intro hno on z rest hf
    exact takesFree hno on z rest hf
  · rintro hno up none n ready' may rfl rfl hmay
    have free := (free hno).trans none
    have same : (w.ring c.ring).ready.find? (w.stealable c.ring) = (w.ring c.ring).ready.find? may :=
      List.find?_congr fun y hy => Bool.eq_iff_iff.2 ((stealable hno y hy).trans (hmay y).symm)
    have found : (w.ring c.ring).ready.find? may =
        (((s.ring c.ring).ready ++ [sl]).filter fun y => decide (y ∉ leaving)).find? may :=
      congrArg (List.find? may) ready
    refine ⟨fun y ho hy => ?_, fun d hd => ?_⟩
    · have hy := (same.trans found).trans hy
      obtain ⟨state, erased, freed, record, note⟩ := steals hno up y free ho hy
      exact ⟨state, erased.trans (congrArg (List.erase · y) ready), freed, record, _,
        fun b => missed hno y b hy, raised note⟩
    · obtain ⟨state, left, freed, note⟩ := starves d up free (hd.imp_right fun k =>
        ⟨k.1, (same.trans found).trans k.2.1, k.2.2⟩)
      exact ⟨state, left.trans ready, freed, raised note⟩

end Sys2Proof.Machine
end

section
/-! PROOFS: what the WAITING consumers of a ring hold after a publish (O15). -/

namespace Sys2Proof.Machine

section
variable {s t u v w : State} {a b : ApId} {c d : ApConfig} {r q : RingId} {sl x y z : SlotId} {o : Option SlotId}

/-- The slot that a bind takes is a FREE one or one that no aperture holds (R63, R64). -/
theorem bind_boundSlot (h : (w.bind a r).boundSlot a = some x) : x ∈ (w.ring r).free ∨ (w.slot x).holders = 0 := by
  rcases bind_cases w a r with ⟨y, rest, hf, e⟩ | ⟨y, -, -, hy, e⟩ | ⟨n, -, e⟩ <;> rw [e] at h
  · rw [fill_boundSlot] at h
    rw [hf, ← Option.some.inj h]
    exact .inl (List.mem_cons_self ..)
  · have taken : (State.fill ((w.advanceFrame r).leaveReady r y) a y
        (wrapNext 0xFFFFFFFF (w.ring r).frameCounter)).boundSlot a = some x := h
    rw [fill_boundSlot] at taken
    rw [stealable_advanceFrame] at hy
    rw [← Option.some.inj taken]
    exact .inr ((stealable_iff_fields ..).1 (List.find?_some hy)).1
  · have none : ((w.advanceFrame r).starve a r (wrapNext 0xFFFFFFFF (w.ring r).frameCounter) n).boundSlot a = none :=
      boundSlot_eq_none fun z k => by rw [State.starve, raise_ap, setApState_ap_self] at k; cases k
    exact absurd (none.symm.trans h) nofun

theorem bind_ap_ne (h : a ≠ b) : (w.bind a r).ap b = w.ap b := by
  rcases bind_cases w a r with ⟨_, _, _, e⟩ | ⟨_, _, _, _, e⟩ | ⟨_, _, e⟩ <;> rw [e]
  · rw [State.fill, setApState_ap_ne _ _ h]; rfl
  · rw [State.steal, raise_ap, State.fill, setApState_ap_ne _ _ h]; rfl
  · rw [State.starve, raise_ap, setApState_ap_ne _ _ h]; rfl

theorem bindIfOn_ap_ne (h : a ≠ b) : (w.bindIfOn a r).ap b = w.ap b := by
  unfold State.bindIfOn
  split
  · exact bind_ap_ne h
  · rfl

theorem bindIfOn_boundSlot (h : (w.bindIfOn a r).boundSlot a = some x) :
    x ∈ (w.ring r).free ∨ (w.slot x).holders = 0 ∨ (w.ap a).state = .bound x := by
  unfold State.bindIfOn at h
  split at h
  · exact (bind_boundSlot h).imp_right .inl
  · refine .inr (.inr ?_)
    rw [boundSlot_eq_slotOf] at h
    cases k : (w.ap a).state with
    | bound y => rw [k] at h; exact congrArg ApState.bound (Option.some.inj h)
    | off => rw [k] at h; cases h
    | unbound => rw [k] at h; cases h

section
variable (hp : s.Placed) (hb : (s.ap a).state = .bound sl) (hc : (s.ap a).config = some c)
  (hrole : c.role = .producer) (hw : (s.slot sl).written = true)

/-- A slot acquired at the publish stays in the ready list. -/
theorem acquired_not_leaving (h : (s.laidOut a r sl).acquires r b = some x) : x ∉ s.publishLeaving a r sl := fun k => by
  have held := (offered_holders x b).2 (.inr h)
  obtain ⟨-, -, unheld, -⟩ := (mem_leaving _ r _).1 k
  rw [ApSet.eq_zero_iff] at unheld
  exact absurd ((unheld b).symm.trans held) nofun

include hp hb hc hrole hw

theorem producerBoundary_ap_ne (h : a ≠ b) :
    (s.producerBoundary a c.ring).ap b = (s.offered a c.ring sl).ap b := by
  have p := publishStage_published hp hb hc hrole hw
  rw [producerBoundary_eq, bindIfOn_ap_ne h]
  exact ((published_walked hc hrole).aps b h.symm).trans (p.aps b)

/-- A slot acquired at the publish is not the one that the producer takes next. -/
theorem acquired_not_taken (h : (s.laidOut a c.ring sl).acquires c.ring b = some x) :
    (s.producerBoundary a c.ring).boundSlot a ≠ some x := fun k => by
  have p := publishStage_published hp hb hc hrole hw
  have walk := published_walked (s := s) (a := a) hc hrole
  have ready : x ∈ ((s.publishStage a c.ring).ring c.ring).ready := by
    have mem := acquires_mem h
    rw [laidOut_ring_self] at mem
    rw [p.ready]
    exact List.mem_filter.2 ⟨mem, decide_eq_true (acquired_not_leaving h)⟩
  rcases bindIfOn_boundSlot (w := s.walkedOver a c.ring) k with free | unheld | bound
  · rw [walk.ring] at free
    exact p.placed.free_not_ready free c.ring ready
  · rw [walk.slots x] at unheld
    have kept := p.kept x (acquired_not_leaving h)
    have held := (offered_holders x b).2 (.inr h)
    rw [← kept] at held
    rw [ApSet.eq_zero_iff] at unheld
    exact absurd ((unheld b).symm.trans held) nofun
  · have unbound := publishStage_ap hp hc hrole c.ring hb
    rcases walk.state with e | ⟨e, -⟩
    · rw [unbound] at e; exact absurd (e.symm.trans bound) nofun
    · exact absurd (e.symm.trans bound) nofun

/-- Who holds and who has passed a READY slot at the end of the boundary. -/
theorem ready_slot_after (h : y ∉ s.publishLeaving a c.ring sl) (ht : (s.producerBoundary a c.ring).boundSlot a ≠ some y) :
    ((s.producerBoundary a c.ring).slot y).holders = ((s.offered a c.ring sl).slot y).holders ∧
      ((s.producerBoundary a c.ring).slot y).passedBy = ((s.offered a c.ring sl).slot y).passedBy := by
  have p := publishStage_published hp hb hc hrole hw
  obtain ⟨o, f⟩ := producerBoundary_finished hp hc hrole
  rw [f.bound] at ht
  have slot := f.slots y ht
  rw [p.kept y h] at slot
  generalize (s.producerBoundary a c.ring).slot y = z at slot
  rw [slot]
  exact ⟨rfl, rfl⟩

omit hp in
theorem producerBoundary_ports :
    (s.producerBoundary a c.ring).steering = (s.offered a c.ring sl).steering ∧
      (s.producerBoundary a c.ring).arbiter = (s.offered a c.ring sl).arbiter := by
  have shelf := producerBoundary_onShelf (s := s) (a := a) hc hrole
  have frame := stepSchedule_frame (s.publishStage a c.ring) c.ring (s.publishedFrame a)
  have published : OnShelf (s.offered a c.ring sl) (s.publishStage a c.ring) := by
    rw [publishStage_of_written hb hw, publish_offered]
    exact .reclaim ..
  exact ⟨shelf.steering.trans ((congrArg State.steering frame :).trans published.steering),
    shelf.arbiter.trans ((congrArg State.arbiter frame :).trans published.arbiter)⟩

end

section
variable (hp : s.Placed) (hb : (s.ap a).state = .bound sl) (hc : (s.ap a).config = some c)
  (hrole : c.role = .producer) (hw : (s.slot sl).written = true)
include hp hb hc hrole hw

/-- A slot READY at the end of the boundary was neither reclaimed nor taken. -/
theorem ready_stayed (h : y ∈ ((s.producerBoundary a c.ring).ring c.ring).ready) :
    y ∉ s.publishLeaving a c.ring sl ∧ (s.producerBoundary a c.ring).boundSlot a ≠ some y := by
  have p := publishStage_published hp hb hc hrole hw
  obtain ⟨o, f⟩ := producerBoundary_finished hp hc hrole
  rw [f.ready, p.ready] at h
  obtain ⟨h, untaken⟩ := List.mem_filter.1 h
  exact ⟨of_decide_eq_true (List.mem_filter.1 h).2, f.bound ▸ of_decide_eq_true untaken⟩

end

theorem self_mem_takeThrough {α : Type} [DecidableEq α] {x : α} {l : List α} (h : x ∈ l) : x ∈ takeThrough x l := by
  induction l with
  | nil => cases h
  | cons y ys ih =>
    unfold takeThrough
    split
    · next e => rw [e]; exact List.mem_singleton.2 rfl
    · next e =>
      rcases List.mem_cons.1 h with rfl | h
      · exact absurd rfl e
      · exact List.mem_cons_of_mem _ (ih h)

/-- What a WAITING consumer of the ring takes: the slot published, or the oldest it has not passed (R81). -/
theorem waiting_acquires (hp : s.Placed) (hb : (s.ap a).state = .bound sl) (hpassed : (s.slot sl).passedBy = 0)
    (hd : (s.ap b).config = some d) (hrole : d.role = .consumer) (hst : (s.ap b).state = .unbound) :
    ∃ x, (s.laidOut a d.ring sl).acquires d.ring b = some x ∧ (d.pick = .newest → x = sl) ∧
      (d.pick = .ordered →
        ((s.ring d.ring).ready ++ [sl]).find? (fun y => !ApSet.has (s.slot y).passedBy b) = some x) := by
  have hab : a ≠ b := by rintro rfl; rw [hb] at hst; cases hst
  have on : s.apOn b = true := apOn_eq_true.2 (by rw [hst]; nofun)
  have hcons := (hp.consumers d.ring b).2 ⟨on, d, hd, hrole, rfl⟩
  have acquires := laidOut_acquires (sl := sl) hab hcons hst hd
  cases hpick : d.pick with
  | newest => rw [hpick] at acquires; exact ⟨sl, acquires, fun _ => rfl, nofun⟩
  | ordered =>
    rw [hpick] at acquires
    have some : (((s.ring d.ring).ready ++ [sl]).find? fun y => !ApSet.has (s.slot y).passedBy b).isSome = true := by
      rw [List.find?_isSome]
      refine ⟨sl, List.mem_append_right _ (List.mem_singleton.2 rfl), ?_⟩
      rw [hpassed, (ApSet.eq_zero_iff 0).1 rfl b]
      rfl
    obtain ⟨x, hx⟩ := Option.isSome_iff_exists.1 some
    exact ⟨x, acquires.trans hx, nofun, fun _ => hx⟩

end

/-- Settles O15: each WAITING consumer acquires at the publish, and nothing later in the event moves it. -/
theorem waitingConsumersAcquireAtPublish : Obligations.WaitingConsumersAcquireAtPublish := by
  intro s a b c d sl order h hs hp hacts hrole hst hw hpassed hd hdrole hring hon
  have e := exec_boundary_of_producer (order := order) h hs hacts hrole
  have hp' := counted_placed (a := a) hp
  have hc := counted_config hacts
  have hb : ((s.counted a).ap a).state = .bound sl := (counted_apState s a a).trans hst
  have hab : a ≠ b := by
    rintro rfl
    obtain rfl : c = d := Option.some.inj (hacts.config.symm.trans hd)
    rw [hrole] at hdrole
    cases hdrole
  have apb := producerBoundary_ap_ne hp' hb hc hrole hw hab
  rw [offered_ap, laidOut_ap_ne hab, counted_ap_ne hab] at apb
  refine ⟨_, e, ?_, fun x hx => ?_⟩
  · rintro hwait queue rfl
    obtain ⟨x, acquires, newest, oldest⟩ := waiting_acquires hp' hb hpassed
      (hd.symm ▸ counted_apConfig s a b) hdrole ((counted_apState s a b).trans hwait)
    rw [hring] at acquires oldest
    have untaken := acquired_not_taken hp' hb hc hrole hw acquires
    have stays := acquired_not_leaving acquires
    have slot (y : SlotId) := ready_slot_after (y := y) hp' hb hc hrole hw
    have ready (y : SlotId) := ready_stayed (y := y) hp' hb hc hrole hw
    obtain ⟨steering, arbiter⟩ := producerBoundary_ports hb hc hrole hw
    have still := arbitrate_steering ((s.counted a).producerBoundary a c.ring)
    have forward {w base timer} (k : (s.counted a).steering.phase = .stalled w b base timer) :=
      acquisitions_forward (s := (s.counted a).laidOut a c.ring sl) (w := w) (base := base) (timer := timer)
        ((congrArg Steering.phase (laidOut_onShelf ..).steering).trans k) acquires
    have shown {x} := arbitrate_presented (s := (s.counted a).producerBoundary a c.ring) (x := x)
    have passes (y : SlotId) := (offered_passed (s := s.counted a) (a := a) (r := c.ring) (sl := sl) y b).2
    obtain ⟨ar, cp, after⟩ := arbitrate_frame ((s.counted a).producerBoundary a c.ring)
    have slotBase : ((s.counted a).laidOut a c.ring sl).slotBase x = s.slotBase x := by
      unfold State.slotBase; rw [laidOut_slot]; rfl
    have frame : (((s.counted a).laidOut a c.ring sl).slot x).frame = (s.slot x).frame := by
      rw [laidOut_slot]; rfl
    have laidSteering := (laidOut_onShelf (s.counted a) a c.ring sl).steering
    have holder := (offered_holders x b).2 (.inr acquires)
    have mem : x ∈ (s.ring c.ring).ready ++ [sl] := by
      have mem := acquires_mem acquires
      rw [laidOut_ring_self] at mem
      exact mem
    rw [acquires] at apb
    have passedBy {y} (hpick : d.pick = .ordered) (hy : y ∈ takeThrough x ((s.ring c.ring).ready ++ [sl]))
        (k : y ∉ (s.counted a).publishLeaving a c.ring sl)
        (u : ((s.counted a).producerBoundary a c.ring).boundSlot a ≠ some y) :
        ApSet.has (((s.counted a).producerBoundary a c.ring).slot y).passedBy b = true := by
      rw [(slot y k u).2]
      refine passes y (.inr ⟨x, d, acquires, ?_, hpick, ?_⟩)
      · rw [laidOut_ap_ne hab, counted_ap_ne hab]; exact hd
      · rw [laidOut_ring_self]; exact hy
    generalize (s.counted a).producerBoundary a c.ring = u at *
    refine ⟨x, newest, fun hpick => ⟨oldest hpick, ?_, fun y hy hready => ?_⟩, ?_, ?_, ?_⟩
    · rw [after]; exact passedBy hpick (self_mem_takeThrough mem) stays untaken
    · rw [after] at hready ⊢
      obtain ⟨k, v⟩ := ready y hready
      exact passedBy hpick hy k v
    · rw [after]; exact congrArg Aperture.state apb
    · rw [after]
      show ApSet.has (u.slot x).holders b = true
      rw [(slot x stays untaken).1]; exact holder
    · intro w base timer k
      obtain ⟨moved, claim⟩ := forward k
      rw [slotBase] at claim
      rw [frame] at moved
      refine ⟨still.trans (steering.trans (moved.trans ?_)), ?_⟩
      · rw [laidSteering]; rfl
      · exact shown (congrArg Arbiter.steeringClaim (arbiter.trans claim))
  · obtain ⟨ar, cp, after⟩ := arbitrate_frame ((s.counted a).producerBoundary a c.ring)
    have none : ((s.counted a).laidOut a c.ring sl).acquires c.ring b = none := by
      refine Option.eq_none_iff_forall_ne_some.2 fun y k => ?_
      have unbound := (acquires_waiting k).2.1
      rw [laidOut_ap_ne hab, counted_ap_ne hab, hx] at unbound
      cases unbound
    rw [none] at apb
    rw [after]
    generalize (s.counted a).producerBoundary a c.ring = u at apb
    exact apb

end Sys2Proof.Machine
end

section
/-! PROOFS: APERTURE_OFF (O27): nothing, queued, or at once with the entries that wait. -/

namespace Sys2Proof.Machine

section
variable {s t u v w : State} {a b : ApId} {c d : ApConfig} {r q : RingId} {sl x y z : SlotId}

/-! ### What a retirement keeps of a slot's record (R154) -/

theorem applyRetirement_keeps {P : Slot → Prop} (cleared : ∀ y, P y → P { y with retirePending := false })
    (unassigned : P Slot.unassigned) (sl : SlotId) (h : P (s.slot x)) : P ((s.applyRetirement sl).slot x) := by
  by_cases e : sl = x
  · subst e
    rcases applyRetirement_cases s sl with ⟨-, k⟩ | ⟨_, -, -, k⟩ | ⟨_, -, -, k⟩ <;> rw [k]
    · exact h
    · rw [raise_slot, setSlot_slot_self]; exact cleared _ h
    · rw [raise_slot, State.retire]
      split
      · rw [setSlot_slot_self]; exact cleared _ h
      · rw [setSlot_slot_self]; exact unassigned
  · rw [applyRetirement_slot_ne s e]; exact h

theorem applyRetirements_keeps {P : Slot → Prop} (cleared : ∀ y, P y → P { y with retirePending := false })
    (unassigned : P Slot.unassigned) (sls : List SlotId) (h : P (s.slot x)) :
    P ((s.applyRetirements sls).slot x) := by
  induction sls generalizing s with
  | nil => exact h
  | cons sl sls ih => exact ih (applyRetirement_keeps cleared unassigned sl h)

/-- A check leaves the record of a slot, or the slot went free and no aperture has passed it. -/
theorem reclaim_slot_or_unpassed (s : State) (r : RingId) (cands : List SlotId) (y : SlotId) :
    (s.reclaim r cands).slot y = s.slot y ∨ ((s.reclaim r cands).slot y).passedBy = 0 := by
  by_cases hl : y ∈ s.leaving r cands
  · cases hr : (s.slot y).retained with
    | true => exact .inl (reclaim_slot_of_kept hr)
    | false =>
      rw [reclaim_eq]
      refine .inr (applyRetirements_keeps (P := fun y => y.passedBy = 0) (fun _ => id) rfl _ ?_)
      rw [dropAll_slot, if_pos ⟨hl, hr⟩]
      rfl
  · exact .inl (reclaim_slot_of_not_leaving r cands hl)

/-! ### A consumer turns OFF (R70) -/

theorem consumerOff_slot (s : State) (a : ApId) (r : RingId) (y : SlotId) :
    (s.consumerOff a r).slot y =
      { s.slot y with
        passedBy := if (s.slot y).home.map (·.ring) = some r then ApSet.erase (s.slot y).passedBy a
          else (s.slot y).passedBy } := by
  have slots : ((s.detachStall a).unserve a r).slots = s.slots := (detachStall_books s a).slots
  have slot : ((s.detachStall a).unserve a r).slot y = s.slot y := by unfold State.slot; rw [slots]
  have mem : y ∈ ((s.detachStall a).unserve a r).slotsOf r ↔ (s.slot y).home.map (·.ring) = some r := by
    rw [State.slotsOf, List.mem_filter, slot, decide_eq_true_iff]
    exact and_iff_right (List.mem_finRange y)
  rw [consumerOff_eq, unmarkPassed_slot, slot]
  simp only [mem]

/-- A read stalled on an aperture is answered FAULT (R41). -/
theorem detachStall_of_stalled {x : Txn} {base : Addr} {timer : Option Nat}
    (h : s.steering.phase = .stalled x a base timer) : s.detachStall a = s.answerFault x := by
  unfold State.detachStall
  rw [h]
  exact if_pos rfl

theorem detachStall_of_none (h : ∀ x base timer, s.steering.phase ≠ .stalled x a base timer) :
    s.detachStall a = s := by
  unfold State.detachStall
  split
  · next x b base timer k =>
    refine if_neg fun e => ?_
    subst e
    exact h x base timer k
  · rfl

/-- Turning OFF touches the ports only by the answer to a stalled read. -/
theorem consumerOff_beside (s : State) (a : ApId) (r : RingId) :
    OnShelf (s.detachStall a) (s.consumerOff a r) ∧ (s.consumerOff a r).notes = (s.detachStall a).notes := by
  have unmark (l : List SlotId) (v : State) : { v.unmarkPassed a l with slots := v.slots } = v := by
    unfold State.unmarkPassed
    induction l generalizing v with
    | nil => rfl
    | cons y ys ih => exact (congrArg (fun w : State => { w with slots := v.slots }) (ih (v.setSlot y _)) :)
  rw [consumerOff_eq]
  have frame := unmark (((s.detachStall a).unserve a r).slotsOf r) ((s.detachStall a).unserve a r)
  refine ⟨OnShelf.trans (t := (s.detachStall a).unserve a r) rfl ?_, (congrArg State.notes frame :)⟩
  exact (congrArg (fun w : State => { w with
    rings := ((s.detachStall a).unserve a r).rings, apertures := ((s.detachStall a).unserve a r).apertures
    changes := ((s.detachStall a).unserve a r).changes, notes := ((s.detachStall a).unserve a r).notes }) frame :)

theorem detachStall_fields (s : State) (a : ApId) :
    (s.detachStall a).notes = s.notes ∧ (s.detachStall a).steering.waiting = s.steering.waiting ∧
      (s.detachStall a).changes = s.changes := by
  unfold State.detachStall
  split
  · split
    · next x _ _ _ _ _ =>
      obtain ⟨d, k, e, -⟩ := answerFault_eq s x
      rw [e]
      exact ⟨rfl, rfl, rfl⟩
    · exact ⟨rfl, rfl, rfl⟩
  · exact ⟨rfl, rfl, rfl⟩

/-- A WAITING consumer after it has turned OFF and the slots it leaves behind are reclaimed. -/
def State.turnedOff (s : State) (a : ApId) (c : ApConfig) : State :=
  (s.consumerOff a c.ring).reclaim c.ring ((s.consumerOff a c.ring).offChecks c.ring c.pick none)

theorem turnedOff_ap (s : State) (a b : ApId) (c : ApConfig) :
    (s.turnedOff a c).ap b = if a = b then { s.ap b with state := .off, deferred := false } else s.ap b := by
  rw [State.turnedOff, reclaim_ap, consumerOff_ap]

theorem turnedOff_consumers (s : State) (a : ApId) (c : ApConfig) :
    ((s.turnedOff a c).ring c.ring).consumers = ApSet.erase (s.ring c.ring).consumers a := by
  rw [State.turnedOff, reclaim_ring_consumers, consumerOff_ring, if_pos rfl]

theorem turnedOff_shelf (s : State) (a : ApId) (c : ApConfig) : OnShelf (s.detachStall a) (s.turnedOff a c) :=
  (consumerOff_beside s a c.ring).1.trans (.reclaim ..)

theorem turnedOff_entriesFor (s : State) (a b : ApId) (c : ApConfig) :
    (s.turnedOff a c).entriesFor b = s.entriesFor b := by
  rw [← entriesFor_eq, ← entriesFor_eq, State.turnedOff, reclaim_entries_filter (forAperture_skips b),
    consumerOff_changes]

/-- No slot of the ring is passed by an aperture that has left it (R7, R70). -/
theorem turnedOff_unpassed (h : ((s.turnedOff a c).slot y).home.map (·.ring) = some c.ring) :
    ApSet.has ((s.turnedOff a c).slot y).passedBy a = false := by
  rcases reclaim_slot_or_unpassed (s.consumerOff a c.ring) c.ring
    ((s.consumerOff a c.ring).offChecks c.ring c.pick none) y with e | e
  · rw [State.turnedOff, e, consumerOff_slot] at h ⊢
    rw [if_pos h]
    simp
  · rw [State.turnedOff, e]
    exact (ApSet.eq_zero_iff 0).1 rfl a

theorem turnedOff_newest (hpick : c.pick = .newest) : s.turnedOff a c = s.consumerOff a c.ring := by
  unfold State.turnedOff State.offChecks
  rw [hpick]
  exact reclaim_of_none fun y _ hy => by cases hy

theorem consumerOff_notes (s : State) (a : ApId) (r : RingId) : (s.consumerOff a r).notes = s.notes :=
  (consumerOff_beside s a r).2.trans (detachStall_fields s a).1

theorem consumerOff_onward (s : State) (a : ApId) (r : RingId) : Onward s (s.consumerOff a r) := by
  have books := unmarkPassed_books ((s.detachStall a).unserve a r) a (((s.detachStall a).unserve a r).slotsOf r)
  have answered : Onward s (s.detachStall a) :=
    .congr (detachStall_fields s a).1 (detachStall_books s a).apertures
  exact (answered.trans (Onward.turnOff (s.detachStall a) a)).trans
    (.congr (consumerOff_beside s a r).2 books.2.1)

theorem turnedOff_onward (s : State) (a : ApId) (c : ApConfig) : Onward s (s.turnedOff a c) :=
  (consumerOff_onward s a c.ring).trans (reclaim_onward ..)

theorem turnedOff_changes (h : c.pick = .newest ∨ s.NoRetirements) : (s.turnedOff a c).changes = s.changes := by
  rcases h with h | h
  · rw [turnedOff_newest h, consumerOff_changes]
  · rw [State.turnedOff, reclaim_changes (h.congr (consumerOff_changes s a c.ring)), consumerOff_changes]

/-- Which slots an ORDERED consumer that turns OFF leaves behind (R12, R13, R70). -/
theorem turnedOff_reclaimed (hpick : c.pick = .ordered) (hp : s.Placed) :
    ∃ leaving, Reclaimed s (s.turnedOff a c) c.ring leaving none ∧
      ((s.turnedOff a c).ring c.ring).ready =
        (s.ring c.ring).ready.filter (fun y => decide (y ∉ leaving)) ∧
      ∀ y ∈ (s.ring c.ring).ready, y ∈ leaving ↔
        (s.ring c.ring).ready.getLast? ≠ some y ∧ (s.slot y).holders = 0 ∧
        ∀ b d, b ≠ a → ApSet.has (s.ring c.ring).consumers b = true →
          (s.ap b).config = some d → d.pick = .ordered →
            ApSet.has (s.slot y).passedBy b = true := by
  have ring : (s.consumerOff a c.ring).ring c.ring =
      { s.ring c.ring with consumers := ApSet.erase (s.ring c.ring).consumers a } := by
    rw [consumerOff_ring, if_pos rfl]
  have checks : (s.consumerOff a c.ring).offChecks c.ring c.pick none = (s.ring c.ring).ready := by
    unfold State.offChecks
    rw [hpick, ring]
  unfold State.turnedOff
  rw [checks]
  have oldest : ((s.consumerOff a c.ring).leaving c.ring (s.ring c.ring).ready).Sublist (s.ring c.ring).ready := by
    have sub := leaving_sublist (s.consumerOff a c.ring) c.ring (s.ring c.ring).ready
    rw [ring] at sub
    exact sub
  refine ⟨_, reclaim_reclaimed (consumerOff_onward s a c.ring) (consumerOff_changes s a c.ring) oldest (by rw [ring])
    (by rw [ring]) fun y _ => by rw [consumerOff_slot], ?_, fun y hy => ?_⟩
  · rw [reclaim_eq, (applyRetirements_ready _ _ _).1, dropAll_ring_self, ring]
    exact (hp.ready_nodup c.ring).sdiff_eq_filter
  · rw [mem_leaving, State.MeetsReclamation, ring, consumerOff_slot]
    have passed {b : ApId} (hb : b ≠ a) : ApSet.has
        (if (s.slot y).home.map (·.ring) = some c.ring then ApSet.erase (s.slot y).passedBy a
          else (s.slot y).passedBy) b = ApSet.has (s.slot y).passedBy b := by
      split
      · simp [hb]
      · rfl
    have config {b : ApId} (hb : b ≠ a) : ((s.consumerOff a c.ring).ap b).config = (s.ap b).config := by
      rw [consumerOff_ap, if_neg hb.symm]
    constructor
    · rintro ⟨-, -, unheld, all, last⟩
      refine ⟨last, unheld, fun b d hb hcons hd hpick => ?_⟩
      rw [← passed hb]
      exact all b d (by simp [hb, hcons]) ((config hb).trans hd) hpick
    · rintro ⟨last, unheld, all⟩
      refine ⟨hy, hy, unheld, fun b d hcons hd hpick => ?_, last⟩
      have hb : b ≠ a := by
        rintro rfl
        simp at hcons
      show ApSet.has (if _ then _ else _) b = true
      rw [passed hb]
      refine all b d hb ?_ ((config hb).symm.trans hd) hpick
      simpa [hb] using hcons

theorem wrote_ap_ne (h : a ≠ b) (p : Aperture) (es : List Change) (n : NoteQueue) :
    (w.wrote a p es n).ap b = w.ap b := setAp_ap_ne w p h

/-- A WAITING consumer turned OFF at once: with no boundary pending for another aperture and no transaction waiting,
the entries of the aperture apply and the Arbiter decides (R70, R147). -/
theorem consumerOffNow_eq (hc : (s.ap a).config = some c) (hdef : ∀ b, b ≠ a → (s.ap b).deferred = false)
    (hw : s.steering.waiting = []) :
    s.consumerOffNow a c =
      ((s.turnedOff a c).wrote a { s.ap a with
          state := .off, deferred := false, config := some (configAfter (s.entriesFor a) c)
          count := countAfter (s.entriesFor a) (s.ap a).count }
        ((s.turnedOff a c).changes.entries.filter fun e => !e.op.forAperture a)
        (((s.entriesFor a).map fun e => e.appliedNote c.ring (some a)).foldl NoteQueue.push
          (s.turnedOff a c).notes)).arbitrate := by
  have self : (s.turnedOff a c).ap a = { s.ap a with state := .off, deferred := false } := by
    rw [turnedOff_ap, if_pos rfl]
  have applied := applyForAperture_of_off (s := s.turnedOff a c) (a := a) (c := c) (by rw [self]; exact hc)
    (apOn_eq_false.2 (by rw [self]))
  rw [turnedOff_entriesFor, self] at applied
  show ((s.turnedOff a c).applyForAperture a).finish [] = _
  rw [applied, State.finish, runPending_of_idle]
  · refine drainAll_of_empty ?_
    rw [arbitrate_steering]
    show (s.turnedOff a c).steering.waiting = []
    rw [(turnedOff_shelf s a c).steering, (detachStall_fields s a).2.1, hw]
  · intro b
    refine Bool.eq_false_iff.2 fun k => ?_
    obtain ⟨on, pending, -⟩ := canRun_iff.1 k
    by_cases e : b = a
    · subst e
      rw [apOn_eq_true, wrote_ap_self] at on
      exact on rfl
    · rw [wrote_ap_ne (Ne.symm e), turnedOff_ap, if_neg (Ne.symm e), hdef b e] at pending
      cases pending

end

section
variable {s : State} {a : ApId} {c : ApConfig} {expiry : Nat}

theorem argsApertureOff_words (a : ApId) (h : expiry ≤ 255) :
    argsApertureOff [idWord a, numWord expiry] = some (a, expiry) := by
  simp only [argsApertureOff, readFin_idWord a (by decide), readRange_numWord (Nat.zero_le expiry) h (by decide),
    Option.bind_eq_bind, Option.bind_some]

theorem actApertureOff_of_off (h : (s.ap a).state = .off) : actApertureOff s (a, expiry) = s.done := by
  simp only [actApertureOff, h]

theorem actApertureOff_of_bound {sl : SlotId} (h : (s.ap a).state = .bound sl) :
    actApertureOff s (a, expiry) = s.queueAnswer (.aperture a .detach) expiry := by
  simp only [actApertureOff, h]

theorem actApertureOff_of_producer (h : (s.ap a).state = .unbound) (hc : (s.ap a).config = some c)
    (hrole : c.role = .producer) : actApertureOff s (a, expiry) = (s.producerOffNow a c.ring).done := by
  simp only [actApertureOff, h, hc, hrole]

theorem actApertureOff_of_consumer (h : (s.ap a).state = .unbound) (hc : (s.ap a).config = some c)
    (hrole : c.role = .consumer) : actApertureOff s (a, expiry) = (s.consumerOffNow a c).done := by
  simp only [actApertureOff, h, hc, hrole]

theorem unlinked_producerOffNow (a : ApId) (r : RingId) : Unlinked fun s => s.producerOffNow a r := by
  intro s l x
  have ring (v : State) : (v.outside l x).applyForRing r = (v.applyForRing r).outside l x :=
    foldl_outside v l x (fun s e => outside_applyChange s l x e) _
  simp only [State.producerOffNow, outside_producerOff, outside_applyForAperture, ring]

theorem unlinked_consumerOffNow (a : ApId) (c : ApConfig) : Unlinked fun s => s.consumerOffNow a c := by
  intro s l x
  simp only [State.consumerOffNow, outside_consumerOff, outside_offChecks, outside_reclaim, outside_applyForAperture,
    outside_finish]

/-- The entries that stay when those of the aperture apply. -/
theorem entries_without (s : State) (a : ApId) :
    (s.changes.entries.filter fun e => !e.op.forAperture a) =
      s.changes.entries.filter fun e => decide (e ∉ s.entriesFor a) := by
  refine List.filter_congr fun e he => Bool.eq_iff_iff.2 ?_
  simp only [decide_eq_true_iff, ← entriesFor_eq, List.mem_filter, he, true_and, Bool.not_eq_true', Bool.not_eq_true]

theorem entries_without_both (s : State) (a : ApId) (r : RingId) :
    (s.changes.entries.filter fun e => !e.op.forAperture a && !e.op.forRing r) =
      s.changes.entries.filter fun e => decide (e ∉ s.entriesFor a ++ s.entriesForRing r) := by
  refine List.filter_congr fun e he => Bool.eq_iff_iff.2 ?_
  simp only [decide_eq_true_iff, ← entriesFor_eq, ← entriesForRing_eq, List.mem_append, List.mem_filter, he, true_and,
    Bool.and_eq_true, Bool.not_eq_true', not_or, Bool.not_eq_true]

end

/-- Settles O27: the state of the aperture decides; one turned OFF at once applies its entries as an OFF one. -/
theorem apertureOffActsOrQueues : Obligations.ApertureOffActsOrQueues := by
  rintro s a expiry args h hk rfl
  have hp := argsApertureOff_words a hk
  refine ⟨fun off => ?_, fun sl hb => ⟨fun hfull => ?_, fun hspace => ?_⟩, ?_⟩
  · exact congrArg _ (takeCommand_done_of (t := s) h (by simp) hp fun bs =>
      actApertureOff_of_off (s := s.received bs) off)
  · exact congrArg _ (takeCommand_denied_of h (by simp) hp fun bs =>
      (actApertureOff_of_bound (s := s.received bs) hb).trans (queueAnswer_of_twelve (s := s.received bs) _ _ hfull))
  · obtain ⟨n, hm, e⟩ := takeCommand_queued (code := 0x12) (t := s) h (by simp) hp hspace
      fun bs => actApertureOff_of_bound (s := s.received bs) hb
    exact ⟨n, hm, congrArg Host.Outcome.next e⟩
  · rintro c mine theirs off hst hc rfl rfl rfl
    refine ⟨fun hrole => ?_, fun hrole _ hdef hw => ?_⟩
    · refine congrArg Host.Outcome.next ((takeCommand_unlinked (unlinked_producerOffNow a c.ring) h (by simp) hp
        fun bs => actApertureOff_of_producer (s := s.received bs) hst hc hrole).trans ?_)
      rw [producerOffNow_eq hc, entries_without_both]
    · have e := takeCommand_unlinked (code := 0x12) (unlinked_consumerOffNow a c) h (by simp) hp
        fun bs => actApertureOff_of_consumer (s := s.received bs) hst hc hrole
      rw [consumerOffNow_eq hc hdef hw] at e
      have raised {n : Note} {v : State} (k : Raised s (s.turnedOff a c) n)
          (hv : v.notes = ((s.entriesFor a).map fun e => e.appliedNote c.ring (some a)).foldl NoteQueue.push
            (s.turnedOff a c).notes) : Raised s v n :=
        (k.mono (raiseAll_onward _ _)).congr rfl (hv.trans (raiseAll_notes _ _).symm)
      have applied {v : State} (hv : v.notes = ((s.entriesFor a).map fun e => e.appliedNote c.ring (some a)).foldl
          NoteQueue.push (s.turnedOff a c).notes) (e : Change) (he : e ∈ s.entriesFor a) :
          Raised s v (e.appliedNote c.ring (some a)) :=
        (turnedOff_onward s a c).raised_of_pushes hv (List.mem_map_of_mem he) (.refl v)
      have reclaimed (hpick : c.pick = .ordered) (hp : s.Placed) := turnedOff_reclaimed (a := a) hpick hp
      have changes := turnedOff_changes (s := s) (a := a) (c := c)
      have consumers := turnedOff_consumers s a c
      have unpassed (y : SlotId) := turnedOff_unpassed (s := s) (a := a) (c := c) (y := y)
      have newest (hpick : c.pick = .newest) : ((s.turnedOff a c).ring c.ring).ready = (s.ring c.ring).ready ∧
          (s.turnedOff a c).notes = s.notes := by
        rw [turnedOff_newest hpick, consumerOff_ring, if_pos rfl]
        exact ⟨rfl, consumerOff_notes s a c.ring⟩
      have shelf := turnedOff_shelf s a c
      have steering := shelf.steering
      have aOut := shelf.aOut
      generalize s.turnedOff a c = w at *
      generalize hoff : ({ s.ap a with
        state := .off, deferred := false, config := some (configAfter (s.entriesFor a) c)
        count := countAfter (s.entriesFor a) (s.ap a).count } : Aperture) = off at *
      generalize hx : w.wrote a off (w.changes.entries.filter fun e => !e.op.forAperture a)
        (((s.entriesFor a).map fun e => e.appliedNote c.ring (some a)).foldl NoteQueue.push w.notes) = x at e
      obtain ⟨ar, cp, after⟩ := arbitrate_frame x
      have self : x.ap a = off := by rw [← hx]; exact wrote_ap_self ..
      rw [← hx] at self
      rw [after, ← hx] at e
      refine ⟨_, congrArg Host.Outcome.next e, answered_answers .., self, consumers, unpassed,
        applied rfl, fun hpick => ?_, fun hpick => ⟨(newest hpick).1, ?_⟩, fun hpick hp => ?_,
        fun y base timer hy => ?_, fun hno => ?_⟩
      · show w.changes.entries.filter _ = _
        rw [changes hpick]
        exact entries_without s a
      · show List.foldl NoteQueue.push w.notes _ = _
        rw [(newest hpick).2]
      · obtain ⟨leaving, r, ready, mem⟩ := reclaimed hpick hp
        refine ⟨leaving, ⟨r.oldestFirst, r.gone, r.held, fun y hy hr => ?_, r.free, r.freed⟩, ready, mem⟩
        obtain ⟨frame, kept, note⟩ := r.kept y hy hr
        exact ⟨frame, kept, raised note rfl⟩
      · obtain ⟨d, k, answer, -⟩ := answerFault_eq s y
        rw [detachStall_of_stalled hy, answer] at steering aOut
        exact ⟨(congrArg Steering.phase steering :), d, aOut⟩
      · rw [detachStall_of_none hno] at steering aOut
        exact ⟨steering, aOut⟩

end Sys2Proof.Machine
end

section
/-! PROOFS: RING_FLUSH with keep_held yes (O21), and what the release of a ring's consumers leaves. -/

namespace Sys2Proof.Machine

section
variable {s t u v w : State} {a b : ApId} {c d : ApConfig} {r q : RingId} {sl x y z : SlotId}

/-! ### The consumers of a ring release their slots (R19) -/

theorem apSet_ext {m n : ApSet} (h : ∀ b, ApSet.has m b = ApSet.has n b) : m = n :=
  BitVec.eq_of_getLsbD_eq fun i hi => h ⟨i, hi⟩

theorem releaseHold_slot (s : State) (a : ApId) (y : SlotId) :
    (s.releaseHold a).slot y =
      { s.slot y with
        holders := if (s.ap a).state = .bound y then ApSet.erase (s.slot y).holders a else (s.slot y).holders } := by
  by_cases h : ∃ x, (s.ap a).state = .bound x
  · obtain ⟨x, hx⟩ := h
    rw [releaseHold_of_bound hx, setApState_slot, setSlot_slot, hx]
    by_cases e : x = y
    · subst e; simp
    · simp [e]
  · rw [releaseHold_of_not_bound fun x hx => h ⟨x, hx⟩, if_neg fun k => h ⟨y, k⟩]

theorem releaseIn_slot (s : State) (r : RingId) (a : ApId) (y : SlotId) :
    (State.releaseIn r s a).slot y =
      { s.slot y with
        holders :=
          if ApSet.has (s.ring r).consumers a = true ∧ (s.ap a).state = .bound y then
            ApSet.erase (s.slot y).holders a
          else (s.slot y).holders } := by
  unfold State.releaseIn
  by_cases h : ApSet.has (s.ring r).consumers a = true
  · rw [if_pos h, releaseHold_slot]
    simp [h]
  · rw [if_neg h, if_neg fun k => h k.1]

/-- The slot records after some consumers of a ring have released their slots. -/
structure Released (s t : State) (r : RingId) (as : List ApId) : Prop where
  fields  : ∀ y, t.slot y = { s.slot y with holders := (t.slot y).holders }
  holders : ∀ y b, ApSet.has (t.slot y).holders b = true ↔ ApSet.has (s.slot y).holders b = true ∧
    ¬ (b ∈ as ∧ ApSet.has (s.ring r).consumers b = true ∧ (s.ap b).state = .bound y)

theorem foldl_releaseIn_released (s : State) (r : RingId) (as : List ApId) :
    Released s (as.foldl (State.releaseIn r) s) r as := by
  induction as generalizing s with
  | nil => exact ⟨fun _ => rfl, fun y b => by simp⟩
  | cons a as ih =>
    obtain ⟨fields, holders⟩ := ih (State.releaseIn r s a)
    rw [List.foldl_cons]
    refine ⟨fun y => ?_, fun y b => ?_⟩
    · have f := fields y
      rw [releaseIn_slot] at f
      exact f
    · rw [holders y b, releaseIn_slot, releaseIn_ring, releaseIn_ap]
      have kept : (s.ap b).state.released ≠ .bound y := by cases (s.ap b).state <;> simp [ApState.released]
      by_cases e : a = b
      · subst e
        by_cases hm : ApSet.has (s.ring r).consumers a = true ∧ (s.ap a).state = .bound y
        · simp [hm.1, hm.2]
        · rw [if_neg hm]
          refine and_congr_right fun _ => iff_of_true ?_ fun k => hm k.2
          rintro ⟨-, hc, k⟩
          rw [if_pos ⟨rfl, hc⟩] at k
          exact kept k
      · have other : b ≠ a := fun k => e k.symm
        have same : ApSet.has (if ApSet.has (s.ring r).consumers a = true ∧ (s.ap a).state = .bound y then
            ApSet.erase (s.slot y).holders a else (s.slot y).holders) b = ApSet.has (s.slot y).holders b := by
          split
          · simp [other]
          · rfl
        simp [same, e, other]

theorem releaseConsumers_released (s : State) (r : RingId) : Released s (s.releaseConsumers r) r allAps :=
  foldl_releaseIn_released s r allAps

theorem releaseConsumers_shelf (s : State) (r : RingId) : OnShelf s (s.releaseConsumers r) :=
  .foldl (fun s a => by
    show OnShelf s (State.releaseIn r s a)
    unfold State.releaseIn
    split
    · exact .releaseHold ..
    · exact .refl s) _ s

theorem releaseConsumers_books (s : State) (r : RingId) :
    (s.releaseConsumers r).changes = s.changes ∧ (s.releaseConsumers r).notes = s.notes := by
  have hold (v : State) (a : ApId) : (v.releaseHold a).changes = v.changes ∧ (v.releaseHold a).notes = v.notes := by
    unfold State.releaseHold
    split <;> exact ⟨rfl, rfl⟩
  have all (as : List ApId) (v : State) : (as.foldl (State.releaseIn r) v).changes = v.changes ∧
      (as.foldl (State.releaseIn r) v).notes = v.notes := by
    induction as generalizing v with
    | nil => exact ⟨rfl, rfl⟩
    | cons a as ih =>
      have one : (State.releaseIn r v a).changes = v.changes ∧ (State.releaseIn r v a).notes = v.notes := by
        unfold State.releaseIn
        split
        · exact hold v a
        · exact ⟨rfl, rfl⟩
      exact ⟨(ih _).1.trans one.1, (ih _).2.trans one.2⟩
  exact all allAps s

/-- No slot of the ring has a holder after the release (R6, R19). -/
theorem released_holders (hp : s.Placed) (hl : s.HoldersLaw) (r : RingId) (y : SlotId) :
    ((s.releaseConsumers r).slot y).holders =
      if (s.slot y).home.map (·.ring) = some r then 0 else (s.slot y).holders := by
  have holders := (releaseConsumers_released s r).holders y
  split
  · next home =>
    refine ApSet.eq_zero_iff _ |>.2 fun b => Bool.eq_false_iff.2 fun k => ?_
    obtain ⟨k, still⟩ := (holders b).1 k
    obtain ⟨hst, c, hc, hrole⟩ := (hl.holds y b).1 k
    have there := hp.home_of_ready (hl.ready y b c ⟨hst, c, hc, hrole⟩ hc)
    obtain rfl : c.ring = r := Option.some.inj (there.symm.trans home)
    exact still ⟨mem_allAps b, (hp.consumers c.ring b).2 ⟨apOn_eq_true.2 (by rw [hst]; nofun), c, hc, hrole, rfl⟩, hst⟩
  · next home =>
    refine apSet_ext fun b => Bool.eq_iff_iff.2 ((holders b).trans (and_iff_left ?_))
    rintro ⟨-, hcons, hst⟩
    obtain ⟨-, c, hc, hrole, rfl⟩ := (hp.consumers r b).1 hcons
    exact home (hp.home_of_ready (hl.ready y b c ⟨hst, c, hc, hrole⟩ hc))

theorem released_consumer (hp : s.Placed) (h : ApSet.has (s.ring r).consumers a = true) :
    ((s.releaseConsumers r).ap a).state = .unbound := by
  obtain ⟨on, -⟩ := (hp.consumers r a).1 h
  rw [releaseConsumers_ap, if_pos h]
  cases k : (s.ap a).state with
  | off => exact absurd k (apOn_eq_true.1 on)
  | unbound => rfl
  | bound x => rfl

theorem released_other (h : ApSet.has (s.ring r).consumers a = false) : (s.releaseConsumers r).ap a = s.ap a := by
  rw [releaseConsumers_ap, if_neg (by rw [h]; nofun)]

/-! ### RING_FLUSH, keep_held yes -/

theorem argsRingFlush_words (r : RingId) (keep : Bool) :
    argsRingFlush [idWord r, boolWord keep] = some (r, keep) := by
  simp only [argsRingFlush, readFin_idWord r (by decide), readBool_word, Option.bind_eq_bind, Option.bind_some]

/-- The part after a flush that keeps the held slots. -/
def State.flushKept (s : State) (r : RingId) : State := (s.releaseConsumers r).flushReady r true

theorem outside_releaseConsumers (s : State) (l : Link) (z : Lines) (r : RingId) :
    (s.outside l z).releaseConsumers r = (s.releaseConsumers r).outside l z :=
  foldl_outside s l z (f := State.releaseIn r) (fun v a => by
    unfold State.releaseIn
    rw [outside_ite, outside_releaseHold]
    rfl) _

theorem unlinked_flushKept (r : RingId) : Unlinked fun s => s.flushKept r := by
  intro s l z
  show ((s.outside l z).releaseConsumers r).flushReady r true = ((s.releaseConsumers r).flushReady r true).outside l z
  rw [outside_releaseConsumers, flushReady_eq_keep, flushReady_eq_keep]
  have dropped : (State.outside (s.releaseConsumers r) l z).dropAll r ((s.releaseConsumers r).ring r).ready =
      ((s.releaseConsumers r).dropAll r ((s.releaseConsumers r).ring r).ready).outside l z :=
    foldl_outside _ l z (fun v x => outside_dropReady v l z r x) _
  exact (congrArg (fun v : State => v.applyRetirements _) dropped).trans (outside_applyRetirements ..)

theorem flushKept_eq (hno : s.NoRetirements) (r : RingId) :
    s.flushKept r = (s.releaseConsumers r).dropAll r (s.ring r).ready := by
  unfold State.flushKept
  rw [flushReady_eq_keep, releaseConsumers_ring]
  exact applyRetirements_of_noRetirements
    ((hno.congr (releaseConsumers_books s r).1).congr (dropAll_changes _ _ _)) _

theorem actRingFlush_kept (s : State) (r : RingId) : actRingFlush s (r, true) = (s.flushKept r).done := rfl

theorem exec_ringFlush_kept (h : s.link.phase = .request) (r : RingId) :
    exec (.ringFlush (requestFor 0x0B [idWord r, 1])) s =
      .next ((s.flushKept r).answered 0x0B [idWord r, 1] .done []) :=
  congrArg Host.Outcome.next (takeCommand_unlinked (unlinked_flushKept r) h (by simp) (argsRingFlush_words r true)
    fun bs => actRingFlush_kept (s.received bs) r)

end

end Sys2Proof.Machine
end

section
/-! PROOFS: RING_FLUSH with keep_held no (O21): the held slots that go free, and the jobs that end. -/

namespace Sys2Proof.Machine

section
variable {s t u v w : State} {a b : ApId} {c d : ApConfig} {r q : RingId} {sl x y z : SlotId} {j : Job}
  {gone more : List SlotId}

/-- Slots of a ring have gone from its held list to its free tail, with job counts changed; other records
differ by the notes, the copy engine and the arbiter alone (R15, R20). -/
structure Emptied (s t : State) (r : RingId) (gone : List SlotId) : Prop where
  ring  : t.ring r = { s.ring r with held := (s.ring r).held.diff gone, free := (s.ring r).free ++ gone }
  rings : ∀ q, q ≠ r → t.ring q = s.ring q
  held  : ∀ y ∈ gone, y ∈ (s.ring r).held
  slot  : ∀ y, t.slot y = { (if y ∈ gone then (s.slot y).cleared else s.slot y) with jobs := (t.slot y).jobs }
  frame : { t with
    slots := s.slots, rings := s.rings, notes := s.notes, copy := s.copy, arbiter := s.arbiter } = s

theorem Emptied.refl (s : State) (r : RingId) : Emptied s s r [] :=
  ⟨by rw [List.diff_nil, List.append_nil], fun _ _ => rfl, nofun, fun _ => rfl, rfl⟩

theorem Emptied.trans (h : Emptied s t r gone) (k : Emptied t u r more) : Emptied s u r (gone ++ more) := by
  refine ⟨?_, fun q hq => (k.rings q hq).trans (h.rings q hq), fun y hy => ?_, fun y => ?_, ?_⟩
  · rw [k.ring, h.ring, List.diff_append, List.append_assoc]
  · rcases List.mem_append.1 hy with hy | hy
    · exact h.held y hy
    · have held := k.held y hy
      rw [h.ring] at held
      exact (List.diff_subset _ _) held
  · have first := h.slot y
    have second := k.slot y
    generalize (t.slot y).jobs = m at first
    rw [first] at second
    refine second.trans ?_
    by_cases hy : y ∈ gone <;> by_cases hz : y ∈ more <;> simp [hy, hz, Slot.cleared]
  · have first := h.frame
    have second := k.frame
    exact (congrArg (fun v : State => { v with
      slots := s.slots, rings := s.rings, notes := s.notes, copy := s.copy, arbiter := s.arbiter }) second :).trans first

/-- The record changes of the end of a job of the ring. -/
theorem settled_emptied (hno : s.NoRetirements) (j : Job) (k : NoteKind) (d : Nat) :
    ∃ gone, Emptied s ((s.jobGone j (s.slot j.slot).releaseRequested).settleJob j k d d) j.ring gone ∧
      ((s.jobGone j (s.slot j.slot).releaseRequested).settleJob j k d d).notes = s.notes.push (j.endNote k d) ∧
      ((s.jobGone j (s.slot j.slot).releaseRequested).settleJob j k d d).copy = s.copy ∧
      ((s.jobGone j (s.slot j.slot).releaseRequested).settleJob j k d d).arbiter = s.arbiter := by
  by_cases hf : s.FreesAtEnd j (s.slot j.slot).releaseRequested
  · have none : State.NoRetirements ((s.jobFreed j).raise (j.endNote k d)) := hno.congr rfl
    rw [settleJob_of_freed hf, applyRetirement_of_none _ (waitingRetirement_of_noRetirements none _)]
    refine ⟨[j.slot], ⟨?_, fun q hq => ?_, fun y hy => ?_, fun y => ?_, rfl⟩, rfl, rfl, rfl⟩
    · rw [raise_ring, State.jobFreed, setSlot_ring, setRing_ring_self, List.diff_cons, List.diff_nil]
    · rw [raise_ring, State.jobFreed, setSlot_ring, setRing_ring_ne _ _ hq.symm]
    · rw [List.mem_singleton.1 hy]; exact hf.2.2
    · rw [raise_slot, State.jobFreed, setSlot_slot]
      by_cases e : j.slot = y
      · subst e; simp [Slot.cleared]
      · simp [e, Ne.symm e]
  · rw [settleJob_of_kept hf]
    refine ⟨[], ⟨?_, fun q hq => rfl, nofun, fun y => ?_, rfl⟩, rfl, rfl, rfl⟩
    · rw [List.diff_nil, List.append_nil]; rfl
    · rw [raise_slot, State.jobGone, setSlot_slot]
      by_cases e : j.slot = y
      · subst e; simp
      · simp [e]

theorem Emptied.of_copy {e : CopyEngine} {p : Arbiter} (h : Emptied { s with copy := e, arbiter := p } t r gone) :
    Emptied s t r gone :=
  ⟨h.ring, h.rings, h.held, h.slot,
    (congrArg (fun v : State => { v with copy := s.copy, arbiter := s.arbiter }) h.frame :)⟩

theorem Emptied.to_copy (h : Emptied s t r gone) (e : CopyEngine) (p : Arbiter) :
    Emptied s { t with copy := e, arbiter := p } r gone :=
  ⟨h.ring, h.rings, h.held, h.slot, h.frame⟩

theorem Emptied.changes (h : Emptied s t r gone) : t.changes = s.changes := (congrArg State.changes h.frame :)
theorem Emptied.apertures (h : Emptied s t r gone) : t.apertures = s.apertures := (congrArg State.apertures h.frame :)
theorem Emptied.schedules (h : Emptied s t r gone) : t.schedules = s.schedules := (congrArg State.schedules h.frame :)
theorem Emptied.steering (h : Emptied s t r gone) : t.steering = s.steering := (congrArg State.steering h.frame :)

theorem Emptied.home (h : Emptied s t r gone) (y : SlotId) : (t.slot y).home = (s.slot y).home := by
  rw [h.slot y]
  split <;> rfl

/-- The QUEUED jobs of a ring leave the queue (R20, R127). -/
theorem abortAll_emptied (hno : s.NoRetirements) (js : List Job) (hr : ∀ j ∈ js, j.ring = r) :
    ∃ gone, Emptied s (js.foldl State.abortQueued s) r gone ∧
      (js.foldl State.abortQueued s).notes = (js.map fun j => j.abortedNote 0).foldl NoteQueue.push s.notes ∧
      (js.foldl State.abortQueued s).copy = { s.copy with queued := js.foldl List.erase s.copy.queued } ∧
      (js.foldl State.abortQueued s).arbiter = s.arbiter := by
  induction js generalizing s with
  | nil => exact ⟨[], .refl s r, rfl, rfl, rfl⟩
  | cons j js ih =>
    have none : State.NoRetirements { s with copy := { s.copy with queued := s.copy.queued.erase j } } := hno.congr rfl
    obtain ⟨gone, one, notes, copy, arbiter⟩ := settled_emptied none j .copyAborted 0
    rw [hr j List.mem_cons_self] at one
    have first : Emptied s (s.abortQueued j) r gone := (Emptied.of_copy (p := s.arbiter) one :)
    obtain ⟨more, rest, notes', copy', arbiter'⟩ := ih (hno.congr first.changes)
      fun i hi => hr i (List.mem_cons_of_mem _ hi)
    refine ⟨_, first.trans rest, notes'.trans ?_, copy'.trans ?_, arbiter'.trans arbiter⟩
    · exact congrArg (List.foldl NoteQueue.push · _) notes
    · have same : (s.abortQueued j).copy = { s.copy with queued := s.copy.queued.erase j } := copy
      rw [same]
      rfl

/-- The copy engine after the jobs of a ring have been cancelled: the state after the grant decision. -/
structure JobsCancelled (s v : State) (r : RingId) : Prop where
  queued  : ∀ j ∈ v.arbitrate.copy.queued, j.ring ≠ r
  others  : (v.arbitrate.copy.jobs.filter fun j => decide (j.ring ≠ r)) =
    s.copy.jobs.filter fun j => decide (j.ring ≠ r)
  active  : ∀ j, v.arbitrate.copy.active = some j → j.job.ring = r →
    s.copy.active.map (·.job) = some j.job ∧ j.granted = true ∧ j.cancelled = true
  next    : ∀ j q, s.copy.active = some j → j.job.ring = r → j.granted = false →
    (s.copy.queued.filter fun x => decide (x.ring ≠ r)).head? = some q → Activated s v.arbitrate q
  notes   : v.notes =
    (((s.copy.queued.filter fun j => decide (j.ring = r)).map fun j => j.abortedNote 0) ++
      (match s.copy.active with
        | some j => if j.job.ring = r ∧ j.granted = false then [j.job.abortedNote 1] else []
        | none => [])).foldl NoteQueue.push s.notes

/-- The part after the QUEUED jobs of a ring have left the queue. -/
def State.abortRing (s : State) (r : RingId) : State :=
  (s.copy.queued.filter fun j => decide (j.ring = r)).foldl State.abortQueued s

theorem abortRing_emptied (hno : s.NoRetirements) (r : RingId) :
    ∃ gone, Emptied s (s.abortRing r) r gone ∧
      (s.abortRing r).notes = ((s.copy.queued.filter fun j => decide (j.ring = r)).map fun j =>
        j.abortedNote 0).foldl NoteQueue.push s.notes ∧
      (s.abortRing r).copy = { s.copy with queued := s.copy.queued.filter fun j => decide (j.ring ≠ r) } ∧
      (s.abortRing r).arbiter = s.arbiter := by
  obtain ⟨gone, aborted, notes, copy, arbiter⟩ := abortAll_emptied hno
    (s.copy.queued.filter fun j => decide (j.ring = r)) fun j hj => of_decide_eq_true (List.mem_filter.1 hj).2
  rw [foldl_erase_filter] at copy
  refine ⟨gone, aborted, notes, copy.trans ?_, arbiter⟩
  simp only [ne_eq, decide_not]

section
variable {j : ActiveJob}

theorem cancelRingJobs_of_other (active : (s.abortRing r).copy.active = s.copy.active)
    (h : ∀ j, s.copy.active = some j → j.job.ring ≠ r) : s.cancelRingJobs r = s.abortRing r := by
  show (match (s.abortRing r).copy.active with
    | some j => if j.job.ring = r then (s.abortRing r).cancelActive j else s.abortRing r
    | none => s.abortRing r) = _
  rw [active]
  cases k : s.copy.active with
  | none => rfl
  | some j => exact if_neg (h j k)

theorem cancelRingJobs_of_own (active : (s.abortRing r).copy.active = s.copy.active)
    (h : s.copy.active = some j) (hr : j.job.ring = r) : s.cancelRingJobs r = (s.abortRing r).cancelActive j := by
  show (match (s.abortRing r).copy.active with
    | some j => if j.job.ring = r then (s.abortRing r).cancelActive j else s.abortRing r
    | none => s.abortRing r) = _
  rw [active, h]
  exact if_pos hr

theorem Emptied.of_frame (h : Emptied s u r gone) (frame : { t with arbiter := u.arbiter, copy := u.copy } = u) :
    Emptied s t r gone := by
  rw [← frame] at h
  exact h.to_copy t.copy t.arbiter

theorem arbitrate_engine (u : State) :
    u.arbitrate.copy.queued = u.copy.queued ∧
      u.arbitrate.copy.active.map (·.job) = u.copy.active.map (·.job) ∧
      ∀ j, u.arbitrate.copy.active = some j → ∃ i, u.copy.active = some i ∧ j.job = i.job ∧
        j.cancelled = i.cancelled ∧ (i.granted = true → j.granted = true) := by
  rcases arbitrate_copy u with ⟨e, -⟩ | ⟨x, -, e⟩ <;> rw [e]
  · exact ⟨rfl, rfl, fun j hj => ⟨j, hj, rfl, rfl, id⟩⟩
  · refine ⟨rfl, ?_, fun j hj => ?_⟩
    · show (u.copy.active.map _).map _ = _
      rw [Option.map_map]; rfl
    · obtain ⟨i, hi, rfl⟩ := Option.map_eq_some_iff.1 (show u.copy.active.map _ = some j from hj)
      exact ⟨i, hi, rfl, rfl, fun _ => rfl⟩

theorem jobs_eq (c : CopyEngine) : c.jobs = (c.active.map (·.job)).toList ++ c.queued := by
  unfold CopyEngine.jobs
  cases c.active <;> rfl

theorem arbitrate_jobs (u : State) : u.arbitrate.copy.jobs = u.copy.jobs := by
  obtain ⟨queued, active, -⟩ := arbitrate_engine u
  rw [jobs_eq, jobs_eq, queued, active]

theorem Activated.congr {q : Job} (h : Activated s t q) (home : (s.slot q.slot).home = (u.slot q.slot).home) :
    Activated u t q := by
  obtain ⟨g, claim, e, rest⟩ := h
  exact ⟨g, claim, by rw [e, slotBase_congr home], rest⟩

section
variable (hno : s.NoRetirements) (r : RingId)
include hno

theorem cancelRingJobs_other (h : ∀ j, s.copy.active = some j → j.job.ring ≠ r) :
    ∃ gone, Emptied s (s.cancelRingJobs r) r gone ∧ JobsCancelled s (s.cancelRingJobs r) r := by
  obtain ⟨gone, aborted, notes, copy, -⟩ := abortRing_emptied hno r
  rw [cancelRingJobs_of_other (congrArg CopyEngine.active copy :) h]
  obtain ⟨queued, -, active⟩ := arbitrate_engine (s.abortRing r)
  refine ⟨gone, aborted, fun j hj => ?_, ?_, fun j hj hr => ?_, fun j q hj hr => absurd hr (h j hj), ?_⟩
  · rw [queued, copy] at hj
    exact of_decide_eq_true (List.mem_filter.1 hj).2
  · rw [arbitrate_jobs, jobs_eq, jobs_eq, copy, List.filter_append, List.filter_append, List.filter_filter]
    simp only [Bool.and_self]
  · obtain ⟨i, hi, job, -⟩ := active j hj
    rw [copy] at hi
    exact absurd (job ▸ hr) (h i hi)
  · have none : (match s.copy.active with
        | some j => if j.job.ring = r ∧ j.granted = false then [j.job.abortedNote 1] else []
        | none => []) = [] := by
      split
      · next j hj => exact if_neg fun k => h j hj k.1
      · rfl
    rw [notes, none, List.append_nil]

variable {j : ActiveJob}

theorem cancelRingJobs_granted (hj : s.copy.active = some j) (hr : j.job.ring = r) (hg : j.granted = true) :
    ∃ gone, Emptied s (s.cancelRingJobs r) r gone ∧ JobsCancelled s (s.cancelRingJobs r) r := by
  obtain ⟨gone, aborted, notes, copy, -⟩ := abortRing_emptied hno r
  have marked : s.cancelRingJobs r = { s.abortRing r with
      copy := { (s.abortRing r).copy with active := some { j with cancelled := true } } } :=
    (cancelRingJobs_of_own (congrArg CopyEngine.active copy :) hj hr).trans (if_pos hg)
  rw [marked, copy]
  have engine := arbitrate_engine { s.abortRing r with
    copy := { s.copy with
      queued := s.copy.queued.filter fun j => decide (j.ring ≠ r), active := some { j with cancelled := true } } }
  obtain ⟨queued, -, active⟩ := engine
  refine ⟨gone, aborted.to_copy _ (s.abortRing r).arbiter, fun i hi => ?_, ?_, fun i hi _ => ?_,
    fun i q hi _ hn => ?_, ?_⟩
  · rw [queued] at hi
    exact of_decide_eq_true (List.mem_filter.1 hi).2
  · rw [arbitrate_jobs, jobs_eq, jobs_eq, hj, List.filter_append, List.filter_append, List.filter_filter]
    simp only [Bool.and_self]
    rfl
  · obtain ⟨m, hm, job, cancelled, granted⟩ := active i hi
    obtain rfl : { j with cancelled := true } = m := Option.some.inj hm
    rw [hj, job]
    exact ⟨rfl, granted hg, cancelled⟩
  · obtain rfl : j = i := Option.some.inj (hj.symm.trans hi)
    rw [hg] at hn
    cases hn
  · rw [hj]
    simp only [hg, reduceCtorEq, and_false, if_false, List.append_nil]
    exact notes

theorem cancelRingJobs_waiting (hj : s.copy.active = some j) (hr : j.job.ring = r) (hg : j.granted = false) :
    ∃ gone, Emptied s (s.cancelRingJobs r) r gone ∧ JobsCancelled s (s.cancelRingJobs r) r := by
  obtain ⟨gone, aborted, notes, copy, -⟩ := abortRing_emptied hno r
  have ended : s.cancelRingJobs r = (s.abortRing r).endActive j.job .copyAborted 1 :=
    (cancelRingJobs_of_own (congrArg CopyEngine.active copy :) hj hr).trans (if_neg (by rw [hg]; nofun))
  rw [ended]
  have none : (s.abortRing r).NoRetirements := hno.congr aborted.changes
  obtain ⟨more, settled, -⟩ := settled_emptied (s := (s.abortRing r).clearActive) (none.congr rfl) j.job .copyAborted 1
  obtain ⟨done, doneNotes, -⟩ := endActive_completed (s := s.abortRing r) (j := j.job) (k := .copyAborted) (d := 1)
    none rfl rfl rfl rfl
  have emptied : Emptied (s.abortRing r) ((s.abortRing r).endActive j.job .copyAborted 1) r more := by
    rw [hr] at settled
    have whole := (Emptied.of_copy (s := s.abortRing r) settled :)
    rw [endActive_eq]
    exact whole.of_frame (activateNext_frame _)
  have queue : (s.abortRing r).copy.queued = s.copy.queued.filter fun j => decide (j.ring ≠ r) :=
    (congrArg CopyEngine.queued copy :)
  rw [arbitrate_notes] at doneNotes
  generalize (s.abortRing r).endActive j.job .copyAborted 1 = v at *
  refine ⟨gone ++ more, aborted.trans emptied, fun i hi => ?_, ?_, fun i hi hi' => ?_, fun i q hi _ _ hq => ?_, ?_⟩
  · rw [done.queued, queue] at hi
    exact of_decide_eq_true (List.mem_filter.1 (List.mem_of_mem_tail hi)).2
  · have jobs : v.arbitrate.copy.jobs = s.copy.queued.filter fun j => decide (j.ring ≠ r) := by
      rw [jobs_eq, done.queued, queue]
      cases hq : s.copy.queued.filter fun j => decide (j.ring ≠ r) with
      | nil => rw [(done.last (queue.trans hq)).1]; rfl
      | cons q qs =>
        obtain ⟨_, _, -, active, -⟩ := done.next q (by rw [queue, hq]; rfl)
        rw [active]
        rfl
    rw [jobs, jobs_eq, hj, List.filter_append, List.filter_filter]
    simp only [Bool.and_self, Option.map_some, Option.toList_some, ne_eq, decide_not]
    rw [List.filter_cons_of_neg (by simp [hr]), List.filter_nil, List.nil_append]
  · cases hq : (s.abortRing r).copy.queued with
    | nil => rw [(done.last hq).1] at hi; cases hi
    | cons q qs =>
      obtain ⟨_, _, -, active, -⟩ := done.next q (by rw [hq]; rfl)
      obtain rfl := Option.some.inj (active.symm.trans hi)
      have other : q ∈ s.copy.queued.filter fun j => decide (j.ring ≠ r) := by rw [← queue, hq]; exact List.mem_cons_self
      exact absurd hi' (of_decide_eq_true (List.mem_filter.1 other).2)
  · rw [← queue] at hq
    exact (done.next q hq).congr (aborted.home q.slot)
  · rw [doneNotes, notes, hj]
    simp only [hr, hg, and_self, if_true]
    rw [List.foldl_append]
    rfl

end

theorem cancelRingJobs_cancelled (hno : s.NoRetirements) (r : RingId) :
    ∃ gone, Emptied s (s.cancelRingJobs r) r gone ∧ JobsCancelled s (s.cancelRingJobs r) r := by
  by_cases h : ∀ j, s.copy.active = some j → j.job.ring ≠ r
  · exact cancelRingJobs_other hno r h
  · simp only [not_forall, not_not] at h
    obtain ⟨j, hj, hr⟩ := h
    cases hg : j.granted with
    | true => exact cancelRingJobs_granted hno r hj hr hg
    | false => exact cancelRingJobs_waiting hno r hj hr hg

end

/-! ### The held slots (R20) -/

theorem flushOne_slot (r : RingId) (s : State) (x y : SlotId) :
    (State.flushOne r s x).slot y =
      if x = y then if (s.slot y).jobs = 0 then (s.slot y).cleared else { s.slot y with releaseRequested := true }
      else s.slot y := by
  unfold State.flushOne
  split
  · next h =>
    rw [freeHeld_slot]
    by_cases e : x = y
    · subst e; rw [if_pos rfl, if_pos rfl, if_pos h]; rfl
    · rw [if_neg e, if_neg e]
  · next h =>
    rw [setSlot_slot]
    by_cases e : x = y
    · subst e; rw [if_pos rfl, if_pos rfl, if_neg h]
    · rw [if_neg e, if_neg e]

theorem foldl_flushOne_slot (r : RingId) (l : List SlotId) (s : State) (y : SlotId) :
    (l.foldl (State.flushOne r) s).slot y =
      if y ∈ l then if (s.slot y).jobs = 0 then (s.slot y).cleared else { s.slot y with releaseRequested := true }
      else s.slot y := by
  induction l generalizing s with
  | nil => rfl
  | cons x xs ih =>
    rw [List.foldl_cons, ih, flushOne_slot]
    by_cases e : x = y
    · subst e
      by_cases h : (s.slot x).jobs = 0 <;> by_cases hx : x ∈ xs <;> simp [h, hx, Slot.cleared]
    · simp [e, Ne.symm e]

theorem foldl_flushOne_ring (r : RingId) (l : List SlotId) (s : State) :
    (l.foldl (State.flushOne r) s).ring r =
      { s.ring r with held := (s.ring r).held.diff (s.idleOf l), free := (s.ring r).free ++ s.idleOf l } := by
  induction l generalizing s with
  | nil => exact congrArg (fun l => { s.ring r with free := l }) (List.append_nil _).symm
  | cons x xs ih =>
    rw [List.foldl_cons, ih, idleOf_flushOne, flushOne_ring_self]
    by_cases h : (s.slot x).jobs = 0 <;> simp [State.idleOf, h, List.diff_cons]

theorem foldl_flushOne_frame (r : RingId) (l : List SlotId) (s : State) :
    { l.foldl (State.flushOne r) s with slots := s.slots, rings := s.rings } = s ∧
      ∀ q, q ≠ r → (l.foldl (State.flushOne r) s).ring q = s.ring q := by
  induction l generalizing s with
  | nil => exact ⟨rfl, fun _ _ => rfl⟩
  | cons x xs ih =>
    have one : { State.flushOne r s x with slots := s.slots, rings := s.rings } = s ∧
        ∀ q, q ≠ r → (State.flushOne r s x).ring q = s.ring q := by
      unfold State.flushOne
      split
      · exact ⟨rfl, fun q hq => freeHeld_ring_ne s r x hq.symm⟩
      · exact ⟨rfl, fun q hq => rfl⟩
    obtain ⟨frame, rings⟩ := ih (State.flushOne r s x)
    rw [List.foldl_cons]
    exact ⟨(congrArg (fun v : State => { v with slots := s.slots, rings := s.rings }) frame :).trans one.1,
      fun q hq => (rings q hq).trans (one.2 q hq)⟩

end

end Sys2Proof.Machine
end

section
/-! PROOFS: RING_FLUSH (O21). -/

namespace Sys2Proof.Machine

section
variable {s t u v w : State} {a b : ApId} {r q : RingId} {sl x y z : SlotId} {gone : List SlotId}

/-! ### The command beside link and lines -/

theorem outside_endActive (s : State) (l : Link) (z : Lines) (j : Job) (k : NoteKind) (d : Nat) :
    (s.outside l z).endActive j k d = (s.endActive j k d).outside l z := by
  have settled := outside_settleJob (s.clearActive.jobGone j (s.slot j.slot).releaseRequested) l z j k d d
  rw [endActive_eq, endActive_eq, ← outside_activateNext, ← settled]
  rfl

theorem outside_cancelRingJobs (s : State) (l : Link) (z : Lines) (r : RingId) :
    (s.outside l z).cancelRingJobs r = (s.cancelRingJobs r).outside l z := by
  have aborted : (s.outside l z).abortRing r = (s.abortRing r).outside l z :=
    foldl_outside s l z (fun v j => unlinked_abortQueued j v l z) _
  show (match ((s.outside l z).abortRing r).copy.active with
    | some j => if j.job.ring = r then ((s.outside l z).abortRing r).cancelActive j else (s.outside l z).abortRing r
    | none => (s.outside l z).abortRing r) =
    State.outside (match (s.abortRing r).copy.active with
      | some j => if j.job.ring = r then (s.abortRing r).cancelActive j else s.abortRing r
      | none => s.abortRing r) l z
  rw [aborted, outside_copy]
  split
  · next j _ =>
    rw [outside_ite]
    congr 1
    unfold State.cancelActive
    rw [outside_ite, outside_endActive]
    rfl
  · rfl

theorem outside_flushHeld (s : State) (l : Link) (z : Lines) (r : RingId) :
    (s.outside l z).flushHeld r = (s.flushHeld r).outside l z := by
  rw [flushHeld_eq, flushHeld_eq]
  have flushed : (s.ring r).held.foldl (State.flushOne r) (s.outside l z) =
      ((s.ring r).held.foldl (State.flushOne r) s).outside l z :=
    foldl_outside s l z (fun v x => by
      unfold State.flushOne
      rw [outside_ite]
      rfl) _
  exact (congrArg (fun v : State => v.applyRetirements (s.idleOf (s.ring r).held)) flushed).trans
    (outside_applyRetirements ..)

theorem outside_flushReady_free (s : State) (l : Link) (z : Lines) (r : RingId) :
    (s.outside l z).flushReady r false = (s.flushReady r false).outside l z := by
  rw [flushReady_eq_free, flushReady_eq_free]
  have freed : (s.outside l z).freeAll r (s.ring r).ready = (s.freeAll r (s.ring r).ready).outside l z :=
    foldl_outside s l z (fun v x => rfl) _
  exact (congrArg (fun v : State => v.applyRetirements (s.ring r).ready) freed).trans (outside_applyRetirements ..)

/-- The part with the READY slots of a ring freed, before its jobs are cancelled. -/
def State.flushedReady (s : State) (r : RingId) : State := (s.releaseConsumers r).flushReady r false

/-- The part after a flush that keeps nothing. -/
def State.flushFreed (s : State) (r : RingId) : State :=
  (((s.flushedReady r).cancelRingJobs r).flushHeld r).arbitrate

theorem unlinked_flushFreed (r : RingId) : Unlinked fun s => s.flushFreed r := by
  intro s l z
  simp only [State.flushFreed, State.flushedReady, outside_releaseConsumers, outside_flushReady_free,
    outside_cancelRingJobs, outside_flushHeld, outside_arbitrate]

theorem actRingFlush_freed (s : State) (r : RingId) : actRingFlush s (r, false) = (s.flushFreed r).done := by
  simp only [actRingFlush, State.flushFreed, State.flushedReady, Bool.false_eq_true, if_false]

theorem exec_ringFlush_freed (h : s.link.phase = .request) (r : RingId) :
    exec (.ringFlush (requestFor 0x0B [idWord r, 0])) s =
      .next ((s.flushFreed r).answered 0x0B [idWord r, 0] .done []) := by
  have e := takeCommand_unlinked (code := 0x0B) (args := [idWord r, boolWord false]) (unlinked_flushFreed r) h
    (by simp) (argsRingFlush_words r false) fun bs => actRingFlush_freed (s.received bs) r
  generalize s.flushFreed r = t at e
  exact congrArg Host.Outcome.next e

/-! ### What a flush leaves -/

theorem freeAll_frame (r : RingId) (l : List SlotId) (s : State) :
    { s.freeAll r l with slots := s.slots, rings := s.rings } = s := by
  induction l generalizing s with
  | nil => rfl
  | cons x xs ih =>
    rw [freeAll_cons]
    exact (congrArg (fun v : State => { v with slots := s.slots, rings := s.rings }) (ih _) :)

theorem flushedReady_eq (hno : s.NoRetirements) (r : RingId) :
    s.flushedReady r = (s.releaseConsumers r).freeAll r (s.ring r).ready := by
  unfold State.flushedReady
  rw [flushReady_eq_free, releaseConsumers_ring]
  refine applyRetirements_of_noRetirements ((hno.congr (releaseConsumers_books s r).1).congr ?_) _
  exact (congrArg State.changes (freeAll_frame r _ _) :)

/-- Slot and ring records do not enter the grant decision. -/
theorem arbitrate_records (s : State) (x y) :
    State.arbitrate { s with slots := x, rings := y } = { s.arbitrate with slots := x, rings := y } := by
  unfold State.arbitrate
  show (match s.arbiter.port, s.arbiter.steeringClaim, s.arbiter.copyClaim with
    | some _, _, _ => _
    | none, none, none => _
    | none, some t, none => _
    | none, none, some c => _
    | none, some t, some c => _) = _
  rcases s.arbiter.port with - | g
  · rcases s.arbiter.steeringClaim with - | t <;> rcases s.arbiter.copyClaim with - | c
    · rfl
    · show (if s.lockOpen then _ else _) = _
      cases s.lockOpen <;> rfl
    · rfl
    · show (if s.copyWins then _ else _) = _
      cases s.copyWins <;> rfl
  · rfl

/-- Where the slots of a ring are after a flush that keeps nothing: `gone` are the held slots that went free. -/
structure Flushed (s t : State) (r : RingId) (gone : List SlotId) : Prop where
  ring     : t.ring r = { s.ring r with
    ready := [], free := (s.ring r).free ++ (s.ring r).ready ++ gone, held := (s.ring r).held.diff gone }
  rings    : ∀ q, q ≠ r → t.ring q = s.ring q
  held     : ∀ y ∈ gone, y ∈ (s.ring r).held
  freed    : ∀ y, y ∈ (s.ring r).ready ∨ y ∈ gone →
    t.slot y = { (s.slot y).cleared with holders := (t.slot y).holders, jobs := (t.slot y).jobs }
  kept     : ∀ y, y ∈ (t.ring r).held → (t.slot y).jobs ≠ 0 ∧
    t.slot y = { s.slot y with
      releaseRequested := true, holders := (t.slot y).holders, jobs := (t.slot y).jobs }
  others   : ∀ y, y ∉ (s.ring r).ready → y ∉ (s.ring r).held →
    t.slot y = { s.slot y with holders := (t.slot y).holders, jobs := (t.slot y).jobs }
  holders  : ∀ y, (t.slot y).holders = ((s.releaseConsumers r).slot y).holders
  apertures : t.apertures = (s.releaseConsumers r).apertures

/-- What the jobs of a ring leave is said of the state before the flush. -/
theorem JobsCancelled.before (h : JobsCancelled u v r) (copy : u.copy = s.copy) (notes : u.notes = s.notes)
    (home : ∀ y, (u.slot y).home = (s.slot y).home) : JobsCancelled s v r := by
  obtain ⟨queued, others, active, next, noted⟩ := h
  rw [copy] at others active next noted
  rw [notes] at noted
  exact ⟨queued, others, active, fun j q hj hr hg hq => (next j q hj hr hg hq).congr (home q.slot), noted⟩

theorem flushedReady_slot (hno : s.NoRetirements) (r : RingId) (y : SlotId) :
    (s.flushedReady r).slot y =
      { (if y ∈ (s.ring r).ready then (s.slot y).cleared else s.slot y) with
        holders := ((s.releaseConsumers r).slot y).holders } := by
  rw [flushedReady_eq hno, freeAll_slot]
  have fields := (releaseConsumers_released s r).fields y
  generalize (s.releaseConsumers r).slot y = z at fields
  rw [fields]
  split <;> rfl

theorem State.Placed.held_nodup (h : s.Placed) (r : RingId) : (s.ring r).held.Nodup :=
  (List.nodup_append.1 (h.once r)).2.1

/-- The same copy engine and the same M-side Arbiter. -/
def Engine (s t : State) : Prop := t.copy = s.copy ∧ t.arbiter = s.arbiter

theorem arbitrate_engine_eq (h : { w with slots := v.slots, rings := v.rings } = v) :
    Engine v.arbitrate w.arbitrate ∧ w.notes = v.notes ∧ w.schedules = v.schedules ∧ w.steering = v.steering := by
  have same := arbitrate_records w v.slots v.rings
  rw [h] at same
  exact ⟨⟨(congrArg State.copy same :).symm, (congrArg State.arbiter same :).symm⟩, (congrArg State.notes h :),
    (congrArg State.schedules h :), (congrArg State.steering h :)⟩

/-- A record given up to its holders and jobs. -/
theorem slot_upto {p q : Slot} {h : ApSet} {n : Nat} (e : p = { q with holders := h, jobs := n }) :
    p = { q with holders := p.holders, jobs := p.jobs } := by
  rw [e]

theorem flushFreed_flushed (hp : s.Placed) (hno : s.NoRetirements) (r : RingId) :
    ∃ gone, Flushed s (s.flushFreed r) r gone ∧ JobsCancelled s ((s.flushedReady r).cancelRingJobs r) r ∧
      Engine ((s.flushedReady r).cancelRingJobs r).arbitrate (s.flushFreed r) ∧
      (s.flushFreed r).notes = ((s.flushedReady r).cancelRingJobs r).notes ∧
      (s.flushFreed r).schedules = s.schedules ∧ (s.flushFreed r).steering = s.steering := by
  have eq := flushedReady_eq hno r
  have shelf := releaseConsumers_shelf s r
  have books := releaseConsumers_books s r
  have frame := freeAll_frame r (s.ring r).ready (s.releaseConsumers r)
  rw [← eq] at frame
  have uSlot := flushedReady_slot hno r
  have uRing : (s.flushedReady r).ring r =
      { s.ring r with ready := [], free := (s.ring r).free ++ (s.ring r).ready } := by
    rw [eq, freeAll_ring_self, releaseConsumers_ring, diff_self_eq_nil]
  have uRings (q : RingId) (hq : q ≠ r) : (s.flushedReady r).ring q = s.ring q := by
    rw [eq, freeAll_ring_ne _ _ hq.symm, releaseConsumers_ring]
  have uNo : (s.flushedReady r).NoRetirements := (hno.congr books.1).congr (congrArg State.changes frame :)
  have uHome (y : SlotId) : ((s.flushedReady r).slot y).home = (s.slot y).home := by
    rw [uSlot]
    split <;> rfl
  obtain ⟨gone, emptied, cancelled⟩ := cancelRingJobs_cancelled uNo r
  have vNo : ((s.flushedReady r).cancelRingJobs r).NoRetirements := uNo.congr emptied.changes
  have before := cancelled.before (s := s) ((congrArg State.copy frame :).trans shelf.copy)
    ((congrArg State.notes frame :).trans books.2) uHome
  have uAps : (s.flushedReady r).apertures = (s.releaseConsumers r).apertures := (congrArg State.apertures frame :)
  have vRing := emptied.ring
  have vSlot := emptied.slot
  have vAps := emptied.apertures.trans uAps
  have vScheds := emptied.schedules.trans ((congrArg State.schedules frame :).trans shelf.schedules)
  have vSteering := emptied.steering.trans ((congrArg State.steering frame :).trans shelf.steering)
  rw [uRing] at vRing
  unfold State.flushFreed
  generalize (s.flushedReady r).cancelRingJobs r = v at *
  obtain ⟨wFrame, wRings⟩ := foldl_flushOne_frame r (v.ring r).held v
  have wRing := foldl_flushOne_ring r (v.ring r).held v
  have wSlot := foldl_flushOne_slot r (v.ring r).held v
  have wChanges : ((v.ring r).held.foldl (State.flushOne r) v).changes = v.changes :=
    (congrArg State.changes wFrame :)
  have flushed : v.flushHeld r = (v.ring r).held.foldl (State.flushOne r) v := by
    rw [flushHeld_eq]
    exact applyRetirements_of_noRetirements (vNo.congr wChanges) _
  rw [flushed]
  generalize (v.ring r).held.foldl (State.flushOne r) v = w at *
  obtain ⟨engine, notes, scheds, steering⟩ := arbitrate_engine_eq wFrame
  obtain ⟨ar, cp, e⟩ := arbitrate_frame w
  rw [e] at engine ⊢
  have heldV : (v.ring r).held = (s.ring r).held.diff gone := by rw [vRing]
  rw [heldV] at wRing wSlot
  have vRecord (y : SlotId) : v.slot y =
      { (if y ∈ gone ∨ y ∈ (s.ring r).ready then (s.slot y).cleared else s.slot y) with
        holders := ((s.releaseConsumers r).slot y).holders, jobs := (v.slot y).jobs } := by
    refine (vSlot y).trans ?_
    rw [uSlot y]
    by_cases hg : y ∈ gone <;> by_cases hr : y ∈ (s.ring r).ready <;> simp [hg, hr, Slot.cleared]
  have goneHeld (y : SlotId) (hy : y ∈ gone) : y ∈ (s.ring r).held := by
    have k := emptied.held y hy
    rw [uRing] at k
    exact k
  have inD (y : SlotId) : y ∈ (s.ring r).held.diff gone ↔ y ∈ (s.ring r).held ∧ y ∉ gone :=
    (hp.held_nodup r).mem_sdiff_iff
  have idle (y : SlotId) : y ∈ v.idleOf ((s.ring r).held.diff gone) ↔
      y ∈ (s.ring r).held.diff gone ∧ (v.slot y).jobs = 0 := by
    rw [State.idleOf, List.mem_filter, decide_eq_true_iff]
  refine ⟨gone ++ v.idleOf ((s.ring r).held.diff gone), ⟨?_, fun q hq => ?_, fun y hy => ?_, fun y hy => ?_, fun y hy => ?_,
    fun y hr hh => ?_, fun y => ?_, ?_⟩, before, engine, notes, scheds.trans vScheds, steering.trans vSteering⟩
  · refine wRing.trans ?_
    rw [vRing, List.diff_append, List.append_assoc _ gone]
  · exact (wRings q hq).trans ((emptied.rings q hq).trans (uRings q hq))
  · rcases List.mem_append.1 hy with hy | hy
    · exact goneHeld y hy
    · exact ((inD y).1 ((idle y).1 hy).1).1
  · refine slot_upto (h := ((s.releaseConsumers r).slot y).holders) (n := (v.slot y).jobs) ((wSlot y).trans ?_)
    rcases hy with hy | hy
    · rw [if_neg fun k => hp.held_not_ready ((inD y).1 k).1 r hy]
      refine (vRecord y).trans ?_
      rw [if_pos (.inr hy)]
    rcases List.mem_append.1 hy with hy | hy
    · rw [if_neg fun k => ((inD y).1 k).2 hy]
      refine (vRecord y).trans ?_
      rw [if_pos (.inl hy)]
    · obtain ⟨hD, hj⟩ := (idle y).1 hy
      obtain ⟨held, notGone⟩ := (inD y).1 hD
      rw [if_pos hD, if_pos hj]
      have record := vRecord y
      rw [if_neg (not_or.2 ⟨notGone, hp.held_not_ready held r⟩)] at record
      generalize (v.slot y).jobs = n at record
      rw [record]
      rfl
  · have wHeld : y ∈ ((s.ring r).held.diff gone).diff (v.idleOf ((s.ring r).held.diff gone)) := by
      have k : y ∈ (w.ring r).held := hy
      rw [wRing] at k
      exact k
    obtain ⟨hD, notIdle⟩ := ((hp.held_nodup r).sublist (List.diff_sublist _ _)).mem_sdiff_iff.1 wHeld
    have hj : (v.slot y).jobs ≠ 0 := fun k => notIdle ((idle y).2 ⟨hD, k⟩)
    obtain ⟨held, notGone⟩ := (inD y).1 hD
    have record := vRecord y
    rw [if_neg (not_or.2 ⟨notGone, hp.held_not_ready held r⟩)] at record
    have marked := wSlot y
    rw [if_pos hD, if_neg hj] at marked
    refine ⟨?_, slot_upto (q := { s.slot y with releaseRequested := true })
      (h := ((s.releaseConsumers r).slot y).holders) (n := (v.slot y).jobs) (marked.trans ?_)⟩
    · show (w.slot y).jobs ≠ 0
      rw [marked]
      exact hj
    · generalize (v.slot y).jobs = n at record
      rw [record]
  · refine slot_upto (h := ((s.releaseConsumers r).slot y).holders) (n := (v.slot y).jobs) ((wSlot y).trans ?_)
    rw [if_neg fun k => hh ((inD y).1 k).1]
    refine (vRecord y).trans ?_
    rw [if_neg (not_or.2 ⟨fun k => hh (goneHeld y k), hr⟩)]
  · show (w.slot y).holders = _
    rw [wSlot y]
    have record := congrArg Slot.holders (vRecord y)
    split
    · split <;> exact record
    · exact record
  · exact (congrArg State.apertures wFrame :).trans vAps

end

/-- Settles O21: the consumers let go, then the ready list empties; with keep_held no the jobs of the ring end next,
and then the held list goes. -/
theorem ringFlushEmptiesTheRing : Obligations.RingFlushEmptiesTheRing := by
  intro s r h hno hp
  refine ⟨⟨_, exec_ringFlush_kept h r, answered_answers .., ?_⟩, ⟨_, exec_ringFlush_freed h r, answered_answers .., ?_⟩⟩
  · have shelf := releaseConsumers_shelf s r
    have frame := dropAll_frame (s.releaseConsumers r) r (s.ring r).ready
    have fields := (releaseConsumers_released s r).fields
    have kept : (s.releaseConsumers r).keptOf (s.ring r).ready = (s.ring r).ready.filter fun x => (s.slot x).retained :=
      List.filter_congr fun x _ => (congrArg Slot.retained (fields x) :)
    have loose : (s.releaseConsumers r).looseOf (s.ring r).ready =
        (s.ring r).ready.filter fun x => !(s.slot x).retained :=
      List.filter_congr fun x _ => congrArg not (congrArg Slot.retained (fields x) :)
    have note : (s.releaseConsumers r).heldNote r = s.heldNote r := funext fun x =>
      congrArg (fun f => ({ kind := .frameHeld, ring := some r, slot := some x, frame := f } : Note))
        (congrArg Slot.frame (fields x) :)
    have holders (y : SlotId) : (((s.releaseConsumers r).dropAll r (s.ring r).ready).slot y).holders =
        ((s.releaseConsumers r).slot y).holders := by
      rw [dropAll_slot]
      split <;> rfl
    rw [flushKept_eq hno]
    refine ⟨?_, fun q hq => ?_, fun a ha => ?_, fun a ha => ?_, fun y => ?_, fun hl y => ?_, ?_, ?_, ?_, ?_, ?_⟩
    · rw [answered_ring, dropAll_ring_self, releaseConsumers_ring, diff_self_eq_nil, kept, loose]
    · rw [answered_ring, dropAll_ring_ne _ _ _ hq.symm, releaseConsumers_ring]
    · rw [answered_ap, dropAll_ap, released_consumer hp ha]
    · rw [answered_ap, dropAll_ap, released_other ha]
    · rw [answered_slot, dropAll_slot]
      have field := fields y
      generalize (s.releaseConsumers r).slot y = z at field
      rw [field]
      split <;> rfl
    · rw [answered_slot, holders, released_holders hp hl]
    · rw [answered_notes, dropAll_notes, heldNote_map, kept, (releaseConsumers_books s r).2]
      rw [note]
      rfl
    · exact (congrArg State.schedules frame :).trans shelf.schedules
    · exact (congrArg State.copy frame :).trans shelf.copy
    · exact (congrArg State.arbiter frame :).trans shelf.arbiter
    · exact (congrArg State.steering frame :).trans shelf.steering
  · obtain ⟨gone, f, c, ⟨copy, arbiter⟩, notes, schedules, steering⟩ := flushFreed_flushed hp hno r
    have holders (hl : s.HoldersLaw) (y : SlotId) := (f.holders y).trans (released_holders hp hl r y)
    have ap (a : ApId) : (s.flushFreed r).ap a = (s.releaseConsumers r).ap a := by
      unfold State.ap; rw [f.apertures]
    have stood (y : SlotId) := Ring.lists_disjoint (sl := y) (hp.once r)
    have inHeld (y : SlotId) : y ∈ (s.ring r).held.diff gone ↔ y ∈ (s.ring r).held ∧ y ∉ gone :=
      (hp.held_nodup r).mem_sdiff_iff
    generalize s.flushFreed r = t at *
    obtain ⟨queued, others, active, next, noted⟩ := c
    rw [← copy] at queued others active
    refine ⟨?_, ?_, ?_, fun y => ?_, ?_, ?_, fun y hy => ?_, f.rings, fun a ha => ?_, fun a ha => ?_, fun y => ?_,
      holders, queued, others, active, fun j q hj hr hg hq => ?_, notes.trans noted, schedules, steering⟩
    · exact congrArg Ring.ready f.ring
    · exact (congrArg Ring.frameCounter f.ring :)
    · exact (congrArg Ring.producer f.ring :)
    · show _ ↔ y ∈ (t.ring r).free ∨ y ∈ (t.ring r).held
      rw [f.ring, Ring.mem_lists, List.mem_append, List.mem_append, inHeld]
      have held := f.held y
      grind
    · rw [answered_ring, f.ring]
      exact List.prefix_append ..
    · rw [answered_ring, f.ring]
      exact List.diff_sublist ..
    · obtain ⟨busy, record⟩ := f.kept y hy
      rw [answered_ring, f.ring] at hy
      exact ⟨((inHeld y).1 hy).1, (congrArg Slot.releaseRequested record :), Nat.pos_of_ne_zero busy⟩
    · exact (congrArg Aperture.state (ap a)).trans (released_consumer hp ha)
    · exact (ap a).trans (released_other ha)
    · rw [answered_ring, answered_slot]
      obtain ⟨readyNotFree, held⟩ := stood y
      have free : y ∈ (t.ring r).free ∧ y ∉ (s.ring r).free ↔ y ∈ (s.ring r).ready ∨ y ∈ gone := by
        rw [f.ring, List.mem_append, List.mem_append]
        have heldGone := f.held y
        grind
      have kept : y ∈ (t.ring r).held ↔ y ∈ (s.ring r).held ∧ y ∉ gone := by
        rw [f.ring]
        exact inHeld y
      by_cases hf : y ∈ (s.ring r).ready ∨ y ∈ gone
      · rw [if_pos (free.2 hf)]
        exact f.freed y hf
      · rw [if_neg fun k => hf (free.1 k)]
        obtain ⟨notReady, notGone⟩ := not_or.1 hf
        by_cases hh : y ∈ (s.ring r).held
        · have k := kept.2 ⟨hh, notGone⟩
          rw [if_pos k]
          exact (f.kept y k).2
        · rw [if_neg fun k => hh (kept.1 k).1]
          exact f.others y notReady hh
    · obtain ⟨g, claim, e, rest⟩ := next j q hj hr hg hq
      rw [← copy, ← arbiter] at rest
      exact ⟨g, claim, e, rest⟩

end Sys2Proof.Machine
end

section
/-! PROOFS: what the retirements of the slots that one event frees leave (R23, R154; for O31, O32). -/

namespace Sys2Proof.Machine

section
variable {s t u v w : State} {r q : RingId} {sl x y z : SlotId} {e : Change} {a b ga gb sls gone : List SlotId}

/-! ### The slots taken away, in the order in which they go free -/

theorem retiredOf_subset (on : Bool) (waits : SlotId → Bool) (n : Nat) (l : List SlotId) :
    ∀ x ∈ retiredOf on waits n l, x ∈ l ∧ waits x = true := by
  induction l generalizing n with
  | nil => nofun
  | cons y ys ih =>
    intro x hx
    unfold retiredOf at hx
    split at hx
    · next h =>
      rcases List.mem_cons.1 hx with rfl | hx
      · exact ⟨List.mem_cons_self, h.1⟩
      · exact ⟨List.mem_cons_of_mem _ (ih _ x hx).1, (ih _ x hx).2⟩
    · exact ⟨List.mem_cons_of_mem _ (ih _ x hx).1, (ih _ x hx).2⟩

theorem retiredOf_congr {on : Bool} {f g : SlotId → Bool} {l : List SlotId} (n : Nat)
    (h : ∀ x ∈ l, f x = g x) : retiredOf on f n l = retiredOf on g n l := by
  induction l generalizing n with
  | nil => rfl
  | cons y ys ih =>
    have rest (m : Nat) := ih m fun x hx => h x (List.mem_cons_of_mem _ hx)
    simp only [retiredOf, h y List.mem_cons_self, rest]

theorem retiredOf_append (on : Bool) (waits : SlotId → Bool) (n : Nat) (a b : List SlotId) :
    retiredOf on waits n (a ++ b) =
      retiredOf on waits n a ++ retiredOf on waits (n - (retiredOf on waits n a).length) b := by
  induction a generalizing n with
  | nil => rfl
  | cons y ys ih =>
    simp only [List.cons_append, retiredOf]
    split
    · rw [ih, List.cons_append, List.length_cons, Nat.sub_sub, Nat.add_comm 1]
    · exact ih n

theorem retiredOf_off (waits : SlotId → Bool) (n : Nat) (l : List SlotId) :
    retiredOf false waits n l = l.filter waits := by
  induction l generalizing n with
  | nil => rfl
  | cons y ys ih =>
    cases h : waits y <;> simp [retiredOf, h, ih]

/-! ### One retirement after another -/

/-- The retirements of some slots of a ring have applied: those of `gone` are retired, the others rejected. -/
structure Retirements (s t : State) (r : RingId) (sls gone : List SlotId) : Prop where
  taken   : ∀ x ∈ gone, x ∈ sls
  ring    : t.ring r = { s.ring r with
    free := (s.ring r).free.filter fun x => decide (x ∉ gone), pool := (s.ring r).pool - gone.length }
  rings   : ∀ q, q ≠ r → t.ring q = s.ring q
  slot    : ∀ x, t.slot x =
    if x ∈ gone then Slot.retiredRecord
    else if x ∈ sls then
      { s.slot x with retirePending := if s.retires x then false else (s.slot x).retirePending }
    else s.slot x
  changes : t.changes = { s.changes with entries := s.withoutRetirements sls }
  notes   : t.notes = (sls.filterMap (s.retireNote r gone)).foldl NoteQueue.push s.notes
  frame   : { t with slots := s.slots, rings := s.rings, changes := s.changes, notes := s.notes } = s

theorem filter_not_mem_nil (l : List SlotId) : (l.filter fun x => decide (x ∉ ([] : List SlotId))) = l :=
  List.filter_eq_self.2 fun _ _ => by simp

theorem Retirements.refl (s : State) (r : RingId) : Retirements s s r [] [] :=
  ⟨nofun, by rw [filter_not_mem_nil]; rfl, fun _ _ => rfl, fun _ => rfl,
    (congrArg (fun l => { s.changes with entries := l }) (List.filter_eq_self.2 fun _ _ => rfl)).symm, rfl, rfl⟩

/-- What waits on a slot beside those whose retirements have applied. -/
theorem find_withoutRetirements (hx : x ∉ sls) :
    (s.withoutRetirements sls).find? (fun e => decide (e.op = .retireSlot x)) =
      s.changes.entries.find? fun e => decide (e.op = .retireSlot x) := by
  unfold State.withoutRetirements
  rw [List.find?_filter]
  refine List.find?_congr fun e _ => ?_
  by_cases h : e.op = .retireSlot x
  · have all : (sls.all fun y => decide (e.op ≠ .retireSlot y)) = true := by
      rw [List.all_eq_true]
      intro y hy
      refine decide_eq_true fun k => hx ?_
      rw [h] at k
      cases k
      exact hy
    rw [decide_eq_true h, decide_eq_true_iff]
    exact ⟨all, rfl⟩
  · simp only [h, decide_false, Bool.false_eq_true, and_false]

theorem retires_eq (s : State) (x : SlotId) :
    s.retires x = (s.changes.entries.find? fun e => decide (e.op = .retireSlot x)).isSome := by
  rw [State.retires, List.isSome_find?]

theorem Retirements.retires (h : Retirements s t r sls gone) (hx : x ∉ sls) : t.retires x = s.retires x := by
  rw [retires_eq, retires_eq, h.changes, find_withoutRetirements hx]

theorem Retirements.retireNote (h : Retirements s t r sls gone) (hx : x ∉ sls) (more : List SlotId) :
    t.retireNote r more x = s.retireNote r (gone ++ more) x := by
  have notGone : x ∉ gone := fun k => hx (h.taken x k)
  unfold State.retireNote
  rw [h.changes, find_withoutRetirements hx]
  simp only [List.mem_append, notGone, false_or]

theorem Retirements.trans (h : Retirements s t r a ga) (k : Retirements t u r b gb) (apart : ∀ x ∈ b, x ∉ a) :
    Retirements s u r (a ++ b) (ga ++ gb) := by
  refine ⟨fun x hx => ?_, ?_, fun q hq => (k.rings q hq).trans (h.rings q hq), fun x => ?_, ?_, ?_, ?_⟩
  · exact (List.mem_append.1 hx).elim (fun m => List.mem_append_left _ (h.taken x m))
      fun m => List.mem_append_right _ (k.taken x m)
  · rw [k.ring, h.ring, List.filter_filter, List.length_append, Nat.sub_sub]
    simp only [List.mem_append, not_or, Bool.decide_and, Bool.and_comm]
  · have waits : x ∈ b → t.retires x = s.retires x := fun hb => h.retires (apart x hb)
    rw [k.slot, h.slot]
    by_cases hga : x ∈ ga
    · have notb : x ∉ b := fun hb => apart x hb (h.taken x hga)
      have notgb : x ∉ gb := fun hb => notb (k.taken x hb)
      simp only [hga, notb, notgb, if_true, if_false, List.mem_append, true_or]
    by_cases hgb : x ∈ gb
    · simp only [hga, hgb, if_true, List.mem_append, or_true]
    by_cases hb : x ∈ b
    · have nota := apart x hb
      simp only [hga, hgb, hb, nota, waits hb, if_true, if_false, List.mem_append, or_true, or_self]
    · simp only [hga, hgb, hb, if_false, List.mem_append, or_false]
  · rw [k.changes, State.withoutRetirements, h.changes]
    refine congrArg (fun l => { s.changes with entries := l }) ?_
    unfold State.withoutRetirements
    rw [List.filter_filter]
    refine List.filter_congr fun e _ => ?_
    rw [List.all_append, Bool.and_comm]
  · rw [k.notes, h.notes, List.filterMap_append, List.foldl_append]
    have first : a.filterMap (s.retireNote r (ga ++ gb)) = a.filterMap (s.retireNote r ga) :=
      List.filterMap_congr fun x hx => by
        have notgb : x ∉ gb := fun hb => apart x (k.taken x hb) hx
        unfold State.retireNote
        simp only [List.mem_append, notgb, or_false]
    have second : b.filterMap (s.retireNote r (ga ++ gb)) = b.filterMap (t.retireNote r gb) :=
      List.filterMap_congr fun x hx => (h.retireNote (apart x hx) gb).symm
    rw [first, second]
  · exact (congrArg (fun v : State => { v with
      slots := s.slots, rings := s.rings, changes := s.changes, notes := s.notes }) k.frame :).trans h.frame

/-- Of the entries, the first of the only ones that `p` picks is taken out. -/
theorem erase_eq_filter_of_once {p : Change → Bool} {l : List Change} (once : (l.filter p).length ≤ 1)
    (h : l.find? p = some e) : l.erase e = l.filter fun x => !p x := by
  obtain ⟨he, before, after, rfl, none⟩ := List.find?_eq_some_iff_append.1 h
  have notBefore : e ∉ before := fun k => by
    have := none e k
    rw [he] at this
    cases this
  have noneAfter : after.filter p = [] := by
    rw [List.filter_append, List.filter_cons_of_pos he] at once
    simp only [List.length_append, List.length_cons] at once
    exact List.eq_nil_of_length_eq_zero (by omega)
  rw [List.erase_append_right _ notBefore, List.erase_cons_head, List.filter_append, List.filter_cons_of_neg (by simp [he])]
  rw [List.filter_eq_self.2 fun x hx => none x hx, List.filter_eq_self.2 fun x hx => ?_]
  by_contra k
  have : x ∈ after.filter p := List.mem_filter.2 ⟨hx, by simpa using k⟩
  rw [noneAfter] at this
  cases this

theorem withoutRetirements_one (s : State) (sl : SlotId) :
    s.withoutRetirements [sl] = s.changes.entries.filter fun e => !decide (e.op = .retireSlot sl) := by
  refine List.filter_congr fun e _ => ?_
  rw [List.all_cons, List.all_nil, Bool.and_true, decide_not]

theorem retireNote_of_waiting (h : s.waitingRetirement sl = some e) (gone : List SlotId) :
    s.retireNote r gone sl =
      some (e.note (if sl ∈ gone then .changeApplied else .changeRejected) r none (some sl)) := by
  unfold State.retireNote
  rw [show s.changes.entries.find? _ = some e from h]
  rfl

theorem changeNote_retire (op : e.op = .retireSlot sl) (home : (s.slot sl).home.map (·.ring) = some r) (k : NoteKind) :
    s.changeNote k e = e.note k r none (some sl) := by
  unfold State.changeNote Change.note
  simp only [op, home]
  rfl

/-- The retirement that waits on one slot, if one does. -/
theorem applyRetirement_retirements (home : (s.slot sl).home.map (·.ring) = some r) (nodup : (s.ring r).free.Nodup)
    (once : (s.changes.entries.filter fun e => decide (e.op = .retireSlot sl)).length ≤ 1) :
    Retirements s (s.applyRetirement sl) r [sl] (retiredOf (s.ring r).on s.retires (s.ring r).pool [sl]) := by
  obtain ⟨h, hh, rfl⟩ := Option.map_eq_some_iff.1 home
  have one {x : SlotId} : x ∈ [sl] ↔ x = sl := List.mem_singleton
  rcases applyRetirement_cases s sl with ⟨none, k⟩ | ⟨e, some, ⟨h', hh', floor⟩, k⟩ | ⟨e, some, above, k⟩ <;> rw [k]
  · have waits : s.retires sl = false := by rw [retires_eq]; exact congrArg Option.isSome none
    have gone : retiredOf (s.ring h.ring).on s.retires (s.ring h.ring).pool [sl] = [] := by simp [retiredOf, waits]
    rw [gone]
    refine ⟨nofun, by rw [filter_not_mem_nil]; rfl, fun _ _ => rfl, fun x => ?_, ?_, ?_, rfl⟩
    · by_cases e : x = sl
      · subst e; simp [waits]
      · simp [e]
    · rw [withoutRetirements_one, List.filter_eq_self.2 fun e he => ?_]
      simpa using List.find?_eq_none.1 none e he
    · have silent : s.retireNote h.ring [] sl = Option.none := by
        unfold State.retireNote
        rw [show s.changes.entries.find? _ = Option.none from none]
        rfl
      rw [List.filterMap_cons_none silent]
      rfl
  · have waits : s.retires sl = true := by rw [retires_eq]; exact congrArg Option.isSome some
    obtain rfl : h = h' := Option.some.inj (hh.symm.trans hh')
    have gone : retiredOf (s.ring h.ring).on s.retires (s.ring h.ring).pool [sl] = [] := by
      unfold retiredOf
      rw [if_neg (by simp [floor.1, floor.2])]
      rfl
    have op : e.op = .retireSlot sl := (waitingRetirement_some some).2
    rw [gone]
    refine ⟨nofun, by rw [filter_not_mem_nil]; rfl, fun _ _ => rfl, fun x => ?_, ?_, ?_, rfl⟩
    · rw [raise_slot, setSlot_slot]
      by_cases e : sl = x
      · subst e; simp [waits]
      · simp [e, Ne.symm e]
    · rw [withoutRetirements_one, ← erase_eq_filter_of_once once some]
      rfl
    · rw [List.filterMap_cons_some (retireNote_of_waiting some []), if_neg (by simp), changeNote_retire op home]
      rfl
  · have waits : s.retires sl = true := by rw [retires_eq]; exact congrArg Option.isSome some
    have gone : retiredOf (s.ring h.ring).on s.retires (s.ring h.ring).pool [sl] = [sl] := by
      have free : (s.ring h.ring).on = false ∨ 2 < (s.ring h.ring).pool := by
        cases on : (s.ring h.ring).on with
        | false => exact .inl rfl
        | true => exact .inr (Nat.lt_of_not_le fun k => above h hh ⟨on, k⟩)
      unfold retiredOf
      rw [if_pos ⟨waits, free⟩]
      rfl
    have op : e.op = .retireSlot sl := (waitingRetirement_some some).2
    have retired := retire_of_home (s := (s.removeChange e).setSlot sl { s.slot sl with retirePending := false })
      (sl := sl) (h := h) (by rw [setSlot_slot_self]; exact hh)
    rw [gone, retired]
    refine ⟨fun x => id, ?_, fun q hq => ?_, fun x => ?_, ?_, ?_, rfl⟩
    · rw [raise_ring, setSlot_ring, setRing_ring_self, setSlot_ring, removeChange_ring, nodup.erase_eq_filter]
      refine congrArg (fun l => { s.ring h.ring with free := l, pool := (s.ring h.ring).pool - 1 }) ?_
      refine List.filter_congr fun x _ => Bool.eq_iff_iff.2 ?_
      simp
    · rw [raise_ring, setSlot_ring, setRing_ring_ne _ _ hq.symm, setSlot_ring, removeChange_ring]
    · rw [raise_slot, setSlot_slot]
      by_cases e : sl = x
      · subst e; simp; rfl
      · rw [if_neg e, setRing_slot, setSlot_slot_ne _ _ e, removeChange_slot, if_neg fun k => e (one.1 k).symm,
          if_neg fun k => e (one.1 k).symm]
    · rw [withoutRetirements_one, ← erase_eq_filter_of_once once some]
      rfl
    · rw [List.filterMap_cons_some (retireNote_of_waiting some [sl]), if_pos (by simp), changeNote_retire op home]
      rfl

/-- The retirements of the slots of a ring that one event has freed, in their order (R154). -/
theorem applyRetirements_retirements (homes : ∀ x ∈ sls, (s.slot x).home.map (·.ring) = some r) (apart : sls.Nodup)
    (nodup : (s.ring r).free.Nodup)
    (once : ∀ x, (s.changes.entries.filter fun e => decide (e.op = .retireSlot x)).length ≤ 1) :
    Retirements s (s.applyRetirements sls) r sls (retiredOf (s.ring r).on s.retires (s.ring r).pool sls) := by
  induction sls generalizing s with
  | nil => exact .refl s r
  | cons sl sls ih =>
    obtain ⟨out, apart⟩ := List.nodup_cons.1 apart
    have first := applyRetirement_retirements (homes sl List.mem_cons_self) nodup (once sl)
    have other (x : SlotId) (hx : x ∈ sls) : x ∉ [sl] := fun k => out (List.mem_singleton.1 k ▸ hx)
    have rest := ih (s := s.applyRetirement sl) (fun x hx => ?_) apart ?_ fun x => ?_
    · have whole := first.trans rest other
      rw [show sl :: sls = [sl] ++ sls from rfl, retiredOf_append]
      rw [retiredOf_congr (g := s.retires) _ fun x hx => first.retires (other x hx), first.ring] at whole
      exact whole
    · rw [first.slot, if_neg fun k => other x hx (first.taken x k), if_neg (other x hx)]
      exact homes x (List.mem_cons_of_mem _ hx)
    · rw [first.ring]
      exact nodup.filter _
    · rw [first.changes]
      refine Nat.le_trans (List.Sublist.length_le ?_) (once x)
      exact List.filter_sublist.filter _

end

end Sys2Proof.Machine
end

section
/-! PROOFS: from the retirements applied at one moment to what the whole event leaves (R154; for O31, O32). -/

namespace Sys2Proof.Machine

section
variable {s t u v w : State} {r q : RingId} {sl x y z : SlotId} {e : Change} {sls gone : List SlotId} {floor : Prop}

/-- An event has freed some slots of a ring, in an order, and nothing has been retired yet. -/
structure Frees (s v : State) (r : RingId) (sls : List SlotId) : Prop where
  homes   : ∀ x, (v.slot x).home = (s.slot x).home
  pool    : (v.ring r).pool = (s.ring r).pool
  changes : v.changes = s.changes
  onward  : Onward s v
  own     : ∀ x ∈ sls, (s.slot x).home.map (·.ring) = some r
  apart   : sls.Nodup
  nodup   : (v.ring r).free.Nodup

/-- No slot has two retirements waiting (R5, R149). -/
def State.RetiresOnce (s : State) : Prop :=
  ∀ x, (s.changes.entries.filter fun e => decide (e.op = .retireSlot x)).length ≤ 1

theorem State.QueueLaws.once (h : s.QueueLaws) : s.RetiresOnce := h.retireOnce

theorem retires_congr (h : t.changes = s.changes) : t.retires = s.retires := by
  funext x
  rw [retires_eq, retires_eq, h]

theorem Frees.retirements (f : Frees s v r sls) (once : s.RetiresOnce) :
    Retirements v (v.applyRetirements sls) r sls
      (retiredOf (v.ring r).on s.retires (s.ring r).pool sls) := by
  have done := applyRetirements_retirements (s := v) (r := r) (sls := sls)
    (fun x hx => by rw [f.homes]; exact f.own x hx) f.apart f.nodup fun x => by rw [f.changes]; exact once x
  rw [f.pool, retires_congr f.changes] at done
  exact done

/-- What follows the retirements in an event leaves them as they are. -/
structure KeepsRetired (w t : State) (r : RingId) (sls gone : List SlotId) : Prop where
  home    : ∀ x ∈ sls, x ∉ gone → (t.slot x).home = (w.slot x).home
  pending : ∀ x ∈ sls, (w.slot x).retirePending = false → (t.slot x).retirePending = false
  slot    : ∀ x ∈ gone, t.slot x = w.slot x
  pool    : (t.ring r).pool = (w.ring r).pool
  entries : ∀ e ∈ t.changes.entries, ∃ i ∈ w.changes.entries, i.op = e.op
  onward  : Onward w t

theorem KeepsRetired.of_eq (slots : t.slots = w.slots) (rings : t.rings = w.rings) (changes : t.changes = w.changes)
    (onward : Onward w t) : KeepsRetired w t r sls gone := by
  have slot (x : SlotId) : t.slot x = w.slot x := by unfold State.slot; rw [slots]
  refine ⟨fun x _ _ => by rw [slot], fun x _ => by rw [slot]; exact id, fun x _ => slot x, ?_, fun e he => ?_, onward⟩
  · unfold State.ring; rw [rings]
  · rw [changes] at he
    exact ⟨e, he, rfl⟩

/-- A slot without a home stands nowhere (R2). -/
theorem State.Placed.nowhere (h : t.Placed) (hx : (t.slot x).home = none) (q : RingId) :
    x ∉ (t.ring q).lists ∧ t.fillingSlot q ≠ some x := by
  refine ⟨fun k => ?_, fun k => ?_⟩
  · have := h.listed q x k
    rw [hx] at this
    cases this
  · have := (h.filling q x k).1
    rw [hx] at this
    cases this

theorem Frees.applied (f : Frees s v r sls) (k : Retirements v w r sls gone) (l : KeepsRetired w t r sls gone)
    (hp : t.Placed) : RetirementsApplied s t r sls gone := by
  refine ⟨fun x hx e he op => ?_, ?_, fun x hx => ?_, fun x hx hout => ⟨?_, fun waits => ?_⟩, fun x hx n hn => ?_⟩
  · obtain ⟨i, hi, same⟩ := l.entries e he
    rw [k.changes] at hi
    have all := (List.mem_filter.1 hi).2
    rw [List.all_eq_true] at all
    exact of_decide_eq_true (all x hx) (same.trans op)
  · rw [l.pool, k.ring, ← f.pool]
  · have slot : t.slot x = Slot.retiredRecord := by rw [l.slot x hx, k.slot, if_pos hx]
    exact ⟨slot, hp.nowhere (by rw [slot]; rfl)⟩
  · rw [l.home x hx hout, k.slot, if_neg hout, if_pos hx]
    exact f.homes x
  · refine l.pending x hx ?_
    rw [k.slot, if_neg hout, if_pos hx]
    show (if v.retires x = true then false else (v.slot x).retirePending) = false
    rw [retires_congr f.changes, if_pos waits]
  · have note : v.retireNote r gone x = some n := by
      unfold State.retireNote at hn ⊢
      rw [f.changes]
      exact hn
    exact f.onward.raised_of_pushes k.notes (List.mem_filterMap.2 ⟨x, hx, note⟩) l.onward

/-! ### One entry, the retirement of one slot -/

theorem State.OnlyRetires.retires (h : s.OnlyRetires r sl e) : s.retires x = true ↔ x = sl := by
  obtain ⟨entries, op, -⟩ := h
  unfold State.retires
  rw [entries, List.any_cons, List.any_nil, Bool.or_false, decide_eq_true_iff, op]
  exact ⟨fun k => by cases k; rfl, fun k => by rw [k]⟩

theorem State.OnlyRetires.once (h : s.OnlyRetires r sl e) : s.RetiresOnce := fun x => by
  rw [h.1]
  exact List.length_filter_le ..

theorem State.OnlyRetires.withoutRetirements (h : s.OnlyRetires r sl e) (hsl : sl ∈ sls) :
    s.withoutRetirements sls = [] := by
  unfold State.withoutRetirements
  rw [h.1, List.filter_cons_of_neg, List.filter_nil]
  rw [List.all_eq_true]
  exact fun all => of_decide_eq_true (all sl hsl) h.2.1

/-- With one retirement waiting, it alone is taken away, unless the pool floor rejects it. -/
theorem retiredOf_one {on : Bool} {waits : SlotId → Bool} {n : Nat} (h : ∀ x, waits x = true ↔ x = sl)
    (apart : sls.Nodup) (hsl : sl ∈ sls) :
    retiredOf on waits n sls = if on = true ∧ n ≤ 2 then [] else [sl] := by
  induction sls with
  | nil => cases hsl
  | cons y ys ih =>
    obtain ⟨out, apart⟩ := List.nodup_cons.1 apart
    unfold retiredOf
    by_cases e : y = sl
    · subst e
      have rest (m : Nat) : retiredOf on waits m ys = [] :=
        List.eq_nil_iff_forall_not_mem.2 fun x hx => by
          obtain ⟨hx, hw⟩ := retiredOf_subset on waits m ys x hx
          exact out ((h x).1 hw ▸ hx)
      simp only [rest]
      have above : waits y = true ∧ (on = false ∨ 2 < n) ↔ ¬ (on = true ∧ n ≤ 2) := by
        rw [(h y).2 rfl]
        cases on <;> simp
      by_cases floor : on = true ∧ n ≤ 2
      · rw [if_pos floor, if_neg fun k => above.1 k floor]
      · rw [if_neg floor, if_pos (above.2 floor)]
    · rw [if_neg fun k => e ((h y).1 k.1)]
      exact ih apart ((List.mem_cons.1 hsl).resolve_left fun k => e k.symm)

theorem note_of_retire (op : e.op = .retireSlot sl) (k : NoteKind) :
    e.note k r none (some sl) =
      { kind := k, ring := some r, slot := some sl, tag := some e.seq, detail := 8 } := by
  unfold Change.note
  rw [op]
  rfl

theorem RetirementsApplied.one {on : Bool} (h : RetirementsApplied s t r sls gone) (only : s.OnlyRetires r sl e) (hsl : sl ∈ sls)
    (hgone : gone = if on = true ∧ (s.ring r).pool ≤ 2 then [] else [sl])
    (hfloor : floor ↔ on = true ∧ (s.ring r).pool ≤ 2)
    (left : t.changes.entries = []) : RetirementApplied s t r sl e floor := by
  have note : s.retireNote r gone sl =
      some (e.note (if sl ∈ gone then .changeApplied else .changeRejected) r none (some sl)) := by
    refine retireNote_of_waiting ?_ gone
    unfold State.waitingRetirement
    rw [only.1, List.find?_cons_of_pos (by rw [only.2.1]; simp)]
  have waits : s.retires sl = true := only.retires.2 rfl
  have raised := h.notes sl hsl _ note
  refine ⟨left, fun k => ?_, fun k => ?_⟩
  · rw [if_pos (hfloor.1 k)] at hgone
    subst hgone
    obtain ⟨home, pending⟩ := h.stays sl hsl (by simp)
    rw [if_neg (by simp), note_of_retire only.2.1] at raised
    exact ⟨home, pending waits, h.pool, raised⟩
  · rw [if_neg fun m => k (hfloor.2 m)] at hgone
    subst hgone
    obtain ⟨slot, out⟩ := h.retired sl (by simp)
    rw [if_pos (by simp), note_of_retire only.2.1] at raised
    exact ⟨slot, out, h.pool, raised⟩

end

end Sys2Proof.Machine
end

section
/-! PROOFS: RETIRE_SLOT entries whose slots RELEASE frees (R111 to R113, R154; for O31). -/

namespace Sys2Proof.Machine

section
variable {s t u v w : State} {r q : RingId} {sl x y z : SlotId} {e : Change} {sls gone : List SlotId} {n : Nat}

/-- The placement law after one event (O55). -/
theorem State.Placed.exec {i : Instr} (hp : s.Placed) (h : exec i s = .next t) : t.Placed :=
  placementIsKept { s with pending := i :: s.pending } t (hp.congr rfl rfl rfl) h

theorem raiseAll_apertures (s : State) (ns : List Note) : (s.raiseAll ns).apertures = s.apertures := by
  induction ns generalizing s with
  | nil => rfl
  | cons n ns ih => exact ih (s.raise n)

theorem Onward.of_pushes {ns : List Note} (notes : t.notes = ns.foldl NoteQueue.push s.notes)
    (aps : t.apertures = s.apertures) : Onward s t :=
  (raiseAll_onward s ns).trans 
    (.congr (notes.trans (raiseAll_notes s ns).symm) (aps.trans (raiseAll_apertures s ns).symm))

/-! ### RELEASE of one held slot (R110) -/

/-- The first of the waiting entries that names a slot is its retirement. -/
theorem waitingRetirement_split {before after : List Change} (h : s.changes.entries = before ++ e :: after)
    (op : e.op = .retireSlot sl) (first : ∀ x ∈ before, x.op ≠ .retireSlot sl) :
    s.waitingRetirement sl = some e := by
  unfold State.waitingRetirement
  rw [h, List.find?_append, List.find?_eq_none.2 fun x hx => by simp [first x hx], Option.none_or,
    List.find?_cons_of_pos (by simp [op])]

/-- A held slot goes free at the pool floor: the retirement that waits on it is rejected (R154). -/
theorem releaseHeld_rejected {h : Home} (home : (s.slot sl).home = some h) (waits : s.waitingRetirement sl = some e)
    (floor : (s.ring h.ring).on = true ∧ (s.ring h.ring).pool ≤ 2) :
    s.releaseHeld h.ring sl =
      { (s.setRing h.ring { s.ring h.ring with
            held := (s.ring h.ring).held.erase sl, free := (s.ring h.ring).free ++ [sl] }).setSlot sl
            { (s.slot sl).freed with retirePending := false } with
        changes := { s.changes with entries := s.changes.entries.erase e }
        notes := s.notes.push (e.note .changeRejected h.ring none (some sl)) } := by
  have op := (waitingRetirement_some waits).2
  have same := setSlot_setSlot (s.setRing h.ring { s.ring h.ring with
    held := (s.ring h.ring).held.erase sl, free := (s.ring h.ring).free ++ [sl] }) sl (s.slot sl).freed
    { (s.slot sl).freed with retirePending := false }
  have slot : (s.freeHeld h.ring sl).slot sl = (s.slot sl).freed := by rw [freeHeld_slot, if_pos rfl]
  have homeV : ((s.freeHeld h.ring sl).slot sl).home = some h := by rw [slot]; exact home
  have note := changeNote_retire (s := s.freeHeld h.ring sl) (r := h.ring) op (by rw [homeV]; rfl) .changeRejected
  have ring : (s.freeHeld h.ring sl).ring h.ring =
      { s.ring h.ring with held := (s.ring h.ring).held.erase sl, free := (s.ring h.ring).free ++ [sl] } := by
    rw [freeHeld_eq, setSlot_ring, setRing_ring_self]
  rcases applyRetirement_cases (s.freeHeld h.ring sl) sl with ⟨no, -⟩ | ⟨i, found, -, k⟩ | ⟨i, found, above, -⟩
  · exact absurd (waits.symm.trans no) nofun
  · obtain rfl : e = i := Option.some.inj (waits.symm.trans found)
    rw [State.releaseHeld, k, note, slot, freeHeld_eq]
    exact congrArg (fun u : State => { u with
      changes := { s.changes with entries := s.changes.entries.erase e }
      notes := s.notes.push (e.note .changeRejected h.ring none (some sl)) }) same
  · refine absurd ?_ (above h homeV)
    rw [ring]
    exact floor

/-- Above the pool floor the freed slot is retired (R23, R154). -/
theorem releaseHeld_retired {h : Home} (home : (s.slot sl).home = some h) (waits : s.waitingRetirement sl = some e)
    (fresh : sl ∉ (s.ring h.ring).free) (above : ¬ ((s.ring h.ring).on = true ∧ (s.ring h.ring).pool ≤ 2)) :
    s.releaseHeld h.ring sl =
      { (s.setRing h.ring { s.ring h.ring with
            held := (s.ring h.ring).held.erase sl, pool := (s.ring h.ring).pool - 1 }).setSlot sl
            Slot.retiredRecord with
        changes := { s.changes with entries := s.changes.entries.erase e }
        notes := s.notes.push (e.note .changeApplied h.ring none (some sl)) } := by
  have op := (waitingRetirement_some waits).2
  have slot : (s.freeHeld h.ring sl).slot sl = (s.slot sl).freed := by rw [freeHeld_slot, if_pos rfl]
  have homeV : ((s.freeHeld h.ring sl).slot sl).home = some h := by rw [slot]; exact home
  have note := changeNote_retire (s := s.freeHeld h.ring sl) (r := h.ring) op (by rw [homeV]; rfl) .changeApplied
  have ring : (s.freeHeld h.ring sl).ring h.ring =
      { s.ring h.ring with held := (s.ring h.ring).held.erase sl, free := (s.ring h.ring).free ++ [sl] } := by
    rw [freeHeld_eq, setSlot_ring, setRing_ring_self]
  rcases applyRetirement_cases (s.freeHeld h.ring sl) sl with ⟨no, -⟩ | ⟨i, found, ⟨g, hg, floor⟩, -⟩ | ⟨i, found, -, k⟩
  · exact absurd (waits.symm.trans no) nofun
  · obtain rfl : h = g := Option.some.inj (homeV.symm.trans hg)
    rw [ring] at floor
    exact absurd floor above
  · obtain rfl : e = i := Option.some.inj (waits.symm.trans found)
    have retired := retire_of_home (s := ((s.freeHeld h.ring sl).removeChange e).setSlot sl
      { (s.slot sl).freed with retirePending := false }) (sl := sl) (h := h) (by rw [setSlot_slot_self]; exact home)
    have free : ((s.ring h.ring).free ++ [sl]).erase sl = (s.ring h.ring).free := by
      rw [List.erase_append_right _ fresh, List.erase_cons_head, List.append_nil]
    rw [State.releaseHeld, k, note, slot, retired, setSlot_ring, removeChange_ring, ring, free, freeHeld_eq]
    have rings := congrArg State.rings (setRing_setRing s h.ring
      { s.ring h.ring with held := (s.ring h.ring).held.erase sl, free := (s.ring h.ring).free ++ [sl] }
      { s.ring h.ring with held := (s.ring h.ring).held.erase sl, pool := (s.ring h.ring).pool - 1 })
    have first := setSlot_setSlot s sl (s.slot sl).freed { (s.slot sl).freed with retirePending := false }
    have slots := congrArg State.slots ((congrArg (fun u : State => u.setSlot sl Slot.retiredRecord) first).trans
      (setSlot_setSlot s sl _ Slot.retiredRecord))
    exact congrArg₂ (fun R S => { s with
      rings := R, slots := S, changes := { s.changes with entries := s.changes.entries.erase e }
      notes := s.notes.push (e.note .changeApplied h.ring none (some sl)) }) rings slots

theorem releaseOldest_of_head (h : (s.ring r).held.head? = some sl) (jobs : (s.slot sl).jobs = 0) :
    releaseOldest s r = (s.releaseHeld r sl).doneWith [1] := by
  obtain ⟨rest, held⟩ := List.head?_eq_some_iff.1 h
  simp only [releaseOldest, held, jobs, if_true]

/-- RELEASE of one held slot, by either selector, goes by what its freeing leaves. -/
theorem exec_release_one {args : List Word} {f sel : Word} (h : s.link.phase = .request) (hargs : args = [idWord r, sel, f])
    (which : sel = 0 ∧ (s.ring r).held.head? = some sl ∨
      sel = 1 ∧ f ≠ 0 ∧ (s.ring r).held.find? (fun x => decide ((s.slot x).frame = some f.toNat)) = some sl)
    (jobs : (s.slot sl).jobs = 0) :
    exec (.release (requestFor 0x23 args)) s = .next ((s.releaseHeld r sl).answered 0x23 args .done [1]) := by
  subst hargs
  have hu : Unlinked fun s => s.releaseHeld r sl := fun s l z => outside_applyRetirement (s.freeHeld r sl) l z sl
  rcases which with ⟨rfl, head⟩ | ⟨rfl, hf, found⟩
  · exact congrArg Host.Outcome.next (takeCommand_unlinked_words hu h (by simp) (argsRelease_oldest r f)
      fun bs => releaseOldest_of_head (s := s.received bs) head jobs)
  · have pos : f.toNat ≠ 0 := fun k => hf (BitVec.eq_of_toNat_eq k)
    rw [← heldWith_of_pos pos] at found
    have parsed : argsRelease [idWord r, 1, f] = some (r, .frame f.toNat) := by
      simp [argsRelease, readFin_idWord r]
    exact congrArg Host.Outcome.next (takeCommand_unlinked_words hu h (by simp) parsed
      fun bs => releaseFrame_of_held (s := s.received bs) found jobs)

/-! ### RELEASE ALL (R113) -/

theorem frees_home_of_list (hp : s.Placed) (hx : x ∈ (s.ring r).lists) : (s.slot x).home.map (·.ring) = some r :=
  hp.listed r x hx

/-- A free list joined by other slots of the ring names no slot twice. -/
theorem free_append_nodup (hp : s.Placed) (apart : sls.Nodup) (out : ∀ x ∈ sls, x ∉ (s.ring r).free) :
    ((s.ring r).free ++ sls).Nodup :=
  List.nodup_append'.2 ⟨hp.free_nodup r, apart, fun x hf hs => out x hs hf⟩

theorem idleHeld_frees (hp : s.Placed) (r : RingId) :
    Frees s ((s.idleHeld r).foldl (fun t x => t.freeHeld r x) s) r (s.idleHeld r) := by
  have held (x : SlotId) (hx : x ∈ s.idleHeld r) : x ∈ (s.ring r).held := (List.mem_filter.1 hx).1
  have frame := foldl_freeHeld_frame s r (s.idleHeld r)
  have apart : (s.idleHeld r).Nodup := (hp.held_nodup r).filter _
  refine ⟨fun x => ?_, ?_, (congrArg State.changes frame :), ?_, fun x hx => ?_, apart, ?_⟩
  · rw [foldl_freeHeld_slot]; split <;> rfl
  · rw [foldl_freeHeld_ring_self]
  · exact .congr (congrArg State.notes frame :) (congrArg State.apertures frame :)
  · exact hp.listed r x (Ring.mem_lists.2 (.inr (.inr (held x hx))))
  · rw [foldl_freeHeld_ring_self]
    exact free_append_nodup hp apart fun x hx hf => hp.free_not_held hf r (held x hx)

/-- RELEASE ALL, before its answer. -/
def State.releasedAll (s : State) (r : RingId) : State :=
  ((s.idleHeld r).foldl (fun t x => t.freeHeld r x) s).applyRetirements (s.idleHeld r)

theorem unlinked_releasedAll (r : RingId) : Unlinked fun s => s.releasedAll r := by
  intro s l z
  have freed := foldl_outside s l z (f := fun u x => u.freeHeld r x) (fun _ _ => rfl) (s.idleHeld r)
  unfold State.releasedAll
  show State.applyRetirements ((s.idleHeld r).foldl _ (s.outside l z)) (s.idleHeld r) = _
  rw [freed]
  exact outside_applyRetirements _ l z _

theorem releasedAll_retirements (hp : s.Placed) (once : s.RetiresOnce) (r : RingId) :
    Retirements ((s.idleHeld r).foldl (fun t x => t.freeHeld r x) s) (s.releasedAll r) r (s.idleHeld r)
      (retiredOf (s.ring r).on s.retires (s.ring r).pool (s.idleHeld r)) := by
  have k := (idleHeld_frees hp r).retirements once
  rw [foldl_freeHeld_ring_self] at k
  exact k

theorem exec_releaseAll (h : s.link.phase = .request) (held : (s.ring r).held ≠ []) (f : Word) :
    exec (.release (requestFor 0x23 [idWord r, 2, f])) s =
      .next ((s.releasedAll r).answered 0x23 [idWord r, 2, f] .done
        [numWord (s.idleHeld r).length, numWord (s.busyHeld r).length]) := by
  refine congrArg Host.Outcome.next (takeCommand_unlinked_words (unlinked_releasedAll r) h (by simp)
    (argsRelease_all r f) fun bs => (releaseAll_eq (s.received bs) r held).trans ?_)
  rw [← length_held_sub_idleHeld]
  rfl

/-- The free list that a run of freed slots has joined, once those of `gone` have left it. -/
theorem free_filter_append {gone l : List SlotId} (inside : ∀ x ∈ gone, x ∈ sls) (out : ∀ x ∈ sls, x ∉ l) :
    (l ++ sls).filter (fun x => decide (x ∉ gone)) = l ++ sls.filter fun x => decide (x ∉ gone) := by
  have all : l.filter (fun x => decide (x ∉ gone)) = l :=
    List.filter_eq_self.2 fun x hx => decide_eq_true fun k => out x (inside x k) hx
  rw [List.filter_append, all]

theorem free_filter_append_right {gone l more : List SlotId} (out : ∀ x ∈ more, x ∉ gone) :
    (l ++ more).filter (fun x => decide (x ∉ gone)) = l.filter (fun x => decide (x ∉ gone)) ++ more := by
  have all : more.filter (fun x => decide (x ∉ gone)) = more :=
    List.filter_eq_self.2 fun x hx => decide_eq_true (out x hx)
  rw [List.filter_append, all]

end

theorem retireNote_congr {s t : State} (h : t.changes = s.changes) : t.retireNote = s.retireNote := by
  funext r gone x
  unfold State.retireNote
  rw [h]

/-- What RELEASE ALL leaves, with the retirements it brings about (R113, R154). -/
theorem releaseAll_retires (s : State) (r : RingId) (f : Word) (idle busy gone : List SlotId)
    (h : s.link.phase = .request) (hp : s.Placed) (once : s.RetiresOnce) (hne : (s.ring r).held ≠ [])
    (hidle : idle = s.idleHeld r) (hbusy : busy = s.busyHeld r)
    (hgone : gone = retiredOf (s.ring r).on s.retires (s.ring r).pool idle) :
    ∃ t, exec (.release (requestFor 0x23 [idWord r, 2, f])) s = .next t ∧
      t.answers .done [numWord idle.length, numWord busy.length] ∧
      t.ring r =
        { s.ring r with
          held := busy, free := (s.ring r).free ++ idle.filter fun x => decide (x ∉ gone)
          pool := (s.ring r).pool - gone.length } ∧
      (∀ q, q ≠ r → t.ring q = s.ring q) ∧
      (∀ x, t.slot x =
        if x ∈ gone then Slot.retiredRecord
        else if x ∈ idle then
          { (s.slot x).cleared with
            retirePending := if s.retires x then false else (s.slot x).retirePending }
        else s.slot x) ∧
      t.changes = { s.changes with entries := s.withoutRetirements idle } ∧
      t.notes = (idle.filterMap (s.retireNote r gone)).foldl NoteQueue.push s.notes ∧
      { t with
        link := s.link, rings := s.rings, slots := s.slots, changes := s.changes
        notes := s.notes } = s := by
  subst hidle hbusy hgone
  have k := releasedAll_retirements hp once r
  have frame := foldl_freeHeld_frame s r (s.idleHeld r)
  have changes : ((s.idleHeld r).foldl (fun t x => t.freeHeld r x) s).changes = s.changes :=
    (congrArg State.changes frame :)
  have held (x : SlotId) (hx : x ∈ s.idleHeld r) : x ∉ (s.ring r).free := fun hf =>
    hp.free_not_held hf r (List.mem_filter.1 hx).1
  refine ⟨_, exec_releaseAll h hne f, answered_answers .., ?_, fun q hq => ?_, fun x => ?_, ?_, ?_, ?_⟩
  · rw [answered_ring, k.ring, foldl_freeHeld_ring_self, held_diff_idleHeld (hp.held_nodup r),
      free_filter_append k.taken held]
  · rw [answered_ring, k.rings q hq, foldl_freeHeld_ring_ne s r _ (Ne.symm hq)]
  · rw [answered_slot, k.slot, retires_congr changes, foldl_freeHeld_slot]
    by_cases hx : x ∈ s.idleHeld r
    · simp only [hx, if_true]
      rfl
    · simp only [hx, if_false]
  · rw [answered_changes, k.changes, State.withoutRetirements, State.withoutRetirements, changes]
  · rw [answered_notes, k.notes, retireNote_congr changes]
    exact congrArg (((s.idleHeld r).filterMap (s.retireNote r _)).foldl NoteQueue.push) (congrArg State.notes frame :)
  · generalize (s.idleHeld r).foldl (fun t x => t.freeHeld r x) s = v at *
    generalize s.releasedAll r = w at *
    exact (congrArg (fun u : State => { u with
      link := s.link, rings := s.rings, slots := s.slots, changes := s.changes, notes := s.notes }) k.frame :).trans
      (congrArg (fun u : State => { u with link := s.link, changes := s.changes, notes := s.notes }) frame :)

end Sys2Proof.Machine
end

section
/-! PROOFS: RETIRE_SLOT entries whose slots RING_OFF, RING_FLUSH with keep_held, and the reclamation of an
unretained READY slot free (R18, R19, R112, R154; for O31). -/

namespace Sys2Proof.Machine

section
variable {s t u v w : State} {r q : RingId} {sl x y z : SlotId} {e : Change} {sls gone : List SlotId} {n : Nat}
  {floor : Prop}

/-! ### READY slots that all leave (R18, R19) -/

theorem loose_out (hp : s.Placed) (hx : x ∈ s.looseOf (s.ring r).ready) : x ∉ (s.ring r).free := fun hf =>
  hp.free_not_ready hf r (List.mem_filter.1 hx).1

theorem dropAll_frees (hp : s.Placed) (r : RingId) :
    Frees s (s.dropAll r (s.ring r).ready) r (s.looseOf (s.ring r).ready) := by
  have apart : (s.looseOf (s.ring r).ready).Nodup := (hp.ready_nodup r).filter _
  refine ⟨fun x => ?_, ?_, dropAll_changes .., dropAll_onward .., fun x hx => ?_, apart, ?_⟩
  · rw [dropAll_slot]; split <;> rfl
  · rw [dropAll_ring_self]
  · exact hp.home_of_ready (List.mem_filter.1 hx).1
  · rw [dropAll_ring_self]
    exact free_append_nodup hp apart fun x hx => loose_out hp hx

theorem Frees.of_eq (f : Frees s v r sls) (slots : w.slots = v.slots) (ring : w.ring r = { v.ring r with on := (w.ring r).on })
    (changes : w.changes = v.changes) (onward : Onward v w) : Frees s w r sls := by
  refine ⟨fun x => ?_, ?_, changes.trans f.changes, f.onward.trans onward, f.own, f.apart, ?_⟩
  · rw [State.slot, slots]; exact f.homes x
  · rw [ring]; exact f.pool
  · rw [ring]; exact f.nodup

theorem Frees.after (f : Frees u v r sls) (homes : ∀ x, (u.slot x).home = (s.slot x).home)
    (pool : (u.ring r).pool = (s.ring r).pool) (changes : u.changes = s.changes) (onward : Onward s u) :
    Frees s v r sls :=
  ⟨fun x => (f.homes x).trans (homes x), f.pool.trans pool, f.changes.trans changes, onward.trans f.onward,
    fun x hx => homes x ▸ f.own x hx, f.apart, f.nodup⟩

/-! ### RING_OFF (R18) -/

/-- RING_OFF before the waiting retirements apply. -/
def State.ringStopped (s : State) (r : RingId) : State :=
  ((s.dropAll r (s.ring r).ready).stopSchedule r).setRing r
    { ((s.dropAll r (s.ring r).ready).stopSchedule r).ring r with on := false }

theorem ringOff_eq_stopped (s : State) (r : RingId) :
    s.ringOff r = (s.ringStopped r).applyRetirements (s.looseOf (s.ring r).ready) := rfl

theorem stopSchedule_onward (s : State) (r : RingId) : Onward s (s.stopSchedule r) :=
  .of_pushes (stopSchedule_notes s r) (congrArg State.apertures (stopSchedule_frame s r) :)

theorem ringStopped_frees (hp : s.Placed) (r : RingId) : Frees s (s.ringStopped r) r (s.looseOf (s.ring r).ready) := by
  have stop := stopSchedule_frame (s.dropAll r (s.ring r).ready) r
  refine (dropAll_frees hp r).of_eq (congrArg State.slots stop :) ?_ (congrArg State.changes stop :)
    ((stopSchedule_onward _ r).trans (.congr rfl rfl))
  unfold State.ringStopped
  rw [setRing_ring_self, stopSchedule_ring]

theorem ringOff_retirements (hp : s.Placed) (once : s.RetiresOnce) (r : RingId) :
    Retirements (s.ringStopped r) (s.ringOff r) r (s.looseOf (s.ring r).ready)
      ((s.looseOf (s.ring r).ready).filter s.retires) := by
  have k := (ringStopped_frees hp r).retirements once
  have off : ((s.ringStopped r).ring r).on = false := by rw [State.ringStopped, setRing_ring_self]
  rw [off, retiredOf_off] at k
  exact k

theorem Frees.changes_after (f : Frees s v r sls) (k : Retirements v w r sls gone) :
    w.changes = { s.changes with entries := s.withoutRetirements sls } := by
  rw [k.changes, State.withoutRetirements, State.withoutRetirements, f.changes]

theorem answered_retired (f : Frees s v r sls) (k : Retirements v w r sls gone) {code : Byte} {args : List Word}
    {status : Status} {words : List Word} (hp : State.Placed (w.answered code args status words)) :
    RetirementsApplied s (w.answered code args status words) r sls gone :=
  f.applied k (.of_eq rfl rfl rfl (.congr rfl rfl)) hp

theorem ringOff_retires (h : s.link.phase = .request) (hp : s.Placed) (once : s.RetiresOnce) (on : (s.ring r).on = true)
    (hoff : ∀ a c, s.apOn a = true → (s.ap a).config = some c → c.ring ≠ r) :
    ∃ t, exec (.ringOff (requestFor 0x0A [idWord r])) s = .next t ∧ t.answers .done [] ∧
      (t.ring r).on = false ∧
      t.changes = { s.changes with entries := s.withoutRetirements (s.looseOf (s.ring r).ready) } ∧
      RetirementsApplied s t r (s.looseOf (s.ring r).ready) ((s.looseOf (s.ring r).ready).filter s.retires) := by
  have done := exec_ringOff_of_on h on hoff
  have f := ringStopped_frees hp r
  have k := ringOff_retirements hp once r
  refine ⟨_, done, answered_answers .., ?_, (f.changes_after k :), answered_retired f k (hp.exec done)⟩
  rw [answered_ring, k.ring, State.ringStopped, setRing_ring_self]

/-! ### RING_FLUSH with keep_held (R19) -/

theorem releaseConsumers_onward (s : State) (r : RingId) : Onward s (s.releaseConsumers r) := by
  obtain ⟨u, m⟩ := releaseConsumers_moves (g := .rest) s.obeys_event r
  exact m.onward trivial

theorem releaseConsumers_home (s : State) (r : RingId) (x : SlotId) :
    ((s.releaseConsumers r).slot x).home = (s.slot x).home := by
  rw [(releaseConsumers_released s r).fields]

theorem releaseConsumers_placed (hp : s.Placed) (r : RingId) : (s.releaseConsumers r).Placed := by
  obtain ⟨u, m⟩ := releaseConsumers_moves (g := .rest) hp.obeys r
  exact hp.moves m

theorem releaseConsumers_loose (s : State) (r : RingId) (l : List SlotId) :
    (s.releaseConsumers r).looseOf l = s.looseOf l := by
  unfold State.looseOf
  refine List.filter_congr fun x _ => ?_
  rw [(releaseConsumers_released s r).fields]

theorem flushKept_frees (hp : s.Placed) (r : RingId) :
    Frees s ((s.releaseConsumers r).dropAll r (s.ring r).ready) r (s.looseOf (s.ring r).ready) := by
  have f := dropAll_frees (releaseConsumers_placed hp r) r
  rw [releaseConsumers_ring, releaseConsumers_loose] at f
  exact f.after (releaseConsumers_home s r) (by rw [releaseConsumers_ring]) (releaseConsumers_books s r).1
    (releaseConsumers_onward s r)

theorem flushKept_retirements (hp : s.Placed) (once : s.RetiresOnce) (r : RingId) :
    Retirements ((s.releaseConsumers r).dropAll r (s.ring r).ready) (s.flushKept r) r
      (s.looseOf (s.ring r).ready)
      (retiredOf (s.ring r).on s.retires (s.ring r).pool (s.looseOf (s.ring r).ready)) := by
  have k := (flushKept_frees hp r).retirements once
  rw [dropAll_ring_self, releaseConsumers_ring] at k
  unfold State.flushKept
  rw [flushReady_eq_keep, releaseConsumers_ring, releaseConsumers_loose]
  exact k

theorem flushKept_retires (h : s.link.phase = .request) (hp : s.Placed) (once : s.RetiresOnce)
    (hgone : gone = retiredOf (s.ring r).on s.retires (s.ring r).pool (s.looseOf (s.ring r).ready)) :
    ∃ t, exec (.ringFlush (requestFor 0x0B [idWord r, boolWord true])) s = .next t ∧ t.answers .done [] ∧
      t.changes = { s.changes with entries := s.withoutRetirements (s.looseOf (s.ring r).ready) } ∧
      (t.ring r).free = (s.ring r).free ++ (s.looseOf (s.ring r).ready).filter (fun x => decide (x ∉ gone)) ∧
      RetirementsApplied s t r (s.looseOf (s.ring r).ready) gone := by
  subst hgone
  have done := exec_ringFlush_kept h r
  have f := flushKept_frees hp r
  have k := flushKept_retirements hp once r
  refine ⟨_, done, answered_answers .., (f.changes_after k :), ?_, answered_retired f k (hp.exec done)⟩
  rw [answered_ring, k.ring, dropAll_ring_self, releaseConsumers_ring, releaseConsumers_loose]
  exact free_filter_append k.taken fun x hx => loose_out hp hx

/-! ### One entry -/

/-- With one retirement waiting and its slot among those freed. -/
theorem RetirementsApplied.alone {on : Bool} (h : RetirementsApplied s t r sls gone) (only : s.OnlyRetires r sl e)
    (apart : sls.Nodup) (hsl : sl ∈ sls) (hgone : gone = retiredOf on s.retires (s.ring r).pool sls)
    (hfloor : floor ↔ on = true ∧ (s.ring r).pool ≤ 2)
    (changes : t.changes = { s.changes with entries := s.withoutRetirements sls }) :
    RetirementApplied s t r sl e floor ∧ (floor → sl ∈ sls.filter fun x => decide (x ∉ gone)) := by
  have one := hgone.trans (retiredOf_one (fun x => only.retires) apart hsl)
  refine ⟨h.one only hsl one hfloor ?_, fun k => List.mem_filter.2 ⟨hsl, ?_⟩⟩
  · rw [changes]
    exact only.withoutRetirements hsl
  · rw [one, if_pos (hfloor.1 k)]
    rfl

theorem ringOff_retires_one (h : s.link.phase = .request) (hp : s.Placed) (only : s.OnlyRetires r sl e)
    (ready : sl ∈ (s.ring r).ready) (loose : (s.slot sl).retained = false) (on : (s.ring r).on = true)
    (hoff : ∀ a c, s.apOn a = true → (s.ap a).config = some c → c.ring ≠ r) :
    ∃ t, exec (.ringOff (requestFor 0x0A [idWord r])) s = .next t ∧ t.answers .done [] ∧
      (t.ring r).on = false ∧ RetirementApplied s t r sl e False := by
  obtain ⟨t, done, answers, off, changes, applied⟩ := ringOff_retires h hp only.once on hoff
  have apart := (ringStopped_frees hp r).apart
  have hsl : sl ∈ s.looseOf (s.ring r).ready := List.mem_filter.2 ⟨ready, by simp [loose]⟩
  exact ⟨t, done, answers, off, (applied.alone (on := false) only apart hsl (retiredOf_off ..).symm (by simp) changes).1⟩

theorem flushKept_retires_one (h : s.link.phase = .request) (hp : s.Placed) (only : s.OnlyRetires r sl e)
    (hfloor : floor ↔ (s.ring r).on = true ∧ (s.ring r).pool ≤ 2)
    (ready : sl ∈ (s.ring r).ready) (loose : (s.slot sl).retained = false) :
    ∃ t, exec (.ringFlush (requestFor 0x0B [idWord r, boolWord true])) s = .next t ∧ t.answers .done [] ∧
      RetirementApplied s t r sl e floor ∧ (floor → sl ∈ (t.ring r).free) := by
  obtain ⟨t, done, answers, changes, free, applied⟩ := flushKept_retires h hp only.once rfl
  have apart := (ringStopped_frees hp r).apart
  have hsl : sl ∈ s.looseOf (s.ring r).ready := List.mem_filter.2 ⟨ready, by simp [loose]⟩
  obtain ⟨one, stays⟩ := applied.alone only apart hsl rfl hfloor changes
  exact ⟨t, done, answers, one, fun k => free ▸ List.mem_append_right _ (stays k)⟩

/-! ### RELEASE FRAME of a READY slot (R112) -/

/-- An unretained READY slot joins the free list. -/
def State.unretained (s : State) (r : RingId) (sl : SlotId) : State :=
  (s.setRing r { s.ring r with ready := (s.ring r).ready.erase sl, free := (s.ring r).free ++ [sl] }).setSlot sl
    (s.slot sl).freed

theorem unlinked_unretained (r : RingId) (sl : SlotId) :
    Unlinked fun s => (s.unretained r sl).applyRetirements [sl] :=
  fun s l z => outside_applyRetirements (s.unretained r sl) l z [sl]

theorem unretained_frees (hp : s.Placed) (ready : sl ∈ (s.ring r).ready) : Frees s (s.unretained r sl) r [sl] := by
  unfold State.unretained
  refine ⟨fun x => ?_, ?_, rfl, .congr rfl rfl, fun x hx => ?_, List.nodup_singleton sl, ?_⟩
  · rw [setSlot_slot]
    split
    · next e => subst e; rfl
    · rfl
  · rw [setSlot_ring, setRing_ring_self]
  · exact List.mem_singleton.1 hx ▸ hp.home_of_ready ready
  · rw [setSlot_ring, setRing_ring_self]
    exact free_append_nodup hp (List.nodup_singleton sl) fun x hx hf =>
      hp.free_not_ready hf r (List.mem_singleton.1 hx ▸ ready)

theorem releaseFrame_retires_one (h : s.link.phase = .request) (hp : s.Placed) (only : s.OnlyRetires r sl e)
    (hfloor : floor ↔ (s.ring r).on = true ∧ (s.ring r).pool ≤ 2) {args : List Word} (hn0 : n ≠ 0) (hn : n ≤ 0xFFFFFFFF)
    (hargs : args = [idWord r, 1, numWord n]) (hnone : ∀ y ∈ (s.ring r).held, (s.slot y).frame ≠ some n)
    (found : (s.ring r).ready.find? (fun y => decide ((s.slot y).frame = some n ∧ (s.slot y).retained = true)) = some sl)
    (meets : s.MeetsReclamation r sl) :
    ∃ t, exec (.release (requestFor 0x23 args)) s = .next t ∧ t.answers .done [0] ∧
      RetirementApplied s t r sl e floor ∧ (floor → sl ∈ (t.ring r).free) := by
  subst hargs
  have ready : sl ∈ (s.ring r).ready := List.mem_of_find?_eq_some found
  have held := heldWith_eq_none hnone
  rw [← retainedReadyWith_of_pos hn0] at found
  have done : exec (.release (requestFor 0x23 [idWord r, 1, numWord n])) s =
      .next (((s.unretained r sl).applyRetirements [sl]).answered 0x23 [idWord r, 1, numWord n] .done [0]) := by
    refine congrArg Host.Outcome.next (takeCommand_unlinked_words (unlinked_unretained r sl) h (by simp)
      (argsRelease_frame r hn) fun bs => (releaseFrame_of_ready (s := s.received bs) held found).trans ?_)
    rw [unretain_reclaimed (s := s.received bs) (hp.congr rfl rfl rfl) ready meets]
    rfl
  have f := unretained_frees hp ready
  have k := f.retirements only.once
  have on : ((s.unretained r sl).ring r).on = (s.ring r).on := by
    rw [State.unretained, setSlot_ring, setRing_ring_self]
  rw [on] at k
  obtain ⟨one, stays⟩ := (answered_retired f k (hp.exec done)).alone only f.apart (List.mem_singleton.2 rfl) rfl hfloor
    (f.changes_after k :)
  refine ⟨_, done, answered_answers .., one, fun floored => ?_⟩
  rw [answered_ring, k.ring, State.unretained, setSlot_ring, setRing_ring_self, List.filter_append]
  exact List.mem_append_right _ (stays floored)

end

end Sys2Proof.Machine
end

section
/-! PROOFS: one retirement while an event goes on (R154; for O31, O32): it waits, then it applies as its slot
goes free, and nothing that follows disturbs what it left. -/

namespace Sys2Proof.Machine

section
variable {s t u v w : State} {r q : RingId} {sl x y z : SlotId} {e : Change} {sls gone : List SlotId} {n : Nat}
  {floor : Prop} {j : Job} {k : NoteKind} {d : Nat}

/-- The retirement of a slot waits on, and what decides it is as at the start of the event. -/
structure StillWaits (s u : State) (r : RingId) (sl : SlotId) : Prop where
  changes : u.changes = s.changes
  home    : (u.slot sl).home = (s.slot sl).home
  pool    : (u.ring r).pool = (s.ring r).pool
  on      : (u.ring r).on = (s.ring r).on
  onward  : Onward s u

/-- A note has been raised during an event. -/
def RaisedOnTheWay (s u : State) (n : Note) : Prop := ∃ v, Onward s v ∧ Onward (v.raise n) u

/-- The retirement of a slot has applied in the event: rejected at the pool floor, and otherwise carried out. -/
structure HasApplied (s u : State) (r : RingId) (sl : SlotId) (e : Change) (floor : Prop) : Prop where
  left     : u.changes.entries = []
  rejected : floor →
    (u.slot sl).home = (s.slot sl).home ∧ (u.slot sl).retirePending = false ∧
      (u.ring r).pool = (s.ring r).pool ∧ sl ∈ (u.ring r).free ∧
      RaisedOnTheWay s u
        { kind := .changeRejected, ring := some r, slot := some sl, tag := some e.seq, detail := 8 }
  retired  : ¬ floor →
    u.slot sl = Slot.retiredRecord ∧ (u.ring r).pool = (s.ring r).pool - 1 ∧
      RaisedOnTheWay s u
        { kind := .changeApplied, ring := some r, slot := some sl, tag := some e.seq, detail := 8 }

/-- A record may become another without disturbing a retirement. -/
def Slot.Undisturbed (p q : Slot) : Prop :=
  q.home = p.home ∧ q.retirePending = p.retirePending ∧ (p = Slot.retiredRecord → q = Slot.retiredRecord)

/-- A part of an event that leaves a retirement, waiting or applied, as it is. -/
structure Undisturbed (u v : State) (r : RingId) (sl : SlotId) : Prop where
  changes : v.changes = u.changes
  slot    : (u.slot sl).Undisturbed (v.slot sl)
  pool    : (v.ring r).pool = (u.ring r).pool
  on      : (v.ring r).on = (u.ring r).on
  free    : sl ∈ (u.ring r).free → sl ∈ (v.ring r).free
  onward  : Onward u v

theorem Undisturbed.trans (h : Undisturbed u v r sl) (k : Undisturbed v w r sl) : Undisturbed u w r sl := by
  obtain ⟨home, pending, retired⟩ := h.slot
  obtain ⟨home', pending', retired'⟩ := k.slot
  exact ⟨k.changes.trans h.changes, ⟨home'.trans home, pending'.trans pending, retired' ∘ retired⟩, k.pool.trans h.pool,
    k.on.trans h.on, k.free ∘ h.free, h.onward.trans k.onward⟩

theorem Undisturbed.of_eq (slots : v.slots = u.slots) (rings : v.rings = u.rings) (changes : v.changes = u.changes)
    (onward : Onward u v) : Undisturbed u v r sl := by
  have slot (x : SlotId) : v.slot x = u.slot x := by unfold State.slot; rw [slots]
  have ring (q : RingId) : v.ring q = u.ring q := by unfold State.ring; rw [rings]
  exact ⟨changes, by rw [slot]; exact ⟨rfl, rfl, id⟩, by rw [ring], by rw [ring], by rw [ring]; exact id, onward⟩

theorem Undisturbed.raise (u : State) (n : Note) : Undisturbed u (u.raise n) r sl := .of_eq rfl rfl rfl (.raise u n)

theorem Undisturbed.setSlot (x : SlotId) {p : Slot} (h : (u.slot x).Undisturbed p) :
    Undisturbed u (u.setSlot x p) r sl := by
  refine ⟨rfl, ?_, rfl, rfl, id, .congr rfl rfl⟩
  rw [setSlot_slot]
  split
  · next e => subst e; exact h
  · exact ⟨rfl, rfl, id⟩

theorem Undisturbed.joinFree (q : RingId) (held : List SlotId) (more : List SlotId) :
    Undisturbed u (u.setRing q { u.ring q with held := held, free := (u.ring q).free ++ more }) r sl := by
  refine ⟨rfl, ⟨rfl, rfl, id⟩, ?_, ?_, ?_, .congr rfl rfl⟩ <;> rw [setRing_ring] <;> split
  · next e => subst e; rfl
  · rfl
  · next e => subst e; rfl
  · rfl
  · next e => subst e; exact List.mem_append_left _
  · exact id

theorem Undisturbed.freeHeld (u : State) (q : RingId) (x : SlotId) : Undisturbed u (u.freeHeld q x) r sl := by
  rw [freeHeld_eq]
  exact (Undisturbed.joinFree q _ [x]).trans (.setSlot x ⟨rfl, rfl, fun e => by rw [setRing_slot] at e; rw [e]; rfl⟩)

theorem Undisturbed.jobGone (u : State) (j : Job) :
    Undisturbed u (u.jobGone j (u.slot j.slot).releaseRequested) r sl :=
  .setSlot j.slot ⟨rfl, rfl, fun e => by rw [e]; rfl⟩

theorem Undisturbed.jobFreed (u : State) (j : Job) :
    Undisturbed u (u.jobFreed j) r sl := by
  unfold State.jobFreed
  refine (Undisturbed.joinFree j.ring _ [j.slot]).trans (.setSlot j.slot ⟨rfl, rfl, fun e => ?_⟩)
  rw [setRing_slot] at e
  rw [e]
  rfl

theorem StillWaits.refl (s : State) (r : RingId) (sl : SlotId) : StillWaits s s r sl := ⟨rfl, rfl, rfl, rfl, .refl s⟩

theorem StillWaits.step (h : StillWaits s u r sl) (k : Undisturbed u v r sl) : StillWaits s v r sl :=
  ⟨k.changes.trans h.changes, k.slot.1.trans h.home, k.pool.trans h.pool, k.on.trans h.on, h.onward.trans k.onward⟩

theorem RaisedOnTheWay.onward {n : Note} (h : RaisedOnTheWay s u n) (k : Onward u v) : RaisedOnTheWay s v n := by
  obtain ⟨w, before, after⟩ := h
  exact ⟨w, before, after.trans k⟩

theorem HasApplied.step (h : HasApplied s u r sl e floor) (k : Undisturbed u v r sl) : HasApplied s v r sl e floor := by
  obtain ⟨home, pending, retired⟩ := k.slot
  refine ⟨by rw [k.changes]; exact h.left, fun f => ?_, fun f => ?_⟩
  · obtain ⟨home', pending', pool, free, noted⟩ := h.rejected f
    exact ⟨home.trans home', pending.trans pending', k.pool.trans pool, k.free free, noted.onward k.onward⟩
  · obtain ⟨slot, pool, noted⟩ := h.retired f
    exact ⟨retired slot, k.pool.trans pool, noted.onward k.onward⟩

/-- With nothing waiting, no slot has a retirement to apply. -/
theorem applyRetirements_of_empty (h : u.changes.entries = []) (sls : List SlotId) : u.applyRetirements sls = u := by
  refine applyRetirements_of_noRetirements (fun e he => ?_) sls
  rw [h] at he
  cases he

theorem HasApplied.applied (h : HasApplied s u r sl e floor) (hp : u.Placed) :
    RetirementApplied s u r sl e floor ∧ (floor → sl ∈ (u.ring r).free) := by
  refine ⟨⟨h.left, fun f => ?_, fun f => ?_⟩, fun f => (h.rejected f).2.2.2.1⟩
  · obtain ⟨home, pending, pool, -, v, before, after⟩ := h.rejected f
    exact ⟨home, pending, pool, before.raised after⟩
  · obtain ⟨slot, pool, v, before, after⟩ := h.retired f
    exact ⟨slot, hp.nowhere (by rw [slot]; rfl), pool, before.raised after⟩

section
variable (only : s.OnlyRetires r sl e) (hfloor : floor ↔ (s.ring r).on = true ∧ (s.ring r).pool ≤ 2)
include only

theorem StillWaits.waiting (h : StillWaits s u r sl) (x : SlotId) :
    u.waitingRetirement x = if x = sl then some e else none := by
  obtain ⟨entries, op, -⟩ := only
  unfold State.waitingRetirement
  rw [h.changes, entries, List.find?_cons, List.find?_nil, op]
  by_cases hx : x = sl
  · subst hx; simp
  · simp [hx, Ne.symm hx]

theorem StillWaits.apply_other (h : StillWaits s u r sl) (hx : x ≠ sl) : u.applyRetirement x = u :=
  applyRetirement_of_none u (by rw [h.waiting only, if_neg hx])

include hfloor

/-- The moment at which the retirement applies (R154). -/
theorem StillWaits.apply (h : StillWaits s u r sl) (free : sl ∈ (u.ring r).free) :
    HasApplied s (u.applyRetirement sl) r sl e floor := by
  obtain ⟨g, home, hr⟩ := Option.map_eq_some_iff.1 only.2.2
  have waits := h.waiting only sl
  rw [if_pos rfl] at waits
  have homeU : (u.slot sl).home = some g := h.home.trans home
  have left : (u.removeChange e).changes.entries = [] := by
    rw [removeChange_entries, h.changes, only.1, List.erase_cons_head]
  have note (k : NoteKind) : u.changeNote k e =
      { kind := k, ring := some r, slot := some sl, tag := some e.seq, detail := 8 } := by
    rw [changeNote_retire (r := r) only.2.1 (by rw [homeU, ← hr]; rfl), note_of_retire only.2.1]
  subst hr
  rcases applyRetirement_cases u sl with ⟨no, -⟩ | ⟨i, found, ⟨k, hk, bottom⟩, eq⟩ | ⟨i, found, above, eq⟩
  · exact absurd (waits.symm.trans no) nofun
  · obtain rfl : e = i := Option.some.inj (waits.symm.trans found)
    obtain rfl : g = k := Option.some.inj (homeU.symm.trans hk)
    rw [h.on, h.pool] at bottom
    rw [eq, note]
    refine ⟨left, fun _ => ⟨?_, ?_, h.pool, free, u, h.onward, .congr rfl rfl⟩,
      fun no => absurd (hfloor.2 bottom) no⟩
    · rw [raise_slot, setSlot_slot_self]
      exact h.home
    · rw [raise_slot, setSlot_slot_self]
  · obtain rfl : e = i := Option.some.inj (waits.symm.trans found)
    have up : ¬ floor := fun f => above g homeU (by rw [h.on, h.pool]; exact hfloor.1 f)
    have retired := retire_of_home (s := (u.removeChange e).setSlot sl { u.slot sl with retirePending := false })
      (sl := sl) (h := g) (by rw [setSlot_slot_self]; exact homeU)
    rw [eq, note, retired]
    refine ⟨left, fun f => absurd f up, fun _ => ⟨?_, ?_, u, h.onward, .congr rfl rfl⟩⟩
    · rw [raise_slot, setSlot_slot_self]
      rfl
    · rw [raise_ring, setSlot_ring, setRing_ring_self, setSlot_ring, removeChange_ring, h.pool]

/-- A run of slots that are now free: if the slot is among them, its retirement applies. -/
theorem StillWaits.applyAll (h : StillWaits s u r sl) (free : sl ∈ (u.ring r).free) (hsl : sl ∈ sls) :
    HasApplied s (u.applyRetirements sls) r sl e floor := by
  induction sls with
  | nil => cases hsl
  | cons x xs ih =>
    show HasApplied s ((u.applyRetirement x).applyRetirements xs) r sl e floor
    by_cases hx : x = sl
    · subst hx
      have now := h.apply only hfloor free
      rw [applyRetirements_of_empty now.left]
      exact now
    · rw [h.apply_other only hx]
      exact ih ((List.mem_cons.1 hsl).resolve_left fun k => hx k.symm)

omit hfloor in
theorem StillWaits.apply_others (h : StillWaits s u r sl) (hsl : sl ∉ sls) : u.applyRetirements sls = u := by
  induction sls with
  | nil => rfl
  | cons x xs ih =>
    show (u.applyRetirement x).applyRetirements xs = u
    rw [h.apply_other only fun k => hsl (k ▸ List.mem_cons_self)]
    exact ih fun k => hsl (List.mem_cons_of_mem _ k)

/-- The last job of the slot ends, and the slot goes free with the note of the job (R15, R154). -/
theorem StillWaits.settle_freed {f h : Nat} {release : Bool} (st : StillWaits s u r sl) (hr : j.ring = r)
    (hsl : j.slot = sl) (frees : u.FreesAtEnd j release) :
    HasApplied s ((u.jobGone j release).settleJob j k f h) r sl e floor := by
  rw [settleJob_of_freed frees, hsl]
  refine StillWaits.apply only hfloor ((st.step (.jobFreed u j)).step (.raise _ _)) ?_
  rw [raise_ring, State.jobFreed, setSlot_ring, hr, setRing_ring_self, hsl]
  exact List.mem_append_right _ (List.mem_singleton.2 rfl)

/-- The retirement of a held slot without jobs waits, or has applied. -/
def InHand (s u : State) (r : RingId) (sl : SlotId) (e : Change) (floor : Prop) : Prop :=
  (StillWaits s u r sl ∧ sl ∈ (u.ring r).held ∧ (u.slot sl).jobs = 0) ∨ HasApplied s u r sl e floor

omit hfloor only in
theorem InHand.step (h : InHand s u r sl e floor) (m : Undisturbed u v r sl)
    (held : sl ∈ (u.ring r).held → (u.slot sl).jobs = 0 → sl ∈ (v.ring r).held ∧ (v.slot sl).jobs = 0) :
    InHand s v r sl e floor :=
  h.imp (fun ⟨w, hh, hj⟩ => ⟨w.step m, held hh hj⟩) (·.step m)

/-- A job of the ring leaves the queue unfinished (R20, R127). -/
theorem InHand.settle (h : InHand s u r sl e floor) (hr : j.ring = r) :
    InHand s ((u.jobGone j (u.slot j.slot).releaseRequested).settleJob j k d d) r sl e floor := by
  by_cases frees : u.FreesAtEnd j (u.slot j.slot).releaseRequested
  · rcases h with ⟨waits, held, jobs⟩ | done
    · by_cases hsl : j.slot = sl
      · exact .inr (waits.settle_freed only hfloor hr hsl frees)
      · have m : Undisturbed u ((u.jobFreed j).raise (j.endNote k d)) r sl :=
          (Undisturbed.jobFreed u j).trans (.raise _ _)
        rw [settleJob_of_freed frees, (waits.step m).apply_other only hsl]
        refine .inl ⟨waits.step m, ?_, ?_⟩
        · rw [raise_ring, State.jobFreed, setSlot_ring, hr, setRing_ring_self]
          exact (List.mem_erase_of_ne (Ne.symm hsl)).2 held
        · rw [raise_slot, State.jobFreed, setSlot_slot_ne _ _ hsl, setRing_slot]
          exact jobs
    · have m : Undisturbed u ((u.jobFreed j).raise (j.endNote k d)) r sl :=
        (Undisturbed.jobFreed u j).trans (.raise _ _)
      have after := done.step m
      rw [settleJob_of_freed frees]
      refine .inr ?_
      rw [show State.applyRetirement _ j.slot = _ from applyRetirements_of_empty after.left [j.slot]]
      exact after
  · rw [settleJob_of_kept frees]
    refine h.step ((Undisturbed.jobGone u j).trans (.raise _ _)) fun held jobs => ⟨held, ?_⟩
    rw [raise_slot, State.jobGone, setSlot_slot]
    split
    · next hsl => subst hsl; rw [jobs]
    · exact jobs

end

end

end Sys2Proof.Machine
end

section
/-! PROOFS: RETIRE_SLOT entries whose slots RING_FLUSH without keep_held frees (R20, R154), and O31. -/

namespace Sys2Proof.Machine

section
variable {s t u v w : State} {r q : RingId} {sl x y z : SlotId} {e : Change} {sls gone l : List SlotId} {n : Nat}
  {floor : Prop} {j : Job} {k : NoteKind} {d : Nat}

theorem releaseConsumers_slot_jobs (s : State) (r : RingId) (x : SlotId) :
    ((s.releaseConsumers r).slot x).jobs = (s.slot x).jobs := by
  rw [(releaseConsumers_released s r).fields]

/-- The READY slots of a flush that keeps nothing, freed before any retirement applies. -/
def State.readyFreed (s : State) (r : RingId) : State := (s.releaseConsumers r).freeAll r (s.ring r).ready

theorem flushedReady_eq_applied (s : State) (r : RingId) :
    s.flushedReady r = (s.readyFreed r).applyRetirements (s.ring r).ready := by
  unfold State.flushedReady State.readyFreed
  rw [flushReady_eq_free, releaseConsumers_ring]

theorem readyFreed_ring (s : State) (r : RingId) :
    (s.readyFreed r).ring r =
      { s.ring r with ready := [], free := (s.ring r).free ++ (s.ring r).ready } := by
  unfold State.readyFreed
  rw [freeAll_ring_self, releaseConsumers_ring, diff_self_eq_nil]

theorem readyFreed_slot (s : State) (r : RingId) (hx : x ∉ (s.ring r).ready) :
    (s.readyFreed r).slot x = (s.releaseConsumers r).slot x := by
  unfold State.readyFreed
  rw [freeAll_slot, if_neg hx]

theorem readyFreed_changes (s : State) (r : RingId) : (s.readyFreed r).changes = s.changes :=
  (congrArg State.changes (freeAll_frame r _ _) :).trans (releaseConsumers_books s r).1

theorem readyFreed_copy (s : State) (r : RingId) : (s.readyFreed r).copy = s.copy :=
  (congrArg State.copy (freeAll_frame r _ _) :).trans (releaseConsumers_shelf s r).copy

theorem readyFreed_frees (hp : s.Placed) (r : RingId) : Frees s (s.readyFreed r) r (s.ring r).ready := by
  have frame := freeAll_frame r (s.ring r).ready (s.releaseConsumers r)
  refine ⟨fun x => ?_, ?_, readyFreed_changes s r,
    (releaseConsumers_onward s r).trans (.congr (congrArg State.notes frame :) (congrArg State.apertures frame :)),
    fun x hx => hp.home_of_ready hx, hp.ready_nodup r, ?_⟩
  · unfold State.readyFreed
    rw [freeAll_home, releaseConsumers_home]
  · rw [readyFreed_ring]
  · rw [readyFreed_ring]
    exact free_append_nodup hp (hp.ready_nodup r) fun x hx hf => hp.free_not_ready hf r hx

/-! ### With no job of the ring, every slot of the two lists is freed -/

/-- The slots of a list that are looked at one after the other, beside those whose retirements have applied. -/
theorem Retirements.flushed (k : Retirements v w r sls gone) (apart : ∀ x ∈ l, x ∉ sls) :
    Retirements (l.foldl (State.flushOne r) v) (l.foldl (State.flushOne r) w) r sls gone := by
  have slot (x : SlotId) (hx : x ∉ sls) : w.slot x = v.slot x := by
    rw [k.slot, if_neg fun h => hx (k.taken x h), if_neg hx]
  have idle : w.idleOf l = v.idleOf l := List.filter_congr fun x hx => by rw [slot x (apart x hx)]
  obtain ⟨frameV, ringsV⟩ := foldl_flushOne_frame r l v
  obtain ⟨frameW, ringsW⟩ := foldl_flushOne_frame r l w
  have changesV : (l.foldl (State.flushOne r) v).changes = v.changes := (congrArg State.changes frameV :)
  have changesW : (l.foldl (State.flushOne r) w).changes = w.changes := (congrArg State.changes frameW :)
  have notesW : (l.foldl (State.flushOne r) w).notes = w.notes := (congrArg State.notes frameW :)
  refine ⟨k.taken, ?_, fun q hq => ?_, fun x => ?_, ?_, ?_, ?_⟩
  · rw [foldl_flushOne_ring, foldl_flushOne_ring, k.ring, idle]
    have free := free_filter_append_right (gone := gone) (l := (v.ring r).free) (more := v.idleOf l)
      fun x hx hg => apart x (List.mem_filter.1 hx).1 (k.taken x hg)
    exact congrArg (fun f => { v.ring r with
      held := (v.ring r).held.diff (v.idleOf l), free := f, pool := (v.ring r).pool - gone.length }) free.symm
  · rw [ringsV q hq, ringsW q hq, k.rings q hq]
  · rw [foldl_flushOne_slot, foldl_flushOne_slot, retires_congr changesV]
    by_cases hl : x ∈ l
    · have out := apart x hl
      rw [if_pos hl, if_pos hl, if_neg fun h => out (k.taken x h), if_neg out, slot x out]
    · rw [if_neg hl, if_neg hl, k.slot]
  · rw [changesW, k.changes,
      State.withoutRetirements, State.withoutRetirements, changesV]
  · rw [notesW, k.notes, retireNote_congr changesV]
    exact congrArg ((sls.filterMap (v.retireNote r gone)).foldl NoteQueue.push) (congrArg State.notes frameV :).symm
  · generalize l.foldl (State.flushOne r) v = v' at *
    generalize l.foldl (State.flushOne r) w = w' at *
    let f := fun m : State =>
      { m with slots := v'.slots, rings := v'.rings, changes := v'.changes, notes := v'.notes }
    exact (congrArg f frameW :).trans ((congrArg f k.frame :).trans (congrArg f frameV :).symm)

theorem cancelRingJobs_of_none (none : ∀ j ∈ s.copy.jobs, j.ring ≠ r) : s.cancelRingJobs r = s := by
  rw [jobs_eq] at none
  have aborted : s.abortRing r = s := by
    have nil : (s.copy.queued.filter fun j => decide (j.ring = r)) = [] :=
      List.filter_eq_nil_iff.2 fun j hj => by simpa using none j (List.mem_append_right _ hj)
    rw [State.abortRing, nil]
    rfl
  rw [cancelRingJobs_of_other (by rw [aborted]) fun j hj =>
    none j.job (List.mem_append_left _ (by rw [hj]; exact List.mem_singleton.2 rfl)), aborted]

/-- Without jobs of the ring its held slots have none (R4, R116). -/
theorem no_jobs_of_ring (hp : s.Placed) (laws : s.QueueLaws) (none : ∀ j ∈ s.copy.jobs, j.ring ≠ r)
    (hx : x ∈ (s.ring r).held) : (s.slot x).jobs = 0 := by
  rw [laws.jobCounts, List.length_eq_zero_iff, List.filter_eq_nil_iff]
  intro j hj hslot
  obtain rfl := of_decide_eq_true hslot
  exact none j hj (hp.same_ring (Ring.mem_lists.2 (.inr (.inr (laws.held j hj)))) (Ring.mem_lists.2 (.inr (.inr hx))))

/-- Every slot of the two lists has joined the free list, and no retirement has applied. -/
def State.allFreed (s : State) (r : RingId) : State := (s.ring r).held.foldl (State.flushOne r) (s.readyFreed r)

section
variable (hp : s.Placed) (idle : ∀ x ∈ (s.ring r).held, (s.slot x).jobs = 0)
include hp idle

theorem idleOf_readyFreed : (s.readyFreed r).idleOf (s.ring r).held = (s.ring r).held := by
  refine List.filter_eq_self.2 fun x hx => decide_eq_true ?_
  rw [readyFreed_slot s r (hp.held_not_ready hx r), releaseConsumers_slot_jobs]
  exact idle x hx

theorem allFreed_ring : (s.allFreed r).ring r =
    { s.ring r with ready := [], held := [], free := (s.ring r).free ++ (s.ring r).ready ++ (s.ring r).held } := by
  unfold State.allFreed
  rw [foldl_flushOne_ring, idleOf_readyFreed hp idle, readyFreed_ring]
  exact congrArg (fun l => { s.ring r with
    ready := [], held := l, free := (s.ring r).free ++ (s.ring r).ready ++ (s.ring r).held }) (diff_self_eq_nil _)

theorem allFreed_frees : Frees s (s.allFreed r) r ((s.ring r).ready ++ (s.ring r).held) := by
  have f := readyFreed_frees hp r
  obtain ⟨frame, -⟩ := foldl_flushOne_frame r (s.ring r).held (s.readyFreed r)
  have lists : ((s.ring r).free ++ (s.ring r).ready ++ (s.ring r).held).Nodup := hp.once r
  refine ⟨fun x => ?_, ?_, ?_, f.onward.trans (.congr (congrArg State.notes frame :) (congrArg State.apertures frame :)),
    fun x hx => hp.listed r x ?_, ?_, ?_⟩
  · unfold State.allFreed
    rw [foldl_flushOne_home, f.homes]
  · rw [allFreed_ring hp idle]
  · exact (congrArg State.changes frame :).trans f.changes
  · rw [Ring.mem_lists]
    exact .inr (List.mem_append.1 hx)
  · rw [List.append_assoc] at lists
    exact lists.of_append_right
  · rw [allFreed_ring hp idle]
    exact lists

/-- The retirements of the READY slots and then of the held ones, as of one run (R20, R154). -/
theorem flushHeld_retirements (once : s.RetiresOnce) : Retirements (s.allFreed r) ((s.flushedReady r).flushHeld r) r
    ((s.ring r).ready ++ (s.ring r).held)
    (retiredOf (s.ring r).on s.retires (s.ring r).pool ((s.ring r).ready ++ (s.ring r).held)) := by
  have f := readyFreed_frees hp r
  have k := f.retirements once
  rw [readyFreed_ring, ← flushedReady_eq_applied] at k
  have out (x : SlotId) (hx : x ∈ (s.ring r).held) : x ∉ (s.ring r).ready := hp.held_not_ready hx r
  have held : ((s.flushedReady r).ring r).held = (s.ring r).held := by rw [k.ring, readyFreed_ring]
  have idleW : (s.flushedReady r).idleOf (s.ring r).held = (s.ring r).held := by
    refine (List.filter_congr fun x hx => ?_).trans (idleOf_readyFreed hp idle)
    rw [k.slot, if_neg fun h => out x hx (k.taken x h), if_neg (out x hx)]
  have freed := allFreed_frees hp idle
  have first : Retirements (s.allFreed r) _ r _ _ := k.flushed out
  rw [flushHeld_eq, held, idleW]
  generalize hv : (s.ring r).held.foldl (State.flushOne r) (s.flushedReady r) = v at first ⊢
  have second := applyRetirements_retirements (s := v) (r := r) (sls := (s.ring r).held) (fun x hx => ?_)
    (hp.held_nodup r) ?_ fun x => ?_
  · have whole := first.trans second out
    rw [retiredOf_congr (g := s.retires) _ fun x hx =>
      (first.retires (out x hx)).trans (congrFun (retires_congr freed.changes) x), first.ring] at whole
    rw [allFreed_ring hp idle] at whole
    rw [retiredOf_append]
    exact whole
  · rw [first.slot, if_neg fun h => out x hx (first.taken x h), if_neg (out x hx)]
    exact (congrArg (Option.map (·.ring)) (freed.homes x)).trans (hp.listed r x (Ring.mem_lists.2 (.inr (.inr hx))))
  · rw [first.ring]
    exact freed.nodup.filter _
  · rw [first.changes]
    refine Nat.le_trans (List.Sublist.length_le (List.filter_sublist.filter _)) ?_
    rw [freed.changes]
    exact once x

end

theorem flushFreed_retires (h : s.link.phase = .request) (hp : s.Placed) (laws : s.QueueLaws)
    (none : ∀ j ∈ s.copy.jobs, j.ring ≠ r)
    (hgone : gone = retiredOf (s.ring r).on s.retires (s.ring r).pool ((s.ring r).ready ++ (s.ring r).held)) :
    ∃ t, exec (.ringFlush (requestFor 0x0B [idWord r, boolWord false])) s = .next t ∧ t.answers .done [] ∧
      t.changes = { s.changes with entries := s.withoutRetirements ((s.ring r).ready ++ (s.ring r).held) } ∧
      (t.ring r).free = (s.ring r).free ++
        ((s.ring r).ready ++ (s.ring r).held).filter (fun x => decide (x ∉ gone)) ∧
      RetirementsApplied s t r ((s.ring r).ready ++ (s.ring r).held) gone := by
  subst hgone
  have done := exec_ringFlush_freed h r
  have idle (x : SlotId) (hx : x ∈ (s.ring r).held) := no_jobs_of_ring hp laws none hx
  have f := allFreed_frees hp idle
  have k := flushHeld_retirements hp idle laws.once
  have ring := allFreed_ring hp idle (r := r)
  have ready := (readyFreed_frees hp r).retirements laws.once
  have copy : (s.flushedReady r).copy = s.copy := by
    rw [flushedReady_eq_applied]
    exact (congrArg State.copy ready.frame :).trans (readyFreed_copy s r)
  have whole : s.flushFreed r = ((s.flushedReady r).flushHeld r).arbitrate := by
    unfold State.flushFreed
    rw [cancelRingJobs_of_none (copy ▸ none)]
  have placed := hp.exec done
  rw [whole] at done placed
  generalize (s.flushedReady r).flushHeld r = w at k done placed
  obtain ⟨a, c, frame⟩ := arbitrate_frame w
  refine ⟨_, done, answered_answers .., ?_, ?_, f.applied k ?_ placed⟩
  · rw [answered_changes, frame]
    exact (f.changes_after k :)
  · rw [answered_ring, frame]
    show (w.ring r).free = _
    rw [k.ring, ring, List.append_assoc]
    exact free_filter_append k.taken fun x hx hf => by
      have lists := hp.once r
      unfold Ring.lists at lists
      rw [List.append_assoc] at lists
      exact List.disjoint_of_nodup_append lists hf hx
  · rw [frame]
    exact .of_eq rfl rfl rfl (.congr rfl rfl)

end

end Sys2Proof.Machine
end

section
/-! PROOFS: the one retirement that a RING_FLUSH without keep_held brings about, whatever jobs the ring has
(R20, R127, R154), and O31. -/

namespace Sys2Proof.Machine

section
variable {s t u v w : State} {r q : RingId} {sl x y z : SlotId} {e : Change} {sls gone l : List SlotId} {n : Nat}
  {floor : Prop} {j : Job} {i : ActiveJob} {k : NoteKind} {d : Nat}

theorem Undisturbed.flushOne (u : State) (q : RingId) (x : SlotId) : Undisturbed u (State.flushOne q u x) r sl := by
  unfold State.flushOne
  split
  · exact .freeHeld u q x
  · next jobs => exact .setSlot x ⟨rfl, rfl, fun e => absurd (by rw [e]; rfl) jobs⟩

theorem Undisturbed.refl (u : State) : Undisturbed u u r sl := .of_eq rfl rfl rfl (.refl u)

theorem Undisturbed.flushAll (u : State) (q : RingId) (l : List SlotId) :
    Undisturbed u (l.foldl (State.flushOne q) u) r sl := by
  induction l generalizing u with
  | nil => exact .refl u
  | cons x xs ih => exact (Undisturbed.flushOne u q x).trans (ih _)

theorem HasApplied.answered (h : HasApplied s u r sl e floor) (code : Byte) (args : List Word) (status : Status)
    (words : List Word) : HasApplied s (u.answered code args status words) r sl e floor :=
  h.step (.of_eq rfl rfl rfl (.congr rfl rfl))

theorem HasApplied.arbitrate (h : HasApplied s u r sl e floor) : HasApplied s u.arbitrate r sl e floor := by
  obtain ⟨a, c, frame⟩ := arbitrate_frame u
  rw [frame]
  exact h.step (.of_eq rfl rfl rfl (.congr rfl rfl))

theorem HasApplied.engine (h : HasApplied s u r sl e floor) (frame : { v with arbiter := u.arbiter, copy := u.copy } = u) :
    HasApplied s v r sl e floor :=
  h.step (.of_eq (congrArg State.slots frame :) (congrArg State.rings frame :) (congrArg State.changes frame :)
    (.congr (congrArg State.notes frame :) (congrArg State.apertures frame :)))

/-- A part of the event that touches neither slots nor rings. -/
theorem InHand.engine (h : InHand s u r sl e floor) (frame : { v with arbiter := u.arbiter, copy := u.copy } = u) :
    InHand s v r sl e floor := by
  have slot (x : SlotId) : v.slot x = u.slot x := congrFun (congrArg State.slot frame :) x
  have ring (q : RingId) : v.ring q = u.ring q := congrFun (congrArg State.ring frame :) q
  exact h.step (.of_eq (congrArg State.slots frame :) (congrArg State.rings frame :) (congrArg State.changes frame :)
    (.congr (congrArg State.notes frame :) (congrArg State.apertures frame :)))
    fun held jobs => ⟨by rw [ring]; exact held, by rw [slot]; exact jobs⟩

section
variable (only : s.OnlyRetires r sl e) (hfloor : floor ↔ (s.ring r).on = true ∧ (s.ring r).pool ≤ 2)
include only hfloor

theorem InHand.abortAll (h : InHand s u r sl e floor) (js : List Job) (hr : ∀ j ∈ js, j.ring = r) :
    InHand s (js.foldl State.abortQueued u) r sl e floor := by
  induction js generalizing u with
  | nil => exact h
  | cons j js ih =>
    refine ih ?_ fun i hi => hr i (List.mem_cons_of_mem _ hi)
    rw [abortQueued_eq]
    have left : InHand s { u with copy := { u.copy with queued := u.copy.queued.erase j } } r sl e floor :=
      h.engine rfl
    exact left.settle only hfloor (hr j List.mem_cons_self)

theorem InHand.endActive (h : InHand s u r sl e floor) (hr : j.ring = r) :
    InHand s (u.endActive j k d) r sl e floor := by
  rw [endActive_eq]
  have cleared : InHand s u.clearActive r sl e floor := h.engine rfl
  exact (cleared.settle only hfloor hr).engine (activateNext_frame _)

theorem InHand.cancelActive (h : InHand s u r sl e floor) (hr : i.job.ring = r) :
    InHand s (u.cancelActive i) r sl e floor := by
  unfold State.cancelActive
  split
  · exact h.engine rfl
  · exact h.endActive only hfloor hr

theorem InHand.cancelRingJobs (h : InHand s u r sl e floor) : InHand s (u.cancelRingJobs r) r sl e floor := by
  have aborted := h.abortAll only hfloor (u.copy.queued.filter fun j => decide (j.ring = r))
    fun j hj => of_decide_eq_true (List.mem_filter.1 hj).2
  unfold State.cancelRingJobs
  simp only
  split
  · split
    · next hr => exact aborted.cancelActive only hfloor hr
    · exact aborted
  · exact aborted

/-- The held slots of the ring are looked at: one that waits without jobs goes free, and is retired or rejected. -/
theorem InHand.flushHeld (h : InHand s u r sl e floor) : HasApplied s (u.flushHeld r) r sl e floor := by
  rw [flushHeld_eq]
  have m : Undisturbed u ((u.ring r).held.foldl (State.flushOne r) u) r sl := .flushAll ..
  rcases h with ⟨waits, held, jobs⟩ | done
  · have hsl : sl ∈ u.idleOf (u.ring r).held := List.mem_filter.2 ⟨held, decide_eq_true jobs⟩
    refine (waits.step m).applyAll only hfloor ?_ hsl
    rw [foldl_flushOne_ring]
    exact List.mem_append_right _ hsl
  · have after := done.step m
    rw [applyRetirements_of_empty after.left]
    exact after

theorem flushedReady_inHand (hp : s.Placed) (where_ : sl ∈ (s.ring r).ready ∨ sl ∈ (s.ring r).held ∧ (s.slot sl).jobs = 0) :
    InHand s (s.flushedReady r) r sl e floor := by
  have f := readyFreed_frees hp r
  have waits : StillWaits s (s.readyFreed r) r sl :=
    ⟨f.changes, by rw [f.homes], f.pool, by rw [readyFreed_ring], f.onward⟩
  rw [flushedReady_eq_applied]
  rcases where_ with ready | ⟨held, jobs⟩
  · refine .inr (waits.applyAll only hfloor ?_ ready)
    rw [readyFreed_ring]
    exact List.mem_append_right _ ready
  · have out := hp.held_not_ready held r
    rw [waits.apply_others only out]
    refine .inl ⟨waits, ?_, ?_⟩
    · rw [readyFreed_ring]
      exact held
    · rw [readyFreed_slot s r out, releaseConsumers_slot_jobs]
      exact jobs

theorem flushFreed_retires_one (h : s.link.phase = .request) (hp : s.Placed)
    (where_ : sl ∈ (s.ring r).ready ∨ sl ∈ (s.ring r).held ∧ (s.slot sl).jobs = 0) :
    ∃ t, exec (.ringFlush (requestFor 0x0B [idWord r, boolWord false])) s = .next t ∧ t.answers .done [] ∧
      RetirementApplied s t r sl e floor ∧ (floor → sl ∈ (t.ring r).free) := by
  have done := exec_ringFlush_freed h r
  have flushed := ((flushedReady_inHand only hfloor hp where_).cancelRingJobs only hfloor).flushHeld only hfloor
  have ended : HasApplied s (s.flushFreed r) r sl e floor := flushed.arbitrate
  exact ⟨_, done, answered_answers .., (ended.answered ..).applied (hp.exec done)⟩

end

end

/-- Settles O31: RELEASE of one slot by the one retirement it brings about, the other commands by the run of
retirements of the slots they free, and with one entry by that entry. -/
theorem retirementAppliesToTheFreedSlot : Obligations.RetirementAppliesToTheFreedSlot := by
  refine ⟨?_, ?_, ?_, ?_⟩
  · intro s r sl h before after e sel f args hreq hargs which jobs home hr fresh entries op first
    subst hr
    have waits := waitingRetirement_split entries op fun x hx => (first x hx).2
    have left : s.changes.entries.erase e = before ++ after := by
      rw [entries, List.erase_append_right _ fun k => (first e k).1 rfl, List.erase_cons_head]
    rw [exec_release_one hreq hargs which jobs]
    refine ⟨fun floor => ?_, fun above => ?_⟩
    · rw [releaseHeld_rejected home waits floor, left]
      rfl
    · have above : ¬ ((s.ring h.ring).on = true ∧ (s.ring h.ring).pool ≤ 2) := fun ⟨on, low⟩ =>
        above.elim (fun off => absurd (on.symm.trans off) nofun) fun high => absurd low (Nat.not_le.2 high)
      rw [releaseHeld_retired home waits fresh above, left]
  · intro s r f idle busy gone hreq hp laws held hidle hbusy hgone
    exact releaseAll_retires s r f idle busy gone hreq hp laws.once held hidle hbusy hgone
  · rintro s r freed hreq hp laws
    refine ⟨?_, ?_⟩
    · rintro on hoff rfl
      exact ringOff_retires hreq hp laws.once on hoff
    · rintro (_ | _) gone rfl none rfl
      · exact flushFreed_retires hreq hp laws (none rfl) rfl
      · exact flushKept_retires hreq hp laws.once rfl
  · intro s r sl e floor hreq hp only hfloor
    refine ⟨fun n args hn0 hn hargs hnone found meets => ?_, fun ready loose on hoff => ?_, ?_⟩
    · exact releaseFrame_retires_one hreq hp only hfloor hn0 hn hargs hnone found meets
    · exact ringOff_retires_one hreq hp only ready loose on hoff
    · rintro (_ | _) place
      · exact flushFreed_retires_one only hfloor hreq hp (place.imp (·.1) (·.2))
      · obtain ⟨ready, loose⟩ := place.resolve_right fun k => Bool.noConfusion k.1
        exact flushKept_retires_one hreq hp only hfloor ready (loose rfl)

end Sys2Proof.Machine
end

section
/-! PROOFS: the stages of a producer's boundary after its publish stage bring no entry and no pending mark
(R150, R156), so that they leave what retirements have left (for O32). -/

namespace Sys2Proof.Machine

section
variable {L : Laws} {s t u v w : State} {a b : ApId} {c d : ApConfig} {r q : RingId} {sl x y z : SlotId} {e : Change}
  {sls gone l : List SlotId} {o : Option SlotId}

/-- No entry of the Change Queue and no pending mark of a slot is new. -/
structure NothingNew (s t : State) : Prop where
  entries : ∀ e ∈ t.changes.entries, ∃ i ∈ s.changes.entries, i.op = e.op
  pending : ∀ y, (s.slot y).retirePending = false → (t.slot y).retirePending = false

theorem NothingNew.of_eq (slots : t.slots = s.slots) (changes : t.changes = s.changes) : NothingNew s t :=
  ⟨fun e he => ⟨e, changes ▸ he, rfl⟩, fun y h => by rw [State.slot, slots]; exact h⟩

theorem NothingNew.trans (h : NothingNew s t) (k : NothingNew t u) : NothingNew s u := by
  refine ⟨fun e he => ?_, fun y hy => k.pending y (h.pending y hy)⟩
  obtain ⟨i, hi, same⟩ := k.entries e he
  obtain ⟨j, hj, same'⟩ := h.entries i hi
  exact ⟨j, hj, same'.trans same⟩

theorem NothingNew.removeChange (s : State) (e : Change) : NothingNew s (s.removeChange e) :=
  ⟨fun i hi => ⟨i, List.mem_of_mem_erase hi, rfl⟩, fun _ => id⟩

theorem NothingNew.setSlot (x : SlotId) {p : Slot} (h : (s.slot x).retirePending = false → p.retirePending = false) :
    NothingNew s (s.setSlot x p) := by
  refine ⟨fun e he => ⟨e, he, rfl⟩, fun y hy => ?_⟩
  rw [setSlot_slot]
  split
  · next e => subst e; exact h hy
  · exact hy

theorem NothingNew.countExpiry (s : State) (e : Change) : NothingNew s (s.countExpiry e) := by
  rcases countExpiry_cases s e with ⟨-, k⟩ | ⟨-, k⟩ | ⟨n, -, k⟩ <;> rw [k]
  · exact .of_eq rfl rfl
  · refine ((NothingNew.removeChange s e).trans (u := (s.removeChange e).clearRetirePending e.op) ?_).trans (.of_eq rfl rfl)
    rcases clearRetirePending_cases (s.removeChange e) e.op with ⟨_, k⟩ | ⟨z, _, k⟩ <;> rw [k]
    · exact .of_eq rfl rfl
    · exact .setSlot z fun _ => rfl
  · refine ⟨fun i hi => ?_, fun _ => id⟩
    obtain ⟨j, hj, rfl⟩ := List.mem_map.1 hi
    refine ⟨j, hj, ?_⟩
    split <;> rfl

/-- An entry of a producer changes no entry but in its own leaving. -/
theorem applyApChange_changes (hrole : c.role = .producer) (e : Change) (x : ApChange) :
    (s.applyApChange e a c x).changes = s.changes := by
  have write : (s.writeChange a c x).changes = s.changes := by rw [writeChange_eq]; rfl
  cases x with
  | moveWindow base =>
    simp only [State.applyApChange]
    split
    · rfl
    · exact write
  | setSources | setStall | setDivider => exact write
  | setPick p oe =>
    simp only [State.applyApChange]
    rw [if_neg fun h => by rw [hrole] at h; cases h.1]
    exact write
  | detach =>
    simp only [State.applyApChange, hrole]
    split <;> rfl

theorem NothingNew.walkOne (hs : s.Serving L a .producer r) (e : Change) : NothingNew s (State.walkOne a r s e) := by
  unfold State.walkOne
  split
  · next mine =>
    rcases Bool.or_eq_true_iff.1 mine with k | k
    · obtain ⟨x, hop⟩ := forAperture_eq_true k
      obtain ⟨d, hd, hrole, -⟩ := hs.config
      rw [applyChange_aperture s hop hd]
      exact (NothingNew.removeChange s e).trans
        (.of_eq (applyApChange_slots hrole e x) (applyApChange_changes hrole e x))
    · obtain ⟨o, hop⟩ := forRing_eq_true k
      rw [applyChange_overflow s hop]
      exact (NothingNew.removeChange s e).trans (.of_eq rfl rfl)
  · split
    · exact .countExpiry s e
    · exact .of_eq rfl rfl

theorem NothingNew.walk (hs : s.Serving L a .producer r) (l : List Change) :
    NothingNew s (l.foldl (State.walkOne a r) s) := by
  induction l generalizing s with
  | nil => exact .of_eq rfl rfl
  | cons e l ih => exact (NothingNew.walkOne hs e).trans (ih (walkOne_onShelf hs e).2)

theorem KeepsRetired.trans (h : KeepsRetired v w r sls gone) (k : KeepsRetired w t r sls gone) :
    KeepsRetired v t r sls gone := by
  refine ⟨fun y hy out => (k.home y hy out).trans (h.home y hy out), fun y hy p => k.pending y hy (h.pending y hy p),
    fun y hy => (k.slot y hy).trans (h.slot y hy), k.pool.trans h.pool, fun e he => ?_, h.onward.trans k.onward⟩
  obtain ⟨i, hi, same⟩ := k.entries e he
  obtain ⟨j, hj, same'⟩ := h.entries i hi
  exact ⟨j, hj, same'.trans same⟩

theorem bind_changes (s : State) (a : ApId) (r : RingId) : (s.bind a r).changes = s.changes := by
  rcases bind_cases s a r with ⟨_, _, _, e⟩ | ⟨_, _, _, _, e⟩ | ⟨_, _, e⟩ <;> rw [e] <;> rfl

/-- The fill of a slot keeps its home and its pending mark. -/
theorem fill_keeps (s : State) (a : ApId) (x : SlotId) (n : Nat) (y : SlotId) :
    ((s.fill a x n).slot y).home = (s.slot y).home ∧
      ((s.fill a x n).slot y).retirePending = (s.slot y).retirePending := by
  rw [fill_slot]
  split
  · next e => subst e; exact ⟨rfl, rfl⟩
  · exact ⟨rfl, rfl⟩

theorem bind_keeps (s : State) (a : ApId) (r : RingId) (y : SlotId) :
    ((s.bind a r).slot y).home = (s.slot y).home ∧
      ((s.bind a r).slot y).retirePending = (s.slot y).retirePending := by
  rcases bind_cases s a r with ⟨_, _, _, e⟩ | ⟨_, _, _, _, e⟩ | ⟨_, _, e⟩ <;> rw [e]
  · exact fill_keeps ..
  · exact fill_keeps _ a _ _ y
  · exact ⟨rfl, rfl⟩

theorem NothingNew.bindIfOn (s : State) (a : ApId) (r : RingId) : NothingNew s (s.bindIfOn a r) := by
  unfold State.bindIfOn
  split
  · refine ⟨fun e he => ⟨e, bind_changes s a r ▸ he, rfl⟩, fun y hy => ?_⟩
    rw [(bind_keeps s a r y).2]
    exact hy
  · exact .of_eq rfl rfl

theorem bindIfOn_home (s : State) (a : ApId) (r : RingId) (y : SlotId) :
    ((s.bindIfOn a r).slot y).home = (s.slot y).home := by
  unfold State.bindIfOn
  split
  · exact (bind_keeps s a r y).1
  · rfl

theorem bindIfOn_pool (w : State) (a : ApId) (r : RingId) : ((w.bindIfOn a r).ring r).pool = (w.ring r).pool := by
  unfold State.bindIfOn
  split
  · rcases bind_cases w a r with ⟨_, _, _, e⟩ | ⟨_, _, _, _, e⟩ | ⟨_, _, e⟩ <;> rw [e]
    · rw [fill_ring, setRing_ring_self, advanceFrame_ring_self]
    · rw [State.steal, raise_ring, fill_ring, leaveReady_ring_self, advanceFrame_ring_self]
    · rw [State.starve, raise_ring, setApState_ring, advanceFrame_ring_self]
  · rfl

section
variable (hc : (s.ap a).config = some c) (hrole : c.role = .producer)
include hc hrole

theorem NothingNew.producerBoundary : NothingNew (s.publishStage a c.ring) (s.producerBoundary a c.ring) := by
  rw [producerBoundary_eq]
  have walked := NothingNew.walk (stepped_serving hc hrole Laws.none id) (s.stepped a c.ring).changes.entries
  exact ((NothingNew.of_eq (stepped_slots s a c.ring) (stepped_changes s a c.ring)).trans walked).trans (.bindIfOn ..)

theorem producerBoundary_home (y : SlotId) :
    ((s.producerBoundary a c.ring).slot y).home = ((s.publishStage a c.ring).slot y).home := by
  rw [producerBoundary_eq, bindIfOn_home]
  exact (congrArg Slot.home ((walkedOver_walked (s := s) hc hrole).slots y) :)

theorem producerBoundary_pool :
    ((s.producerBoundary a c.ring).ring c.ring).pool = ((s.publishStage a c.ring).ring c.ring).pool := by
  exact (bindIfOn_pool (s.walkedOver a c.ring) a c.ring).trans
    (congrArg Ring.pool (walkedOver_walked (s := s) hc hrole).ring :)

/-- The stages after the publish stage leave what its retirements have left. -/
theorem producerBoundary_keepsRetired (hp : s.Placed)
    (retired : ∀ y ∈ gone, (s.publishStage a c.ring).slot y = Slot.retiredRecord) :
    KeepsRetired (s.publishStage a c.ring) (s.producerBoundary a c.ring) c.ring sls gone := by
  obtain ⟨o, f⟩ := producerBoundary_finished hp hc hrole
  have new := NothingNew.producerBoundary (s := s) hc hrole
  have placed := publishStage_placed hp hc hrole
  refine ⟨fun y _ _ => producerBoundary_home hc hrole y, fun y _ => new.pending y, fun y hy => ?_,
    producerBoundary_pool hc hrole, new.entries, f.onward⟩
  have out := placed.nowhere (x := y) (by rw [retired y hy]; rfl) c.ring
  have taken : o ≠ some y := fun e => by
    refine out.1 (Ring.mem_lists.2 ?_)
    rcases f.taken y e with k | ⟨k, -, -⟩
    · exact .inl k
    · exact .inr (.inl k)
  rw [f.slots y taken, new.pending y (by rw [retired y hy]; rfl), retired y hy]
  rfl

end

end

end Sys2Proof.Machine
end

section
/-! PROOFS: RETIRE_SLOT entries whose slots a boundary reclaims or returns (R12, R13, R59, R154; for O32). -/

namespace Sys2Proof.Machine

section
variable {s t u v w : State} {a b : ApId} {c d : ApConfig} {r q : RingId} {sl x y z : SlotId} {e : Change}
  {sls gone l m cands : List SlotId} {o next : Option SlotId} {floor : Prop} {order : List ApId}

/-! ### A reclamation check in an event (R13) -/

/-- What a reclamation check in the course of an event goes by is as before the event. -/
structure Checks (s u : State) (r : RingId) (cands : List SlotId) : Prop where
  homes   : ∀ x, (u.slot x).home = (s.slot x).home
  pool    : (u.ring r).pool = (s.ring r).pool
  on      : (u.ring r).on = (s.ring r).on
  free    : (u.ring r).free = (s.ring r).free
  changes : u.changes = s.changes
  onward  : Onward s u
  oldest  : (u.leaving r cands).Sublist (s.ring r).ready

/-- The slots that a reclamation check frees, in ready-list order. -/
def State.reclaimed (s : State) (r : RingId) (cands : List SlotId) : List SlotId := s.looseOf (s.leaving r cands)

theorem Checks.sublist (k : Checks s u r cands) : (u.reclaimed r cands).Sublist (s.ring r).ready :=
  List.filter_sublist.trans k.oldest

theorem Checks.frees (k : Checks s u r cands) (hp : s.Placed) :
    Frees s (u.dropAll r (u.leaving r cands)) r (u.reclaimed r cands) := by
  have apart := k.sublist.nodup (hp.ready_nodup r)
  refine ⟨fun x => ?_, ?_, ?_, k.onward.trans (dropAll_onward ..), fun x hx => ?_, apart, ?_⟩
  · rw [← k.homes, dropAll_slot]; split <;> rfl
  · rw [dropAll_ring_self]; exact k.pool
  · exact (dropAll_changes ..).trans k.changes
  · exact hp.home_of_ready (k.sublist.subset hx)
  · rw [dropAll_ring_self]
    show ((u.ring r).free ++ u.reclaimed r cands).Nodup
    rw [k.free]
    exact free_append_nodup hp apart fun x hx hf => hp.free_not_ready hf r (k.sublist.subset hx)

theorem Checks.retirements (k : Checks s u r cands) (hp : s.Placed) (once : s.RetiresOnce) :
    Retirements (u.dropAll r (u.leaving r cands)) (u.reclaim r cands) r (u.reclaimed r cands)
      (retiredOf (s.ring r).on s.retires (s.ring r).pool (u.reclaimed r cands)) := by
  have done := (k.frees hp).retirements once
  rw [dropAll_ring_self] at done
  have on := k.on
  rw [← on]
  exact done

/-- Two sublists of a list without repetitions that name the same slots are the same. -/
theorem sublist_eq_of_mem (nodup : m.Nodup) (ha : sls.Sublist m) (hb : l.Sublist m)
    (same : ∀ x ∈ m, x ∈ sls ↔ x ∈ l) : sls = l := by
  have whole {k : List SlotId} (h : k.Sublist m) : k = m.filter fun x => decide (x ∈ k) := by
    have sub := h.filter fun x => decide (x ∈ k)
    rw [List.filter_eq_self.2 fun x hx => decide_eq_true hx] at sub
    refine sub.eq_of_length_le ((nodup.filter _).subperm fun x hx => ?_).length_le
    exact of_decide_eq_true (List.mem_filter.1 hx).2
  rw [whole ha, whole hb]
  exact List.filter_congr fun x hx => decide_eq_decide.2 (same x hx)

/-! ### At a publish (R54) -/

section
variable (hp : s.Placed) (hb : (s.ap a).state = .bound x) (hw : (s.slot x).written = true)
  (hc : (s.ap a).config = some c) (hrole : c.role = .producer)

theorem publish_checks (hb : (s.ap a).state = .bound x) :
    Checks s (s.offered a r x) r ((s.offered a r x).ring r).ready := by
  have ring := offered_ring_self s a r x
  refine ⟨fun y => ?_, by rw [ring], by rw [ring], by rw [ring], offered_changes .., offered_onward hb,
    publishLeaving_sublist⟩
  rw [offered_slot]

/-- The slots that a publish frees. -/
def State.publishFrees (s : State) (a : ApId) (r : RingId) (x : SlotId) : List SlotId :=
  (s.offered a r x).reclaimed r ((s.offered a r x).ring r).ready

include hp hc hrole

theorem mem_publishFrees (hb : (s.ap a).state = .bound x) (hy : y ∈ (s.ring c.ring).ready) :
    y ∈ s.publishFrees a c.ring x ↔
      (s.slot y).holders = 0 ∧ (s.slot y).retained = false ∧
        ∀ b d, ApSet.has (s.ring c.ring).consumers b = true → (s.ap b).config = some d → d.pick = .ordered →
          ApSet.has (s.slot y).passedBy b = true := by
  have ne : y ≠ x := fun e => bound_not_ready hp hb hc hrole c.ring (e ▸ hy)
  have mem := mem_publishLeaving (a := a) hp hc hrole hy ne
  have loose : ((s.offered a c.ring x).slot y).retained = (s.slot y).retained := by
    rw [offered_slot]
    simp [ne]
  show y ∈ State.looseOf _ (s.publishLeaving a c.ring x) ↔ _
  rw [State.looseOf, List.mem_filter, mem, loose]
  cases (s.slot y).retained <;> simp [and_comm]

omit hp hc hrole in
theorem publishFrees_sublist (hb : (s.ap a).state = .bound x) :
    (s.publishFrees a r x).Sublist (s.ring r).ready := (publish_checks hb).sublist

include hb hw

omit hc hrole in
theorem publish_retirements (once : s.RetiresOnce) :
    Retirements ((s.offered a c.ring x).dropAll c.ring (s.publishLeaving a c.ring x)) (s.publishStage a c.ring) c.ring
      (s.publishFrees a c.ring x)
      (retiredOf (s.ring c.ring).on s.retires (s.ring c.ring).pool (s.publishFrees a c.ring x)) := by
  rw [publishStage_of_written hb hw, publish_offered]
  exact (publish_checks hb).retirements hp once

/-- The retirements at a publish, at the end of the boundary. -/
theorem publish_retires (once : s.RetiresOnce) (placed : u.Placed)
    (after : KeepsRetired (s.producerBoundary a c.ring) u c.ring (s.publishFrees a c.ring x)
      (retiredOf (s.ring c.ring).on s.retires (s.ring c.ring).pool (s.publishFrees a c.ring x))) :
    RetirementsApplied s u c.ring (s.publishFrees a c.ring x)
      (retiredOf (s.ring c.ring).on s.retires (s.ring c.ring).pool (s.publishFrees a c.ring x)) := by
  have k := publish_retirements (c := c) hp hb hw once
  have kept := producerBoundary_keepsRetired (sls := s.publishFrees a c.ring x) hc hrole hp fun y hy =>
    (k.slot y).trans (if_pos hy)
  exact ((publish_checks hb).frees hp).applied k (kept.trans after) placed

end

theorem RetirementsApplied.of_counted (h : RetirementsApplied (s.counted a) t r sls gone) :
    RetirementsApplied s t r sls gone := ⟨h.left, h.pool, h.retired, h.stays, h.notes⟩

/-- What the end of a boundary command adds leaves the retirements as they are. -/
theorem KeepsRetired.command (u : State) (code : Byte) (args : List Word) :
    KeepsRetired u (u.arbitrate.answered code args .done []) r sls gone := by
  obtain ⟨a, c, frame⟩ := arbitrate_frame u
  rw [frame]
  exact .of_eq rfl rfl rfl (.congr rfl rfl)

/-- The retirements that the publish of one boundary brings about. -/
theorem boundary_publish_retires (h : s.link.phase = .request) (hs : s.Settled) (hp : s.Placed)
    (once : s.RetiresOnce) (hacts : s.ActsNow a c) (hrole : c.role = .producer) (hb : (s.ap a).state = .bound x)
    (hw : (s.slot x).written = true) :
    ∃ t, exec (.boundary (requestFor 0x05 [idWord a]) order) s = .next t ∧
      RetirementsApplied s t c.ring ((s.counted a).publishFrees a c.ring x)
        (retiredOf (s.ring c.ring).on s.retires (s.ring c.ring).pool ((s.counted a).publishFrees a c.ring x)) := by
  have done := exec_boundary_of_producer (order := order) h hs hacts hrole
  have hbound : ((s.counted a).ap a).state = .bound x := (counted_apState s a a).trans hb
  have hconfig : ((s.counted a).ap a).config = some c := (counted_apConfig s a a).trans hacts.config
  exact ⟨_, done, (publish_retires (s := s.counted a) (counted_placed hp) hbound hw hconfig hrole once (hp.exec done)
    (.command ..)).of_counted⟩

/-! ### At a consumer's move (R72, R80) -/

theorem picked_retained (hb : (s.ap a).state = .bound sl) (y : SlotId) :
    ((s.picked a c next).slot y).retained = (s.slot y).retained := by rw [picked_slot hb]

theorem pick_checks (hb : (s.ap a).state = .bound sl) : Checks s (s.picked a c next) c.ring cands := by
  refine ⟨fun y => ?_, by rw [picked_ring], by rw [picked_ring], by rw [picked_ring], picked_changes .., picked_onward hb, ?_⟩
  · rw [picked_slot hb]
  · have sub := leaving_sublist (s := s.picked a c next) (r := c.ring) (cands := cands)
    rwa [picked_ring] at sub

/-- The slots that a consumer's move frees. -/
def State.pickFrees (s : State) (a : ApId) (c : ApConfig) (sl : SlotId) (next : Option SlotId) : List SlotId :=
  (s.picked a c next).reclaimed c.ring (s.pickChecks a c sl next)

theorem mem_pickFrees (hb : (s.ap a).state = .bound sl) :
    y ∈ s.pickFrees a c sl next ↔
      y ∈ (s.picked a c next).leaving c.ring (s.pickChecks a c sl next) ∧ (s.slot y).retained = false := by
  unfold State.pickFrees State.reclaimed State.looseOf
  rw [List.mem_filter, picked_retained hb]
  cases (s.slot y).retained <;> simp

theorem pickFrees_sublist (hb : (s.ap a).state = .bound sl) :
    (s.pickFrees a c sl next).Sublist (s.ring c.ring).ready := (pick_checks hb).sublist

/-- The retirements that the move of one consumer brings about. -/
theorem boundary_pick_retires (h : s.link.phase = .request) (hs : s.Settled) (hp : s.Placed)
    (once : s.RetiresOnce) (hacts : s.ActsNow a c) (hrole : c.role = .consumer) (hno : s.NoEntriesFor a)
    (hb : (s.ap a).state = .bound sl) (hn : (s.counted a).pickNext a c.ring c.pick sl = some x) :
    ∃ t, exec (.boundary (requestFor 0x05 [idWord a]) order) s = .next t ∧
      RetirementsApplied s t c.ring ((s.counted a).pickFrees a c sl (some x))
        (retiredOf (s.ring c.ring).on s.retires (s.ring c.ring).pool ((s.counted a).pickFrees a c sl (some x))) ∧
      t.changes = { s.changes with entries := s.withoutRetirements ((s.counted a).pickFrees a c sl (some x)) } ∧
      (t.ring c.ring).free = (s.ring c.ring).free ++
        ((s.counted a).pickFrees a c sl (some x)).filter fun y => decide
          (y ∉ retiredOf (s.ring c.ring).on s.retires (s.ring c.ring).pool ((s.counted a).pickFrees a c sl (some x))) := by
  have done := exec_boundary_of_pick (order := order) h hs hacts hrole hno
  have hbound : ((s.counted a).ap a).state = .bound sl := (counted_apState s a a).trans hb
  have placed := counted_placed (a := a) hp
  have checks := pick_checks (c := c) (next := some x) (cands := (s.counted a).pickChecks a c sl (some x)) hbound
  have k := checks.retirements placed (once : (s.counted a).RetiresOnce)
  have end_ := hp.exec done
  rw [pickStage_of_moving hbound hn nofun] at done end_
  generalize hu : ((s.counted a).picked a c (some x)).reclaim c.ring
    ((s.counted a).pickChecks a c sl (some x)) = u at k done end_
  have f := checks.frees placed
  have free := k.ring
  rw [dropAll_ring_self] at free
  refine ⟨_, done, (answered_retired f k end_).of_counted, (f.changes_after k :), ?_⟩
  rw [answered_ring, free]
  have before : (((s.counted a).picked a c (some x)).ring c.ring).free = (s.ring c.ring).free := by
    rw [picked_ring]; rfl
  have all := free_filter_append (l := (s.ring c.ring).free) k.taken fun y hy hf =>
    hp.free_not_ready hf c.ring ((pickFrees_sublist hbound).subset hy)
  rw [← before] at all ⊢
  exact all

end

end Sys2Proof.Machine
end

section
/-! PROOFS: the retirement of a slot that returns empty, and of slots whose last job ends (R15, R59, R154), and O32. -/

namespace Sys2Proof.Machine

section
variable {s t u v w : State} {a b : ApId} {c d : ApConfig} {r q : RingId} {sl x y z : SlotId} {e : Change}
  {sls gone l m cands : List SlotId} {o next : Option SlotId} {floor : Prop} {order : List ApId}

theorem NothingNew.empty (h : NothingNew s t) (none : s.changes.entries = []) : t.changes.entries = [] := by
  refine List.eq_nil_iff_forall_not_mem.2 fun i hi => ?_
  obtain ⟨m, hm, -⟩ := h.entries i hi
  rw [none] at hm
  cases hm

theorem bound_of_boundSlot (h : s.boundSlot a = some x) : (s.ap a).state = .bound x := by
  rw [boundSlot_eq_slotOf] at h
  cases hs : (s.ap a).state with
  | bound y => rw [hs] at h; exact congrArg ApState.bound (Option.some.inj h)
  | off => rw [hs] at h; cases h
  | unbound => rw [hs] at h; cases h

/-! ### An empty return (R59) -/

/-- An unwritten slot is back at the free head, and no retirement has applied. -/
def State.returned (s : State) (a : ApId) (r : RingId) (sl : SlotId) : State :=
  ((s.setApState a .unbound).joinFreeHead r sl).raise
    { kind := .frameEmpty, ring := some r, aperture := some a, slot := some sl, frame := (s.slot sl).frame }

theorem returned_ring (s : State) (a : ApId) (r : RingId) (sl : SlotId) :
    (s.returned a r sl).ring r = { s.ring r with free := sl :: (s.ring r).free } := by
  unfold State.returned State.joinFreeHead
  rw [raise_ring, setRing_ring_self]
  rfl

/-- With nothing left waiting, the producer binds the free head. -/
theorem boundary_binds_head {rest : List SlotId} (left : (s.publishStage a r).changes.entries = [])
    (state : ((s.publishStage a r).ap a).state = .unbound)
    (free : ((s.publishStage a r).ring r).free = x :: rest) :
    ((s.producerBoundary a r).ap a).state = .bound x := by
  have walked : s.walkedOver a r = s.stepped a r := by
    unfold State.walkedOver State.walkChanges
    rw [stepped_changes, left]
    rfl
  have frame := stepSchedule_frame (s.publishStage a r) r (s.publishedFrame a)
  have stepState : ((s.stepped a r).ap a).state = .unbound :=
    (congrArg (fun u : State => (u.ap a).state) frame :).trans state
  have stepFree : ((s.stepped a r).ring r).free = x :: rest :=
    (congrArg (fun u : State => (u.ring r).free) frame :).trans free
  have on : (s.stepped a r).apOn a = true := apOn_eq_true.2 (by rw [stepState]; nofun)
  rw [producerBoundary_eq]
  show (((s.walkedOver a r).bindIfOn a r).ap a).state = _
  rw [walked, State.bindIfOn, if_pos on, bind_of_free stepFree, State.fill, setApState_ap_self]

section
variable (hp : s.Placed) (hb : (s.ap a).state = .bound sl) (hc : (s.ap a).config = some c) (hrole : c.role = .producer)
include hp hb hc hrole

theorem returned_frees : Frees s (s.returned a c.ring sl) c.ring [sl] := by
  obtain ⟨home, out⟩ := hp.filling c.ring sl (hp.fillingSlot_of_writes ⟨hb, c, hc, hrole, rfl⟩)
  refine ⟨fun y => ?_, ?_, rfl, ?_, fun y hy => List.mem_singleton.1 hy ▸ home, List.nodup_singleton sl, ?_⟩
  · unfold State.returned
    rw [raise_slot, joinFreeHead_slot]
    split
    · next e => subst e; rfl
    · rfl
  · rw [returned_ring]
  · have off : Onward s (s.setApState a .unbound) := .state .unbound fun _ => by rw [hb]; nofun
    have freed : Onward (s.setApState a .unbound) ((s.setApState a .unbound).joinFreeHead c.ring sl) := .congr rfl rfl
    exact (off.trans freed).trans (.raise _ _)
  · rw [returned_ring]
    exact List.nodup_cons.2 ⟨fun h => out (Ring.mem_lists.2 (.inl h)), hp.free_nodup c.ring⟩

theorem emptyReturn_retirements (once : s.RetiresOnce) (hw : (s.slot sl).written = false) :
    Retirements (s.returned a c.ring sl) (s.publishStage a c.ring) c.ring [sl]
      (retiredOf (s.ring c.ring).on s.retires (s.ring c.ring).pool [sl]) := by
  have k := (returned_frees hp hb hc hrole).retirements once
  rw [returned_ring] at k
  rw [publishStage_of_unwritten hb hw]
  exact k

theorem emptyReturn_retires_one (only : s.OnlyRetires c.ring sl e) (hw : (s.slot sl).written = false)
    (hfloor : floor ↔ (s.ring c.ring).on = true ∧ (s.ring c.ring).pool ≤ 2) (placed : u.Placed)
    (after : KeepsRetired (s.producerBoundary a c.ring) u c.ring [sl]
      (retiredOf (s.ring c.ring).on s.retires (s.ring c.ring).pool [sl]))
    (entries : u.changes = (s.producerBoundary a c.ring).changes) :
    RetirementApplied s u c.ring sl e floor ∧ (floor → ((s.producerBoundary a c.ring).ap a).state = .bound sl) := by
  have f := returned_frees hp hb hc hrole
  have k := emptyReturn_retirements hp hb hc hrole only.once hw
  have one := retiredOf_one (on := (s.ring c.ring).on) (n := (s.ring c.ring).pool) (fun x => only.retires) f.apart
    (List.mem_singleton.2 (rfl : sl = sl))
  have stageLeft : (s.publishStage a c.ring).changes.entries = [] := by
    rw [f.changes_after k]
    exact only.withoutRetirements (List.mem_singleton.2 rfl)
  have left : u.changes.entries = [] := by
    rw [entries]
    exact (NothingNew.producerBoundary (s := s) hc hrole).empty stageLeft
  have kept := producerBoundary_keepsRetired (sls := [sl]) hc hrole hp fun y hy => (k.slot y).trans (if_pos hy)
  have applied := f.applied k (kept.trans after) placed
  refine ⟨applied.one only (List.mem_singleton.2 rfl) one hfloor left, fun floored => ?_⟩
  refine boundary_binds_head (rest := (s.ring c.ring).free) stageLeft ?_ ?_
  · rw [publishStage_of_unwritten hb hw, State.emptyReturn, applyRetirement_ap, raise_ap]
    exact congrArg Aperture.state (setApState_ap_self s a _)
  · rw [k.ring, returned_ring, one, if_pos (hfloor.1 floored), filter_not_mem_nil]

/-! ### One reclaimed slot at a publish (R54) -/

theorem publish_retires_one (only : s.OnlyRetires c.ring x e) (hw : (s.slot sl).written = true)
    (hx : x ∈ s.publishFrees a c.ring sl)
    (hfloor : floor ↔ (s.ring c.ring).on = true ∧ (s.ring c.ring).pool ≤ 2) (placed : u.Placed)
    (after : KeepsRetired (s.producerBoundary a c.ring) u c.ring (s.publishFrees a c.ring sl)
      (retiredOf (s.ring c.ring).on s.retires (s.ring c.ring).pool (s.publishFrees a c.ring sl)))
    (entries : u.changes = (s.producerBoundary a c.ring).changes) :
    RetirementApplied s u c.ring x e floor ∧
      (floor → x ∈ ((s.producerBoundary a c.ring).ring c.ring).free ∨
        ((s.producerBoundary a c.ring).ap a).state = .bound x) := by
  have f := (publish_checks (r := c.ring) hb).frees hp
  have k := publish_retirements (c := c) hp hb hw only.once
  have one := retiredOf_one (on := (s.ring c.ring).on) (n := (s.ring c.ring).pool) (fun x => only.retires)
    ((publishFrees_sublist hb).nodup (hp.ready_nodup c.ring)) hx
  have stageLeft : (s.publishStage a c.ring).changes.entries = [] := by
    rw [f.changes_after k]
    exact only.withoutRetirements hx
  have left : u.changes.entries = [] := by
    rw [entries]
    exact (NothingNew.producerBoundary (s := s) hc hrole).empty stageLeft
  refine ⟨(publish_retires hp hb hw hc hrole only.once placed after).one only hx one hfloor left, fun floored => ?_⟩
  have free : x ∈ ((s.publishStage a c.ring).ring c.ring).free := by
    rw [k.ring, one, if_pos (hfloor.1 floored), filter_not_mem_nil, dropAll_ring_self]
    exact List.mem_append_right _ hx
  obtain ⟨o, fin⟩ := producerBoundary_finished hp hc hrole
  by_cases taken : o = some x
  · exact .inr (bound_of_boundSlot (fin.bound.trans taken))
  · refine .inl ?_
    rw [fin.free]
    exact List.mem_filter.2 ⟨free, decide_eq_true taken⟩

end

/-! ### At a boundary command -/

theorem RetirementApplied.of_counted (h : RetirementApplied (s.counted a) t r sl e floor) :
    RetirementApplied s t r sl e floor := ⟨h.left, h.rejected, h.retired⟩

theorem arbitrate_ring (u : State) (q : RingId) : u.arbitrate.ring q = u.ring q := by
  obtain ⟨_, _, frame⟩ := arbitrate_frame u
  rw [frame]
  rfl

theorem command_changes (u : State) (code : Byte) (args : List Word) :
    (u.arbitrate.answered code args .done []).changes = u.changes := by
  obtain ⟨_, _, frame⟩ := arbitrate_frame u
  rw [answered_changes, frame]

section
variable (h : s.link.phase = .request) (hs : s.Settled) (hp : s.Placed) (hacts : s.ActsNow a c)
  (hfloor : floor ↔ (s.ring c.ring).on = true ∧ (s.ring c.ring).pool ≤ 2)
include h hs hp hacts hfloor

theorem boundary_emptyReturn_retires_one (hrole : c.role = .producer) (only : s.OnlyRetires c.ring sl e)
    (hb : (s.ap a).state = .bound sl) (hw : (s.slot sl).written = false) :
    ∃ t, exec (.boundary (requestFor 0x05 [idWord a]) order) s = .next t ∧
      RetirementApplied s t c.ring sl e floor ∧ (floor → (t.ap a).state = .bound sl) := by
  have done := exec_boundary_of_producer (order := order) h hs hacts hrole
  obtain ⟨one, bound⟩ := emptyReturn_retires_one (s := s.counted a) (counted_placed hp)
    ((counted_apState s a a).trans hb) ((counted_apConfig s a a).trans hacts.config) hrole only hw hfloor
    (hp.exec done) (.command ..) (command_changes ..)
  refine ⟨_, done, one.of_counted, fun floored => ?_⟩
  rw [answered_ap, arbitrate_ap]
  exact bound floored

theorem boundary_publish_retires_one (hrole : c.role = .producer) (only : s.OnlyRetires c.ring x e)
    (hb : (s.ap a).state = .bound sl) (hw : (s.slot sl).written = true) (hx : x ∈ (s.counted a).publishFrees a c.ring sl) :
    ∃ t, exec (.boundary (requestFor 0x05 [idWord a]) order) s = .next t ∧
      RetirementApplied s t c.ring x e floor ∧ (floor → x ∈ (t.ring c.ring).free ∨ (t.ap a).state = .bound x) := by
  have done := exec_boundary_of_producer (order := order) h hs hacts hrole
  obtain ⟨one, stands⟩ := publish_retires_one (s := s.counted a) (counted_placed hp)
    ((counted_apState s a a).trans hb) ((counted_apConfig s a a).trans hacts.config) hrole only hw hx hfloor
    (hp.exec done) (.command ..) (command_changes ..)
  refine ⟨_, done, one.of_counted, fun floored => ?_⟩
  rw [answered_ap, arbitrate_ap, answered_ring, arbitrate_ring]
  exact stands floored

theorem boundary_pick_retires_one (hrole : c.role = .consumer) (only : s.OnlyRetires c.ring sl e)
    (hb : (s.ap a).state = .bound y) (hn : (s.counted a).pickNext a c.ring c.pick y = some x)
    (hsl : sl ∈ (s.counted a).pickFrees a c y (some x)) :
    ∃ t, exec (.boundary (requestFor 0x05 [idWord a]) order) s = .next t ∧
      RetirementApplied s t c.ring sl e floor ∧ (floor → sl ∈ (t.ring c.ring).free) := by
  have none : s.NoEntriesFor a := fun i hi z op => by
    rw [only.1, List.mem_singleton] at hi
    rw [hi, only.2.1] at op
    cases op
  obtain ⟨t, done, applied, changes, free⟩ := boundary_pick_retires (order := order) h hs hp only.once hacts hrole none hb hn
  have hbound : ((s.counted a).ap a).state = .bound y := (counted_apState s a a).trans hb
  obtain ⟨one, stays⟩ := applied.alone only ((pickFrees_sublist hbound).nodup (hp.ready_nodup c.ring)) hsl rfl hfloor changes
  exact ⟨t, done, one, fun floored => free ▸ List.mem_append_right _ (stays floored)⟩

end

/-! ### The end of a job (R15) -/

section
variable {j : Job} {k : NoteKind} {n f g : Nat} {release : Bool} (only : s.OnlyRetires r sl e)
  (hfloor : floor ↔ (s.ring r).on = true ∧ (s.ring r).pool ≤ 2)
include only hfloor

theorem StillWaits.endActive (h : StillWaits s u r sl) (hr : j.ring = r) (hsl : j.slot = sl)
    (frees : u.FreesAtEnd j (u.slot j.slot).releaseRequested) :
    HasApplied s (u.endActive j k n).arbitrate r sl e floor := by
  rw [endActive_eq]
  have cleared : StillWaits s u.clearActive r sl := h.step (.of_eq rfl rfl rfl (.congr rfl rfl))
  have settled := cleared.settle_freed (k := k) (f := n) (h := n) only hfloor hr hsl frees
  exact (settled.engine (activateNext_frame _)).arbitrate

theorem StillWaits.endDone (h : StillWaits s u r sl) (hr : j.ring = r) (hsl : j.slot = sl)
    (frees : u.FreesAtEnd j ((u.slot j.slot).releaseRequested || j.autoRelease)) :
    HasApplied s (u.endDone j).arbitrate r sl e floor := by
  rw [endDone_eq]
  have cleared : StillWaits s u.clearActive r sl := h.step (.of_eq rfl rfl rfl (.congr rfl rfl))
  have settled := cleared.settle_freed (k := .copyDone) (f := 1) (h := 0) only hfloor hr hsl frees
  exact (settled.engine (activateNext_frame _)).arbitrate

end

end

end Sys2Proof.Machine
end

section
/-! PROOFS: the retirements at boundaries and at the ends of jobs (O32). -/

namespace Sys2Proof.Machine

section
variable {s t u : State} {a : ApId} {c : ApConfig} {r : RingId} {sl x y : SlotId} {e : Change} {sls gone freed : List SlotId}
  {floor : Prop} {order : List ApId} {q : Job} {j : ActiveJob} {id : Nat}

theorem pickNext_of_move (h : match c.pick with
      | .newest => (s.ring c.ring).ready.getLast? = some x ∧ x ≠ sl
      | .ordered => (s.ring c.ring).ready.find? (fun y => !ApSet.has (s.slot y).passedBy a) = some x) :
    s.pickNext a c.ring c.pick sl = some x := by
  rw [pickNext_eq]
  cases hp : c.pick with
  | newest =>
    rw [hp] at h
    obtain ⟨last, ne⟩ := h
    simp only [last]
    exact if_neg fun k => ne (Option.some.inj k)
  | ordered =>
    rw [hp] at h
    exact h

theorem mem_pickFrees_of_prompt (hpr : s.PromptlyReclaimed) (hb : (s.ap a).state = .bound sl)
    (hc : (s.ap a).config = some c) (hy : y ∈ (s.ring c.ring).ready) :
    y ∈ s.pickFrees a c sl (some x) ↔
      (s.ring c.ring).ready.getLast? ≠ some y ∧ y ≠ x ∧ (s.slot y).retained = false ∧
        (if y = sl then ApSet.erase (s.slot y).holders a else (s.slot y).holders) = 0 ∧
        ∀ b d, ApSet.has (s.ring c.ring).consumers b = true → (s.ap b).config = some d → d.pick = .ordered →
          ApSet.has (s.slot y).passedBy b = true ∨ b = a ∧ y ∈ takeThrough x (s.ring c.ring).ready := by
  have passed : (∃ z, some x = some z ∧ y ∈ takeThrough z (s.ring c.ring).ready) ↔
      y ∈ takeThrough x (s.ring c.ring).ready :=
    ⟨fun ⟨z, hz, k⟩ => Option.some.inj hz ▸ k, fun k => ⟨x, rfl, k⟩⟩
  rw [mem_pickFrees hb, mem_pick_leaving hpr hb hc hy, passed]
  simp only [ne_eq, Option.some.injEq, eq_comm (a := x)]
  constructor
  · rintro ⟨⟨last, ne, hold, pass⟩, loose⟩
    exact ⟨last, ne, loose, hold, pass⟩
  · rintro ⟨last, ne, loose, hold, pass⟩
    exact ⟨⟨last, ne, hold, pass⟩, loose⟩

/-- The READY slot that a NEWEST consumer leaves behind is reclaimed if all others have passed it (R12). -/
theorem left_behind_freed (hb : (s.ap a).state = .bound sl) (hready : sl ∈ (s.ring c.ring).ready)
    (loose : (s.slot sl).retained = false) (last : (s.ring c.ring).ready.getLast? = some x) (ne : x ≠ sl)
    (hold : ApSet.erase (s.slot sl).holders a = 0)
    (passed : ∀ b d, ApSet.has (s.ring c.ring).consumers b = true → (s.ap b).config = some d → d.pick = .ordered →
      ApSet.has (s.slot sl).passedBy b = true) : sl ∈ s.pickFrees a c sl (some x) := by
  have config (b : ApId) : ((s.picked a c (some x)).ap b).config = (s.ap b).config := by
    by_cases e : a = b
    · subst e; rw [picked_ap_self hb]
    · rw [picked_ap_ne e]
  rw [mem_pickFrees hb, mem_leaving, picked_ring, State.MeetsReclamation, picked_ring, picked_unheld_iff hb]
  refine ⟨⟨hready, List.mem_cons_self, ⟨fun k => ne (Option.some.inj k), by rw [if_pos rfl]; exact hold⟩,
    fun b d hcons hd pick => ?_, by rw [last]; exact fun k => ne (Option.some.inj k)⟩, loose⟩
  rw [config] at hd
  exact (picked_passed_iff hb sl b).2 (.inl (passed b d hcons hd pick))

/-! ### COPY_CANCEL (R127) -/

section
variable (h : s.link.phase = .request) (hid : id ≠ 0) (hid' : id ≤ 255) (hj : s.copy.active = some j)
include h hid hid' hj

theorem exec_copyCancel_waiting (hjd : j.job.id = id) (hg : j.granted = false) :
    exec (.copyCancel (requestFor 0x29 [numWord id])) s =
      .next (((s.endActive j.job .copyAborted 1).arbitrate).answered 0x29 [numWord id] .done []) :=
  congrArg Host.Outcome.next (takeCommand_unlinked (unlinked_endActive j.job .copyAborted 1) h (by simp)
    (readRange_numWord (Nat.zero_le _) hid' (by decide))
    fun bs => actCopyCancel_of_waiting (s := s.received bs) hid hj hjd hg)

theorem exec_copyCancel_queued (hjd : j.job.id ≠ id)
    (hq : s.copy.queued.find? (fun y => decide (y.id = id)) = some q) :
    exec (.copyCancel (requestFor 0x29 [numWord id])) s =
      .next ((s.abortQueued q).answered 0x29 [numWord id] .done []) :=
  congrArg Host.Outcome.next (takeCommand_unlinked (unlinked_abortQueued q) h (by simp)
    (readRange_numWord (Nat.zero_le _) hid' (by decide))
    fun bs => actCopyCancel_of_queued (s := s.received bs) hid hj hjd hq)

theorem copyCancel_retires_one (hp : s.Placed) (only : s.OnlyRetires r sl e)
    (hfloor : floor ↔ (s.ring r).on = true ∧ (s.ring r).pool ≤ 2) (hr : q.ring = r) (hsl : q.slot = sl)
    (frees : s.FreesAtEnd q (s.slot sl).releaseRequested)
    (which : j.job = q ∧ q.id = id ∧ j.granted = false ∨
      j.job.id ≠ id ∧ s.copy.queued.find? (fun y => decide (y.id = id)) = some q) :
    ∃ t, exec (.copyCancel (requestFor 0x29 [numWord id])) s = .next t ∧ t.answers .done [] ∧
      RetirementApplied s t r sl e floor ∧ (floor → sl ∈ (t.ring r).free) := by
  have waits := StillWaits.refl s r sl
  subst hsl
  rcases which with ⟨rfl, hjd, hg⟩ | ⟨hjd, hq⟩
  · have done := exec_copyCancel_waiting h hid hid' hj hjd hg
    have ended := waits.endActive (k := .copyAborted) (n := 1) only hfloor hr rfl frees
    exact ⟨_, done, answered_answers .., (ended.answered ..).applied (hp.exec done)⟩
  · have done := exec_copyCancel_queued h hid hid' hj hjd hq
    have dequeued : StillWaits s { s with copy := { s.copy with queued := s.copy.queued.erase q } } r q.slot :=
      waits.step (.of_eq rfl rfl rfl (.congr rfl rfl))
    have settled := dequeued.settle_freed (k := .copyAborted) (f := 0) (h := 0) only hfloor hr rfl frees
    rw [← abortQueued_eq] at settled
    exact ⟨_, done, answered_answers .., (settled.answered ..).applied (hp.exec done)⟩

end

/-! ### The responses to claims (R122, R123) -/

section
variable {txn : Txn} {resp : MResponse} {out : BusOutcome} (hp : s.Placed) (only : s.OnlyRetires r sl e)
  (hfloor : floor ↔ (s.ring r).on = true ∧ (s.ring r).pool ≤ 2)
  (port : s.arbiter.port = some { claimant := .copy, txn := txn }) (hj : s.copy.active = some j)
  (hg : j.granted = true) (hr : j.job.ring = r) (hsl : j.job.slot = sl)
include hp only hfloor port hj hg hr hsl

theorem copyRead_retires_one (hk : txn.kind = .read) (ends : j.cancelled = true ∨ resp.outcome = .fault)
    (frees : s.FreesAtEnd j.job (s.slot sl).releaseRequested) :
    ∃ t, exec (.copyReadResponse resp) s = .next t ∧ RetirementApplied s t r sl e floor ∧
      (floor → sl ∈ (t.ring r).free) := by
  have done : exec (.copyReadResponse resp) s = .next (s.freePort.readDone j resp).arbitrate :=
    congrArg Host.Outcome.next (copyReadResponse_of_job (copyOnPort_of_port port hk) (jobOnPort_of_granted hj hg))
  rw [readDone_of_ended ends] at done
  have freed : StillWaits s s.freePort r sl := (StillWaits.refl s r sl).step (.of_eq rfl rfl rfl (.congr rfl rfl))
  subst hsl
  exact ⟨_, done, (freed.endActive only hfloor hr rfl frees).applied (hp.exec done)⟩

theorem copyWrite_retires_one {b : Nat} (hb : b = min 16 ((j.job.length - j.job.doneBytes) / 8)) (hk : txn.kind = .write)
    (ends : (j.cancelled = true ∨ out = .fault) ∧ s.FreesAtEnd j.job (s.slot sl).releaseRequested ∨
      j.cancelled = false ∧ out = .okay ∧ j.job.length ≤ j.job.doneBytes + 8 * b ∧
        s.FreesAtEnd j.job ((s.slot sl).releaseRequested || j.job.autoRelease)) :
    ∃ t, exec (.copyWriteResponse out) s = .next t ∧ RetirementApplied s t r sl e floor ∧
      (floor → sl ∈ (t.ring r).free) := by
  have done : exec (.copyWriteResponse out) s = .next (s.freePort.writeDone j out).arbitrate :=
    congrArg Host.Outcome.next (copyWriteResponse_of_job (copyOnPort_of_port port hk) (jobOnPort_of_granted hj hg))
  have freed : StillWaits s s.freePort r sl := (StillWaits.refl s r sl).step (.of_eq rfl rfl rfl (.congr rfl rfl))
  subst hsl
  rcases ends with ⟨early, frees⟩ | ⟨hc, rfl, last, frees⟩
  · rw [writeDone_of_ended early] at done
    exact ⟨_, done, (freed.endActive only hfloor hr rfl frees).applied (hp.exec done)⟩
  · have advanced := advanced_eq hb
    rw [writeDone_of_last hc (by rw [advanced]; exact last), advanced] at done
    exact ⟨_, done, (StillWaits.endDone (j := { j.job with doneBytes := j.job.doneBytes + 8 * b }) only hfloor freed hr
      rfl frees).applied (hp.exec done)⟩

end

end

/-- Settles O32: the slots that a publish and a consumer's move free, with all their retirements; then with one
entry each of the moments at which its slot goes free. -/
theorem retirementAppliesAtBoundariesAndJobEnds : Obligations.RetirementAppliesAtBoundariesAndJobEnds := by
  refine ⟨?_, ?_⟩
  · rintro s a c order freed gone h hs hp laws hacts sub rfl
    have config : ((s.counted a).ap a).config = some c := (counted_apConfig s a a).trans hacts.config
    refine ⟨fun x hrole hb hw members => ?_, fun sl x hrole hno hpr hb move members => ?_⟩
    · have bound : ((s.counted a).ap a).state = .bound x := (counted_apState s a a).trans hb
      obtain rfl : freed = (s.counted a).publishFrees a c.ring x :=
        sublist_eq_of_mem (hp.ready_nodup c.ring) sub (publishFrees_sublist bound) fun y hy => by
          rw [members y hy, mem_publishFrees (counted_placed hp) config hrole bound hy]
          simp only [counted_apConfig]
          rfl
      exact boundary_publish_retires h hs hp laws.once hacts hrole hb hw
    · have bound : ((s.counted a).ap a).state = .bound sl := (counted_apState s a a).trans hb
      have next : (s.counted a).pickNext a c.ring c.pick sl = some x := pickNext_of_move move
      obtain rfl : freed = (s.counted a).pickFrees a c sl (some x) :=
        sublist_eq_of_mem (hp.ready_nodup c.ring) sub (pickFrees_sublist bound) fun y hy => by
          rw [members y hy, mem_pickFrees_of_prompt (counted_prompt hpr) bound config hy]
          simp only [counted_apConfig]
          rfl
      exact boundary_pick_retires h hs hp laws.once hacts hrole hno hb next
  · intro s r sl e floor hp only hfloor
    refine ⟨fun a c order h hs hacts hr => ?_, fun x j b port hj hg hr hsl hb => ?_, ?_⟩
    · subst hr
      have config : ((s.counted a).ap a).config = some c := (counted_apConfig s a a).trans hacts.config
      refine ⟨fun hrole hb hw => boundary_emptyReturn_retires_one h hs hp hacts hfloor hrole only hb hw,
        fun ready loose passed => ⟨fun x hrole hb hw free => ?_, fun x hrole hpick hb last ne hold => ?_⟩⟩
      · have bound : ((s.counted a).ap a).state = .bound x := (counted_apState s a a).trans hb
        refine boundary_publish_retires_one h hs hp hacts hfloor hrole only hb hw ?_
        rw [mem_publishFrees (counted_placed hp) config hrole bound ready]
        simp only [counted_apConfig]
        exact ⟨free, loose, passed⟩
      · have bound : ((s.counted a).ap a).state = .bound sl := (counted_apState s a a).trans hb
        have move : (s.counted a).pickNext a c.ring c.pick sl = some x :=
          pickNext_of_move (by rw [hpick]; exact ⟨last, ne⟩)
        refine boundary_pick_retires_one h hs hp hacts hfloor hrole only hb move ?_
        refine left_behind_freed bound ready loose last ne hold fun b d hcons hd pick => ?_
        rw [counted_apConfig] at hd
        exact passed b d hcons hd pick
    · exact ⟨fun resp hk ends frees => copyRead_retires_one hp only hfloor port hj hg hr hsl hk ends frees,
        fun out hk ends => copyWrite_retires_one hp only hfloor port hj hg hr hsl hb hk ends⟩
    · intro j q id h hid hid' hj hr hsl frees which
      exact copyCancel_retires_one h hid hid' hj hp only hfloor hr hsl frees which

end Sys2Proof.Machine
end

section
/-! PROOFS: the walk of a producer boundary, in a state where the producer is also among the consumers of
its ring. -/

namespace Sys2Proof.Machine

/-- A configuration of a producer of ring 0 whose divider passes every boundary. -/
def doubleConfig : ApConfig :=
  { ring := 0, role := .producer, windowBase := 0x80000000, windowSize := 12, sources := 1, line := .a
    divider := 1, fill := 0, pick := .newest, onEmpty := .repeatFrame, stall := .wait, timeout := 0 }

/-- Ring 0 with the written slot 0 bound to its producer 0, which the consumers of the ring name as well,
so that the placement law fails; a SET_DIVIDER waits for it, and every kind of note is enabled. -/
def doubleRole : State :=
  { (((State.reset.setRing 0
      { Ring.atReset with on := true, slotSize := some 12, producer := some 0, consumers := 1, pool := 1 }).setSlot 0
      { Slot.unassigned with
        home := some { ring := 0, base := 0x10000000 }, frame := some 1, written := true }).setAp 0
      { config := some doubleConfig, state := .bound 0, count := 0, deferred := false }) with
    link := { State.reset.link with selLow := true, phase := .request }
    changes := { entries := [{ seq := 1, op := .aperture 0 (.setDivider 2), expiry := 0 }], nextSeq := 2 }
    notes := { State.reset.notes with mask := 0x7FFFF } }

/-- The note that O30 asks for at the SET_DIVIDER: it names no slot. -/
def dividerNote : Note :=
  { kind := .changeApplied, ring := some 0, aperture := some 0, tag := some 1, detail := 5 }

theorem doubleRole_settled : doubleRole.Settled := settled_of_check (by decide)

theorem doubleRole_acts : doubleRole.ActsNow 0 doubleConfig where
  on := by decide
  config := by decide
  passed := by decide
  fresh := by decide
  free := by decide
  unlocked := by decide

theorem doubleRole_waits : ∀ e ∈ doubleRole.changes.entries, e.op = .aperture 0 (.setDivider 2) := by decide

theorem doubleRole_rejects_none (e : Change) : ¬ doubleRole.Rejects 0 doubleConfig e := by
  rintro ⟨ahead, base, hop, -⟩
  have waits : e ∈ doubleRole.entriesFor 0 := (List.takeWhile_sublist _).subset ahead
  rw [doubleRole_waits e (mem_entriesFor.1 waits).1] at hop
  injection hop with _ hx
  cases hx

/-- The kinds of the notes that an outcome leaves in the queue, with the slots they name. -/
def notesLeft (o : Host.Outcome State Fault Refusal) : List (NoteKind × Option SlotId) :=
  match o with
  | .next t => t.notes.queue.map fun n => (n.kind, n.slot)
  | _ => []

set_option maxRecDepth 20000 in
/-- The publish lets the producer, which is among the consumers and was just unbound, acquire the slot again,
so the SET_DIVIDER applies to an aperture that holds slot 0, and its note names it. -/
theorem doubleRole_boundary_notes :
    notesLeft (exec (.boundary (requestFor 0x05 [idWord (0 : ApId)]) []) doubleRole) =
      [(.framePublished, some 0), (.changeApplied, some 0), (.producerStarved, none)] := by decide

/-- Refutes O30: the statement asks for the placement law only where a RETIRE_SLOT waits. In a state where the
producer is also among the consumers of its ring, the publish binds the slot to it again, and the note of the
change that applies next names that slot, not none. -/
theorem not_producerBoundaryWalksTheChanges : ¬ Obligations.ProducerBoundaryWalksTheChanges := by
  unfold Obligations.ProducerBoundaryWalksTheChanges
  intro h
  obtain ⟨t, run, -, -, -, -, raised, -⟩ := h doubleRole 0 doubleConfig [] (fun _ => false) (by decide)
    doubleRole_settled doubleRole_acts (by decide) (by decide)
    (fun e => by simpa using doubleRole_rejects_none e)
    (fun e he sl hop => absurd hop (by rw [doubleRole_waits e he]; exact nofun))
  have notes : t.notes.queue.map (fun n => (n.kind, n.slot)) = _ :=
    (congrArg notesLeft run).symm.trans doubleRole_boundary_notes
  have walk : doubleRole.walkNote t 0 doubleConfig.ring (fun _ => false)
      { seq := 1, op := .aperture 0 (.setDivider 2), expiry := 0 } = some dividerNote := by rfl
  rcases raised _ (by decide) dividerNote walk (by decide) with mem | full
  · have named := List.mem_map_of_mem (f := fun n : Note => (n.kind, n.slot)) (List.mem_of_mem_drop mem)
    rw [notes] at named
    exact absurd named (by decide)
  · have len := congrArg List.length notes
    rw [List.length_map] at len
    rw [len] at full
    exact absurd full (by decide)

end Sys2Proof.Machine
end

section
/-! PROOFS: what the A-side port leaves unchanged as it accepts transactions, and the response to a STEERING
transaction with no boundary pending (O50). -/

namespace Sys2Proof.Machine

section
variable {s t u v : State} {x y : Txn} {a b : ApId} {c : ApConfig} {resp : MResponse} {target : Option Target}
  {order : List ApId}

/-! ### Accepting a transaction -/

/-- The rings, the apertures, the link and the slots but for their written marks are as they were, and notes
are only added. -/
structure Carried (s t : State) : Prop where
  rings     : t.rings = s.rings
  apertures : t.apertures = s.apertures
  link      : t.link = s.link
  slots     : ∀ y, t.slot y = { s.slot y with written := (t.slot y).written }
  onward    : Onward s t

theorem Carried.of_eq (slots : t.slots = s.slots) (rings : t.rings = s.rings) (aps : t.apertures = s.apertures)
    (link : t.link = s.link) (notes : t.notes = s.notes) : Carried s t :=
  ⟨rings, aps, link, fun y => by unfold State.slot; rw [slots], .congr notes aps⟩

theorem Carried.refl (s : State) : Carried s s := .of_eq rfl rfl rfl rfl rfl

theorem Carried.trans (h : Carried s t) (k : Carried t u) : Carried s u where
  rings := k.rings.trans h.rings
  apertures := k.apertures.trans h.apertures
  link := k.link.trans h.link
  slots y := by rw [k.slots y, h.slots y]
  onward := h.onward.trans k.onward

theorem Carried.raise (s : State) (n : Note) : Carried s (s.raise n) :=
  ⟨rfl, rfl, rfl, fun _ => rfl, .raise s n⟩

theorem Carried.answerFault (s : State) (x : Txn) : Carried s (s.answerFault x) := by
  obtain ⟨d, k, h, -⟩ := answerFault_eq s x
  rw [h]
  exact .of_eq rfl rfl rfl rfl rfl

theorem Carried.refuse (s : State) (x : Txn) (a : ApId) (slot : Option SlotId) (cause : Nat) :
    Carried s (s.refuse x a slot cause) :=
  ((Carried.of_eq (s := s) (t := s.lockAccept x none) rfl rfl rfl rfl rfl).trans (.answerFault _ x)).trans (.raise _ _)

theorem Carried.markWritten (s : State) (x : Txn) (sl : SlotId) : Carried s (s.markWritten x sl) := by
  rw [markWritten_eq]
  split
  · refine ⟨rfl, rfl, rfl, fun y => ?_, .congr rfl rfl⟩
    rw [setSlot_slot]
    split
    · next e => subst e; rfl
    · rfl
  · exact .refl s

theorem Carried.acceptPassed (s : State) (x : Txn) (a : ApId) (c : ApConfig) : Carried s (s.acceptPassed x a c) := by
  unfold State.acceptPassed
  split
  · exact (Carried.markWritten s x _).trans (.of_eq rfl rfl rfl rfl rfl)
  · split <;> exact .of_eq rfl rfl rfl rfl rfl
  · exact .of_eq rfl rfl rfl rfl rfl
  · split <;> exact .of_eq rfl rfl rfl rfl rfl

theorem Carried.acceptInside (s : State) (x : Txn) (a : ApId) (c : ApConfig) : Carried s (s.acceptInside x a c) := by
  unfold State.acceptInside
  split
  · exact .refuse s x a _ 2
  · split
    · exact .refuse s x a _ 3
    · exact (Carried.of_eq (s := s) (t := s.lockAccept x (some a)) rfl rfl rfl rfl rfl).trans (.acceptPassed _ x a c)

theorem Carried.accept (s : State) (x : Txn) : Carried s (s.accept x) := by
  unfold State.accept
  split
  · exact .of_eq rfl rfl rfl rfl rfl
  · split
    · split
      · exact .acceptInside s x _ _
      · exact .refuse s x _ _ 1
    · exact .refuse s x _ _ 1
  · exact .refuse s x _ _ 1

theorem Carried.acceptNext (s : State) : Carried s s.acceptNext := by
  unfold State.acceptNext
  split
  · next x rest _ _ =>
    exact (Carried.of_eq (s := s) (t := { s with steering := { s.steering with waiting := rest } }) rfl rfl rfl rfl rfl).trans
      (.accept _ x)
  · exact .refl s

theorem Carried.arbitrate (s : State) : Carried s s.arbitrate := by
  obtain ⟨ar, cp, e⟩ := arbitrate_frame s
  rw [e]
  exact .of_eq rfl rfl rfl rfl rfl

theorem Carried.nonePending (h : Carried s t) (hn : s.NonePending) : t.NonePending := fun a => by
  rw [State.ap, h.apertures]
  exact hn a

theorem runPending_of_nonePending (hn : s.NonePending) (order : List ApId) : s.runPending order = s :=
  runPending_of_idle (canRun_of_nonePending hn) order

/-- With no boundary pending, the transactions that wait are accepted one after another and nothing else
happens to the records. -/
theorem Carried.drainPort (n : Nat) (hn : s.NonePending) : Carried s (State.drainPort n s) := by
  induction n generalizing s with
  | zero => exact .refl s
  | succ n ih =>
    unfold State.drainPort
    split
    · have next := Carried.acceptNext s
      rw [runPending_of_nonePending (next.nonePending hn)]
      have one := next.trans (.arbitrate _)
      exact one.trans (ih (one.nonePending hn))
    · exact .refl s

theorem drainAll_of_busy (h : s.steering.phase ≠ .opened) : s.drainAll = s := by
  unfold State.drainAll
  generalize s.steering.waiting.length = n
  cases n with
  | zero => rfl
  | succ n =>
    unfold State.drainPort
    split
    · next hp _ => exact absurd hp h
    · rfl

/-! ### The response (R30, R38) -/

/-- The part once the response to its STEERING transaction has gone to the master. -/
def State.responded (s : State) (x : Txn) (target : Option Target) (resp : MResponse) : State :=
  (({ s with arbiter := { s.arbiter with port := none } } : State).answer x resp.outcome resp.data).responseFault x target
    resp.outcome

/-- What follows from a response with no boundary pending: the transaction that waits is accepted, the Arbiter
decides, and the others are accepted. -/
def State.goesOn (s : State) : State := s.acceptNext.arbitrate.drainAll

/-- What a FAULT leaves of the slots: the one of the transaction is faulted if it still holds the frame (R38). -/
def State.FaultedIn (s u : State) (tg : Target) : Prop :=
  ∀ y, u.slot y =
    if y = tg.slot ∧ (s.slot y).home.isSome = true ∧ (s.slot y).frame.isSome = true ∧ (s.slot y).frame = tg.frame then
      { s.slot y with faulted := true }
    else s.slot y

/-- The note of a FAULT to a translated transaction. -/
def faultNote (x : Txn) (tg : Target) : Note :=
  { kind := .memoryFault, ring := some tg.ring, aperture := some tg.ap, slot := some tg.slot, frame := tg.frame
    detail := (if x.kind = .read then 0 else 1) * 256 + x.source.val }

theorem memoryFault_eq (s : State) (x : Txn) (tg : Target) :
    ∃ slots, s.memoryFault x tg = { s with slots := slots, notes := s.notes.push (faultNote x tg) } ∧
      s.FaultedIn { s with slots := slots } tg := by
  have note : pairDetail (TxnKind.code x.kind) x.source.val = (if x.kind = .read then 0 else 1) * 256 + x.source.val := by
    cases x.kind <;> rfl
  unfold faultNote
  rw [← note]
  simp only [State.memoryFault]
  by_cases k : (s.slot tg.slot).home.isSome = true ∧ (s.slot tg.slot).frame.isSome = true ∧
      (s.slot tg.slot).frame = tg.frame
  · rw [if_pos k]
    refine ⟨s.slots.set tg.slot { s.slot tg.slot with faulted := true }, rfl, fun y => ?_⟩
    refine (setSlot_slot s tg.slot y _).trans ?_
    by_cases e : tg.slot = y
    · subst e
      rw [if_pos rfl, if_pos ⟨rfl, k⟩]
    · rw [if_neg e, if_neg fun h => e h.1.symm]
  · rw [if_neg k]
    refine ⟨s.slots, rfl, fun y => ?_⟩
    rw [if_neg]
    rintro ⟨rfl, holds⟩
    exact k holds

/-- What the response leaves: the transaction answered, the Steering Unit OPEN, the M-side port FREE, and at
most one slot marked faulted. -/
structure Responded (s u : State) (x : Txn) (resp : MResponse) : Prop where
  steering : u.steering =
    { phase := .opened, waiting := s.steering.waiting, lock := lockAfterResponse s.steering.lock x }
  arbiter  : u.arbiter = { s.arbiter with port := none }
  aOut     : u.aOut = s.aOut ++
    [{ source := x.source, kind := x.kind, outcome := resp.outcome, data := resp.data }]
  books    : u.rings = s.rings ∧ u.apertures = s.apertures ∧ u.link = s.link ∧ u.changes = s.changes
  slots    : ∀ y, u.slot y = { s.slot y with faulted := (u.slot y).faulted }
  onward   : Onward s u

theorem responded_of_kept (h : target = none ∨ resp.outcome = .okay) :
    s.responded x target resp =
      ({ s with arbiter := { s.arbiter with port := none } } : State).answer x resp.outcome resp.data := by
  unfold State.responded State.responseFault
  split
  · next k => rcases h with h | h <;> [cases h; (rw [k] at h; cases h)]
  · rfl

theorem responded_of_fault {tg : Target} (ht : target = some tg) (ho : resp.outcome = .fault) :
    s.responded x target resp =
      (({ s with arbiter := { s.arbiter with port := none } } : State).answer x resp.outcome resp.data).memoryFault x
        tg := by
  unfold State.responded State.responseFault
  rw [ht, ho]

theorem answered_eq (s : State) (x : Txn) (outcome : BusOutcome) (data : List Beat) :
    s.answer x outcome data =
      { s with
        steering := { s.steering with phase := .opened, lock := lockAfterResponse s.steering.lock x }
        aOut := s.aOut ++ [{ source := x.source, kind := x.kind, outcome := outcome, data := data }] } := by
  rw [← complete_eq_lockAfterResponse]
  rfl

theorem responded_faulted {tg : Target} (ht : target = some tg) (ho : resp.outcome = .fault) :
    (s.responded x target resp).notes = s.notes.push (faultNote x tg) ∧
      s.FaultedIn (s.responded x target resp) tg := by
  rw [responded_of_fault ht ho]
  obtain ⟨slots, e, faulted⟩ := memoryFault_eq
    (({ s with arbiter := { s.arbiter with port := none } } : State).answer x resp.outcome resp.data) x tg
  rw [e]
  exact ⟨rfl, faulted⟩

theorem slot_eq_of_faulted {p q : Slot} {P : Prop} [Decidable P] (h : q = if P then { p with faulted := true } else p) :
    q = { p with faulted := q.faulted } := by
  split at h <;> rw [h]

theorem responded_responded (s : State) (x : Txn) (target : Option Target) (resp : MResponse) :
    Responded s (s.responded x target resp) x resp := by
  rcases Option.eq_none_or_eq_some target with ht | ⟨tg, ht⟩
  · rw [responded_of_kept (.inl ht), answered_eq]
    exact ⟨rfl, rfl, rfl, ⟨rfl, rfl, rfl, rfl⟩, fun _ => rfl, .congr rfl rfl⟩
  · cases ho : resp.outcome with
    | okay =>
      rw [responded_of_kept (.inr ho), answered_eq]
      exact ⟨rfl, rfl, rfl, ⟨rfl, rfl, rfl, rfl⟩, fun _ => rfl, .congr rfl rfl⟩
    | fault =>
      rw [responded_of_fault ht ho, answered_eq]
      generalize hw : ({ s with
          arbiter := { s.arbiter with port := none }
          steering := { s.steering with phase := .opened, lock := lockAfterResponse s.steering.lock x }
          aOut := s.aOut ++ [{ source := x.source, kind := x.kind, outcome := resp.outcome, data := resp.data }] } :
        State) = w
      obtain ⟨slots, e, faulted⟩ := memoryFault_eq w x tg
      rw [e]
      subst hw
      refine ⟨rfl, rfl, rfl, ⟨rfl, rfl, rfl, rfl⟩, fun y => ?_, ?_⟩
      · exact slot_eq_of_faulted (faulted y)
      · exact (Onward.raise s (faultNote x tg)).trans (.congr rfl rfl)

/-- The event of a response, once the boundary that could go on has run. -/
theorem exec_steeringResponse {g : Grant} (hphase : s.steering.phase = .inFlight x target)
    (hport : s.arbiter.port = some g) (hclaim : g.claimant = .steering)
    (hv : (s.responded x target resp).runPending order = v) (hn : v.NonePending) :
    exec (.steeringResponse resp order) s = .next v.goesOn := by
  have onPort : s.steeringOnPort = true := by
    unfold State.steeringOnPort
    rw [hport]
    exact decide_eq_true hclaim
  have still := runPending_of_nonePending ((Carried.acceptNext v).nonePending hn) order
  have event : s.steeringResponse resp order =
      ((((s.responded x target resp).runPending order).acceptNext).runPending order).arbitrate.drainAll := by
    unfold State.steeringResponse
    rw [hphase]
    exact if_pos onPort
  rw [hv, still] at event
  exact congrArg Host.Outcome.next event

theorem goesOn_of_none (hw : v.steering.waiting = []) : v.goesOn = v.arbitrate := by
  have same : v.acceptNext = v := by
    unfold State.acceptNext
    split
    · next k => rw [hw] at k; cases k
    · rfl
  have quiet : v.arbitrate.steering.waiting = [] := by rw [arbitrate_steering]; exact hw
  rw [State.goesOn, same]
  exact drainAll_of_empty quiet

/-- The transaction at the front of those that wait is taken. -/
def State.taking (v : State) (rest : List Txn) : State := { v with steering := { v.steering with waiting := rest } }

theorem acceptNext_of_waiting {rest : List Txn} (hphase : v.steering.phase = .opened)
    (hw : v.steering.waiting = y :: rest) : v.acceptNext = (v.taking rest).accept y := by
  unfold State.acceptNext
  rw [hphase, hw]
  rfl

/-- A transaction that is accepted and in flight ends the event. -/
theorem goesOn_of_flying {rest : List Txn} (hphase : v.steering.phase = .opened)
    (hw : v.steering.waiting = y :: rest) (fly : ((v.taking rest).accept y).steering.phase ≠ .opened) :
    v.goesOn = ((v.taking rest).accept y).arbitrate := by
  rw [State.goesOn, acceptNext_of_waiting hphase hw]
  exact drainAll_of_busy (by rw [arbitrate_steering]; exact fly)

theorem touches_taking (rest : List Txn) : (v.taking rest).touches y a ↔ v.touches y a := Iff.rfl

theorem Carried.goesOn (hn : s.NonePending) : Carried s s.goesOn := by
  have one := (Carried.acceptNext s).trans (.arbitrate _)
  exact one.trans (Carried.drainPort _ (one.nonePending hn))

/-- With nothing pending, the response is answered and the transaction that waits is passed through. -/
theorem steeringResponse_unpended {g : Grant} (hphase : s.steering.phase = .inFlight x target)
    (hport : s.arbiter.port = some g) (hclaim : g.claimant = .steering) (hsc : s.arbiter.steeringClaim = none)
    (hn : s.NonePending)
    (pass : ∀ y rest, s.steering.waiting = y :: rest → ∀ a, ¬ s.touches y a) :
    ∃ t, exec (.steeringResponse resp order) s = .next t ∧
      t.aOut = s.aOut ++
        [{ source := x.source, kind := x.kind, outcome := resp.outcome, data := resp.data }] ∧
      t.rings = s.rings ∧ t.apertures = s.apertures ∧ t.link = s.link ∧ t.changes = s.changes ∧
      t.slots = (s.responded x target resp).slots ∧ t.notes = (s.responded x target resp).notes ∧
      (s.steering.waiting = [] →
        t.steering =
          { phase := .opened, waiting := [], lock := lockAfterResponse s.steering.lock x } ∧
        (∀ y, s.arbiter.copyClaim = some y → lockAfterResponse s.steering.lock x = .closed →
          t.arbiter.port = some { claimant := .copy, txn := y })) ∧
      (∀ y rest, s.steering.waiting = y :: rest →
        t.steering =
          { phase := .inFlight y none, waiting := rest
            lock := lockAfterAccept (lockAfterResponse s.steering.lock x) y none } ∧
        t.presented y) := by
  have k := responded_responded s x target resp
  obtain ⟨rings, aps, link, changes⟩ := k.books
  have still : (s.responded x target resp).NonePending := fun a => by
    rw [State.ap, aps]
    exact hn a
  have event := exec_steeringResponse (resp := resp) (order := order) hphase hport hclaim
    (runPending_of_nonePending still order) still
  have steering := k.steering
  have arbiter := k.arbiter
  have aOut := k.aOut
  have untouched (y : Txn) (rest : List Txn) (hw : s.steering.waiting = y :: rest) (a : ApId) :
      ¬ (s.responded x target resp).touches y a := by
    unfold State.touches State.apOn State.ap
    rw [aps]
    exact pass y rest hw a
  generalize s.responded x target resp = u at *
  cases hw : s.steering.waiting with
  | nil =>
    rw [goesOn_of_none (by rw [steering]; exact hw)] at event
    obtain ⟨ar, cp, e⟩ := arbitrate_frame u
    have copy (y : Txn) (hy : s.arbiter.copyClaim = some y) (hl : lockAfterResponse s.steering.lock x = .closed) :=
      arbitrate_copyAlone_port (s := u) (x := y) (by rw [arbiter]) (by rw [arbiter]; exact hsc)
        (by rw [arbiter]; exact hy) (by unfold State.lockOpen; rw [steering]; simp [hl])
    rw [e] at event copy
    exact ⟨_, event, aOut, rings, aps, link, changes, rfl, rfl, fun _ => ⟨steering.trans (by rw [hw]), copy⟩, nofun⟩
  | cons y rest =>
    have phase : u.steering.phase = .opened := by rw [steering]
    have wait : u.steering.waiting = y :: rest := by rw [steering]; exact hw
    have acc : (u.taking rest).accept y = ((u.taking rest).lockAccept y none).forward y y none :=
      accept_of_untouched (untouched y rest hw)
    rw [goesOn_of_flying phase wait (by rw [acc]; exact nofun), acc] at event
    obtain ⟨ar, cp, e⟩ := arbitrate_frame (((u.taking rest).lockAccept y none).forward y y none)
    have presented := arbitrate_presented (s := ((u.taking rest).lockAccept y none).forward y y none) rfl
    rw [e] at event presented
    refine ⟨_, event, aOut, rings, aps, link, changes, rfl, rfl, nofun, fun z more hz => ?_⟩
    obtain ⟨rfl, rfl⟩ := List.cons.inj hz
    refine ⟨?_, presented⟩
    rw [← accept_eq_lockAfterAccept]
    have lock : u.steering.lock = lockAfterResponse s.steering.lock x := by rw [steering]
    rw [← lock]
    rfl

end

end Sys2Proof.Machine
end

section
/-! PROOFS: what the boundary of an aperture without entries leaves of the part around it (O50). -/

namespace Sys2Proof.Machine

section
variable {s t u v w : State} {a b : ApId} {c : ApConfig} {r q : RingId} {sl x y z : SlotId} {rest sls : List SlotId}

/-! ### The homes of the slots -/

/-- A slot keeps its home, or a retirement takes it away. -/
def HomesKept (s t : State) : Prop := ∀ y, (t.slot y).home = (s.slot y).home ∨ (t.slot y).home = none

theorem HomesKept.of_home (h : ∀ y, (t.slot y).home = (s.slot y).home) : HomesKept s t := fun y => .inl (h y)

theorem HomesKept.trans (h : HomesKept s t) (k : HomesKept t u) : HomesKept s u := fun y =>
  (k y).elim (fun e => e ▸ h y) .inr

theorem HomesKept.some (h : HomesKept s t) (k : (t.slot y).home.isSome = true) :
    (t.slot y).home = (s.slot y).home := by
  rcases h y with e | e
  · exact e
  · rw [e] at k; cases k

theorem HomesKept.applyRetirements (s : State) (sls : List SlotId) : HomesKept s (s.applyRetirements sls) := by
  induction sls generalizing s with
  | nil => exact .of_home fun _ => rfl
  | cons y sls ih => exact HomesKept.trans (NoNewGround.applyRetirement y).home (ih (s.applyRetirement y))

theorem HomesKept.reclaim (s : State) (r : RingId) (cands : List SlotId) : HomesKept s (s.reclaim r cands) := by
  rw [reclaim_eq]
  exact (HomesKept.of_home fun y => dropAll_home r _ y).trans (.applyRetirements _ _)

/-! ### The publish stage -/

theorem applyRetirement_entries (s : State) (sl : SlotId) :
    ∀ e ∈ (s.applyRetirement sl).changes.entries, e ∈ s.changes.entries := by
  rcases applyRetirement_changes s sl with k | ⟨f, -, -, k⟩ <;> rw [k]
  · exact fun _ h => h
  · exact fun _ h => List.mem_of_mem_erase h

theorem emptyReturn_eq (s : State) (a : ApId) (r : RingId) (sl : SlotId) :
    s.emptyReturn a r sl = (s.returned a r sl).applyRetirement sl := rfl

/-- The publish stage publishes, returns the slot, or does nothing. -/
theorem publishStage_cases (s : State) (a : ApId) (r : RingId) :
    (∃ sl, (s.ap a).state = .bound sl ∧ (s.slot sl).written = true ∧
      s.publishStage a r = (s.offered a r sl).reclaimAll r) ∨
    (∃ sl, (s.ap a).state = .bound sl ∧ (s.slot sl).written = false ∧
      s.publishStage a r = (s.returned a r sl).applyRetirement sl) ∨
    (∀ sl, (s.ap a).state ≠ .bound sl) ∧ s.publishStage a r = s := by
  by_cases hst : ∃ sl, (s.ap a).state = .bound sl
  · obtain ⟨sl, hst⟩ := hst
    cases hw : (s.slot sl).written with
    | true =>
      refine .inl ⟨sl, hst, hw, ?_⟩
      rw [publishStage_of_written hst hw, publish_offered]
    | false =>
      refine .inr (.inl ⟨sl, hst, hw, ?_⟩)
      rw [publishStage_of_unwritten hst hw, emptyReturn_eq]
  · have none (sl : SlotId) (k : (s.ap a).state = .bound sl) : False := hst ⟨sl, k⟩
    exact .inr (.inr ⟨none, publishStage_of_not_bound r none⟩)

theorem publishStage_entries (s : State) (a : ApId) (r : RingId) :
    ∀ e ∈ (s.publishStage a r).changes.entries, e ∈ s.changes.entries := by
  rcases publishStage_cases s a r with ⟨sl, -, -, e⟩ | ⟨sl, -, -, e⟩ | ⟨-, e⟩ <;> rw [e]
  · intro f hf
    have k := reclaim_entries _ _ _ f hf
    rwa [offered_changes] at k
  · exact applyRetirement_entries (s.returned a r sl) sl
  · exact fun _ h => h

theorem returned_home (s : State) (a : ApId) (r : RingId) (sl y : SlotId) :
    ((s.returned a r sl).slot y).home = (s.slot y).home := by
  unfold State.returned State.joinFreeHead
  rw [raise_slot, setRing_slot, setSlot_slot]
  split
  · next e => subst e; rfl
  · rfl

theorem publishStage_homes (s : State) (a : ApId) (r : RingId) : HomesKept s (s.publishStage a r) := by
  rcases publishStage_cases s a r with ⟨sl, hb, -, e⟩ | ⟨sl, -, -, e⟩ | ⟨-, e⟩ <;> rw [e]
  · exact (HomesKept.of_home (publish_checks hb).homes).trans (.reclaim _ _ _)
  · exact (HomesKept.of_home (returned_home s a r sl)).trans (NoNewGround.applyRetirement sl).home
  · exact .of_home fun _ => rfl

theorem publishStage_frameCounter (s : State) (a : ApId) (r : RingId) :
    ((s.publishStage a r).ring r).frameCounter = (s.ring r).frameCounter := by
  rcases publishStage_cases s a r with ⟨sl, -, -, e⟩ | ⟨sl, -, -, e⟩ | ⟨-, e⟩ <;> rw [e]
  · exact (reclaim_frameCounter _ r _).trans (by rw [offered_ring_self])
  · obtain ⟨-, -, -, -, -, -, -, counter⟩ := applyRetirement_ring_fields (s.returned a r sl) sl r
    rw [counter, returned_ring]

/-! ### The walk -/

theorem walkOne_ap {e : Change} (h : ∀ x, e.op ≠ .aperture a x) (b : ApId) : (State.walkOne a r s e).ap b = s.ap b := by
  unfold State.walkOne
  split
  · next k =>
    rcases Bool.or_eq_true_iff.1 k with k | k
    · obtain ⟨x, hx⟩ := forAperture_eq_true k
      exact absurd hx (h x)
    · obtain ⟨o, ho⟩ := forRing_eq_true k
      exact applyChange_overflow_ap ho b
  · split
    · exact countExpiry_ap s e b
    · rfl

theorem walk_ap {l : List Change} (h : ∀ e ∈ l, ∀ x, e.op ≠ .aperture a x) (b : ApId) :
    (l.foldl (State.walkOne a r) s).ap b = s.ap b := by
  induction l generalizing s with
  | nil => rfl
  | cons e l ih =>
    exact (ih (s := State.walkOne a r s e) fun f hf => h f (List.mem_cons_of_mem _ hf)).trans
      (walkOne_ap (h e List.mem_cons_self) b)

theorem walkedOver_ap (h : s.NoEntriesFor a) (b : ApId) :
    (s.walkedOver a r).ap b = (s.publishStage a r).ap b := by
  refine (walk_ap (l := (s.stepped a r).changes.entries) (fun e he x => ?_) b).trans ?_
  · rw [stepped_changes] at he
    exact h e (publishStage_entries s a r e he) x
  · rw [State.stepped, stepSchedule_ap]

theorem bindIfOn_config (w : State) (a : ApId) (r : RingId) (b : ApId) :
    ((w.bindIfOn a r).ap b).config = (w.ap b).config := by
  have fills (u : State) (sl : SlotId) (n : Nat) : ((u.fill a sl n).ap b).config = (u.ap b).config := by
    rw [State.fill, setApState_config, setSlot_ap]
  unfold State.bindIfOn
  split
  · rcases bind_cases w a r with ⟨_, _, _, e⟩ | ⟨_, _, _, _, e⟩ | ⟨_, _, e⟩ <;> rw [e]
    · rw [fills]; rfl
    · rw [State.steal, raise_ap, fills]; rfl
    · rw [State.starve, raise_ap, setApState_config]; rfl
  · rfl

/-! ### The part around a boundary -/

/-- With no read stalled, a boundary moves neither the Steering Unit nor the Arbiter. -/
theorem Forwarded.unmoved (h : Forwarded s t) (opened : s.steering.phase = .opened) :
    t.steering = s.steering ∧ t.arbiter = s.arbiter := by
  have moved : t.steering.phase = s.steering.phase ∧ t.arbiter = s.arbiter := by
    rcases h.moved with k | ⟨⟨x, b, base, timer, k⟩, -⟩
    · exact k
    · rw [opened] at k; cases k
  refine ⟨?_, moved.2⟩
  have waiting := h.waiting
  have lock := h.lock
  have phase := moved.1
  generalize t.steering = m at *
  generalize s.steering = n at *
  cases m
  cases n
  exact Steering.mk.injEq .. ▸ ⟨phase, waiting, lock⟩

/-- The slot that a producer fills has a home (R5, R8). -/
theorem State.Placed.filled_home (h : s.Placed) (on : s.apOn a = true) (hc : (s.ap a).config = some c)
    (hrole : c.role = .producer) (hb : (s.ap a).state = .bound z) : (s.slot z).home.isSome = true := by
  have producer := (h.producer c.ring a).2 ((servesAs_of_config on hc .producer c.ring).2 ⟨hrole, rfl⟩)
  have filling : s.fillingSlot c.ring = some z := by
    rw [State.fillingSlot, producer, Option.bind_some, State.boundSlot, hb]
  have home := (h.filling c.ring z filling).1
  cases hh : (s.slot z).home with
  | none => rw [hh] at home; cases home
  | some _ => rfl

/-- What the boundary of an aperture leaves of the part around it, where the Steering Unit is OPEN. -/
structure RanBoundary (s v : State) (a : ApId) : Prop where
  link     : v.link = s.link
  aOut     : v.aOut = s.aOut
  steering : v.steering = s.steering
  arbiter  : v.arbiter = s.arbiter
  config   : ∀ b, (v.ap b).config = (s.ap b).config
  bound    : ∀ z, (v.ap a).state = .bound z → (v.slot z).home = (s.slot z).home
  onward   : Onward s v
  placed   : v.Placed
  on       : v.apOn a = true
  pending  : DeferredLe s v

section
variable (hp : s.Placed) (hc : (s.ap a).config = some c) (hno : s.NoEntriesFor a) (on : s.apOn a = true)
  (opened : s.steering.phase = .opened) (hrole : c.role = .producer)
include hp hc hno on hrole

omit hno in
theorem publishStage_state : ((s.publishStage a c.ring).ap a).state = .unbound := by
  cases hst : (s.ap a).state with
  | off => exact absurd hst (apOn_eq_true.1 on)
  | unbound => rw [publishStage_of_unbound hst, hst]
  | bound sl => rw [publishStage_ap hp hc hrole c.ring hst]

theorem walkedOver_apOn : (s.walkedOver a c.ring).apOn a = true := by
  refine apOn_eq_true.2 ?_
  rw [walkedOver_ap hno, publishStage_state hp hc on hrole]
  nofun

theorem producerBoundary_apOn : (s.producerBoundary a c.ring).apOn a = true :=
  (bindIfOn_apOn (s.walkedOver a c.ring) a c.ring).trans (walkedOver_apOn hp hc hno on hrole)

include opened in
theorem producerBoundary_ran : RanBoundary s (s.producerBoundary a c.ring) a := by
  have := moving_placing
  have := working_placing
  have := moving_boundary
  have := working_boundary
  obtain ⟨beside, -⟩ := publishStage_beside s a c.ring
  have shelf := producerBoundary_onShelf hc hrole (s := s)
  have frame := stepSchedule_frame (s.publishStage a c.ring) c.ring (s.publishedFrame a)
  obtain ⟨steering, arbiter⟩ := (producerBoundary_forwarded hc hrole (s := s)).unmoved opened
  refine ⟨?_, ?_, steering, arbiter, fun b => ?_, fun z hz => ?_, ?_, ?_, producerBoundary_apOn hp hc hno on hrole, ?_⟩
  · exact (OnShelf.link shelf).trans ((congrArg State.link frame :).trans (congrArg State.link beside :))
  · exact (OnShelf.aOut shelf).trans ((congrArg State.aOut frame :).trans (congrArg State.aOut beside :))
  · refine (bindIfOn_config (s.walkedOver a c.ring) a c.ring b).trans ?_
    rw [walkedOver_ap hno, publishStage_config]
  · have homes : HomesKept s (s.producerBoundary a c.ring) := fun y => by
      rw [producerBoundary_home hc hrole y]
      exact publishStage_homes s a c.ring y
    have config : ((s.producerBoundary a c.ring).ap a).config = some c := by
      refine (bindIfOn_config (s.walkedOver a c.ring) a c.ring a).trans ?_
      rw [walkedOver_ap hno, publishStage_config, hc]
    have placed : (s.producerBoundary a c.ring).Placed := hp.moves (producerBoundary_moves hp.obeys hc hrole)
    exact homes.some (placed.filled_home (producerBoundary_apOn hp hc hno on hrole) config hrole hz)
  · exact (publishStage_onward hc hrole).trans ((stepped_onward s a c.ring).trans (walkAndBind_onward hc hrole))
  · exact hp.moves (producerBoundary_moves hp.obeys hc hrole)
  · exact (producerBoundary_moves s.obeys_boundary hc hrole).deferred trivial


end

/-- The pick stage does nothing, or moves or gives up the slot and reclaims. -/
theorem pickStage_cases (s : State) (a : ApId) (c : ApConfig) :
    s.pickStage a c = s ∨ ∃ sl next cands, (s.ap a).state = .bound sl ∧
      s.pickStage a c = (s.picked a c next).reclaim c.ring cands := by
  by_cases hst : ∃ sl, (s.ap a).state = .bound sl
  · obtain ⟨sl, hb⟩ := hst
    by_cases kept : s.pickNext a c.ring c.pick sl = none ∧ c.onEmpty = .repeatFrame
    · exact .inl (pickStage_of_kept hb kept.1 kept.2)
    · refine .inr ⟨sl, _, _, hb, pickStage_of_moving hb rfl fun hn => ?_⟩
      cases he : c.onEmpty with
      | strict => rfl
      | repeatFrame => exact absurd ⟨hn, he⟩ kept
  · refine .inl ?_
    unfold State.pickStage
    split
    · next sl hb => exact absurd ⟨sl, hb⟩ hst
    · rfl

theorem pickStage_config (s : State) (a : ApId) (c : ApConfig) (b : ApId) :
    ((s.pickStage a c).ap b).config = (s.ap b).config := by
  rcases pickStage_cases s a c with e | ⟨sl, next, cands, hb, e⟩ <;> rw [e]
  rw [reclaim_ap]
  by_cases e : a = b
  · subst e; rw [picked_ap_self hb]
  · rw [picked_ap_ne e]

/-- The slot that a consumer moves to is not reclaimed. -/
theorem pickStage_bound_home (hz : ((s.pickStage a c).ap a).state = .bound z) :
    ((s.pickStage a c).slot z).home = (s.slot z).home := by
  rcases pickStage_cases s a c with e | ⟨sl, next, cands, hb, e⟩ <;> rw [e] at hz ⊢
  rw [reclaim_ap, picked_ap_self hb] at hz
  have moved : next = some z := by
    cases next with
    | none => cases hz
    | some x => exact congrArg some (ApState.bound.inj hz)
  have stays : z ∉ (s.picked a c next).leaving c.ring cands := fun k => by
    have meets := (reclaimable_iff c.ring z).1 (Bool.and_eq_true_iff.1 (List.mem_filter.1 k).2).2
    exact ((picked_unheld_iff hb z).1 meets.1).1 moved
  rw [reclaim_slot_of_not_leaving _ _ stays, picked_slot hb]

theorem pickStage_apOn (s : State) (a : ApId) (c : ApConfig) (on : s.apOn a = true) :
    (s.pickStage a c).apOn a = true := by
  rcases pickStage_cases s a c with e | ⟨sl, next, cands, hb, e⟩ <;> rw [e]
  · exact on
  · refine apOn_eq_true.2 ?_
    rw [reclaim_ap, picked_ap_self hb]
    cases next <;> nofun

theorem pickStage_onward (s : State) (a : ApId) (c : ApConfig) : Onward s (s.pickStage a c) := by
  rcases pickStage_cases s a c with e | ⟨sl, next, cands, hb, e⟩ <;> rw [e]
  · exact .refl s
  · exact (picked_onward hb).trans (reclaim_onward _ _ _)

theorem pickStage_ran (hp : s.Placed) (hc : (s.ap a).config = some c) (on : s.apOn a = true)
    (hrole : c.role = .consumer) : RanBoundary s (s.pickStage a c) a :=
  have shelf := pickStage_onShelf s a c
  ⟨shelf.link, shelf.aOut, shelf.steering, shelf.arbiter, pickStage_config s a c,
    fun _ => pickStage_bound_home, pickStage_onward s a c, hp.moves (pickStage_moves (g := .rest) hp.obeys hc fun _ => hrole),
    pickStage_apOn s a c on,
    (pickStage_moves (g := .rest) s.obeys_boundary hc fun _ => hrole).deferred trivial⟩

/-! ### What the boundary of a producer leaves of its ring -/

theorem applyRetirements_free_head (hz : (s.ring r).free = z :: rest) (h : z ∉ sls) :
    ∃ more, ((s.applyRetirements sls).ring r).free = z :: more := by
  induction sls generalizing s rest with
  | nil => exact ⟨rest, hz⟩
  | cons y sls ih =>
    obtain ⟨hy, hsls⟩ := not_or.1 (List.mem_cons.not.1 h)
    have one : ∃ more, ((s.applyRetirement y).ring r).free = z :: more := by
      rcases applyRetirement_ring_cases s y r with k | ⟨_, -, -, k⟩ <;> rw [k]
      · exact ⟨rest, hz⟩
      · refine ⟨rest.erase y, ?_⟩
        show (s.ring r).free.erase y = _
        rw [hz, List.erase_cons_tail (by simpa using hy)]
    obtain ⟨more, hm⟩ := one
    exact ih (s := s.applyRetirement y) hm hsls

section
variable (hp : s.Placed) (hc : (s.ap a).config = some c) (hno : s.NoEntriesFor a) (on : s.apOn a = true)
  (hrole : c.role = .producer)
include hp hc hno on hrole

theorem producerBoundary_counter :
    ((s.producerBoundary a c.ring).ring c.ring).frameCounter = wrapNext 0xFFFFFFFF (s.ring c.ring).frameCounter := by
  obtain ⟨o, f⟩ := producerBoundary_finished hp hc hrole
  rw [f.counter, if_pos (producerBoundary_apOn hp hc hno on hrole), publishStage_frameCounter]

omit hc hno on hrole in
/-- The head of the free list stays there over the publish stage of a producer whose slot, if it has one, is
written. -/
theorem publishStage_free_head (hz : (s.ring c.ring).free = z :: rest)
    (hw : ∀ sl, (s.ap a).state = .bound sl → (s.slot sl).written = true) :
    ∃ more, ((s.publishStage a c.ring).ring c.ring).free = z :: more := by
  rcases publishStage_cases s a c.ring with ⟨sl, hb, -, e⟩ | ⟨sl, hb, unwritten, -⟩ | ⟨-, e⟩
  · rw [e]
    refine applyRetirements_free_head (rest := rest ++ (s.offered a c.ring sl).looseOf (s.publishLeaving a c.ring sl))
      ?_ fun k => ?_
    · have free : ((s.offered a c.ring sl).ring c.ring).free = z :: rest :=
        (congrArg Ring.free (offered_ring_self s a c.ring sl) :).trans hz
      exact (congrArg Ring.free (dropAll_ring_self ..)).trans
        (congrArg (· ++ (s.offered a c.ring sl).looseOf (s.publishLeaving a c.ring sl)) free)
    · have left := publishLeaving_sublist.subset (List.mem_of_mem_filter k)
      exact hp.free_not_ready (hz ▸ List.mem_cons_self) c.ring left
  · rw [hw sl hb] at unwritten; cases unwritten
  · rw [e]
    exact ⟨rest, hz⟩

theorem producerBoundary_takes_head (hz : (s.ring c.ring).free = z :: rest)
    (hw : ∀ sl, (s.ap a).state = .bound sl → (s.slot sl).written = true) :
    ((s.producerBoundary a c.ring).ap a).state = .bound z := by
  obtain ⟨more, free⟩ := publishStage_free_head hp hz hw
  have walked : ((s.walkedOver a c.ring).ring c.ring).free = z :: more :=
    (congrArg Ring.free (published_walked hc hrole).ring :).trans free
  rw [producerBoundary_bind (producerBoundary_apOn hp hc hno on hrole), bind_of_free walked, State.fill,
    setApState_ap_self]

end

end

end Sys2Proof.Machine
end

section
/-! PROOFS: the response to a STEERING transaction that ends the last condition of a pending boundary (O50). -/

namespace Sys2Proof.Machine

section
variable {s t u v w : State} {a b : ApId} {c : ApConfig} {x y : Txn} {z sl : SlotId} {target : Option Target}
  {resp : MResponse} {order : List ApId} {rest : List Txn} {lock : LockWindow}

/-! ### The pending boundary runs -/

theorem undefer_ap_self (s : State) (a : ApId) : (s.undefer a).ap a = { s.ap a with deferred := false } :=
  setAp_ap_self ..

theorem undefer_ap_ne (h : a ≠ b) : (s.undefer a).ap b = s.ap b := setAp_ap_ne _ _ h

theorem undefer_apOn (s : State) (a b : ApId) : (s.undefer a).apOn b = s.apOn b := by
  unfold State.apOn
  by_cases e : a = b
  · subst e; rw [undefer_ap_self]
  · rw [undefer_ap_ne e]

theorem undefer_config (s : State) (a b : ApId) : ((s.undefer a).ap b).config = (s.ap b).config := by
  by_cases e : a = b
  · subst e; rw [undefer_ap_self]
  · rw [undefer_ap_ne e]

theorem undefer_nonePending (alone : ∀ b, b ≠ a → (s.ap b).deferred = false) : (s.undefer a).NonePending := fun b => by
  by_cases e : a = b
  · subst e; rw [undefer_ap_self]
  · rw [undefer_ap_ne e]; exact alone b (Ne.symm e)

/-- Where one boundary can go on and leaves none pending, it is the one that runs. -/
theorem runPending_of_one (hr : s.canRun a = true) (only : ∀ b, s.canRun b = true → b = a)
    (hn : (s.runBoundary a).NonePending) : s.runPending order = s.runBoundary a := by
  have found : (inOrder order).find? s.canRun = some a := by
    cases hf : (inOrder order).find? s.canRun with
    | none => exact absurd hr (List.find?_eq_none.1 hf a (mem_inOrder order a))
    | some b => rw [only b (List.find?_some hf)]
  have quiet : (inOrder order).find? (s.runBoundary a).canRun = none :=
    List.find?_eq_none.2 fun b _ => by simp [canRun_of_nonePending hn b]
  simp only [State.runPending, State.runPendingUpTo, found, quiet]

/-- The pending boundary of one aperture without entries runs, where the Steering Unit is OPEN and the lock
window is not held through it. -/
theorem runPending_ran (hp : s.Placed) (hc : (s.ap a).config = some c) (hno : s.NoEntriesFor a)
    (on : s.apOn a = true) (pending : (s.ap a).deferred = true) (alone : ∀ b, b ≠ a → (s.ap b).deferred = false)
    (opened : s.steering.phase = .opened) (unlocked : ∀ src n, s.steering.lock ≠ .opened (some a) src n) :
    s.runPending order = s.runBoundary a ∧ RanBoundary (s.undefer a) (s.runBoundary a) a ∧
      (s.runBoundary a).NonePending := by
  have hp' : (s.undefer a).Placed := hp.setAp a _ rfl rfl
  have hc' : ((s.undefer a).ap a).config = some c := (undefer_config s a a).trans hc
  have on' : (s.undefer a).apOn a = true := (undefer_apOn s a a).trans on
  have ran : RanBoundary (s.undefer a) (s.runBoundary a) a := by
    cases hrole : c.role with
    | producer =>
      rw [runBoundary_producer hc hrole]
      exact producerBoundary_ran hp' hc' hno on' opened hrole
    | consumer =>
      rw [runBoundary_consumer hc hrole, consumerBoundary_of_none hc' hno]
      exact pickStage_ran hp' hc' on' hrole
  have quiet : (s.runBoundary a).NonePending := fun b => by
    refine Bool.eq_false_iff.2 fun k => ?_
    have before := ran.pending b k
    rw [undefer_nonePending alone b] at before
    cases before
  have free : s.mustDefer a = false := by
    refine Bool.or_eq_false_iff.2 ⟨by simp [State.inFlightThrough, opened], ?_⟩
    unfold State.lockedThrough
    split
    · next o src n k => exact decide_eq_false fun e => unlocked src n (e ▸ k)
    · rfl
  have runs : s.canRun a = true := by simp [State.canRun, on, pending, free]
  refine ⟨runPending_of_one runs (fun b k => ?_) quiet, ran, quiet⟩
  by_contra ne
  simp [State.canRun, alone b ne] at k

/-! ### The transaction that waits is decided by what the boundary has left -/

/-- A transaction inside the window of an aperture is accepted into the slot bound to it. -/
theorem accept_translated (hi : s.Inside y a c) (hsrc : ApSet.has c.sources y.source = true)
    (hst : (s.ap a).state = .bound z) (hrole : c.role = .producer ∨ y.kind = .read) :
    (s.accept y).aOut = s.aOut ∧
      (s.accept y).steering =
        { phase := .inFlight y (some { ap := a, ring := c.ring, slot := z, frame := (s.slot z).frame })
          waiting := s.steering.waiting, lock := lockAfterAccept s.steering.lock y (some a) } ∧
      (s.accept y).arbiter.steeringClaim =
        some { y with address := s.slotBase z + (y.address - c.windowBase) } ∧
      (y.kind = .write → ((s.accept y).slot z).written = true) := by
  have acc : s.accept y = ((if c.role = .producer then (s.lockAccept y (some a)).markWritten y z
      else s.lockAccept y (some a)).forwardInto y a c.ring c.windowBase z) := by
    rw [accept_of_inside hi, acceptInside_of_passed hsrc hrole,
      acceptPassed_of_bound (s := s.lockAccept y (some a)) hst]
  rw [acc, markWritten_eq, ← accept_eq_lockAfterAccept]
  by_cases hw : y.kind = .write
  · rw [if_pos (hrole.resolve_right (by rw [hw]; nofun)), if_pos hw]
    have record := setSlot_slot_self (s.lockAccept y (some a)) z { s.slot z with written := true }
    have base : ((s.lockAccept y (some a)).setSlot z { s.slot z with written := true }).slotBase z = s.slotBase z :=
      slotBase_congr (congrArg Slot.home record :)
    refine ⟨rfl, ?_, ?_, fun _ => congrArg Slot.written record⟩
    · refine Eq.trans ?_ (congrArg (fun f => ({
        phase := .inFlight y (some { ap := a, ring := c.ring, slot := z, frame := f })
        waiting := s.steering.waiting, lock := s.steering.lock.accept y (some a) } : Steering))
        (congrArg Slot.frame record :))
      rfl
    · exact congrArg (fun d => some { y with address := d + (y.address - c.windowBase) }) base
  · rw [if_neg hw, ite_self]
    exact ⟨rfl, rfl, rfl, fun k => absurd k hw⟩

theorem State.Inside.taking (h : v.Inside y a c) (rest : List Txn) : (v.taking rest).Inside y a c :=
  ⟨h.on, h.config, h.above, h.below, h.some, h.alone⟩

/-- A WRITE to a STARVED producer is absorbed, and with nothing behind it the event ends. -/
theorem goesOn_absorbed (hphase : v.steering.phase = .opened) (hw : v.steering.waiting = [y])
    (hi : v.Inside y a c) (hsrc : ApSet.has c.sources y.source = true) (hst : (v.ap a).state = .unbound)
    (hrole : c.role = .producer) (hk : y.kind = .write) :
    v.goesOn.aOut = v.aOut ++ [{ source := y.source, kind := .write, outcome := .okay, data := [] }] := by
  have acc : (v.taking []).accept y = ((v.taking []).lockAccept y (some a)).answer y .okay [] := by
    rw [accept_of_inside (hi.taking []), acceptInside_of_passed hsrc (.inl hrole),
      acceptPassed_of_unbound (s := (v.taking []).lockAccept y (some a)) hst (.inl hrole), if_neg (by rw [hk]; nofun)]
  have ends : v.goesOn = ((v.taking []).accept y).arbitrate := by
    rw [State.goesOn, acceptNext_of_waiting hphase hw]
    refine drainAll_of_empty ?_
    rw [arbitrate_steering, acc]
    rfl
  rw [ends, arbitrate_aOut, acc, ← hk]
  rfl

/-- A transaction keeps its place in the window of an aperture over a boundary. -/
theorem State.Inside.carry (h : s.Inside y a c) (on : v.apOn a = true)
    (config : ∀ b, (v.ap b).config = (s.ap b).config) (still : ∀ b, v.apOn b = true → s.apOn b = true) :
    v.Inside y a c :=
  ⟨on, (config a).trans h.config, h.above, h.below, h.some, fun b ⟨onb, d, hd, above, below⟩ =>
    h.alone b ⟨still b onb, d, (config b).symm.trans hd, above, below⟩⟩

/-- What the event leaves at the A-side port, once the boundary has run. -/
structure PortAfter (s t : State) (a : ApId) (c : ApConfig) (answer : AResponse) (lock : LockWindow) : Prop where
  alone    : s.steering.waiting = [] →
    t.steering = { phase := .opened, waiting := [], lock := lock } ∧ t.aOut = s.aOut ++ [answer]
  bound    : ∀ y rest, s.steering.waiting = y :: rest → ∀ z, (t.ap a).state = .bound z →
    t.aOut = s.aOut ++ [answer] ∧
    t.steering =
      { phase := .inFlight y (some { ap := a, ring := c.ring, slot := z, frame := (t.slot z).frame })
        waiting := rest, lock := lockAfterAccept lock y (some a) } ∧
    t.presented { y with address := s.slotBase z + (y.address - c.windowBase) } ∧
    (y.kind = .write → (t.slot z).written = true)
  absorbed : ∀ y rest, s.steering.waiting = y :: rest → (t.ap a).state = .unbound → c.role = .producer →
    y.kind = .write → rest = [] →
    t.aOut = s.aOut ++ [answer, { source := y.source, kind := .write, outcome := .okay, data := [] }]

theorem goesOn_portAfter {answer : AResponse} (hn : v.NonePending)
    (steering : v.steering = { phase := .opened, waiting := s.steering.waiting, lock := lock })
    (aOut : v.aOut = s.aOut ++ [answer])
    (base : ∀ z, (v.ap a).state = .bound z → v.slotBase z = s.slotBase z)
    (inside : ∀ y rest, s.steering.waiting = y :: rest → v.Inside y a c ∧ ApSet.has c.sources y.source = true ∧
      (c.role = .producer ∨ y.kind = .read)) : PortAfter s v.goesOn a c answer lock := by
  have carried := Carried.goesOn hn
  have state : (v.goesOn.ap a).state = (v.ap a).state := by rw [State.ap, carried.apertures]; rfl
  refine ⟨fun hw => ?_, fun y rest hw z hz => ?_, fun y rest hw hz hrole hk hrest => ?_⟩
  · rw [goesOn_of_none (by rw [steering]; exact hw), arbitrate_steering, arbitrate_aOut, steering, hw]
    exact ⟨rfl, aOut⟩
  · obtain ⟨hi, hsrc, hrole⟩ := inside y rest hw
    rw [state] at hz
    have wait : v.steering.waiting = y :: rest := by rw [steering]; exact hw
    have phase : v.steering.phase = .opened := by rw [steering]
    obtain ⟨out, steer, claim, wrote⟩ := accept_translated (hi.taking rest) hsrc hz hrole
    have presented := arbitrate_presented claim
    have after := Carried.arbitrate ((v.taking rest).accept y)
    have frame : (((v.taking rest).accept y).arbitrate.slot z).frame = (v.slot z).frame :=
      (congrArg Slot.frame (((Carried.accept (v.taking rest) y).trans after).slots z) :)
    have written : (((v.taking rest).accept y).arbitrate.slot z).written = (((v.taking rest).accept y).slot z).written := by
      obtain ⟨ar, cp, e⟩ := arbitrate_frame ((v.taking rest).accept y)
      rw [e]
      rfl
    have held : (v.taking rest).steering.lock = lock := by
      show v.steering.lock = lock
      rw [steering]
    rw [goesOn_of_flying phase wait (by rw [steer]; nofun), arbitrate_aOut, arbitrate_steering, frame, written, ← held]
    refine ⟨out.trans aOut, steer, ?_, wrote⟩
    rw [← base z hz]
    exact presented
  · subst hrest
    obtain ⟨hi, hsrc, -⟩ := inside y [] hw
    rw [state] at hz
    rw [goesOn_absorbed (by rw [steering]) (by rw [steering]; exact hw) hi hsrc hz hrole hk, aOut,
      List.append_assoc]
    rfl

/-! ### What the boundary did, as a statement says it -/

theorem Raised.prior {n : Note} (before : Onward s w) (h : Raised w t n) : Raised s t n := fun enabled => by
  have still : w.notes.enabled n.kind = true := by rw [NoteQueue.enabled, before.mask]; exact enabled
  exact (h still).imp_left fun k => List.drop_subset_drop_left _ before.notes.length_le k

/-- What the boundary of a producer leaves of its ring and its slots (R58, R61, R63). -/
structure ProducerRan (s t : State) (a : ApId) (c : ApConfig) : Prop where
  counter   : (t.ring c.ring).frameCounter = wrapNext 0xFFFFFFFF (s.ring c.ring).frameCounter
  published : ∀ sl, (s.ap a).state = .bound sl → (s.slot sl).written = true →
    (t.ring c.ring).ready.getLast? = some sl ∧ (t.slot sl).frame = (s.slot sl).frame ∧
      Raised s t
        { kind := .framePublished, ring := some c.ring, aperture := some a, slot := some sl
          frame := (s.slot sl).frame, detail := if (t.slot sl).retained then 1 else 0 }
  bound     : ∀ z rest, (s.ring c.ring).free = z :: rest →
    (∀ sl, (s.ap a).state = .bound sl → (s.slot sl).written = true) → (t.ap a).state = .bound z

/-- Where the boundary of a consumer leaves it (R75 to R79). -/
structure ConsumerRan (s t : State) (a : ApId) (c : ApConfig) : Prop where
  waiting : (s.ap a).state = .unbound → (t.ap a).state = .unbound
  viewing : ∀ sl next, (s.ap a).state = .bound sl →
    next = (match c.pick with
      | .newest =>
        if (s.ring c.ring).ready.getLast? = some sl then none
        else (s.ring c.ring).ready.getLast?
      | .ordered =>
        (s.ring c.ring).ready.find? fun y => !ApSet.has (s.slot y).passedBy a) →
    (∀ z, next = some z → (t.ap a).state = .bound z) ∧
    (next = none → c.onEmpty = .repeatFrame → (t.ap a).state = .bound sl) ∧
    (next = none → c.onEmpty = .strict → (t.ap a).state = .unbound)

theorem producerBoundary_producerRan (hp : s.Placed) (hc : (s.ap a).config = some c) (hno : s.NoEntriesFor a)
    (on : s.apOn a = true) (hrole : c.role = .producer) : ProducerRan s (s.producerBoundary a c.ring) a c := by
  refine ⟨producerBoundary_counter hp hc hno on hrole, fun sl hb hw => ?_, fun z rest hz hw =>
    producerBoundary_takes_head hp hc hno on hrole hz hw⟩
  obtain ⟨o, f⟩ := producerBoundary_finished hp hc hrole
  obtain ⟨frame, -, -, retained⟩ := published_slot hp hb hc hrole hw f
  refine ⟨published_getLast hp hb hc hrole hw f, frame, ?_⟩
  have note := laidOut_published on (laidOut_to_end hp hb hc hrole hw f)
  unfold State.publishedNote at note
  rw [← retained] at note
  exact note

theorem pickStage_consumerRan (hc : (s.ap a).config = some c) : ConsumerRan s (s.pickStage a c) a c := by
  refine ⟨fun hst => ?_, fun sl next hb hnext => ?_⟩
  · have same : s.pickStage a c = s := by rw [State.pickStage, hst]
    rw [same, hst]
  · have pick : s.pickNext a c.ring c.pick sl = next := (pickNext_eq ..).trans hnext.symm
    refine ⟨fun z hz => ?_, fun hn he => ?_, fun hn he => ?_⟩
    · have moved := (pickStage_pickMoves hb hc pick fun k => by rw [hz] at k; cases k).state
      rwa [hz] at moved
    · rw [pickStage_of_kept hb (pick.trans hn) he, hb]
    · have moved := (pickStage_pickMoves hb hc pick fun _ => he).state
      rwa [hn] at moved

/-- The slots, rings and apertures that a boundary reads, but for a faulted mark and the mark of its aperture. -/
structure SameSight (s w : State) (a : ApId) : Prop where
  rings  : w.rings = s.rings
  state  : (w.ap a).state = (s.ap a).state
  slots  : ∀ y, w.slot y = { s.slot y with faulted := (w.slot y).faulted }
  onward : Onward s w

theorem ProducerRan.carry (h : ProducerRan w v a c) (same : SameSight s w a) (k : Carried v t) : ProducerRan s t a c := by
  have ring (q : RingId) : t.ring q = v.ring q := by rw [State.ring, k.rings]; rfl
  have before (q : RingId) : w.ring q = s.ring q := by rw [State.ring, same.rings]; rfl
  have ap : t.ap a = v.ap a := by rw [State.ap, k.apertures]; rfl
  have written (y : SlotId) : (w.slot y).written = (s.slot y).written := (congrArg Slot.written (same.slots y) :)
  have frame (y : SlotId) : (w.slot y).frame = (s.slot y).frame := (congrArg Slot.frame (same.slots y) :)
  have frame' (y : SlotId) : (t.slot y).frame = (v.slot y).frame := (congrArg Slot.frame (k.slots y) :)
  have retained (y : SlotId) : (t.slot y).retained = (v.slot y).retained := (congrArg Slot.retained (k.slots y) :)
  refine ⟨?_, fun sl hb hw => ?_, fun z rest hz hw => ?_⟩
  · rw [ring, h.counter, before]
  · obtain ⟨last, kept, note⟩ := h.published sl (same.state.trans hb) ((written sl).trans hw)
    rw [ring, frame', retained]
    rw [frame] at kept note
    exact ⟨last, kept, (note.prior same.onward).mono k.onward⟩
  · rw [ap]
    exact h.bound z rest (by rw [before]; exact hz) fun sl hb =>
      (written sl).trans (hw sl (same.state.symm.trans hb))

theorem ConsumerRan.carry (h : ConsumerRan w v a c) (same : SameSight s w a) (k : Carried v t) : ConsumerRan s t a c := by
  have before (q : RingId) : w.ring q = s.ring q := by rw [State.ring, same.rings]; rfl
  have ap : t.ap a = v.ap a := by rw [State.ap, k.apertures]; rfl
  have passed (y : SlotId) : (w.slot y).passedBy = (s.slot y).passedBy := (congrArg Slot.passedBy (same.slots y) :)
  refine ⟨fun hst => ?_, fun sl next hb hnext => ?_⟩
  · rw [ap]
    exact h.waiting (same.state.trans hst)
  · have went := h.viewing sl next (same.state.trans hb) (by simp only [before, passed]; exact hnext)
    rw [ap]
    exact went

theorem Responded.ap (k : Responded s u x resp) (b : ApId) : u.ap b = s.ap b := by
  rw [State.ap, k.books.2.1]; rfl

theorem Responded.placed (k : Responded s u x resp) (hp : s.Placed) : u.Placed := by
  obtain ⟨rings, -⟩ := k.books
  have ring (q : RingId) : u.ring q = s.ring q := by rw [State.ring, rings]; rfl
  exact hp.of_frame (fun y => by rw [k.slots]) (fun q => by rw [ring]) (fun q => by rw [ring])
    (fun q => by rw [ring]) (fun q => by rw [ring]) (fun b => .of_ap (k.ap b)) fun _ b _ => boundSlot_of_ap (k.ap b)

/-- The response that ends the last condition of a pending boundary runs it, and nothing is pending then. -/
theorem response_runs_boundary (k : Responded s u x resp) (hp : s.Placed) (hc : (s.ap a).config = some c)
    (hno : s.NoEntriesFor a) (on : s.apOn a = true) (pending : (s.ap a).deferred = true)
    (alone : ∀ b, b ≠ a → (s.ap b).deferred = false)
    (unlocked : ∀ src n, lockAfterResponse s.steering.lock x ≠ .opened (some a) src n) :
    u.runPending order = u.runBoundary a ∧ (u.runBoundary a).NonePending ∧
      RanBoundary (u.undefer a) (u.runBoundary a) a ∧ SameSight s (u.undefer a) a ∧
      (c.role = .producer → ProducerRan (u.undefer a) (u.runBoundary a) a c) ∧
      (c.role = .consumer → ConsumerRan (u.undefer a) (u.runBoundary a) a c) := by
  obtain ⟨rings, -, -, changes⟩ := k.books
  have hp' := k.placed hp
  have hc' : (u.ap a).config = some c := by rw [k.ap]; exact hc
  have on' : u.apOn a = true := by rw [State.apOn, k.ap]; exact on
  have hno' : u.NoEntriesFor a := fun e he => hno e (changes ▸ he)
  obtain ⟨runs, ran, quiet⟩ := runPending_ran (order := order) hp' hc' hno' on' (by rw [k.ap]; exact pending)
    (fun b hb => by rw [k.ap]; exact alone b hb) (by rw [k.steering]) (by rw [k.steering]; exact unlocked)
  have placed : (u.undefer a).Placed := hp'.setAp a _ rfl rfl
  have config : ((u.undefer a).ap a).config = some c := (undefer_config u a a).trans hc'
  refine ⟨runs, quiet, ran, ⟨rings, ?_, k.slots, k.onward.trans (.setAp a ⟨id, rfl⟩)⟩, fun hrole => ?_, fun hrole => ?_⟩
  · rw [undefer_ap_self, k.ap]
  · rw [runBoundary_producer hc' hrole]
    exact producerBoundary_producerRan placed config hno' ((undefer_apOn u a a).trans on') hrole
  · rw [runBoundary_consumer hc' hrole, consumerBoundary_of_none config hno']
    exact pickStage_consumerRan config

/-- What the rest of the event does at the A-side port after the boundary. -/
theorem response_portAfter {answer : AResponse} (k : Responded s u x resp) (ran : RanBoundary (u.undefer a) v a)
    (quiet : v.NonePending) (hlock : lock = lockAfterResponse s.steering.lock x)
    (hanswer : answer = { source := x.source, kind := x.kind, outcome := resp.outcome, data := resp.data })
    (inside : ∀ y rest, s.steering.waiting = y :: rest → s.Inside y a c ∧ ApSet.has c.sources y.source = true ∧
      (c.role = .producer ∨ y.kind = .read)) : PortAfter s v.goesOn a c answer lock := by
  refine goesOn_portAfter quiet ?_ ?_ (fun z hz => ?_) fun y rest hw => ?_
  · rw [ran.steering, hlock]
    exact k.steering
  · rw [ran.aOut, hanswer]
    exact k.aOut
  · exact slotBase_congr ((ran.bound z hz).trans (congrArg Slot.home (k.slots z) :))
  · obtain ⟨hi, rest⟩ := inside y rest hw
    refine ⟨hi.carry ran.on (fun b => ?_) fun b onb => ?_, rest⟩
    · rw [ran.config, undefer_config, k.ap]
    · have before := ran.onward.off b onb
      rwa [undefer_apOn, State.apOn, k.ap] at before

/-- Settles O50: the response is answered, the boundary it frees runs, and the transaction that waits is decided by
what the boundary has left. -/
theorem steeringResponseCompletes : Obligations.SteeringResponseCompletes := by
  refine ⟨fun s resp order x target g hphase hport hclaim hsc hn pass => ?_, ?_⟩
  · obtain ⟨t, event, aOut, rings, aps, link, changes, slots, notes, alone, waits⟩ :=
      steeringResponse_unpended (resp := resp) (order := order) hphase hport hclaim hsc hn pass
    refine ⟨t, event, aOut, rings, aps, link, changes, fun kept => ?_, fun tg ht ho => ?_, alone, waits⟩
    · rw [slots, notes, responded_of_kept kept]
      exact ⟨rfl, rfl⟩
    · obtain ⟨pushed, faulted⟩ := responded_faulted (s := s) (x := x) ht ho
      refine ⟨notes.trans pushed, fun sl => ?_⟩
      rw [State.slot, slots]
      exact faulted sl
  · intro s resp order x target g a c answer lock hphase hport hclaim hsc hp on hc pending alone hno hanswer hlock
      unlocked inside
    have k := responded_responded s x target resp
    obtain ⟨rings, aps, link, changes⟩ := k.books
    obtain ⟨seen, quiet, ran, sight, producer, consumer⟩ := response_runs_boundary (order := order) k hp hc hno on pending alone
      (hlock ▸ unlocked)
    have event := exec_steeringResponse hphase hport hclaim seen quiet
    have carried := Carried.goesOn quiet
    have port := response_portAfter k ran quiet hlock hanswer inside
    generalize (s.responded x target resp).runBoundary a = v at *
    have ap : v.goesOn.ap a = v.ap a := by rw [State.ap, carried.apertures]; rfl
    refine ⟨_, event, carried.link.trans (ran.link.trans link), ?_, ?_, fun hrole => ?_, fun hrole => ?_, port.alone,
      fun y rest hw => ⟨port.bound y rest hw, port.absorbed y rest hw⟩⟩
    · rw [ap, ran.config, undefer_config, k.ap, hc]
    · rw [ap]
      exact quiet a
    · have done := (producer hrole).carry sight carried
      exact ⟨done.counter, done.published, done.bound⟩
    · have done := (consumer hrole).carry sight carried
      exact ⟨done.waiting, done.viewing⟩

end

end Sys2Proof.Machine
end

section
/-! PROOFS: one entry of an ON consumer applies at its boundary (O29): the fields it writes, the note it raises,
and what a change of pick does to the marks. -/

namespace Sys2Proof.Machine

section
variable {s t u v w : State} {a b : ApId} {c : ApConfig} {r q : RingId} {e : Change} {x : ApChange} {p : Pick}
  {oe : OnEmpty} {y : SlotId}

/-! ### An entry that leaves the pick as it is -/

theorem changeNote_of_aperture (he : e.op = .aperture a x) (hc : (u.ap a).config.map (·.ring) = some r) (k : NoteKind) :
    u.changeNote k e = e.note k r (some a) (u.boundSlot a) := by
  simp only [State.changeNote, he, State.ringOf, hc, Change.note, number_eq_kindNumber]

theorem boundSlot_of_state (h : (t.ap a).state = (s.ap a).state) : t.boundSlot a = s.boundSlot a := by
  unfold State.boundSlot; rw [h]

/-- The window that a change asks for is in the way. -/
def State.blocks (u : State) (a : ApId) (c : ApConfig) (x : ApChange) : Bool :=
  match x with
  | .moveWindow base => u.windowBlocked a c base
  | _ => false

/-- The kind of the note of an entry that applies or is rejected (R152, R158). -/
def noteKind (rejected : Bool) : NoteKind := if rejected then .changeRejected else .changeApplied

/-- The record of an aperture after an entry that applies or is rejected. -/
def Aperture.written (p : Aperture) (c : ApConfig) (x : ApChange) (rejected : Bool) : Aperture :=
  if rejected then p else { p with config := some (ApChange.after x c), count := ApChange.countLeft x p.count }

theorem applyApChange_of_blocked (on : u.apOn a = true) (hb : u.blocks a c x = true) :
    u.applyApChange e a c x = u.raise (u.changeNote .changeRejected e) := by
  cases x with
  | moveWindow base => exact if_pos (Bool.and_eq_true_iff.2 ⟨on, hb⟩)
  | _ => cases hb

theorem applyApChange_of_kept (hx : x ≠ .detach) (hp : ∀ p oe, x = .setPick p oe → p = c.pick)
    (hb : u.blocks a c x = false) : u.applyApChange e a c x = (u.writeChange a c x).applied e := by
  cases x with
  | detach => exact absurd rfl hx
  | moveWindow base =>
    refine if_neg fun k => ?_
    rw [show u.windowBlocked a c base = false from hb, Bool.and_false] at k
    cases k
  | setPick p oe => exact if_neg fun k => k.2.2 (hp p oe rfl).symm
  | _ => rfl

/-- The part after an entry of an ON aperture that leaves its pick as it is: its record, its place in the queue
and its note alone. -/
theorem applyChange_of_kept (he : e.op = .aperture a x) (hc : (u.ap a).config = some c) (on : u.apOn a = true)
    (hx : x ≠ .detach) (hp : ∀ p oe, x = .setPick p oe → p = c.pick) :
    u.applyChange e =
      u.wrote a ((u.ap a).written c x (u.blocks a c x)) (u.changes.entries.erase e)
        (u.notes.push (e.note (noteKind (u.blocks a c x)) c.ring (some a) (u.boundSlot a))) := by
  rw [applyChange_aperture u he hc]
  cases hb : u.blocks a c x with
  | true =>
    rw [applyApChange_of_blocked (u := u.removeChange e) on hb,
      changeNote_of_aperture (u := u.removeChange e) (r := c.ring) he (by rw [show (u.removeChange e).ap a = u.ap a from rfl, hc]; rfl)]
    have same : u.wrote a (u.ap a) (u.changes.entries.erase e)
        (u.notes.push (e.note (noteKind true) c.ring (some a) (u.boundSlot a))) =
        (u.removeChange e).raise (e.note (noteKind true) c.ring (some a) (u.boundSlot a)) := by
      rw [State.wrote, setAp_self]; rfl
    exact same.symm
  | false =>
    rw [applyApChange_of_kept (u := u.removeChange e) hx hp hb, writeChange_eq, write_eq_after, State.applied]
    have note (m : State) (hm : m.ap a = (u.ap a).written c x false) :
        m.changeNote .changeApplied e = e.note (noteKind false) c.ring (some a) (u.boundSlot a) := by
      have state : (m.ap a).state = (u.ap a).state := by rw [hm]; rfl
      rw [changeNote_of_aperture (r := c.ring) he (by rw [hm, Aperture.written, if_neg nofun]; exact congrArg some (after_ring x c)),
        boundSlot_of_state state]
      rfl
    exact (congrArg (State.raise _) (note _ ((setAp_ap_self ..).trans rfl))).trans rfl

/-! ### An entry that changes the pick -/

/-- The READY slots that a consumer made ORDERED joins the passed_by sets of (R7). -/
def State.markable (s : State) (a : ApId) (r : RingId) : List SlotId :=
  match (s.ap a).state with
  | .bound sl => s.readyThrough r sl
  | _ => (s.ring r).ready

/-- The passed_by set of a slot after a change of pick (R7). -/
def State.repickedSet (s : State) (a : ApId) (r : RingId) (p : Pick) (y : SlotId) : ApSet :=
  match p with
  | .ordered => if y ∈ s.markable a r then ApSet.insert (s.slot y).passedBy a else (s.slot y).passedBy
  | .newest =>
    if (s.slot y).home.map (·.ring) = some r then ApSet.erase (s.slot y).passedBy a else (s.slot y).passedBy

theorem mem_slotsOf : y ∈ s.slotsOf r ↔ (s.slot y).home.map (·.ring) = some r := by
  simp [State.slotsOf, mem_allSlots]

theorem unmarkPassed_frame (s : State) (a : ApId) (sls : List SlotId) :
    { s.unmarkPassed a sls with slots := s.slots } = s := by
  induction sls generalizing s with
  | nil => rfl
  | cons sl sls ih => exact congrArg (fun u => { u with slots := s.slots }) (ih (s.setSlot sl _))

theorem repick_ordered (on : s.apOn a = true) : s.repick a r .ordered = s.markPassed a (s.markable a r) := by
  unfold State.repick State.markable
  cases hst : (s.ap a).state with
  | off => exact absurd hst (apOn_eq_true.1 on)
  | _ => rfl

theorem repick_frame (on : s.apOn a = true) (r : RingId) (p : Pick) :
    { s.repick a r p with slots := s.slots } = s := by
  cases p with
  | ordered => rw [repick_ordered on]; exact markPassed_frame s a _
  | newest => exact unmarkPassed_frame s a _

theorem repick_slot (on : s.apOn a = true) (r : RingId) (p : Pick) (y : SlotId) :
    (s.repick a r p).slot y = { s.slot y with passedBy := s.repickedSet a r p y } := by
  cases p with
  | ordered => rw [repick_ordered on, markPassed_slot]; rfl
  | newest =>
    refine (unmarkPassed_slot s a (s.slotsOf r) y).trans ?_
    simp only [mem_slotsOf]
    rfl

/-- The part after an entry that changes the pick of an ON consumer, before the reclamation check. -/
def State.repicked (u : State) (e : Change) (a : ApId) (c : ApConfig) (p : Pick) (oe : OnEmpty) : State :=
  (((u.removeChange e).writeChange a c (.setPick p oe)).repick a c.ring p).applied e

theorem applyChange_of_repick (he : e.op = .aperture a (.setPick p oe)) (hc : (u.ap a).config = some c)
    (on : u.apOn a = true) (hrole : c.role = .consumer) (hp : c.pick ≠ p) :
    u.applyChange e = (u.repicked e a c p oe).reclaimAll c.ring := by
  rw [applyChange_aperture u he hc]
  exact if_pos ⟨hrole, on, hp⟩

/-- What a change of pick leaves before the reclamation check. -/
structure Repicked (u w : State) (a : ApId) (c : ApConfig) (e : Change) (p : Pick) (oe : OnEmpty) : Prop where
  rings   : w.rings = u.rings
  ap      : w.ap a = { u.ap a with config := some { c with pick := p, onEmpty := oe } }
  others  : ∀ b, b ≠ a → w.ap b = u.ap b
  changes : w.changes = { u.changes with entries := u.changes.entries.erase e }
  slot    : ∀ y, w.slot y = { u.slot y with passedBy := u.repickedSet a c.ring p y }
  shelf   : OnShelf u w
  notes   : w.notes = u.notes.push (e.note .changeApplied c.ring (some a) (u.boundSlot a))

theorem repicked_repicked (he : e.op = .aperture a (.setPick p oe)) (on : u.apOn a = true) :
    Repicked u (u.repicked e a c p oe) a c e p oe := by
  have apEq : ((u.removeChange e).writeChange a c (.setPick p oe)).ap a =
      { u.ap a with config := some { c with pick := p, onEmpty := oe } } := setAp_ap_self ..
  have on' : ((u.removeChange e).writeChange a c (.setPick p oe)).apOn a = true :=
    (writeChange_apOn (u.removeChange e) a c (.setPick p oe) a).trans on
  have markable : ((u.removeChange e).writeChange a c (.setPick p oe)).markable a c.ring = u.markable a c.ring := by
    unfold State.markable
    rw [apEq]
    rfl
  have set (y : SlotId) : ((u.removeChange e).writeChange a c (.setPick p oe)).repickedSet a c.ring p y =
      u.repickedSet a c.ring p y := by
    unfold State.repickedSet
    rw [markable]
    rfl
  have slot := repick_slot on' c.ring p
  have frame := repick_frame on' c.ring p
  unfold State.repicked
  generalize hm : (u.removeChange e).writeChange a c (.setPick p oe) = m at *
  have base : { m with apertures := u.apertures, changes := u.changes } = u := by subst hm; rfl
  have books : (m.repick a c.ring p).apertures = m.apertures := (congrArg State.apertures frame :)
  have aps (b : ApId) : (m.repick a c.ring p).ap b = m.ap b := by unfold State.ap; rw [books]
  refine ⟨(congrArg State.rings frame :).trans (congrArg State.rings base :), (aps a).trans apEq, fun b hb => ?_,
    (congrArg State.changes frame :).trans (by subst hm; rfl), fun y => (slot y).trans ?_, ?_, ?_⟩
  · refine (aps b).trans ?_
    subst hm
    exact setAp_ap_ne _ _ (Ne.symm hb)
  · rw [set y]
    subst hm
    rfl
  · have onto : OnShelf u m := by subst hm; rfl
    have mark : OnShelf m (m.repick a c.ring p) :=
      (congrArg (fun t : State => { t with rings := m.rings, apertures := m.apertures, changes := m.changes, notes := m.notes }) frame :)
    exact (onto.trans mark).trans rfl
  · have note : (m.repick a c.ring p).changeNote .changeApplied e = e.note .changeApplied c.ring (some a) (u.boundSlot a) := by
      rw [changeNote_of_aperture (r := c.ring) he (by rw [aps, apEq]; rfl), boundSlot_of_state (s := u) (by rw [aps, apEq])]
    show (m.repick a c.ring p).notes.push _ = _
    rw [note, show (m.repick a c.ring p).notes = u.notes from (congrArg State.notes frame :).trans (congrArg State.notes base :)]

theorem Repicked.onward (m : Repicked u w a c e p oe) (hc : (u.ap a).config = some c) :
    Onward u w ∧ Raised u w (e.note .changeApplied c.ring (some a) (u.boundSlot a)) := by
  have raise := Onward.raise u (e.note .changeApplied c.ring (some a) (u.boundSlot a))
  have raised := (Onward.refl u).raised (.refl (u.raise (e.note .changeApplied c.ring (some a) (u.boundSlot a))))
  refine ⟨⟨?_, ?_, fun b on => ?_, fun b => ?_⟩, raised.congr rfl m.notes⟩
  · rw [m.notes]; exact raise.mask
  · rw [m.notes]; exact raise.notes
  · by_cases hb : b = a
    · subst hb
      rwa [State.apOn, m.ap] at on
    · rwa [State.apOn, m.others b hb] at on
  · by_cases hb : b = a
    · subst hb
      rw [m.ap, hc]
      rfl
    · rw [m.others b hb]

end

end Sys2Proof.Machine
end

section
/-! PROOFS: the entries of an ON consumer apply one after another (O29): the queue, the configuration and the
notes that a run of them leaves. -/

namespace Sys2Proof.Machine

section
variable {s t u v w : State} {a b : ApId} {c d : ApConfig} {r q : RingId} {e : Change} {x : ApChange} {p : Pick}
  {oe : OnEmpty} {y : SlotId} {es done : List Change} {rejected : Change → Bool}

/-! ### The configuration after some entries -/

theorem configAfter_concat (he : e.op = .aperture a x) (es : List Change) (c : ApConfig) :
    configAfter (es ++ [e]) c = ApChange.after x (configAfter es c) := by
  simp [configAfter, he]

/-- What no change touches. -/
structure SamePlace (c d : ApConfig) : Prop where
  ring       : d.ring = c.ring
  role       : d.role = c.role
  windowSize : d.windowSize = c.windowSize
  line       : d.line = c.line

theorem after_samePlace (x : ApChange) (c : ApConfig) : SamePlace c (ApChange.after x c) := by
  cases x <;> exact ⟨rfl, rfl, rfl, rfl⟩

theorem configAfter_samePlace (es : List Change) (c : ApConfig) : SamePlace c (configAfter es c) := by
  induction es generalizing c with
  | nil => exact ⟨rfl, rfl, rfl, rfl⟩
  | cons e es ih =>
    have one : SamePlace c (match e.op with | .aperture _ x => ApChange.after x c | _ => c) := by
      cases e.op with
      | aperture b x => exact after_samePlace x c
      | _ => exact ⟨rfl, rfl, rfl, rfl⟩
    have rest := ih (match e.op with | .aperture _ x => ApChange.after x c | _ => c)
    exact ⟨rest.ring.trans one.ring, rest.role.trans one.role, rest.windowSize.trans one.windowSize,
      rest.line.trans one.line⟩

/-- Entries that name the pick of the configuration leave it. -/
theorem configAfter_pick (h : ∀ e ∈ es, ∀ b p oe, e.op = .aperture b (.setPick p oe) → p = c.pick) :
    (configAfter es c).pick = c.pick := by
  induction es generalizing c with
  | nil => rfl
  | cons e es ih =>
    have one : (match e.op with | .aperture _ x => ApChange.after x c | _ => c).pick = c.pick := by
      cases hop : e.op with
      | aperture b x =>
        cases x with
        | setPick p oe => exact h e List.mem_cons_self b p oe hop
        | _ => rfl
      | _ => rfl
    exact (ih fun f hf b p oe k => (h f (List.mem_cons_of_mem _ hf) b p oe k).trans one.symm).trans one

/-! ### The window of a MOVE_WINDOW -/

theorem MoveFree_congr {base : Addr} {n : Nat} (others : ∀ b, b ≠ a → u.ap b = s.ap b)
    (homes : ∀ y, (u.slot y).home = (s.slot y).home) (sizes : ∀ q, (u.ring q).slotSize = (s.ring q).slotSize) :
    u.MoveFree a base n ↔ s.MoveFree a base n := by
  have bytes (q : RingId) : u.slotBytes q = s.slotBytes q := by simp only [State.slotBytes, sizes]
  unfold State.MoveFree
  simp only [homes, bytes]
  refine and_congr_left fun _ => forall_congr' fun b => forall_congr' fun d => ?_
  refine forall_congr' fun hb => ?_
  rw [State.apOn, State.apOn, others b hb]

/-- An entry asks for a window that is in the way (R152). -/
def State.hindered (s : State) (a : ApId) (c : ApConfig) (x : ApChange) : Prop :=
  ∃ base, x = .moveWindow base ∧ ¬ s.MoveFree a base (2 ^ c.windowSize)

theorem blocks_iff (others : ∀ b, b ≠ a → u.ap b = s.ap b) (homes : ∀ y, (u.slot y).home = (s.slot y).home)
    (sizes : ∀ q, (u.ring q).slotSize = (s.ring q).slotSize) (hd : d.windowSize = c.windowSize) :
    u.blocks a d x = true ↔ s.hindered a c x := by
  unfold State.hindered
  cases x with
  | moveWindow base =>
    have free := windowBlocked_eq_false_iff u a d base
    rw [MoveFree_congr others homes sizes, hd] at free
    refine ⟨fun k => ⟨base, rfl, fun m => ?_⟩, ?_⟩
    · rw [show u.windowBlocked a d base = true from k] at free
      cases free.2 m
    · rintro ⟨_, ⟨⟩, m⟩
      exact Bool.not_eq_false _ ▸ fun k => m (free.1 k)
  | _ => exact ⟨nofun, fun ⟨_, h, _⟩ => nomatch h⟩

/-! ### The reclamation check where no retirement waits -/

theorem reclaim_of_noRetirements (hno : s.NoRetirements) (r : RingId) (cands : List SlotId) :
    s.reclaim r cands = s.dropAll r (s.leaving r cands) := by
  rw [reclaim_eq]
  exact applyRetirements_of_noRetirements (hno.congr (dropAll_changes ..)) _

theorem reclaim_home (hno : s.NoRetirements) (r : RingId) (cands : List SlotId) (y : SlotId) :
    ((s.reclaim r cands).slot y).home = (s.slot y).home := by
  rw [reclaim_of_noRetirements hno, dropAll_home]

theorem reclaim_slotSize (hno : s.NoRetirements) (r q : RingId) (cands : List SlotId) :
    ((s.reclaim r cands).ring q).slotSize = (s.ring q).slotSize := by
  rw [reclaim_of_noRetirements hno]
  by_cases e : r = q
  · subst e; rw [dropAll_ring_self]
  · rw [dropAll_ring_ne _ _ _ e]

/-! ### A run of entries that hold no DETACH -/

/-- The record of the aperture after some entries of it. -/
def Aperture.after (p : Aperture) (done : List Change) (rejected : Change → Bool) (c : ApConfig) : Aperture :=
  { p with config := some (configAfter (done.filter fun e => !rejected e) c) }

/-- The note of an entry that an ON aperture takes while it holds the slot `o`. -/
def Change.taken (e : Change) (rejected : Change → Bool) (r : RingId) (a : ApId) (o : Option SlotId) : Note :=
  e.note (noteKind (rejected e)) r (some a) o

/-- Some entries of an ON consumer have applied or been rejected, in their order. -/
structure Partway (s u : State) (a : ApId) (c : ApConfig) (rejected : Change → Bool) (done : List Change) : Prop where
  changes   : u.changes = { s.changes with entries := done.foldl List.erase s.changes.entries }
  ap        : u.ap a = (s.ap a).after done rejected c
  others    : ∀ b, b ≠ a → u.ap b = s.ap b
  homes     : ∀ y, (u.slot y).home = (s.slot y).home
  sizes     : ∀ q, (u.ring q).slotSize = (s.ring q).slotSize
  consumers : ∀ q, (u.ring q).consumers = (s.ring q).consumers
  shelf     : OnShelf s u
  onward    : Onward s u
  raised    : ∀ e ∈ done, Raised s u (e.taken rejected c.ring a (s.boundSlot a))
  plain     : (∀ e ∈ done, ∀ p oe, e.op = .aperture a (.setPick p oe) → p = c.pick) →
    u = s.wrote a ((s.ap a).after done rejected c) (done.foldl List.erase s.changes.entries)
      ((done.map fun e => e.taken rejected c.ring a (s.boundSlot a)).foldl NoteQueue.push s.notes)

theorem Partway.start (hc : (s.ap a).config = some c) (rejected : Change → Bool) : Partway s s a c rejected [] := by
  have same : (s.ap a).after [] rejected c = s.ap a := by
    show ({ s.ap a with config := some c } : Aperture) = s.ap a
    rw [← hc]
  refine ⟨rfl, same.symm, fun _ _ => rfl, fun _ => rfl, fun _ => rfl, fun _ => rfl, .refl s, .refl s, nofun, fun _ => ?_⟩
  rw [same, State.wrote, setAp_self]
  rfl

theorem after_concat (he : e.op = .aperture a x) (count : (s.ap a).count = 0) (done : List Change) :
    ((s.ap a).after done rejected c).written (configAfter (done.filter fun e => !rejected e) c) x (rejected e) =
      (s.ap a).after (done ++ [e]) rejected c := by
  have still : ApChange.countLeft x (s.ap a).count = (s.ap a).count := by rw [count]; cases x <;> rfl
  unfold Aperture.written Aperture.after
  rw [List.filter_append]
  cases hr : rejected e with
  | true => simp [hr]
  | false =>
    have one : [e].filter (fun e => !rejected e) = [e] := by simp [hr]
    rw [one, configAfter_concat he, if_neg nofun]
    exact congrArg (fun n => ({ s.ap a with
      config := some (ApChange.after x (configAfter (done.filter fun e => !rejected e) c)), count := n } : Aperture)) still

theorem foldl_erase_concat (done : List Change) (e : Change) (l : List Change) :
    (done ++ [e]).foldl List.erase l = (done.foldl List.erase l).erase e := by rw [List.foldl_append]; rfl

/-- The part after an entry is written or rejected, as a part that raises its note. -/
theorem wrote_onward {m : Aperture} (hm : (u.ap a).Onward m) (es : List Change) (n : Note) :
    Onward u (u.wrote a m es (u.notes.push n)) ∧ Raised u (u.wrote a m es (u.notes.push n)) n := by
  have wrote : Onward u ({ u.setAp a m with changes := { u.changes with entries := es } } : State) :=
    (Onward.setAp a hm).trans (.congr rfl rfl)
  have noted : ({ u.setAp a m with changes := { u.changes with entries := es } } : State).raise n =
      u.wrote a m es (u.notes.push n) := rfl
  rw [← noted]
  exact ⟨wrote.trans (.raise _ n), wrote.raised (.refl _)⟩

section
variable (k : Partway s u a c rejected done) (on : s.apOn a = true) (count : (s.ap a).count = 0)
  (he : e.op = .aperture a x) (hx : x ≠ .detach) (hrej : rejected e = true ↔ s.hindered a c x)
include k

theorem Partway.config : (u.ap a).config = some (configAfter (done.filter fun e => !rejected e) c) := by
  rw [k.ap]; rfl

theorem Partway.state : (u.ap a).state = (s.ap a).state := by rw [k.ap]; rfl

theorem Partway.boundSlot : u.boundSlot a = s.boundSlot a := boundSlot_of_state k.state

theorem Partway.apOn : u.apOn a = s.apOn a := by unfold State.apOn; rw [k.state]

include hrej in
theorem Partway.blocks : u.blocks a (configAfter (done.filter fun e => !rejected e) c) x = rejected e :=
  Bool.eq_iff_iff.2 ((blocks_iff k.others k.homes k.sizes (configAfter_samePlace _ c).windowSize).trans hrej.symm)

include on count he hx hrej

/-- An entry that leaves the pick as it is. -/
theorem Partway.keep
    (hp : ∀ p oe, x = .setPick p oe → p = (configAfter (done.filter fun e => !rejected e) c).pick) :
    Partway s (u.applyChange e) a c rejected (done ++ [e]) := by
  have place := configAfter_samePlace (done.filter fun e => !rejected e) c
  have entries : u.changes.entries.erase e = (done ++ [e]).foldl List.erase s.changes.entries := by
    rw [foldl_erase_concat, k.changes]
  have step : u.applyChange e = u.wrote a ((s.ap a).after (done ++ [e]) rejected c)
      ((done ++ [e]).foldl List.erase s.changes.entries)
      (u.notes.push (e.taken rejected c.ring a (s.boundSlot a))) := by
    rw [applyChange_of_kept he k.config (k.apOn.trans on) hx hp, k.blocks hrej, k.boundSlot, place.ring, entries,
      ← after_concat he count, k.ap]
    rfl
  have record : (u.ap a).Onward ((s.ap a).after (done ++ [e]) rejected c) := by
    rw [k.ap]
    refine ⟨id, ?_⟩
    exact congrArg some ((configAfter_samePlace _ c).line.trans place.line.symm)
  obtain ⟨onward, noted⟩ := wrote_onward record ((done ++ [e]).foldl List.erase s.changes.entries)
    (e.taken rejected c.ring a (s.boundSlot a))
  rw [← step] at onward noted
  refine ⟨?_, ?_, fun b hb => ?_, fun y => ?_, fun q => ?_, fun q => ?_, ?_, k.onward.trans onward, fun f hf => ?_,
    fun plain => ?_⟩
  · rw [step]
    show ({ u.changes with entries := _ } : ChangeQueue) = _
    rw [k.changes]
  · rw [step, wrote_ap_self]
  · rw [step, wrote_ap_ne hb.symm]
    exact k.others b hb
  · rw [step]
    exact k.homes y
  · rw [step]
    exact k.sizes q
  · rw [step]
    exact k.consumers q
  · rw [step]
    exact k.shelf.trans rfl
  · rcases List.mem_append.1 hf with hf | hf
    · exact (k.raised f hf).mono onward
    · rw [List.mem_singleton.1 hf]
      exact noted.prior k.onward
  · rw [step, k.plain fun f hf => plain f (List.mem_append_left _ hf), wrote_wrote, List.map_append,
      List.foldl_append (f := NoteQueue.push)]
    rfl

omit on count he hx hrej in
theorem Partway.noRetirements (hno : s.NoRetirements) : u.NoRetirements := fun f hf => by
  have sub : (done.foldl List.erase s.changes.entries).Sublist s.changes.entries := by
    generalize s.changes.entries = l
    clear k
    induction done generalizing l with
    | nil => exact .refl _
    | cons e done ih => exact (ih (l.erase e)).trans List.erase_sublist
  rw [k.changes] at hf
  exact hno f (sub.subset hf)

omit on count he hx hrej in
/-- What a change of pick leaves before the reclamation check, as the entries before it have left the aperture. -/
theorem Partway.repicked (on : s.apOn a = true) (he : e.op = .aperture a (.setPick p oe)) (hrole : c.role = .consumer)
    (hp : (configAfter (done.filter fun e => !rejected e) c).pick ≠ p) :
    ∃ w, Repicked u w a (configAfter (done.filter fun e => !rejected e) c) e p oe ∧
      u.applyChange e = w.reclaimAll c.ring := by
  have place := configAfter_samePlace (done.filter fun e => !rejected e) c
  refine ⟨_, repicked_repicked he (k.apOn.trans on), ?_⟩
  rw [applyChange_of_repick he k.config (k.apOn.trans on) (place.role.trans hrole) hp, place.ring]

omit he hx hrej in
/-- An entry that changes the pick. -/
theorem Partway.repick (hno : s.NoRetirements) (he : e.op = .aperture a (.setPick p oe)) (hrole : c.role = .consumer)
    (hrej : rejected e = false) (mine : ∀ f ∈ done, ∃ x, f.op = .aperture a x)
    (hp : (configAfter (done.filter fun e => !rejected e) c).pick ≠ p) :
    Partway s (u.applyChange e) a c rejected (done ++ [e]) := by
  have place := configAfter_samePlace (done.filter fun e => !rejected e) c
  obtain ⟨w, m, step⟩ := k.repicked on he hrole hp
  have hno' : w.NoRetirements := fun f hf => by
    rw [m.changes] at hf
    exact k.noRetirements hno f (List.mem_of_mem_erase hf)
  have record : w.ap a = (s.ap a).after (done ++ [e]) rejected c := by
    rw [m.ap, ← after_concat he count, hrej, k.ap]
    unfold Aperture.written
    rw [if_neg nofun]
    rfl
  have note : e.taken rejected c.ring a (s.boundSlot a) =
      e.note .changeApplied (configAfter (done.filter fun e => !rejected e) c).ring (some a) (u.boundSlot a) := by
    rw [Change.taken, hrej, place.ring, k.boundSlot]
    rfl
  have onward : Onward u (w.reclaimAll c.ring) ∧
      Raised u (w.reclaimAll c.ring) (e.taken rejected c.ring a (s.boundSlot a)) := by
    rw [note]
    obtain ⟨changed, noted⟩ := m.onward k.config
    exact ⟨changed.trans (reclaim_onward ..), noted.mono (reclaim_onward ..)⟩
  rw [step]
  refine ⟨?_, ?_, fun b hb => ?_, fun y => ?_, fun q => ?_, fun q => ?_, ?_, k.onward.trans onward.1, fun f hf => ?_,
    fun plain => ?_⟩
  · rw [State.reclaimAll, reclaim_changes hno', m.changes, foldl_erase_concat, k.changes]
  · rw [reclaimAll_ap, record]
  · rw [reclaimAll_ap, m.others b hb, k.others b hb]
  · rw [State.reclaimAll, reclaim_home hno', m.slot, ← k.homes]
  · rw [State.reclaimAll, reclaim_slotSize hno', ← k.sizes]
    unfold State.ring
    rw [m.rings]
  · rw [State.reclaimAll, reclaim_ring_consumers, ← k.consumers]
    unfold State.ring
    rw [m.rings]
  · exact (k.shelf.trans m.shelf).trans (.reclaim ..)
  · rcases List.mem_append.1 hf with hf | hf
    · exact (k.raised f hf).mono onward.1
    · rw [List.mem_singleton.1 hf]
      exact onward.2.prior k.onward
  · refine absurd ?_ hp
    rw [plain e (List.mem_append_right _ (List.mem_singleton.2 rfl)) p oe he]
    refine configAfter_pick fun f hf b q oe' hop => ?_
    have hf := List.mem_of_mem_filter hf
    obtain ⟨x, hx⟩ := mine f hf
    obtain ⟨rfl, -⟩ := ChangeOp.aperture.inj (hop.symm.trans hx)
    exact plain f (List.mem_append_left _ hf) q oe' hop

end

end

end Sys2Proof.Machine
end

section
/-! PROOFS: what changes of pick do to the ready list and the passed_by sets of the ring (O29). -/

namespace Sys2Proof.Machine

section
variable {s t u v w : State} {a b : ApId} {c d : ApConfig} {r q : RingId} {e : Change} {x : ApChange} {p : Pick}
  {oe : OnEmpty} {y sl : SlotId} {es done : List Change} {rejected : Change → Bool}

/-! ### The pick after some entries -/

/-- Among some entries an ORDERED consumer is made NEWEST. -/
def Forgets (a : ApId) (c : ApConfig) (es : List Change) : Prop :=
  ∃ before e after oe, es = before ++ e :: after ∧ e.op = .aperture a (.setPick .newest oe) ∧
    (configAfter before c).pick = .ordered

theorem forgets_concat : Forgets a c (done ++ [e]) ↔
    Forgets a c done ∨ (∃ oe, e.op = .aperture a (.setPick .newest oe)) ∧ (configAfter done c).pick = .ordered := by
  constructor
  · rintro ⟨before, f, after, oe, heq, hop, hpick⟩
    rcases List.eq_nil_or_concat after with rfl | ⟨after', g, rfl⟩
    · obtain ⟨rfl, hfe⟩ := List.append_inj' heq rfl
      obtain rfl := (List.cons.inj hfe).1
      exact .inr ⟨⟨oe, hop⟩, hpick⟩
    · rw [List.concat_eq_append, ← List.cons_append, ← List.append_assoc] at heq
      obtain ⟨rfl, -⟩ := List.append_inj' heq rfl
      exact .inl ⟨before, f, after', oe, rfl, hop, hpick⟩
  · rintro (⟨before, f, after, oe, rfl, hop, hpick⟩ | ⟨⟨oe, hop⟩, hpick⟩)
    · exact ⟨before, f, after ++ [e], oe, by simp, hop, hpick⟩
    · exact ⟨done, e, [], oe, rfl, hop, hpick⟩

/-- Where the pick has become NEWEST, it was that before or the consumer was made so. -/
theorem forgets_of_newest (mine : ∀ e ∈ done, ∃ x, e.op = .aperture a x)
    (h : (configAfter done c).pick = .newest) : c.pick = .newest ∨ Forgets a c done := by
  induction done using List.reverseRecOn with
  | nil => exact .inl h
  | append_singleton done e ih =>
    obtain ⟨x, hx⟩ := mine e (List.mem_append_right _ (List.mem_singleton.2 rfl))
    have ih := ih fun f hf => mine f (List.mem_append_left _ hf)
    rw [configAfter_concat hx] at h
    rw [forgets_concat]
    cases hp : (configAfter done c).pick with
    | newest => exact (ih hp).imp_right .inl
    | ordered =>
      cases x with
      | setPick p oe =>
        have hp' : p = .newest := h
        subst hp'
        exact .inr (.inr ⟨⟨oe, hx⟩, rfl⟩)
      | _ => rw [show (configAfter done c).pick = .newest from h] at hp; cases hp

/-- Entries that are left out for their window alone leave the pick and on_empty as all of them do. -/
theorem configAfter_filter (h : ∀ e ∈ es, rejected e = true → ∃ b base, e.op = .aperture b (.moveWindow base))
    (hcd : c.pick = d.pick ∧ c.onEmpty = d.onEmpty) :
    (configAfter (es.filter fun e => !rejected e) c).pick = (configAfter es d).pick ∧
      (configAfter (es.filter fun e => !rejected e) c).onEmpty = (configAfter es d).onEmpty := by
  induction es generalizing c d with
  | nil => exact hcd
  | cons e es ih =>
    have ih {c d : ApConfig} := ih (c := c) (d := d) fun f hf => h f (List.mem_cons_of_mem _ hf)
    cases hr : rejected e with
    | true =>
      obtain ⟨b, base, hop⟩ := h e List.mem_cons_self hr
      rw [List.filter_cons_of_neg (by simp [hr]), configAfter_cons hop]
      exact ih hcd
    | false =>
      rw [List.filter_cons_of_pos (by simp [hr])]
      cases hop : e.op with
      | aperture b x =>
        rw [configAfter_cons hop, configAfter_cons hop]
        refine ih ?_
        cases x with
        | setPick p oe => exact ⟨rfl, rfl⟩
        | _ => exact hcd
      | _ =>
        have skip (c : ApConfig) (l : List Change) : configAfter (e :: l) c = configAfter l c := by
          simp [configAfter, hop]
        rw [skip, skip]
        exact ih hcd

/-! ### Lists -/

theorem takeThrough_filter {α : Type} [DecidableEq α] {x : α} {p : α → Bool} {l : List α}
    (h : x ∈ l → p x = true) : takeThrough x (l.filter p) = (takeThrough x l).filter p := by
  induction l with
  | nil => rfl
  | cons y ys ih =>
    have ih := ih fun hx => h (List.mem_cons_of_mem _ hx)
    by_cases e : y = x
    · subst e
      have hy := h List.mem_cons_self
      simp [takeThrough, hy]
    · cases hp : p y with
      | true => simp [takeThrough, hp, e, ih]
      | false => simp [takeThrough, hp, e, ih]

theorem filter_mem_of_sublist {l m : List SlotId} (nodup : m.Nodup) (h : l.Sublist m) :
    l = m.filter fun x => decide (x ∈ l) :=
  sublist_eq_of_mem nodup h List.filter_sublist fun x hx => by simp [hx]

/-! ### The reclamation condition after a change of pick -/

/-- A READY slot that the consumer alone may hold back (R12). -/
structure State.Loose (s : State) (a : ApId) (r : RingId) (y : SlotId) : Prop where
  unheld : (s.slot y).holders = 0
  newer  : (s.ring r).ready.getLast? ≠ some y
  passed : ∀ b x, b ≠ a → ApSet.has (s.ring r).consumers b = true → (s.ap b).config = some x →
    x.pick = .ordered → ApSet.has (s.slot y).passedBy b = true

theorem reclaim_ready_of_nodup (hn : (s.ring r).ready.Nodup) (cands : List SlotId) :
    ((s.reclaim r cands).ring r).ready = (s.ring r).ready.filter fun y => decide (y ∉ s.leaving r cands) := by
  rw [reclaim_eq, (applyRetirements_ready _ _ r).1, dropAll_ring_self]
  exact hn.sdiff_eq_filter

/-- The consumer holds its slot back. -/
def State.HoldsBack (s : State) (a : ApId) : Prop :=
  ∀ sl, (s.ap a).state = .bound sl → (s.slot sl).holders ≠ 0

/-- The ready list and the marks of an ON consumer's ring, as some of its entries have left them: `forgets` says
that it was made NEWEST on the way, and `pick` is its pick now. -/
structure Picking (s u : State) (a : ApId) (c : ApConfig) (forgets : Prop) (pick : Pick) : Prop where
  sub     : (u.ring c.ring).ready.Sublist (s.ring c.ring).ready
  slots   : ∀ y ∈ (u.ring c.ring).ready, (u.slot y).holders = (s.slot y).holders ∧
    ∀ b, b ≠ a → ApSet.has (u.slot y).passedBy b = ApSet.has (s.slot y).passedBy b
  gone    : ∀ y ∈ (s.ring c.ring).ready, y ∉ (u.ring c.ring).ready → s.Loose a c.ring y
  forgot  : forgets → ∀ y ∈ (u.ring c.ring).ready, ¬ s.Loose a c.ring y
  cleared : forgets → pick = .newest →
    ∀ y, (u.slot y).home.map (·.ring) = some c.ring → ApSet.has (u.slot y).passedBy a = false
  fresh   : ¬ forgets → pick = c.pick → u.slots = s.slots ∧ u.rings = s.rings
  marked  : pick = .ordered → (c.pick = .newest ∨ forgets) → (forgets → s.HoldsBack a) →
    ∀ y ∈ (u.ring c.ring).ready, ApSet.has (u.slot y).passedBy a = true ↔
      (¬ forgets ∧ ApSet.has (s.slot y).passedBy a = true) ∨ y ∈ s.markable a c.ring
  passed  : pick = .ordered → c.pick = .newest → ¬ forgets →
    ∀ y ∈ (s.ring c.ring).ready, y ∉ (u.ring c.ring).ready →
      ApSet.has (s.slot y).passedBy a = true ∨ y ∈ s.markable a c.ring

theorem Picking.start (s : State) (a : ApId) (c : ApConfig) : Picking s s a c (Forgets a c []) c.pick := by
  have none : ¬ Forgets a c [] := by
    rintro ⟨before, e, after, oe, h, -⟩
    exact absurd h (by simp)
  refine ⟨.refl _, fun _ _ => ⟨rfl, fun _ _ => rfl⟩, fun y hy k => absurd hy k, fun h => absurd h none,
    fun h => absurd h none, fun _ _ => ⟨rfl, rfl⟩, fun ho h => ?_, fun ho h => ?_⟩
  · rcases h with h | h
    · rw [ho] at h; cases h
    · exact absurd h none
  · rw [ho] at h; cases h

section
variable {forgets : Prop} {pick : Pick}

theorem Picking.congr (k : Picking s u a c forgets pick) (slots : v.slots = u.slots) (rings : v.rings = u.rings) :
    Picking s v a c forgets pick := by
  have ring : v.ring c.ring = u.ring c.ring := by rw [State.ring, rings]; rfl
  have slot (y : SlotId) : v.slot y = u.slot y := by rw [State.slot, slots]; rfl
  constructor
  case fresh => rw [slots, rings]; exact k.fresh
  all_goals simp only [ring, slot]
  exacts [k.sub, k.slots, k.gone, k.forgot, k.cleared, k.marked, k.passed]

/-- The consumer's slot stays READY as long as it holds it back. -/
theorem Picking.holds (k : Picking s u a c forgets pick) (hold : s.HoldsBack a) (hb : (s.ap a).state = .bound sl)
    (hs : sl ∈ (s.ring c.ring).ready) : sl ∈ (u.ring c.ring).ready := by
  by_contra no
  exact hold sl hb (k.gone sl hs no).unheld

/-- The newest READY slot stays (R12). -/
theorem Picking.last (k : Picking s u a c forgets pick) (hn : (s.ring c.ring).ready.Nodup) :
    (u.ring c.ring).ready.getLast? = (s.ring c.ring).ready.getLast? := by
  rw [filter_mem_of_sublist hn k.sub]
  refine getLast?_filter_of_last _ _ fun y hy => decide_eq_true ?_
  by_contra no
  exact (k.gone y (List.mem_of_getLast? hy) no).newer hy

/-- The slots that the consumer would be marked on are those it would have been marked on, less the gone ones. -/
theorem Picking.markable (k : Picking s u a c forgets pick) (hn : (s.ring c.ring).ready.Nodup)
    (state : (u.ap a).state = (s.ap a).state)
    (stays : ∀ sl, (s.ap a).state = .bound sl → sl ∈ (s.ring c.ring).ready → sl ∈ (u.ring c.ring).ready)
    (hy : y ∈ (u.ring c.ring).ready) : y ∈ u.markable a c.ring ↔ y ∈ s.markable a c.ring := by
  have ready := filter_mem_of_sublist hn k.sub
  unfold State.markable
  rw [state]
  cases hst : (s.ap a).state with
  | bound sl =>
    show y ∈ takeThrough sl (u.ring c.ring).ready ↔ y ∈ takeThrough sl (s.ring c.ring).ready
    rw [ready, takeThrough_filter (p := fun x => decide (x ∈ (u.ring c.ring).ready))
      fun hs => decide_eq_true (stays sl hst hs), List.mem_filter]
    exact and_iff_left (decide_eq_true hy)
  | _ => exact iff_of_true hy (k.sub.subset hy)

/-- What an entry that changes the pick has to find: the consumer serves the ring, and the records are those that
the entries before it have left. -/
structure PickSite (s u : State) (a : ApId) (c : ApConfig) : Prop where
  ready     : (s.ring c.ring).ready.Nodup
  listed    : ∀ y ∈ (s.ring c.ring).ready, (s.slot y).home.map (·.ring) = some c.ring
  serves    : ApSet.has (s.ring c.ring).consumers a = true
  state     : (u.ap a).state = (s.ap a).state
  others    : ∀ b, b ≠ a → u.ap b = s.ap b
  homes     : ∀ y, (u.slot y).home = (s.slot y).home
  consumers : (u.ring c.ring).consumers = (s.ring c.ring).consumers

section
variable (k : Picking s u a c forgets pick) (at' : PickSite s u a c) (m : Repicked u w a d e p oe)
include k at' m

/-- The READY slots that leave when the pick changes. -/
theorem Picking.leaves (hy : y ∈ (u.ring c.ring).ready) :
    y ∈ w.leaving c.ring (w.ring c.ring).ready ↔
      s.Loose a c.ring y ∧ (p = .ordered → ApSet.has (w.slot y).passedBy a = true) := by
  have ring : w.ring c.ring = u.ring c.ring := by rw [State.ring, m.rings]; rfl
  have last := k.last at'.ready
  obtain ⟨holders, passed⟩ := k.slots y hy
  have held : (w.slot y).holders = (s.slot y).holders := by rw [m.slot, ← holders]
  have marks (b : ApId) (hb : b ≠ a) : ApSet.has (w.slot y).passedBy b = ApSet.has (s.slot y).passedBy b := by
    rw [← passed b hb, m.slot]
    show ApSet.has (u.repickedSet a d.ring p y) b = _
    unfold State.repickedSet
    cases p <;> simp only <;> split <;> simp [hb]
  have pickOf : (w.ap a).config.map (·.pick) = some p := by rw [m.ap]; rfl
  rw [mem_leaving, ring]
  unfold State.MeetsReclamation
  rw [ring, held, last, at'.consumers]
  constructor
  · rintro ⟨-, -, unheld, all, newer⟩
    refine ⟨⟨unheld, newer, fun b x hb hc hx hp => ?_⟩, fun hp => ?_⟩
    · rw [← marks b hb]
      exact all b x hc ((m.others b hb).trans (at'.others b hb) ▸ hx) hp
    · cases hcfg : (w.ap a).config with
      | none => rw [hcfg] at pickOf; cases pickOf
      | some x =>
        rw [hcfg] at pickOf
        exact all a x at'.serves hcfg ((Option.some.inj pickOf).trans hp)
  · rintro ⟨loose, passes⟩
    refine ⟨hy, hy, loose.unheld, fun b x hc hx hp => ?_, loose.newer⟩
    by_cases hb : b = a
    · subst hb
      rw [hx] at pickOf
      exact passes ((Option.some.inj pickOf).symm.trans hp)
    · rw [marks b hb]
      exact loose.passed b x hb hc ((m.others b hb).trans (at'.others b hb) ▸ hx) hp

/-- The ready list after the reclamation check that follows a change of pick. -/
theorem Picking.ready_after :
    ((w.reclaimAll c.ring).ring c.ring).ready =
      (u.ring c.ring).ready.filter fun y => decide (y ∉ w.leaving c.ring (w.ring c.ring).ready) := by
  have ring : w.ring c.ring = u.ring c.ring := by rw [State.ring, m.rings]; rfl
  rw [State.reclaimAll, reclaim_ready_of_nodup (by rw [ring]; exact at'.ready.sublist k.sub), ring]

theorem Picking.stays_iff (hy : y ∈ (u.ring c.ring).ready) :
    y ∈ ((w.reclaimAll c.ring).ring c.ring).ready ↔
      ¬ (s.Loose a c.ring y ∧ (p = .ordered → ApSet.has (w.slot y).passedBy a = true)) := by
  rw [k.ready_after at' m, List.mem_filter, decide_eq_true_eq, k.leaves at' m hy]
  exact and_iff_right hy

/-- What any change of pick keeps. -/
theorem Picking.repicked_common :
    ((w.reclaimAll c.ring).ring c.ring).ready.Sublist (u.ring c.ring).ready ∧
      (∀ y ∈ ((w.reclaimAll c.ring).ring c.ring).ready, (w.reclaimAll c.ring).slot y = w.slot y) ∧
      (∀ y ∈ ((w.reclaimAll c.ring).ring c.ring).ready, (w.slot y).holders = (s.slot y).holders ∧
        ∀ b, b ≠ a → ApSet.has (w.slot y).passedBy b = ApSet.has (s.slot y).passedBy b) ∧
      (∀ y ∈ (s.ring c.ring).ready, y ∉ ((w.reclaimAll c.ring).ring c.ring).ready → s.Loose a c.ring y) := by
  have after := k.ready_after at' m
  have sub : ((w.reclaimAll c.ring).ring c.ring).ready.Sublist (u.ring c.ring).ready := by
    rw [after]; exact List.filter_sublist
  refine ⟨sub, fun y hy => ?_, fun y hy => ?_, fun y hy gone => ?_⟩
  · rw [after, List.mem_filter, decide_eq_true_eq] at hy
    exact reclaim_slot_of_not_leaving _ _ hy.2
  · obtain ⟨holders, passed⟩ := k.slots y (sub.subset hy)
    refine ⟨by rw [m.slot, ← holders], fun b hb => ?_⟩
    rw [← passed b hb, m.slot]
    show ApSet.has (u.repickedSet a d.ring p y) b = _
    unfold State.repickedSet
    cases p <;> simp only <;> split <;> simp [hb]
  · by_cases still : y ∈ (u.ring c.ring).ready
    · by_contra loose
      exact gone ((k.stays_iff at' m still).2 fun h => loose h.1)
    · exact k.gone y hy still

end

/-- An ORDERED consumer made NEWEST leaves every passed_by set, and the slots that it alone held back leave. -/
theorem Picking.toNewest (k : Picking s u a c forgets .ordered) (at' : PickSite s u a c) (hd : d.ring = c.ring)
    (m : Repicked u w a d e .newest oe) : Picking s (w.reclaimAll c.ring) a c True .newest := by
  obtain ⟨sub, slot, same, gone⟩ := k.repicked_common at' m
  refine ⟨sub.trans k.sub, fun y hy => ?_, gone, fun _ y hy loose => ?_, fun _ _ y home => ?_, fun h => absurd trivial h,
    nofun, nofun⟩
  · rw [slot y hy]
    exact same y hy
  · exact (k.stays_iff at' m (sub.subset hy)).1 hy ⟨loose, nofun⟩
  · rcases reclaim_slot_or_unpassed w c.ring (w.ring c.ring).ready y with h | h
    · rw [State.reclaimAll, h] at home ⊢
      rw [m.slot] at home ⊢
      show ApSet.has (u.repickedSet a d.ring .newest y) a = false
      unfold State.repickedSet
      rw [hd]
      simp only
      rw [if_pos home]
      simp
    · rw [State.reclaimAll, h]
      exact Bool.eq_false_iff.2 not_has_zero

/-- A NEWEST consumer made ORDERED joins the passed_by sets of its slot and every older one, or of every READY slot. -/
theorem Picking.toOrdered (k : Picking s u a c forgets .newest) (at' : PickSite s u a c) (hd : d.ring = c.ring)
    (m : Repicked u w a d e .ordered oe) (first : ¬ forgets → c.pick = .newest) :
    Picking s (w.reclaimAll c.ring) a c forgets .ordered := by
  obtain ⟨sub, slot, same, gone⟩ := k.repicked_common at' m
  have marks (hold : forgets → s.HoldsBack a) (y : SlotId) (hy : y ∈ (u.ring c.ring).ready) :
      ApSet.has (w.slot y).passedBy a = true ↔
        (¬ forgets ∧ ApSet.has (s.slot y).passedBy a = true) ∨ y ∈ s.markable a c.ring := by
    have before : ApSet.has (u.slot y).passedBy a = true ↔ ¬ forgets ∧ ApSet.has (s.slot y).passedBy a = true := by
      by_cases hf : forgets
      · have home := at'.listed y (k.sub.subset hy)
        rw [← at'.homes] at home
        rw [k.cleared hf rfl y home]
        exact ⟨nofun, fun h => absurd hf h.1⟩
      · obtain ⟨slots, -⟩ := k.fresh hf (first hf).symm
        rw [show u.slot y = s.slot y by rw [State.slot, slots]; rfl]
        exact (and_iff_right hf).symm
    have marked : y ∈ u.markable a c.ring ↔ y ∈ s.markable a c.ring := by
      refine k.markable at'.ready at'.state (fun sl hb hs => ?_) hy
      by_cases hf : forgets
      · exact k.holds (hold hf) hb hs
      · obtain ⟨-, rings⟩ := k.fresh hf (first hf).symm
        rwa [State.ring, rings]
    rw [m.slot]
    show ApSet.has (u.repickedSet a d.ring .ordered y) a = true ↔ _
    unfold State.repickedSet
    rw [hd, ← before, ← marked]
    simp only
    split
    · next h => simp [h]
    · next h => simp [h]
  refine ⟨sub.trans k.sub, fun y hy => ?_, gone, fun hf y hy => k.forgot hf y (sub.subset hy), nofun,
    fun hf hp => ?_, fun _ _ hold y hy => ?_, fun _ _ hf y hy lost => ?_⟩
  · rw [slot y hy]
    exact same y hy
  · rw [first hf] at hp; cases hp
  · rw [slot y hy]
    exact marks hold y (sub.subset hy)
  · obtain ⟨-, rings⟩ := k.fresh hf (first hf).symm
    have here : y ∈ (u.ring c.ring).ready := by rwa [State.ring, rings]
    have left := not_not.1 (mt (k.stays_iff at' m here).2 lost)
    exact ((marks (fun h => absurd h hf) y here).1 (left.2 rfl)).imp_left And.right

end

end

end Sys2Proof.Machine
end

section
/-! PROOFS: the entries ahead of a DETACH and the pick that follows them (O29). -/

namespace Sys2Proof.Machine

section
variable {s t u v w : State} {a b : ApId} {c d : ApConfig} {r q : RingId} {e : Change} {x : ApChange} {p : Pick}
  {oe : OnEmpty} {y sl : SlotId} {es done : List Change} {rejected : Change → Bool} {order : List ApId}

/-! ### A run of entries -/

/-- Entries of one aperture that hold no DETACH, of which those are rejected whose new window is in the way. -/
def Undetached (s : State) (a : ApId) (c : ApConfig) (rejected : Change → Bool) (es : List Change) : Prop :=
  ∀ e ∈ es, ∃ x, e.op = .aperture a x ∧ x ≠ .detach ∧ (rejected e = true ↔ s.hindered a c x)

theorem Undetached.mine (h : Undetached s a c rejected es) : ∀ e ∈ es, ∃ x, e.op = .aperture a x := fun e he =>
  (h e he).imp fun _ k => k.1

theorem Undetached.moves (h : Undetached s a c rejected es) :
    ∀ e ∈ es, rejected e = true → ∃ b base, e.op = .aperture b (.moveWindow base) := fun e he hr => by
  obtain ⟨x, hop, -, hrej⟩ := h e he
  obtain ⟨base, rfl, -⟩ := hrej.1 hr
  exact ⟨a, base, hop⟩

/-- The pick that the entries so far have left. -/
theorem Undetached.pick (h : Undetached s a c rejected done) :
    (configAfter (done.filter fun e => !rejected e) c).pick = (configAfter done c).pick :=
  (configAfter_filter h.moves ⟨rfl, rfl⟩).1

section
variable (hc : (s.ap a).config = some c) (hrole : c.role = .consumer) (on : s.apOn a = true)
  (count : (s.ap a).count = 0) (hno : s.NoRetirements)
include hc hrole on

omit count hno in
theorem Partway.pickSite (k : Partway s u a c rejected done) (hp : s.Placed) : PickSite s u a c where
  ready := hp.ready_nodup c.ring
  listed _ hy := hp.home_of_ready hy
  serves := (hp.consumers c.ring a).2 ((servesAs_of_config on hc .consumer c.ring).2 ⟨hrole, rfl⟩)
  state := k.state
  others := k.others
  homes := k.homes
  consumers := k.consumers c.ring

include count hno

/-- One entry more. -/
theorem Partway.step (k : Partway s u a c rejected done) (h : Undetached s a c rejected (done ++ [e])) :
    Partway s (u.applyChange e) a c rejected (done ++ [e]) ∧
      (s.Placed → Picking s u a c (Forgets a c done) (configAfter done c).pick →
        Picking s (u.applyChange e) a c (Forgets a c (done ++ [e])) (configAfter (done ++ [e]) c).pick) := by
  obtain ⟨x, he, hx, hrej⟩ := h e (List.mem_append_right _ (List.mem_singleton.2 rfl))
  have before : Undetached s a c rejected done := fun f hf => h f (List.mem_append_left _ hf)
  have place := configAfter_samePlace (done.filter fun e => !rejected e) c
  by_cases changes : ∃ p oe, x = .setPick p oe ∧ (configAfter done c).pick ≠ p
  · obtain ⟨p, oe, rfl, hp⟩ := changes
    have hp' := before.pick ▸ hp
    have kept : rejected e = false := Bool.eq_false_iff.2 fun hr => by
      obtain ⟨_, hm, -⟩ := hrej.1 hr
      cases hm
    refine ⟨k.repick on count hno he hrole kept before.mine hp', fun placed g => ?_⟩
    obtain ⟨w, m, applied⟩ := k.repicked on he hrole hp'
    have site := k.pickSite hc hrole on placed
    rw [applied, configAfter_concat he]
    cases p with
    | newest =>
      have was : (configAfter done c).pick = .ordered := by
        cases hq : (configAfter done c).pick with
        | ordered => rfl
        | newest => exact absurd hq hp
      have forgets : Forgets a c (done ++ [e]) = True :=
        eq_true (forgets_concat.2 (.inr ⟨⟨oe, he⟩, was⟩))
      rw [was] at g
      rw [forgets]
      exact g.toNewest site place.ring m
    | ordered =>
      have was : (configAfter done c).pick = .newest := by
        cases hq : (configAfter done c).pick with
        | newest => rfl
        | ordered => exact absurd hq hp
      have forgets : Forgets a c (done ++ [e]) ↔ Forgets a c done := by
        rw [forgets_concat, was]
        exact or_iff_left fun h => nomatch h.2
      rw [was] at g
      rw [propext forgets]
      exact g.toOrdered site place.ring m fun no => (forgets_of_newest before.mine was).resolve_right no
  · have keeps (p : Pick) (oe : OnEmpty) (hx : x = .setPick p oe) : p = (configAfter done c).pick := by
      by_contra ne
      exact changes ⟨p, oe, hx, Ne.symm ne⟩
    have keeps' := before.pick ▸ keeps
    refine ⟨k.keep on count he hx hrej keeps', fun _ g => ?_⟩
    have applied := applyChange_of_kept he k.config (k.apOn.trans on) hx keeps'
    have pick : (configAfter (done ++ [e]) c).pick = (configAfter done c).pick := by
      rw [configAfter_concat he]
      cases x with
      | setPick p oe => exact keeps p oe rfl
      | _ => rfl
    have forgets : Forgets a c (done ++ [e]) ↔ Forgets a c done := by
      rw [forgets_concat]
      refine or_iff_left ?_
      rintro ⟨⟨oe, hop⟩, was⟩
      obtain ⟨-, rfl⟩ := ChangeOp.aperture.inj (he.symm.trans hop)
      rw [← keeps _ _ rfl] at was
      cases was
    rw [pick, propext forgets, applied]
    exact g.congr rfl rfl

/-- All the entries of a run that holds no DETACH. -/
theorem undetached_run (h : Undetached s a c rejected es) :
    Partway s (es.foldl State.applyChange s) a c rejected es ∧
      (s.Placed → Picking s (es.foldl State.applyChange s) a c (Forgets a c es) (configAfter es c).pick) := by
  induction es using List.reverseRecOn with
  | nil => exact ⟨.start hc rejected, fun _ => .start s a c⟩
  | append_singleton es e ih =>
    obtain ⟨k, g⟩ := ih fun f hf => h f (List.mem_append_left _ hf)
    obtain ⟨k', g'⟩ := k.step hc hrole on count hno h
    rw [List.foldl_append]
    exact ⟨k', fun placed => g' placed (g placed)⟩

end

/-! ### The pick after a run of entries -/

/-- The frame an ORDERED consumer moves to: the oldest READY slot that it has not passed and that has not left (R77). -/
theorem Picking.candidate {forgets : Prop} (k : Picking s u a c forgets .ordered) (hn : (s.ring c.ring).ready.Nodup)
    (hold : forgets → s.HoldsBack a) {passed left : SlotId → Bool}
    (hpassed : ∀ y, passed y = true ↔ (¬ forgets ∧ ApSet.has (s.slot y).passedBy a = true) ∨
      (c.pick = .newest ∨ forgets) ∧ y ∈ s.markable a c.ring)
    (hleft : ∀ y, left y = true ↔ forgets ∧ s.Loose a c.ring y) :
    (u.ring c.ring).ready.find? (fun y => !ApSet.has (u.slot y).passedBy a) =
      (s.ring c.ring).ready.find? fun y => !passed y && !left y := by
  have marked (y : SlotId) (hy : y ∈ (u.ring c.ring).ready) : ApSet.has (u.slot y).passedBy a = passed y := by
    refine Bool.eq_iff_iff.2 (Iff.trans ?_ (hpassed y).symm)
    by_cases changed : c.pick = .newest ∨ forgets
    · rw [k.marked rfl changed hold y hy]
      exact or_congr_right (and_iff_right changed).symm
    · have hf : ¬ forgets := fun h => changed (.inr h)
      have same : Pick.ordered = c.pick := by
        cases hq : c.pick with
        | ordered => rfl
        | newest => exact absurd (.inl hq) changed
      obtain ⟨slots, -⟩ := k.fresh hf same
      rw [show u.slot y = s.slot y by rw [State.slot, slots]; rfl]
      exact ⟨fun h => .inl ⟨hf, h⟩, fun h => h.elim And.right fun h => absurd h.1 changed⟩
  rw [filter_mem_of_sublist hn k.sub, List.find?_filter]
  refine List.find?_congr fun y hy => Bool.eq_iff_iff.2 ?_
  simp only [Bool.and_eq_true, decide_eq_true_eq, Bool.not_eq_true']
  constructor
  · rintro ⟨here, unmarked⟩
    refine ⟨(marked y here).symm.trans unmarked, Bool.eq_false_iff.2 fun h => ?_⟩
    obtain ⟨hf, loose⟩ := (hleft y).1 h
    exact k.forgot hf y here loose
  · rintro ⟨unpassed, stays⟩
    have here : y ∈ (u.ring c.ring).ready := by
      by_contra gone
      have loose := k.gone y hy gone
      by_cases hf : forgets
      · rw [(hleft y).2 ⟨hf, loose⟩] at stays; cases stays
      · have passed : passed y = true := by
          cases hq : c.pick with
          | newest =>
            exact (hpassed y).2 ((k.passed rfl hq hf y hy gone).imp (fun h => ⟨hf, h⟩) fun h => ⟨.inl hq, h⟩)
          | ordered =>
            obtain ⟨-, rings⟩ := k.fresh hf hq.symm
            exact absurd hy (by rwa [State.ring, rings] at gone)
        rw [passed] at unpassed; cases unpassed
    exact ⟨here, (marked y here).trans unpassed⟩

/-- Where the pick stage leaves a VIEWING consumer. -/
theorem pickStage_goes {next : Option SlotId} (hb : (u.ap a).state = .bound sl) (hd : (u.ap a).config = some d)
    (hn : u.pickNext a d.ring d.pick sl = next) :
    (∀ y, next = some y → ((u.pickStage a d).ap a).state = .bound y) ∧
      (next = none → d.onEmpty = .repeatFrame → ((u.pickStage a d).ap a).state = .bound sl) ∧
      (next = none → d.onEmpty = .strict → ((u.pickStage a d).ap a).state = .unbound) := by
  refine ⟨fun z hz => ?_, fun none he => ?_, fun none he => ?_⟩
  · have moved := (pickStage_pickMoves hb hd hn fun k => by rw [hz] at k; cases k).state
    rwa [hz] at moved
  · rw [pickStage_of_kept hb (hn.trans none) he, hb]
  · have moved := (pickStage_pickMoves hb hd hn fun _ => he).state
    rwa [none] at moved

/-- A NEWEST consumer is marked on no slot that it was not marked on. -/
theorem pickStage_unmarked (hp : d.pick = .newest)
    (h : ∀ y, (u.slot y).home.map (·.ring) = some r → ApSet.has (u.slot y).passedBy a = false)
    (home : ((u.pickStage a d).slot y).home.map (·.ring) = some r) :
    ApSet.has ((u.pickStage a d).slot y).passedBy a = false := by
  rcases pickStage_cases u a d with e | ⟨sl, next, cands, hb, e⟩ <;> rw [e] at home ⊢
  · exact h y home
  · rcases reclaim_slot_or_unpassed (u.picked a d next) d.ring cands y with k | k
    · rw [k] at home ⊢
      refine Bool.eq_false_iff.2 fun marked => ?_
      rcases (picked_passed_iff hb y a).1 marked with was | ⟨-, ordered, -⟩
      · rw [picked_slot hb] at home
        rw [h y home] at was
        cases was
      · rw [hp] at ordered; cases ordered
    · rw [k]
      exact Bool.eq_false_iff.2 not_has_zero

/-- A READY slot keeps the marks it has over the pick stage. -/
theorem pickStage_marked (hn : (u.ring d.ring).ready.Nodup) (hy : y ∈ ((u.pickStage a d).ring d.ring).ready)
    (h : y ∈ (u.ring d.ring).ready → ApSet.has (u.slot y).passedBy a = true) :
    ApSet.has ((u.pickStage a d).slot y).passedBy a = true := by
  rcases pickStage_cases u a d with e | ⟨sl, next, cands, hb, e⟩ <;> rw [e] at hy ⊢
  · exact h hy
  · have ring := picked_ring u a d next d.ring
    rw [reclaim_slot_of_not_leaving _ _ (not_leaving_of_ready hy)]
    rw [reclaim_ready_of_nodup (by rw [ring]; exact hn), ring] at hy
    exact (picked_passed_iff hb y a).2 (.inl (h (List.mem_of_mem_filter hy)))

end

end Sys2Proof.Machine
end

section
/-! PROOFS: the boundary of a consumer whose entries hold no DETACH (O29). -/

namespace Sys2Proof.Machine

section
variable {s t u v w : State} {a b : ApId} {c d : ApConfig} {r q : RingId} {e : Change} {x : ApChange} {p : Pick}
  {oe : OnEmpty} {y sl : SlotId} {es done mine : List Change} {rejected : Change → Bool} {order : List ApId}

/-! ### The event -/

theorem applyForAperture_eq (s : State) (a : ApId) :
    s.applyForAperture a = (s.entriesFor a).foldl State.applyChange s := by
  rw [State.applyForAperture, entriesFor_eq]

theorem consumerBoundary_eq (hd : ((s.applyForAperture a).ap a).config = some d) :
    s.consumerBoundary a = (s.applyForAperture a).pickStage a d := by
  rw [State.consumerBoundary]
  simp only [hd]

/-- A boundary that leaves the ports as they were ends the event. -/
theorem exec_boundary_of_shelf (h : s.link.phase = .request) (hs : s.Settled) (hacts : s.ActsNow a c)
    (hrole : c.role = .consumer) (shelf : OnShelf (s.counted a) ((s.counted a).consumerBoundary a)) :
    exec (.boundary (requestFor 0x05 [idWord a]) order) s =
      .next (((s.counted a).consumerBoundary a).answered 0x05 [idWord a] .done []) := by
  have := moving_boundary
  have still := ((consumerBoundary_moves (s.counted a).obeys_boundary (counted_config hacts) hrole).pending trivial)
  rw [exec_boundary_of_on h hacts.on, boundaryAt_consumer hacts hrole,
    finish_of_settled ((counted_settled hs hacts.on).calm shelf.steering shelf.arbiter still)]

/-! ### What the pick stage leaves of the aperture and the queue -/

theorem pickStage_ap_self (s : State) (a : ApId) (c : ApConfig) :
    (s.pickStage a c).ap a = { s.ap a with state := ((s.pickStage a c).ap a).state } := by
  rcases pickStage_cases s a c with e | ⟨sl, next, cands, hb, e⟩ <;> rw [e]
  rw [reclaim_ap, picked_ap_self hb]

theorem pickStage_ap_ne (h : a ≠ b) : (s.pickStage a c).ap b = s.ap b := by
  rcases pickStage_cases s a c with e | ⟨sl, next, cands, -, e⟩ <;> rw [e]
  rw [reclaim_ap, picked_ap_ne h]

theorem pickStage_changes (hno : s.NoRetirements) : (s.pickStage a c).changes = s.changes := by
  rcases pickStage_cases s a c with e | ⟨sl, next, cands, -, e⟩ <;> rw [e]
  rw [reclaim_changes (hno.congr (picked_changes ..)), picked_changes]

/-- The entries of others stay, in their order (R149). -/
theorem erase_entriesFor (s : State) (a : ApId) :
    (s.entriesFor a).foldl List.erase s.changes.entries = s.changes.entries.filter fun e => decide (e ∉ s.entriesFor a) := by
  rw [← entries_without, ← entriesFor_eq, foldl_erase_filter]

/-! ### The boundary without a DETACH -/

section
variable (hc : (s.ap a).config = some c) (hrole : c.role = .consumer) (on : s.apOn a = true)
  (count : (s.ap a).count = 0) (hno : s.NoRetirements) (h : Undetached s a c rejected (s.entriesFor a))
include hc hrole on count hno h

theorem undetached_partway : Partway s (s.applyForAperture a) a c rejected (s.entriesFor a) := by
  rw [applyForAperture_eq]
  exact (undetached_run hc hrole on count hno h).1

theorem undetached_picking (hp : s.Placed) :
    Picking s (s.applyForAperture a) a c (Forgets a c (s.entriesFor a)) (configAfter (s.entriesFor a) c).pick := by
  rw [applyForAperture_eq]
  exact (undetached_run hc hrole on count hno h).2 hp

theorem undetached_boundary :
    s.consumerBoundary a = (s.applyForAperture a).pickStage a
      (configAfter ((s.entriesFor a).filter fun e => !rejected e) c) :=
  consumerBoundary_eq (undetached_partway hc hrole on count hno h).config

theorem undetached_shelf : OnShelf s (s.consumerBoundary a) := by
  rw [undetached_boundary hc hrole on count hno h]
  exact (undetached_partway hc hrole on count hno h).shelf.trans (pickStage_onShelf ..)

/-- Entries that leave the pick of a WAITING consumer: the whole state (R149, R151). -/
theorem undetached_waiting (hst : (s.ap a).state = .unbound)
    (plain : ∀ e ∈ s.entriesFor a, ∀ p oe, e.op = .aperture a (.setPick p oe) → p = c.pick) :
    s.consumerBoundary a =
      s.wrote a ((s.ap a).after (s.entriesFor a) rejected c)
        (s.changes.entries.filter fun e => decide (e ∉ s.entriesFor a))
        (((s.entriesFor a).map fun e => e.taken rejected c.ring a none).foldl NoteQueue.push s.notes) := by
  have k := undetached_partway hc hrole on count hno h
  have none : s.boundSlot a = none := by rw [State.boundSlot, hst]
  have waits : ((s.applyForAperture a).ap a).state = .unbound := k.state.trans hst
  have idle : (s.applyForAperture a).pickStage a (configAfter ((s.entriesFor a).filter fun e => !rejected e) c) =
      s.applyForAperture a := by rw [State.pickStage, waits]
  rw [undetached_boundary hc hrole on count hno h, idle, k.plain plain, erase_entriesFor, none]

/-- What the entries and the pick leave of the queue, the apertures and the notes. -/
structure UndetachedRan (s v : State) (a : ApId) (c : ApConfig) (rejected : Change → Bool) : Prop where
  changes : v.changes =
    { s.changes with entries := s.changes.entries.filter fun e => decide (e ∉ s.entriesFor a) }
  ap      : v.ap a = { (s.ap a).after (s.entriesFor a) rejected c with state := (v.ap a).state }
  on      : v.apOn a = true
  raised  : ∀ e ∈ s.entriesFor a, Raised s v (e.taken rejected c.ring a (s.boundSlot a))
  others  : ∀ b, b ≠ a → v.ap b = s.ap b

theorem undetached_ran : UndetachedRan s (s.consumerBoundary a) a c rejected := by
  have k := undetached_partway hc hrole on count hno h
  rw [undetached_boundary hc hrole on count hno h]
  refine ⟨?_, ?_, pickStage_apOn _ _ _ (k.apOn.trans on), fun e he => (k.raised e he).mono (pickStage_onward ..),
    fun b hb => (pickStage_ap_ne hb.symm).trans (k.others b hb)⟩
  · rw [pickStage_changes (k.noRetirements hno), k.changes, erase_entriesFor]
  · rw [pickStage_ap_self, k.ap]

/-- Where the entries and the pick leave the consumer and its marks. -/
structure UndetachedPick (s v : State) (a : ApId) (c d : ApConfig) (forgets : Prop) : Prop where
  cleared : forgets → d.pick = .newest → ∀ y, (v.slot y).home.map (·.ring) = some c.ring →
    ApSet.has (v.slot y).passedBy a = false
  marked  : c.pick = .newest ∨ forgets → d.pick = .ordered → ∀ y ∈ (v.ring c.ring).ready,
    y ∈ (s.ring c.ring).ready ∧ (y ∈ s.markable a c.ring → ApSet.has (v.slot y).passedBy a = true)
  waiting : (s.ap a).state = .unbound → (v.ap a).state = .unbound
  newest  : d.pick = .newest → ∀ sl next, (s.ap a).state = .bound sl →
    next = (if (s.ring c.ring).ready.getLast? = some sl then none else (s.ring c.ring).ready.getLast?) →
    (∀ y, next = some y → (v.ap a).state = .bound y) ∧
    (next = none → d.onEmpty = .repeatFrame → (v.ap a).state = .bound sl) ∧
    (next = none → d.onEmpty = .strict → (v.ap a).state = .unbound)
  ordered : d.pick = .ordered → ∀ sl next, (s.ap a).state = .bound sl → ∀ passed left : SlotId → Bool,
    (∀ y, passed y = true ↔ (¬ forgets ∧ ApSet.has (s.slot y).passedBy a = true) ∨
      (c.pick = .newest ∨ forgets) ∧ y ∈ s.markable a c.ring) →
    (∀ y, left y = true ↔ forgets ∧ s.Loose a c.ring y) →
    next = (s.ring c.ring).ready.find? (fun y => !passed y && !left y) →
    (∀ y, next = some y → (v.ap a).state = .bound y) ∧
    (next = none → d.onEmpty = .repeatFrame → (v.ap a).state = .bound sl) ∧
    (next = none → d.onEmpty = .strict → (v.ap a).state = .unbound)

theorem undetached_pick (hp : s.Placed)
    (hold : Forgets a c (s.entriesFor a) → (configAfter (s.entriesFor a) c).pick = .ordered → s.HoldsBack a) :
    UndetachedPick s (s.consumerBoundary a) a c (configAfter (s.entriesFor a) c) (Forgets a c (s.entriesFor a)) := by
  have k := undetached_partway hc hrole on count hno h
  have g := undetached_picking hc hrole on count hno h hp
  have ready := hp.ready_nodup c.ring
  obtain ⟨pick, onEmpty⟩ := configAfter_filter (c := c) (d := c) h.moves ⟨rfl, rfl⟩
  have ring := (configAfter_samePlace ((s.entriesFor a).filter fun e => !rejected e) c).ring
  have config := k.config
  have state := k.state
  rw [undetached_boundary hc hrole on count hno h]
  generalize configAfter ((s.entriesFor a).filter fun e => !rejected e) c = d' at *
  generalize configAfter (s.entriesFor a) c = d at *
  generalize s.applyForAperture a = u at *
  have nodup : (u.ring d'.ring).ready.Nodup := by rw [ring]; exact ready.sublist g.sub
  refine ⟨fun hf hd y => pickStage_unmarked (pick.trans hd) (g.cleared hf hd), fun changed hd y hy => ?_,
    fun hst => ?_, fun hd sl next hb hnext => ?_, fun hd sl next hb passed left hpassed hleft hnext => ?_⟩
  · have here : y ∈ (u.ring c.ring).ready := by
      rw [← ring] at hy ⊢
      rcases pickStage_cases u a d' with e | ⟨sl, next, cands, -, e⟩ <;> rw [e] at hy
      · exact hy
      · have same := picked_ring u a d' next d'.ring
        rw [reclaim_ready_of_nodup (by rw [same]; exact nodup), same] at hy
        exact List.mem_of_mem_filter hy
    refine ⟨g.sub.subset here, fun mark => pickStage_marked nodup (by rw [ring]; exact hy) fun _ => ?_⟩
    exact (g.marked hd changed (fun hf => hold hf hd) y here).2 (.inr mark)
  · have waits : (u.ap a).state = .unbound := state.trans hst
    rw [State.pickStage, waits]
    exact waits
  · rw [← onEmpty]
    refine pickStage_goes (state.trans hb) config ?_
    rw [pickNext_eq, pick, hd, ring, g.last ready]
    exact hnext.symm
  · rw [hd] at g
    rw [← onEmpty]
    refine pickStage_goes (state.trans hb) config ?_
    rw [pickNext_eq, pick, hd, ring]
    exact (g.candidate ready (fun hf => hold hf hd) hpassed hleft).trans hnext.symm

end

end

end Sys2Proof.Machine
end

section
/-! PROOFS: a DETACH turns an ON consumer OFF at its boundary (O29). -/

namespace Sys2Proof.Machine

section
variable {s t u v w : State} {a b : ApId} {c d : ApConfig} {r q : RingId} {e : Change} {x : ApChange} {y sl : SlotId}

/-- A consumer that a DETACH turns OFF, before the reclamation check. -/
def State.unhooked (u : State) (e : Change) (a : ApId) (c : ApConfig) : State :=
  (((u.removeChange e).releaseHold a).consumerOff a c.ring).applied e

theorem applyChange_of_detach (he : e.op = .aperture a .detach) (hc : (u.ap a).config = some c)
    (on : u.apOn a = true) (hrole : c.role = .consumer) :
    u.applyChange e = (u.unhooked e a c).reclaim c.ring
      ((u.unhooked e a c).offChecks c.ring c.pick (u.boundSlot a)) := by
  rw [applyChange_aperture u he hc]
  refine (if_pos on).trans ?_
  rw [hrole]
  rfl

/-- What a DETACH leaves of an ON consumer, its slot and its ring (R42, R70, R71). -/
structure Detached (u w : State) (a : ApId) (c : ApConfig) (e : Change) : Prop where
  ap        : w.ap a = { u.ap a with state := .off, deferred := false }
  others    : ∀ b, b ≠ a → w.ap b = u.ap b
  changes   : w.changes = { u.changes with entries := u.changes.entries.erase e }
  consumers : (w.ring c.ring).consumers = ApSet.erase (u.ring c.ring).consumers a
  released  : ∀ sl, (u.ap a).state = .bound sl → ApSet.has (w.slot sl).holders a = false
  unpassed  : ∀ y, (w.slot y).home.map (·.ring) = some c.ring → ApSet.has (w.slot y).passedBy a = false
  onward    : Onward u w
  raised    : Raised u w (e.note .changeApplied c.ring (some a) none)
  alone     : (u.ap a).state = .unbound → c.pick = .newest →
    w.notes = u.notes.push (e.note .changeApplied c.ring (some a) none)
  waiting   : w.steering.waiting = u.steering.waiting
  answered  : ∀ x base timer, u.steering.phase = .stalled x a base timer → w.steering.phase = .opened ∧
    ∃ d, w.aOut = u.aOut ++ [{ source := x.source, kind := x.kind, outcome := .fault, data := d }]
  still     : (∀ x base timer, u.steering.phase ≠ .stalled x a base timer) →
    w.steering = u.steering ∧ w.aOut = u.aOut

/-- The reclamation check that follows the turning OFF leaves all that a DETACH has to. -/
theorem Detached.reclaim (k : Detached u w a c e) (hno : w.NoRetirements) (cands : List SlotId)
    (none : (u.ap a).state = .unbound → c.pick = .newest → cands = []) :
    Detached u (w.reclaim c.ring cands) a c e := by
  have shelf := OnShelf.reclaim w c.ring cands
  have steering := shelf.steering
  have aOut := shelf.aOut
  have onward := reclaim_onward w c.ring cands
  refine ⟨by rw [reclaim_ap, k.ap], fun b hb => by rw [reclaim_ap, k.others b hb], by rw [reclaim_changes hno, k.changes],
    by rw [reclaim_ring_consumers, k.consumers], fun sl hb => reclaim_unheld (k.released sl hb), fun y hy => ?_,
    k.onward.trans onward, k.raised.mono onward, fun hst hp => ?_, by rw [steering, k.waiting], ?_, ?_⟩
  · rcases reclaim_slot_or_unpassed w c.ring cands y with h | h
    · rw [h] at hy ⊢
      exact k.unpassed y hy
    · rw [h]
      exact Bool.eq_false_iff.2 not_has_zero
  · rw [none hst hp, reclaim_of_none fun y _ hy => by cases hy]
    exact k.alone hst hp
  · rw [steering, aOut]
    exact k.answered
  · rw [steering, aOut]
    exact k.still

theorem releaseHold_onward (s : State) (a : ApId) :
    Onward s (s.releaseHold a) ∧ (s.releaseHold a).notes = s.notes := by
  unfold State.releaseHold
  split
  · next sl hb =>
    exact ⟨.trans (t := s.setSlot sl { s.slot sl with holders := ApSet.erase (s.slot sl).holders a }) (.congr rfl rfl)
      (.state .unbound fun _ k => by rw [show (s.ap a).state = .off from k] at hb; cases hb), rfl⟩
  · exact ⟨.refl s, rfl⟩

/-- The note of a DETACH names no slot: the aperture has let go of it (R158). -/
theorem unhooked_eq (he : e.op = .aperture a .detach) (hc : (u.ap a).config = some c) :
    u.unhooked e a c = (((u.removeChange e).releaseHold a).consumerOff a c.ring).raise
      (e.note .changeApplied c.ring (some a) none) := by
  have ap := consumerOff_ap ((u.removeChange e).releaseHold a) a a c.ring
  have config : (((u.removeChange e).releaseHold a).ap a).config = some c := (releaseHold_config a a).trans hc
  rw [if_pos rfl] at ap
  refine congrArg (State.raise _) ((changeNote_of_aperture (r := c.ring) he ?_ .changeApplied).trans ?_)
  · rw [ap]
    exact congrArg (Option.map _) config
  · rw [State.boundSlot, ap]

theorem unhooked_detached (he : e.op = .aperture a .detach) (hc : (u.ap a).config = some c) :
    Detached u (u.unhooked e a c) a c e := by
  have shelf : OnShelf u ((u.removeChange e).releaseHold a) :=
    OnShelf.trans (t := u.removeChange e) rfl (.releaseHold ..)
  have changes : ((u.removeChange e).releaseHold a).changes =
      { u.changes with entries := u.changes.entries.erase e } := releaseHold_changes a
  have slot (y : SlotId) := releaseHold_slot (u.removeChange e) a y
  have ring (q : RingId) : ((u.removeChange e).releaseHold a).ring q = u.ring q := releaseHold_ring a q
  have ap (b : ApId) := releaseHold_ap (u.removeChange e) a b
  obtain ⟨onward, notes⟩ := releaseHold_onward (u.removeChange e) a
  have onward : Onward u ((u.removeChange e).releaseHold a) :=
    .trans (t := u.removeChange e) (.congr rfl rfl) onward
  rw [unhooked_eq he hc]
  generalize (u.removeChange e).releaseHold a = m at *
  have off := onward.trans (consumerOff_onward m a c.ring)
  obtain ⟨beside, -⟩ := consumerOff_beside m a c.ring
  refine ⟨?_, fun b hb => ?_, ?_, ?_, fun sl hb => ?_, fun y hy => ?_, off.trans (.raise ..), off.raised (.refl _),
    fun _ _ => ?_, ?_, fun x base timer hx => ?_, fun none => ?_⟩
  · rw [raise_ap, consumerOff_ap, if_pos rfl, ap, if_pos rfl]
    rfl
  · rw [raise_ap, consumerOff_ap, if_neg hb.symm, ap, if_neg hb.symm]
    rfl
  · rw [raise_changes, consumerOff_changes, changes]
  · rw [raise_ring, consumerOff_ring, if_pos rfl, ring]
  · rw [raise_slot, consumerOff_slot, slot]
    simp [hb]
  · rw [raise_slot, consumerOff_slot] at hy ⊢
    rw [if_pos hy]
    simp
  · rw [raise_notes, consumerOff_notes, notes]
    rfl
  · show (m.consumerOff a c.ring).steering.waiting = _
    rw [beside.steering, (detachStall_fields m a).2.1, shelf.steering]
  · obtain ⟨d, k, answer, -⟩ := answerFault_eq m x
    rw [detachStall_of_stalled (by rw [shelf.steering]; exact hx), answer] at beside
    refine ⟨(congrArg Steering.phase beside.steering :), d, beside.aOut.trans ?_⟩
    rw [← shelf.aOut]
    rfl
  · rw [detachStall_of_none (by rw [shelf.steering]; exact none)] at beside
    exact ⟨beside.steering.trans shelf.steering, beside.aOut.trans shelf.aOut⟩

/-- A DETACH of an ON consumer where no retirement waits. -/
theorem applyChange_detached (he : e.op = .aperture a .detach) (hc : (u.ap a).config = some c)
    (on : u.apOn a = true) (hrole : c.role = .consumer) (hno : u.NoRetirements) :
    Detached u (u.applyChange e) a c e := by
  have k := unhooked_detached he hc
  rw [applyChange_of_detach he hc on hrole]
  refine k.reclaim (fun f hf => ?_) _ fun hst hp => ?_
  · rw [k.changes] at hf
    exact hno f (List.mem_of_mem_erase hf)
  · unfold State.offChecks State.boundSlot
    rw [hp, hst]
    rfl

end

end Sys2Proof.Machine
end

section
/-! PROOFS: the boundary of a consumer with a DETACH among its entries (O29). -/

namespace Sys2Proof.Machine

section
variable {s t u v w : State} {a b : ApId} {c d : ApConfig} {r q : RingId} {e f : Change} {x : ApChange} {y sl : SlotId}
  {es ahead behind : List Change} {rejected : Change → Bool} {o : Option SlotId}

/-! ### The entries ahead of a DETACH -/

theorem isDetach_iff (he : e.op = .aperture a x) : e.isDetach = true ↔ x = .detach := by
  unfold Change.isDetach
  rw [he]
  cases x <;> simp

theorem aheadOfDetach_of_none (h : ∀ e ∈ es, e.isDetach = false) : aheadOfDetach es = es :=
  List.takeWhile_eq_self_iff.2 fun e he => by rw [h e he]; rfl

/-- The entries around the first DETACH. -/
theorem split_at_detach (h : ∃ e ∈ es, e.isDetach = true) :
    ∃ e behind, es = aheadOfDetach es ++ e :: behind ∧ e.isDetach = true := by
  obtain ⟨e, he, hd⟩ := h
  have parts : aheadOfDetach es ++ es.dropWhile (fun e => !e.isDetach) = es := List.takeWhile_append_dropWhile
  cases hb : es.dropWhile (fun e => !e.isDetach) with
  | nil =>
    rw [hb, List.append_nil] at parts
    rw [← parts] at he
    have := List.mem_takeWhile_imp he
    rw [hd] at this
    cases this
  | cons f behind =>
    rw [hb] at parts
    refine ⟨f, behind, parts.symm, ?_⟩
    have head := List.head_dropWhile_not (fun e : Change => !e.isDetach) (l := es) (by rw [hb]; exact List.cons_ne_nil _ _)
    simpa [hb] using head

theorem undetached_ahead (rej : ∀ e, rejected e = true ↔ s.Rejects a c e) :
    Undetached s a c rejected (aheadOfDetach (s.entriesFor a)) := fun e he => by
  obtain ⟨-, x, hx⟩ := mem_entriesFor.1 ((List.takeWhile_sublist _).subset he)
  have ahead := List.mem_takeWhile_imp he
  refine ⟨x, hx, fun hd => ?_, (rej e).trans ⟨?_, ?_⟩⟩
  · rw [(isDetach_iff hx).2 hd] at ahead
    cases ahead
  · rintro ⟨-, base, hop, blocked⟩
    exact ⟨base, (ChangeOp.aperture.inj (hx.symm.trans hop)).2, blocked⟩
  · rintro ⟨base, rfl, blocked⟩
    exact ⟨he, base, hx, blocked⟩

theorem boundaryNote_ahead (he : e ∈ aheadOfDetach (s.entriesFor a)) :
    s.boundaryNote a r o (rejected e) e = e.taken rejected r a o := by
  rw [State.boundaryNote, if_pos he]
  rfl

theorem boundaryNote_behind (he : e ∉ aheadOfDetach (s.entriesFor a)) (kept : rejected e = false) :
    s.boundaryNote a r o (rejected e) e = e.appliedNote r (some a) := by
  rw [State.boundaryNote, if_neg he, kept]
  rfl

/-! ### The boundary -/

/-- What a boundary leaves of a consumer that a DETACH among its entries has turned OFF. -/
structure DetachRan (s v : State) (a : ApId) (c : ApConfig) (rejected : Change → Bool) : Prop where
  ap        : v.ap a = { s.ap a with
    state := .off, deferred := false, config := some (configAfter ((s.entriesFor a).filter fun e => !rejected e) c) }
  others    : ∀ b, b ≠ a → v.ap b = s.ap b
  changes   : v.changes =
    { s.changes with entries := s.changes.entries.filter fun e => decide (e ∉ s.entriesFor a) }
  consumers : (v.ring c.ring).consumers = ApSet.erase (s.ring c.ring).consumers a
  released  : ∀ sl, (s.ap a).state = .bound sl → ApSet.has (v.slot sl).holders a = false
  unpassed  : ∀ y, (v.slot y).home.map (·.ring) = some c.ring → ApSet.has (v.slot y).passedBy a = false
  raised    : ∀ e ∈ s.entriesFor a, Raised s v (s.boundaryNote a c.ring (s.boundSlot a) (rejected e) e)
  alone     : (s.ap a).state = .unbound → c.pick = .newest →
    (∀ e ∈ aheadOfDetach (s.entriesFor a), ∀ p oe, e.op = .aperture a (.setPick p oe) → p = .newest) →
    v.notes = ((s.entriesFor a).map fun e => s.boundaryNote a c.ring none (rejected e) e).foldl
      NoteQueue.push s.notes
  waiting   : v.steering.waiting = s.steering.waiting
  answered  : ∀ x base timer, s.steering.phase = .stalled x a base timer → v.steering.phase = .opened ∧
    ∃ d, v.aOut = s.aOut ++ [{ source := x.source, kind := x.kind, outcome := .fault, data := d }]
  still     : (∀ x base timer, s.steering.phase ≠ .stalled x a base timer) →
    v.steering = s.steering ∧ v.aOut = s.aOut

/-- The entries of an OFF aperture raise their notes, and no more (R153). -/
theorem offEntries_onward (es : List Change) (mine : ∀ e ∈ es, ∃ x, e.op = .aperture a x)
    (hc : (s.ap a).config = some c) (off : s.apOn a = false) :
    Onward s (es.foldl State.applyChange s) ∧ (es.foldl State.applyChange s).notes =
      (es.map fun e => e.appliedNote c.ring (some a)).foldl NoteQueue.push s.notes := by
  have written := foldl_applyChange_of_off es mine hc off
  have notes : (es.foldl State.applyChange s).notes =
      (es.map fun e => e.appliedNote c.ring (some a)).foldl NoteQueue.push s.notes := by rw [written]; rfl
  have record : (s.ap a).Onward { s.ap a with
      config := some (configAfter es c), count := countAfter es (s.ap a).count } :=
    ⟨id, by rw [hc]; exact congrArg some (configAfter_samePlace es c).line⟩
  refine ⟨(Onward.setAp a record).trans (.of_pushes notes ?_), notes⟩
  rw [written]
  rfl

theorem countAfter_zero (es : List Change) : countAfter es 0 = 0 := ite_self 0

section
variable (hc : (s.ap a).config = some c) (hrole : c.role = .consumer) (on : s.apOn a = true)
  (count : (s.ap a).count = 0) (hno : s.NoRetirements) (rej : ∀ e, rejected e = true ↔ s.Rejects a c e)
  (nodup : s.changes.entries.Nodup)
include hc hrole on count hno rej nodup

theorem applyForAperture_detachRan (h : ∃ e ∈ s.entriesFor a, e.isDetach = true) :
    DetachRan s (s.applyForAperture a) a c rejected := by
  obtain ⟨e, behind, parts, hd⟩ := split_at_detach h
  have mine (f : Change) (hf : f ∈ s.entriesFor a) := (mem_entriesFor.1 hf).2
  have once : (s.entriesFor a).Nodup := by rw [← entriesFor_eq]; exact nodup.filter _
  have ran := undetached_run hc hrole on count hno (undetached_ahead rej)
  have later (f : Change) (hf : f ∈ e :: behind) : f ∉ aheadOfDetach (s.entriesFor a) := by
    rw [parts] at once
    exact fun k => (List.disjoint_of_nodup_append once) k hf
  have taken (f : Change) (hf : f ∈ e :: behind) : rejected f = false :=
    Bool.eq_false_iff.2 fun k => later f hf ((rej f).1 k).1
  have left := erase_entriesFor s a
  have noted (f : Change) (hf : f ∈ aheadOfDetach (s.entriesFor a)) (o : Option SlotId) :=
    boundaryNote_ahead (r := c.ring) (o := o) (rejected := rejected) hf
  have noted' (f : Change) (hf : f ∈ e :: behind) (o : Option SlotId) :=
    boundaryNote_behind (r := c.ring) (o := o) (later f hf) (taken f hf)
  rw [applyForAperture_eq]
  generalize hahead : aheadOfDetach (s.entriesFor a) = ahead at *
  obtain ⟨x, he⟩ := mine e (by rw [parts]; simp)
  obtain rfl := (isDetach_iff he).1 hd
  have kept : (e :: behind).filter (fun e => !rejected e) = e :: behind :=
    List.filter_eq_self.2 fun f hf => by rw [taken f hf]; rfl
  have config : configAfter ((s.entriesFor a).filter fun e => !rejected e) c =
      configAfter behind (configAfter (ahead.filter fun e => !rejected e) c) := by
    rw [parts, List.filter_append, kept, configAfter, List.foldl_append]
    exact configAfter_cons he behind
  obtain ⟨k, -⟩ := ran
  have place := configAfter_samePlace (ahead.filter fun e => !rejected e) c
  have m := applyChange_detached he k.config (k.apOn.trans on) (place.role.trans hrole) (k.noRetirements hno)
  rw [parts, List.foldl_append, List.foldl_cons]
  generalize ahead.foldl State.applyChange s = u at *
  generalize u.applyChange e = w at *
  have record : w.ap a = { (s.ap a).after ahead rejected c with state := .off, deferred := false } := by
    rw [m.ap, k.ap]
  have rest := foldl_applyChange_of_off (s := w) (a := a) behind
    (fun f hf => mine f (by rw [parts]; simp [hf])) (by rw [record]; rfl) (apOn_eq_false.2 (by rw [record]))
  rw [place.ring, record] at rest
  generalize hx : ({ ({ (s.ap a).after ahead rejected c with state := .off, deferred := false } : Aperture) with
    config := _, count := _ } : Aperture) = x at rest
  have off : x = { s.ap a with
      state := .off, deferred := false, config := some (configAfter ((s.entriesFor a).filter fun e => !rejected e) c) } := by
    have zero : ((s.ap a).after ahead rejected c).count = 0 := count
    rw [← hx, config, zero, countAfter_zero, ← count]
  obtain ⟨onward, pushed⟩ := offEntries_onward (s := w) (a := a) behind
    (fun f hf => mine f (by rw [parts]; simp [hf])) (by rw [record]; rfl) (apOn_eq_false.2 (by rw [record]))
  rw [place.ring] at pushed
  refine ⟨by rw [rest, wrote_ap_self, off], fun b hb => ?_, ?_, ?_, fun sl hb => ?_, ?_, fun f hf => ?_,
    fun hst hp plain => ?_, ?_, ?_, ?_⟩
  · rw [rest, wrote_ap_ne hb.symm, m.others b hb, k.others b hb]
  · rw [rest, ← left, parts, List.foldl_append, List.foldl_cons]
    show ({ w.changes with entries := behind.foldl List.erase w.changes.entries } : ChangeQueue) = _
    rw [m.changes, k.changes]
  · rw [rest]
    show (w.ring c.ring).consumers = _
    rw [← place.ring, m.consumers, k.consumers]
  · rw [rest]
    exact m.released sl (k.state.trans hb)
  · rw [rest, ← place.ring]
    exact m.unpassed
  · rw [parts] at hf
    rcases List.mem_append.1 hf with hf | hf
    · rw [noted f hf (s.boundSlot a)]
      exact (k.raised f hf).mono (m.onward.trans onward)
    · rw [noted' f hf (s.boundSlot a)]
      rcases List.mem_cons.1 hf with rfl | hf
      · have detached := m.raised
        rw [place.ring] at detached
        exact (detached.prior k.onward).mono onward
      · exact (k.onward.trans m.onward).raised_of_pushes pushed (List.mem_map_of_mem hf) (.refl _)
  · rw [hahead] at plain
    have unheld : s.boundSlot a = none := by rw [State.boundSlot, hst]
    have pick : (configAfter (ahead.filter fun e => !rejected e) c).pick = .newest := by
      refine (configAfter_pick fun f hf b p oe hop => ?_).trans hp
      have hf := List.mem_of_mem_filter hf
      obtain ⟨x, hx⟩ := mine f (by rw [parts]; simp [hf])
      obtain ⟨hb, -⟩ := ChangeOp.aperture.inj (hop.symm.trans hx)
      exact (plain f hf p oe (hb ▸ hop)).trans hp.symm
    have front : ahead.map (fun f => f.taken rejected c.ring a none) =
        ahead.map fun f => s.boundaryNote a c.ring none (rejected f) f :=
      List.map_congr_left fun f hf => (noted f hf none).symm
    have back : e.note .changeApplied c.ring (some a) none :: behind.map (fun f => f.appliedNote c.ring (some a)) =
        (e :: behind).map fun f => s.boundaryNote a c.ring none (rejected f) f :=
      (List.map_congr_left fun f hf => (noted' f hf none).symm : (e :: behind).map _ = _)
    have before : u.notes = (ahead.map fun f => f.taken rejected c.ring a none).foldl NoteQueue.push s.notes := by
      rw [k.plain fun f hf p oe hop => (plain f hf p oe hop).trans hp.symm, unheld]
      rfl
    rw [pushed, m.alone (k.state.trans hst) pick, place.ring, parts, List.map_append, List.foldl_append, ← back, ← front,
      ← before]
    rfl
  · rw [rest]
    exact m.waiting.trans (congrArg Steering.waiting k.shelf.steering)
  · rw [rest, ← k.shelf.steering, ← k.shelf.aOut]
    exact m.answered
  · rw [rest, ← k.shelf.steering, ← k.shelf.aOut]
    exact m.still

end

end

end Sys2Proof.Machine
end

section
/-! PROOFS: the boundary of a consumer applies the entries that wait for it (O29). -/

namespace Sys2Proof.Machine

section
variable {s t u v w : State} {a b : ApId} {c d : ApConfig} {r q : RingId} {e f : Change} {x : ApChange} {y sl : SlotId}
  {es : List Change} {rejected : Change → Bool} {order : List ApId}

/-! ### A boundary that has been counted -/

theorem counted_rejects : (s.counted a).Rejects a c e ↔ s.Rejects a c e := by
  unfold State.Rejects
  refine and_congr_right fun _ => exists_congr fun base => and_congr_right fun _ => not_congr ?_
  exact MoveFree_congr (fun b hb => counted_ap_ne hb.symm) (fun _ => rfl) fun _ => rfl

theorem counted_boundSlot (s : State) (a : ApId) : (s.counted a).boundSlot a = s.boundSlot a :=
  boundSlot_of_state (counted_apState s a a)

theorem counted_markable (s : State) (a : ApId) (r : RingId) : (s.counted a).markable a r = s.markable a r := by
  unfold State.markable
  rw [counted_apState]
  rfl

theorem markable_of_unbound (h : (s.ap a).state = .unbound) : s.markable a r = (s.ring r).ready := by
  rw [State.markable, h]

theorem markable_of_bound (h : (s.ap a).state = .bound sl) : s.markable a r = takeThrough sl (s.ring r).ready := by
  rw [State.markable, h]
  rfl

theorem counted_loose : (s.counted a).Loose a r y ↔ (s.slot y).holders = 0 ∧ (s.ring r).ready.getLast? ≠ some y ∧
    ∀ b x, b ≠ a → ApSet.has (s.ring r).consumers b = true → (s.ap b).config = some x → x.pick = .ordered →
      ApSet.has (s.slot y).passedBy b = true :=
  ⟨fun k => ⟨k.unheld, k.newer, fun b x hb hs hx => k.passed b x hb hs ((counted_apConfig s a b).trans hx)⟩,
    fun k => ⟨k.1, k.2.1, fun b x hb hs hx => k.2.2 b x hb hs ((counted_apConfig s a b).symm.trans hx)⟩⟩

theorem counted_wrote (s : State) (a : ApId) (p : Aperture) (es : List Change) (n : NoteQueue) :
    (s.counted a).wrote a p es n = s.wrote a p es n := by
  rw [State.counted, State.wrote, setAp_setAp]
  rfl

/-- A consumer that is VIEWING a slot is among its holders (R6). -/
theorem counted_holdsBack (h : s.HoldersLaw) (hc : (s.ap a).config = some c) (hrole : c.role = .consumer) :
    (s.counted a).HoldsBack a := fun sl hb none => by
  rw [counted_apState] at hb
  have held := (h.holds sl a).2 ⟨hb, c, hc, hrole⟩
  rw [show (s.slot sl).holders = 0 from none] at held
  exact not_has_zero held

/-! ### The end of the event -/

/-- With no boundary pending and no transaction waiting, the Arbiter decides and the event ends. -/
theorem DetachRan.finish (k : DetachRan s v a c rejected) (hpend : ∀ b, b ≠ a → (s.ap b).deferred = false)
    (hw : s.steering.waiting = []) : v.finish [] = v.arbitrate := by
  rw [State.finish, runPending_of_idle]
  · refine drainAll_of_empty ?_
    rw [arbitrate_steering, k.waiting, hw]
  · intro b
    refine Bool.eq_false_iff.2 fun run => ?_
    obtain ⟨on, pending, -⟩ := canRun_iff.1 run
    by_cases e : b = a
    · subst e
      rw [apOn_eq_true, k.ap] at on
      exact on rfl
    · rw [k.others b e, hpend b e] at pending
      cases pending

/-- A consumer that the entries have turned OFF picks no frame. -/
theorem consumerBoundary_of_off (hc : ((s.applyForAperture a).ap a).config = some c)
    (off : ((s.applyForAperture a).ap a).state = .off) : s.consumerBoundary a = s.applyForAperture a := by
  rw [consumerBoundary_eq hc, State.pickStage, off]

/-- The whole event, with a DETACH among the entries. -/
theorem exec_boundary_of_detach (h : s.link.phase = .request) (hacts : s.ActsNow a c) (hrole : c.role = .consumer)
    (hpend : s.NonePending) (hw : s.steering.waiting = [])
    (k : DetachRan (s.counted a) ((s.counted a).applyForAperture a) a c rejected) :
    ∃ ar cp, exec (.boundary (requestFor 0x05 [idWord a]) order) s =
      .next (State.answered { (s.counted a).applyForAperture a with arbiter := ar, copy := cp } 0x05 [idWord a]
        .done []) := by
  have ended := k.finish (fun b hb => by rw [counted_ap_ne hb.symm]; exact hpend b) hw
  obtain ⟨ar, cp, e⟩ := arbitrate_frame ((s.counted a).applyForAperture a)
  refine ⟨ar, cp, ?_⟩
  rw [exec_boundary_of_on h hacts.on, boundaryAt_consumer hacts hrole,
    consumerBoundary_of_off (by rw [k.ap]) (by rw [k.ap]), ended, e]

end

/-- Settles O29: the entries run in queue order, each on what the earlier ones left; the slots that a change of pick
lets go are exactly those that the consumer alone held back, so the pick that follows is the one that the statement
names, and a DETACH turns the aperture OFF before the entries behind it write their fields. -/
theorem consumerBoundaryAppliesItsChange : Obligations.ConsumerBoundaryAppliesItsChange := by
  rintro s a c d order mine others rejected forgets h hs hacts hrole hno hseq rfl rfl hrej rfl hforgets
  have hc := counted_config hacts
  have on : (s.counted a).apOn a = true := by rw [apOn_eq_true, counted_apState]; exact apOn_eq_true.1 hacts.on
  have count : ((s.counted a).ap a).count = 0 := by rw [counted_ap_self]
  have state := counted_apState s a a
  have rej (e : Change) : rejected e = true ↔ (s.counted a).Rejects a c e := (hrej e).trans counted_rejects.symm
  have nodup : (s.counted a).changes.entries.Nodup := .of_map _ hseq
  have others (b : ApId) (hb : b ≠ a) : (s.counted a).ap b = s.ap b := counted_ap_ne hb.symm
  by_cases hdet : ∃ e ∈ s.entriesFor a, e.isDetach = true
  · refine ⟨fun _ none => ?_, fun calm => ?_⟩
    · obtain ⟨e, he, hd⟩ := hdet
      rw [none e he] at hd
      cases hd
    · have none : ¬ ∀ e ∈ s.entriesFor a, e.isDetach = false := fun none => by
        obtain ⟨e, he, hd⟩ := hdet
        rw [none e he] at hd
        cases hd
      obtain ⟨hpend, hw⟩ := calm.resolve_left none
      have k := applyForAperture_detachRan hc hrole on count hno rej nodup hdet
      obtain ⟨ar, cp, e⟩ := exec_boundary_of_detach (order := order) h hacts hrole hpend hw k
      generalize (s.counted a).applyForAperture a = v at *
      refine ⟨_, e, answered_answers .., k.changes, ⟨(congrArg Aperture.config k.ap :), ?_, iff_of_false ?_ none⟩,
        fun f hf => ?_, fun b hb => (k.others b hb).trans (others b hb), fun all => absurd all none,
        fun _ => ⟨(congrArg Aperture.state k.ap :), (congrArg Aperture.deferred k.ap :), k.consumers,
          fun sl hb => k.released sl (state.trans hb), k.unpassed, fun hst => k.alone (state.trans hst),
          k.answered, k.still⟩⟩
      · exact (congrArg Aperture.count k.ap :).trans count
      · show v.apOn a ≠ true
        rw [apOn_eq_false.2 (by rw [k.ap])]
        nofun
      · have raised := k.raised f hf
        rw [counted_boundSlot] at raised
        exact raised.congr rfl rfl
  · have none (f : Change) (hf : f ∈ s.entriesFor a) : f.isDetach = false :=
      Bool.eq_false_iff.2 fun hd => hdet ⟨f, hf, hd⟩
    have all : aheadOfDetach (s.entriesFor a) = s.entriesFor a := aheadOfDetach_of_none none
    have run : Undetached (s.counted a) a c rejected ((s.counted a).entriesFor a) := by
      have := undetached_ahead rej
      rwa [show aheadOfDetach ((s.counted a).entriesFor a) = s.entriesFor a from all] at this
    have noted (f : Change) (hf : f ∈ s.entriesFor a) (o : Option SlotId) :
        s.boundaryNote a c.ring o (rejected f) f = f.taken rejected c.ring a o := boundaryNote_ahead (by rwa [all])
    have ended := exec_boundary_of_shelf (order := order) h hs hacts hrole
      (undetached_shelf hc hrole on count hno run)
    rw [all] at hforgets ⊢
    refine ⟨fun hst _ plain => ?_, fun _ => ?_⟩
    · rw [ended, undetached_waiting hc hrole on count hno run (state.trans hst) plain]
      have notes : (s.entriesFor a).map (fun f => f.taken rejected c.ring a .none) =
          (s.entriesFor a).map fun f => s.boundaryNote a c.ring .none (rejected f) f :=
        List.map_congr_left fun f hf => (noted f hf _).symm
      rw [counted_wrote, counted_ap_self, ← notes]
      rfl
    · have k := undetached_ran hc hrole on count hno run
      have g (hp : s.Placed) := undetached_pick hc hrole on count hno run (counted_placed hp)
      generalize (s.counted a).consumerBoundary a = v at *
      refine ⟨_, ended, answered_answers .., k.changes, ⟨(congrArg Aperture.config k.ap :),
        (congrArg Aperture.count k.ap :).trans count, iff_of_true k.on none⟩,
        fun f hf => ?_, fun b hb => (k.others b hb).trans (others b hb), fun _ hp hold => ?_,
        fun hd => absurd hd hdet⟩
      · have raised := k.raised f hf
        rw [counted_boundSlot, ← noted f hf] at raised
        exact raised.congr rfl rfl
      · have iff : forgets ↔ Forgets a c ((s.counted a).entriesFor a) := hforgets
        have back (hf : Forgets a c ((s.counted a).entriesFor a))
            (hp : (configAfter ((s.counted a).entriesFor a) c).pick = .ordered) : (s.counted a).HoldsBack a :=
          counted_holdsBack (hold (iff.2 hf) hp) hacts.config hrole
        have picked := g hp back
        rw [← propext iff] at picked
        refine ⟨picked.cleared, fun changed hd y hy => ?_, fun hst => picked.waiting (state.trans hst),
          fun sl next hb hnew hord => ?_⟩
        · obtain ⟨here, mark⟩ := picked.marked changed hd y hy
          rw [counted_markable] at mark
          refine ⟨fun hst => mark ?_, fun sl hb hthrough => mark ?_⟩
          · rw [markable_of_unbound hst]
            exact here
          · rw [markable_of_bound hb]
            exact hthrough
        · cases hd : (configAfter (s.entriesFor a) c).pick with
          | newest => exact picked.newest hd sl next (state.trans hb) (hnew hd)
          | ordered =>
            classical
            have marks (y : SlotId) : y ∈ (s.counted a).markable a c.ring ↔ y ∈ takeThrough sl (s.ring c.ring).ready := by
              rw [counted_markable, markable_of_bound hb]
            refine picked.ordered hd sl next (state.trans hb)
              (fun y => decide ((¬ forgets ∧ ApSet.has (s.slot y).passedBy a = true) ∨
                (c.pick = .newest ∨ forgets) ∧ y ∈ (s.counted a).markable a c.ring))
              (fun y => decide (forgets ∧ (s.counted a).Loose a c.ring y))
              (fun y => decide_eq_true_iff) (fun y => decide_eq_true_iff) (hord hd _ _ (fun y => ?_) fun y => ?_)
            · rw [decide_eq_true_iff, marks]
            · rw [decide_eq_true_iff, counted_loose]

end Sys2Proof.Machine
end
